-- ==== Sys2Proof/Word.lean ====
section
/-!
DEFINITION. The words the Shelux H64 works on and the closed sets of names its manual uses: run states,
life-cycle codes, fault sources, classes, sequencer phases, data-view states, and the observations of physical
faults that commands carry as operands.
-/
namespace Sys2Proof

/-- A byte of a frame, record or image. -/
abbrev Byte := BitVec 8

/-- A control-port register word (R63, R467: "All registers are 16 bits wide"). -/
abbrev Word := BitVec 16

/-- The two legs of a safe output (04, R11). -/
inductive Leg where
  | p
  | m
  deriving DecidableEq, Repr, Inhabited

/-- The two contacts of an input pair, the two sensors of a wheel, or the two channels of the safety sheet. -/
inductive Chan where
  | a
  | b
  deriving DecidableEq, Repr, Inhabited

/-- The run states of R22, in code order. -/
inductive RunState where
  | off | boot | selftest | load | armed | run | safe | cut | maint | halted
  deriving DecidableEq, Repr, Inhabited

/-- The code of a run state in RUNSTATE[3:0] (R22). -/
def RunState.code : RunState → Nat
  | .off => 0
  | .boot => 1
  | .selftest => 2
  | .load => 3
  | .armed => 4
  | .run => 5
  | .safe => 6
  | .cut => 7
  | .maint => 8
  | .halted => 9

/-- The reaction classes of R340, NOTE 0 to CUT 3. -/
inductive Cls where
  | note | loc | stop | cut
  deriving DecidableEq, Repr, Inhabited

/-- The class code of R340. -/
def Cls.code : Cls → Nat
  | .note => 0
  | .loc => 1
  | .stop => 2
  | .cut => 3

/-- The class of a two-bit code (R337). -/
def Cls.ofCode : Nat → Cls
  | 0 => .note
  | 1 => .loc
  | 2 => .stop
  | _ => .cut

/-- The higher of two classes (R337). -/
def Cls.max (a b : Cls) : Cls := if a.code < b.code then b else a

/-- The fault sources of R336, in FSTAT bit order. -/
inductive Src where
  | cmp | leadEcc | heelEcc | kramEcc | fabScrub | fabChan | handover | sinDisc | sinXshort | sinStuck
  | sinStartup | soutRb | soutShort | soutOc | motDisc | motTooth | motLimit | colLost | colCrc | colView
  | yardLink | yardWdog | yardSync | whistle | launch | seqPg | seqVin | seqSlow | clkMon | temp
  | groomWdog | loftAuth | image | farrier | muzzleExt | cpProto | spook | debugHalt | barkMon | lifecycle
  | sheet
  deriving DecidableEq, Repr, Inhabited

/-- The FSTAT bit of a source (R336). -/
def Src.bit : Src → Nat
  | .cmp => 0 | .leadEcc => 1 | .heelEcc => 2 | .kramEcc => 3 | .fabScrub => 4 | .fabChan => 5
  | .handover => 6 | .sinDisc => 7 | .sinXshort => 8 | .sinStuck => 9 | .sinStartup => 10 | .soutRb => 11
  | .soutShort => 12 | .soutOc => 13 | .motDisc => 14 | .motTooth => 15 | .motLimit => 16 | .colLost => 17
  | .colCrc => 18 | .colView => 19 | .yardLink => 20 | .yardWdog => 21 | .yardSync => 22 | .whistle => 23
  | .launch => 24 | .seqPg => 25 | .seqVin => 26 | .seqSlow => 27 | .clkMon => 28 | .temp => 29
  | .groomWdog => 30 | .loftAuth => 31 | .image => 32 | .farrier => 33 | .muzzleExt => 34 | .cpProto => 35
  | .spook => 36 | .debugHalt => 37 | .barkMon => 38 | .lifecycle => 39 | .sheet => 40

/-- Every source, in bit order: entry b is the source of FSTAT bit b. -/
def Src.all : List Src :=
  [.cmp, .leadEcc, .heelEcc, .kramEcc, .fabScrub, .fabChan, .handover, .sinDisc, .sinXshort, .sinStuck,
   .sinStartup, .soutRb, .soutShort, .soutOc, .motDisc, .motTooth, .motLimit, .colLost, .colCrc, .colView,
   .yardLink, .yardWdog, .yardSync, .whistle, .launch, .seqPg, .seqVin, .seqSlow, .clkMon, .temp,
   .groomWdog, .loftAuth, .image, .farrier, .muzzleExt, .cpProto, .spook, .debugHalt, .barkMon, .lifecycle,
   .sheet]

/-- Phases of the sequencer, in the code order of SEQ.STATUS.PHASE (R409). -/
inductive SeqPhase where
  | off | core | waitPlan | board | running | down
  deriving DecidableEq, Repr, Inhabited

/-- The code of a phase in SEQ.STATUS[2:0] (R409). -/
def SeqPhase.code : SeqPhase → Nat
  | .off => 0
  | .core => 1
  | .waitPlan => 2
  | .board => 3
  | .running => 4
  | .down => 5

/-- What the sequencer waits for on the channel it has taken (R386, R387, R397). -/
inductive SeqWait where
  | idle
  | pgHigh
  | settling
  | monitorHigh
  | discharge
  deriving DecidableEq, Repr, Inhabited

/-- Data-view and management-view states (R275), in code order. -/
inductive DState where
  | absent | joining | live | stale | lost | quarantined
  deriving DecidableEq, Repr, Inhabited

/-- The code of a data-view state (R275). -/
def DState.code : DState → Nat
  | .absent => 0
  | .joining => 1
  | .live => 2
  | .stale => 3
  | .lost => 4
  | .quarantined => 5

/-- The data-view state of a code (R275). -/
def DState.ofCode : Nat → DState
  | 0 => .absent
  | 1 => .joining
  | 2 => .live
  | 3 => .stale
  | 4 => .lost
  | _ => .quarantined

/-- Yard sync states (R301), in code order. -/
inductive SyncState where
  | unlocked | locked | holdover | syncLost
  deriving DecidableEq, Repr, Inhabited

/-- The code of a sync state (R301). -/
def SyncState.code : SyncState → Nat
  | .unlocked => 0
  | .locked => 1
  | .holdover => 2
  | .syncLost => 3

/-- The sync state of a code carried in a time payload (R300). -/
def SyncState.ofCode : Nat → SyncState
  | 1 => .locked
  | 2 => .holdover
  | 3 => .syncLost
  | _ => .unlocked

/-- TAP instructions of R192 that stay selected. -/
inductive TapSel where
  | idcode | bypass | sample | extest | dbgAccess
  deriving DecidableEq, Repr, Inhabited

/-- How the pair is halted (PAIR.STATUS[9:8] DBGMODE, R206). -/
inductive DbgMode where
  | none | pairHalt | leadInspect
  deriving DecidableEq, Repr, Inhabited

/-- DBGMODE's code (R206). -/
def DbgMode.code : DbgMode → Nat
  | .none => 0
  | .pairHalt => 1
  | .leadInspect => 2

/-- Who started a farrier run (FARR.STATUS.ORIGIN, R450). -/
inductive FarrOrigin where
  | none | startup | rotation | host
  deriving DecidableEq, Repr, Inhabited

/-- ORIGIN's code (R450). -/
def FarrOrigin.code : FarrOrigin → Nat
  | .none => 0
  | .startup => 1
  | .rotation => 2
  | .host => 3

/-- Where a memory error was found (R170). -/
inductive EccPlace where
  /-- State words of a sheet record: sheet and record index. -/
  | record (sheet : Fin 2) (index : Fin 512)
  /-- Any other word of kennel RAM, by byte address. -/
  | kram (addr : Fin 262144)
  /-- A word of kennel ROM, by byte address. -/
  | krom (addr : Fin 65536)
  /-- The register file of a core. -/
  | regfile (core : Fin 2)
  deriving DecidableEq, Repr

/-- One SECDED event: where it was found, and whether it was corrected (R170). -/
structure EccEvent where
  place : EccPlace
  corrected : Bool
  deriving DecidableEq, Repr

/-- What the hardware observes of the pair during one safety cycle: physical faults are not commands of their own in
the table (95: CMP_MISMATCH and ECC_ERROR come about within CYCLE_BOUNDARY), so the boundary carries them. -/
structure CycleObs where
  /-- Group and bit of the first compared signal that differed (R162), if any. -/
  mismatch : Option (Fin 8 × Fin 70) := none
  /-- A solo or single-channel check of R185 or R177 failed. -/
  soloFail : Bool := false
  /-- An access outside a core's own half in arrangement S (R174). -/
  partition : Bool := false
  /-- Core k of arrangement S has not written its commands at this boundary (R175). -/
  late0 : Bool := false
  late1 : Bool := false
  /-- SECDED events found in the cycle (R170). -/
  ecc : List EccEvent := []
  /-- Records of sheet 0 whose state words were being written in a clock cycle whose comparison failed (R169). -/
  lost : List (Fin 512) := []
  /-- A datum validated within 25 µs before this boundary misses its read, per input pair (R364, R379). -/
  missed : List (Fin 32) := []
  deriving DecidableEq, Repr

/-- How many signals each group of the compared signal set has (R161). -/
def groupBits : List Nat := [70, 33, 52, 38, 32, 8, 8, 7]

/-- A first difference names a compared signal: a group, and a bit within it (R161, R162). -/
def signalWf : Option (Fin 8 × Fin 70) → Bool
  | some d => decide (d.2.val < groupBits.getD d.1 0)
  | none => true

/-- The output cells of the boundary scan register (R192, R195): SOnP_DRV at bit n and SOnM_DRV at bit 16 + n, TP0 to TP7, BARK_A and
BARK_B, FIO levels and enables, SCK, DO and FRM of RP0 and RP1, CP_ALERT_N. The manual lists no cells (DESIGN CHOICE,
notes/assumptions/110.md). -/
structure Cells where
  so : BitVec 32 := 0
  tp : BitVec 8 := 0
  bark : BitVec 2 := 0
  fio : BitVec 96 := 0
  fioEn : BitVec 96 := 0
  rp : BitVec 6 := 0
  alertN : Bool := false
  deriving DecidableEq, Repr

/-- What the boundary scan register captures: the levels of the outputs, and of the inputs RB (as SO), SI (pins A, then B), TW (A and
B of wheel 0, then of wheel 1), ACKA and ACKB, FIO and MUZZLE_N. -/
structure Scan where
  out : Cells := {}
  rb : BitVec 32 := 0
  si : BitVec 64 := 0
  tw : BitVec 4 := 0
  ack : BitVec 2 := 0
  fio : BitVec 96 := 0
  muzzle : Bool := false
  deriving DecidableEq, Repr

/-- What the hardware meets in the steps of LOAD that a command runs. -/
structure LoadObs where
  /-- A frame that reads back wrong twice (R239). -/
  badFrame : Option (Fin 1162) := none
  /-- The supply of each FIO bank, sensed against 2.5 V (R228): true below it. -/
  bank0 : Bool := false
  bank1 : Bool := false
  deriving DecidableEq, Repr

/-- EXTEST's operands: the output cells of the update stage, and whether the digests of the halt differ (R195, R196, R199). -/
structure ExtestIn where
  cells : Cells := {}
  digestDiffer : Bool := false
  deriving DecidableEq, Repr

/-- A step's operands: COUNT, and what the comparator finds in its course (R199). -/
structure StepIn where
  count : BitVec 16 := 0
  mismatch : Option (Fin 8 × Fin 70) := none
  deriving DecidableEq, Repr

/-- The operations of DBG_ACCESS have their core named by ADDR[6]; a register is 0 to 31, 32 the program counter,
33 the status (R197). -/
abbrev CoreReg := Fin 34

end Sys2Proof
end

