-- ==== Sys2Proof/Syntax.lean ====
section
/-!
DEFINITION. The commands of the Shelux H64: one constructor per row of the table of operations and events. Every
command carries first the instant `t` at which it takes place, in ns of the part's own time (notes/assumptions/1.md), and
then its operands. Index operands are `Fin`, so a command cannot name an element the part does not have.
-/
namespace Sys2Proof

/-- A command: an operation or an event of the table. -/
inductive Instr where
  /-- POWER_ON_RESET_RELEASE: VAON has risen past the release threshold (R382). -/
  | powerOnResetRelease (t : Nat)
  /-- POWER_ON_RESET_ASSERT: VAON has fallen below the assert threshold (R382). -/
  | powerOnResetAssert (t : Nat)
  /-- UP_SEQUENCE_START: The 1 ms after the power-on reset release have passed (R382). -/
  | upSequenceStart (t : Nat)
  /-- SEQ_PG_RISE: SEQ_PG of a channel is recognised high (R386). -/
  | seqPgRise (t : Nat) (ch : Fin 8) (obs : LoadObs)
  /-- SETTLE_EXPIRY: The settle time of the channel in hand ends (R386). -/
  | settleExpiry (t : Nat) (ch : Fin 8) (obs : LoadObs)
  /-- PG_TIMEOUT: The PG of the channel in hand was not recognised high in time (R388). -/
  | pgTimeout (t : Nat) (ch : Fin 8)
  /-- SEQ_PG_FALL: SEQ_PG of a channel has been low for `width` ns (R393). -/
  | seqPgFall (t : Nat) (ch : Fin 8) (width : Nat)
  /-- SHDN: A write of `value` to SEQ.SHDN (R396). -/
  | shdn (t : Nat) (value : Word)
  /-- DSC_TIMEOUT: DSCTO of the channel in hand has passed (R397). -/
  | dscTimeout (t : Nat) (ch : Fin 8)
  /-- VIN_WARN: VIN_SNS is recognised below the warning level (R400). -/
  | vinWarn (t : Nat)
  /-- VIN_OK: VIN_SNS has been above 1.220 V for 10 ms (R400). -/
  | vinOk (t : Nat)
  /-- VIN_ABANDON: VIN_SNS is recognised below the abandon level (R401), with a snapshot or a fault record write in progress or not. -/
  | vinAbandon (t : Nat) (snapWriting : Bool) (recWriting : Bool)
  /-- VIN_ABANDON_END: VIN_SNS is back above 1.020 V (R401). -/
  | vinAbandonEnd (t : Nat)
  /-- SNAPSHOT_WRITE: The snapshot writer takes the next queued event (R407). -/
  | snapshotWrite (t : Nat)
  /-- RESET_N_ASSERT: RESET_N has been low for `width` ns (R421). -/
  | resetNAssert (t : Nat) (width : Nat)
  /-- RESET_N_RELEASE: RESET_N goes high (R422, R398). -/
  | resetNRelease (t : Nat)
  /-- CRYSTAL_START_TIMEOUT: The crystal has not started 10 ms after BOOT began (R413). -/
  | crystalStartTimeout (t : Nat)
  /-- RC_CALIBRATION: The 1 ms measurement of the RC oscillator gives `khz` (R414). -/
  | rcCalibration (t : Nat) (khz : Nat)
  /-- BOOT_COMPLETE: The island releases are complete (R423): the level of ARR_STRAP, and whether a muzzle gate output reads 1 in the gate test (R117), and whether the board feeds each FIO bank from VIO18 (R533). -/
  | bootComplete (t : Nat) (strap : Bool) (gateFail : Bool) (bank0 : Bool) (bank1 : Bool)
  /-- CMPINJ_END: The 264 comparator injections end (R166): the first uncaught injection, and whether the flag was seen in an injection-free cycle. -/
  | cmpinjEnd (t : Nat) (uncaught : Option (Fin 264)) (falseFlag : Bool)
  /-- FARRIER_TEST_START: The farrier starts the next test of its set (R441). -/
  | farrierTestStart (t : Nat)
  /-- FARRIER_TEST_END: The running farrier test ends: whether its signature or march result equals the ROM's value, and what RESH and RESL show (R448, R450). -/
  | farrierTestEnd (t : Nat) (pass : Bool) (result : BitVec 32)
  /-- SELFTEST_END: The kennel has read the start-up set's results (R443). -/
  | selftestEnd (t : Nat) (obs : LoadObs)
  /-- LOFT_START: The groom boot ROM verifies and starts a loft bank (R493). -/
  | loftStart (t : Nat)
  /-- LOCKWAIT_EXPIRY: LOCKWAIT has passed (R304). -/
  | lockwaitExpiry (t : Nat)
  /-- PLL_LOSS_DETECT: A clock-monitor window ends with a deviation of `dev` in 0.01 % on a clock index (R418). -/
  | pllLossDetect (t : Nat) (idx : Fin 6) (dev : Int)
  /-- CLOCK_EDGE_MISSING: A clock has shown no edge for 1 µs (R418). -/
  | clockEdgeMissing (t : Nat) (idx : Fin 6)
  /-- RCSTOP: The SIO counter sees the RC oscillator stopped or off by more than 3 % (R419). -/
  | rcstop (t : Nat)
  /-- HANDSHAKE_TIMEOUT: A crossing has waited 20 µs for an island to answer (R416). -/
  | handshakeTimeout (t : Nat) (island : Fin 11) (waiter : Fin 11)
  /-- FIFO_TRANSFER: Room has freed in an inter-island FIFO (R417). -/
  | fifoTransfer (t : Nat) (fifo : Fin 10)
  /-- CYCLE_BOUNDARY: Yard time reaches a multiple of t_cyc (R305), with what the hardware observed of the pair in the cycle. -/
  | cycleBoundary (t : Nat) (obs : CycleObs)
  /-- CROSS_CHECK_CAPTURE: 12 µs after the input read, channel B is captured (R15); `upsets` names the points at which an upset in the fabric shows the other value. -/
  | crossCheckCapture (t : Nat) (upsets : List (Fin 2 × Fin 512))
  /-- COMMAND_DEADLINE: In arrangement S, 20 µs have passed since the boundary (R175). -/
  | commandDeadline (t : Nat) (core : Fin 2)
  /-- DARK_PULSE_START: The schedule time of a TP line arrives (R72). -/
  | darkPulseStart (t : Nat) (line : Fin 8)
  /-- CHECK_SAMPLE: 1 µs before the end of a dark pulse (R84). -/
  | checkSample (t : Nat) (line : Fin 8)
  /-- DARK_PULSE_END: WIDTH has passed (R72). -/
  | darkPulseEnd (t : Nat) (line : Fin 8)
  /-- BLANKING_END: A channel's blanking window ends (R84). -/
  | blankingEnd (t : Nat) (pair : Fin 32) (ch : Chan)
  /-- FILTER_EXPIRY: A channel's unblanked samples have held a new level for FILT (R79). -/
  | filterExpiry (t : Nat) (pair : Fin 32) (ch : Chan)
  /-- DISCREPANCY_EXPIRY: The filtered levels of a pair have differed for longer than DISC (R81). -/
  | discrepancyExpiry (t : Nat) (pair : Fin 32)
  /-- OSSDTOL_EXPIRY: An OSSD channel's low excursion lasts longer than OSSDTOL (R82). -/
  | ossdtolExpiry (t : Nat) (pair : Fin 32) (ch : Chan)
  /-- OSSDCHK_EXPIRY: An OSSD channel has read 1 without a tolerated excursion for longer than OSSDCHK (R83). -/
  | ossdchkExpiry (t : Nat) (pair : Fin 32) (ch : Chan)
  /-- ACK_ACTUATION: An edge on ACKA or ACKB (R40). -/
  | ackActuation (t : Nat) (pin : Chan) (level : Bool)
  /-- ACK_ACTUATION_DISCARD: The signals have differed for 20 ms, or PMAX has passed (R41). -/
  | ackActuationDiscard (t : Nat)
  /-- SWITCHT_EXPIRY: A MODESEL has been undecided for longer than SWITCHT (R38). -/
  | switchtExpiry (t : Nat) (sheet : Fin 2) (idx : Fin 512)
  /-- DON_EXPIRY: A DELAY's source has held 1 for DON (R34, R36). -/
  | donExpiry (t : Nat) (sheet : Fin 2) (idx : Fin 512)
  /-- CAT1_DELAY_EXPIRY: A category-1 DELAY elapses in channel B (R52). -/
  | cat1DelayExpiry (t : Nat) (sheet : Fin 2) (idx : Fin 512)
  /-- MAXT_EXPIRY: Muting has been active for MAXT (R43). -/
  | maxtExpiry (t : Nat) (sheet : Fin 2) (idx : Fin 512)
  /-- TOOTH_EDGE: An edge on a TW pin (R128). -/
  | toothEdge (t : Nat) (wheel : Fin 2) (pin : Chan) (level : Bool)
  /-- STANDSTILL_CONFIRM: No TW edge for the larger of CONFT and PLIM(MAXSPD) (R146). -/
  | standstillConfirm (t : Nat) (sheet : Fin 2) (idx : Fin 512)
  /-- MOTION_LOCAL_RESET: A motion record's reset condition has held for 1,000 ms (R151). -/
  | motionLocalReset (t : Nat) (sheet : Fin 2) (idx : Fin 512)
  /-- LAUNCH_RELEASE: A launch time arrives (R320). -/
  | launchRelease (t : Nat)
  /-- READBACK_CHANGE: An RB pin changes level (R99, R106). -/
  | readbackChange (t : Nat) (out : Fin 16) (leg : Leg) (level : Bool)
  /-- SWITCH_ON_WINDOW_END: A switch-on window ends (R107). -/
  | switchOnWindowEnd (t : Nat) (out : Fin 16)
  /-- OCFILT_EXPIRY: A driven-high leg has read 0 for longer than OCFILT (R107). -/
  | ocfiltExpiry (t : Nat) (out : Fin 16) (leg : Leg)
  /-- OFFDLY_EXPIRY: A leg has read live for longer than OFFDLY after its drive went low (R102). -/
  | offdlyExpiry (t : Nat) (out : Fin 16) (leg : Leg)
  /-- OUTPUT_FAULT_CLEAR: An output has been held fully off for 100 ms (R105). -/
  | outputFaultClear (t : Nat) (out : Fin 16)
  /-- DARK_TEST_DUE: A leg's dark test falls due (R108). -/
  | darkTestDue (t : Nat) (out : Fin 16) (leg : Leg)
  /-- DARK_TEST_START: A deferred dark test may start (R111). -/
  | darkTestStart (t : Nat) (out : Fin 16) (leg : Leg)
  /-- DARK_TEST_PASS: The tested leg's RB has read 0 for 10 µs (R109). -/
  | darkTestPass (t : Nat)
  /-- DARK_TEST_TIMEOUT: DARKW has passed since the drive went low (R109). -/
  | darkTestTimeout (t : Nat)
  /-- MUZZLE_N_LOW: MUZZLE_N has been low for `width` ns (R115). -/
  | muzzleNLow (t : Nat) (width : Nat)
  /-- MUZZLE_N_HIGH: MUZZLE_N returns high (R354). -/
  | muzzleNHigh (t : Nat)
  /-- BARK_MON: COLL looks for a level change on BARK_A or BARK_B (R121). -/
  | barkMon (t : Nat) (pin : Chan)
  /-- KRAM_PATROL: The kennel reads kennel RAM words in its sweep (R171). -/
  | kramPatrol (t : Nat) (errs : List EccEvent)
  /-- ROTATION_DUE: ROTINT has elapsed (R179). -/
  | rotationDue (t : Nat)
  /-- ROTATION_SPLIT: The boundary at which a due rotation may split the pair (R184). -/
  | rotationSplit (t : Nat)
  /-- ROTATION_LATE: A rotation has been due for 1 h (R181). -/
  | rotationLate (t : Nat)
  /-- ROTATION_REJOIN: The boundary after the tested core's reset (R187). -/
  | rotationRejoin (t : Nat)
  /-- SOLO_TIMEOUT: The solo window exceeds 40 ms (R188). -/
  | soloTimeout (t : Nat)
  /-- ROTCTL_NOW: A write of `value` to PAIR.ROTCTL (R182). -/
  | rotctlNow (t : Nat) (value : Word)
  /-- SCRUB_PASS: A scrub pass reads every frame (R244); whether the reference memory shows an uncorrectable error (R248). -/
  | scrubPass (t : Nat) (upsets : List (Fin 1162 × Fin 1024)) (refError : Bool)
  /-- SCRUB_RELOAD: A frame in error is reloaded (R245). -/
  | scrubReload (t : Nat) (frame : Fin 1162)
  /-- PROBE_WRITE: A write to FAB.PRBCTL, PRBSRC or PRBFIO (R249, R250). -/
  | probeWrite (t : Nat) (addr : Byte) (value : Word)
  /-- RADIO_TRANSFER: A radio port may start a transfer (R256, R259). -/
  | radioTransfer (t : Nat) (port : Fin 2) (irqLow : Bool)
  /-- RADIO_POLL: 125 µs without a transfer (R259). -/
  | radioPoll (t : Nat) (port : Fin 2)
  /-- BEACON_REQUEST: The instant to queue a beacon request (R265). -/
  | beaconRequest (t : Nat) (port : Fin 2)
  /-- PDU: An inbound PDU port frame (R269). -/
  | pdu (t : Nat) (port : Fin 2) (frame : List Byte)
  /-- BEACON_REPORT: An inbound beacon report (R265). -/
  | beaconReport (t : Nat) (port : Fin 2) (frame : List Byte)
  /-- HEAD_STATUS: An inbound head status frame (R259). -/
  | headStatus (t : Nat) (port : Fin 2) (frame : List Byte)
  /-- PORT_MANAGEMENT_FRAME: An inbound management port frame (R259). -/
  | portManagementFrame (t : Nat) (port : Fin 2) (frame : List Byte)
  /-- REFRESH_MISSED: A sample tick's deadline passes (R271). -/
  | refreshMissed (t : Nat) (slot : Fin 64)
  /-- MAXAGE_EXPIRY: The latest sample of a slot, or frame of a connection, becomes older than MAXAGE (R275, R316). -/
  | maxageExpiry (t : Nat) (conn : Bool) (idx : Fin 64)
  /-- COL_QREL: A write to COL.QREL (R278). -/
  | colQrel (t : Nat) (value : Word)
  /-- HELLO_SEND: 1,000 µs have passed on a port that is not up (R294). -/
  | helloSend (t : Nat) (port : Fin 3)
  /-- HELLO: A hello frame arrives (R294). -/
  | hello (t : Nat) (port : Fin 3) (frame : List Byte)
  /-- LINK_FRAME_SEND: The port transmitter sends its next item (R296). -/
  | linkFrameSend (t : Nat) (port : Fin 3)
  /-- ACK_ORDERED_SET: An acknowledge ordered set arrives (R291, R295). -/
  | ackOrderedSet (t : Nat) (port : Fin 3) (seq : Byte) (compl : Byte)
  /-- ACK_TIMEOUT: 12 µs without an acknowledgement (R295). -/
  | ackTimeout (t : Nat) (port : Fin 3)
  /-- SAFETY_DATA_FRAME: A safety DATA frame arrives (R313). -/
  | safetyDataFrame (t : Nat) (port : Fin 3) (frame : List Byte)
  /-- SAFETY_OPEN_FRAME: A safety OPEN frame arrives (R317). -/
  | safetyOpenFrame (t : Nat) (port : Fin 3) (frame : List Byte)
  /-- MANAGEMENT_FRAME: A management frame arrives (R290). -/
  | managementFrame (t : Nat) (port : Fin 3) (frame : List Byte)
  /-- CONNECTION_FRAME_TAKE: TSTAMP + DLVY of a waiting frame arrives (R314). -/
  | connectionFrameTake (t : Nat) (conn : Fin 64)
  /-- OPEN_SEND: 10 ms since the last OPEN of a joining connection (R317). -/
  | openSend (t : Nat) (conn : Fin 64)
  /-- YARD_QREL: A write to YARD.QREL (R318). -/
  | yardQrel (t : Nat) (value : Word)
  /-- TIME_EXCHANGE_START: An exchange is due on a downstream port (R300). -/
  | timeExchangeStart (t : Nat) (port : Fin 3)
  /-- SYNC: A SYNC arrives on YP0 (R300). -/
  | sync (t : Nat) (frame : List Byte)
  /-- DREQ: A DREQ arrives (R300). -/
  | dreq (t : Nat) (port : Fin 3) (frame : List Byte)
  /-- DRESP: A DRESP arrives on YP0 (R300). -/
  | dresp (t : Nat) (frame : List Byte)
  /-- HOLDOVER: 3,000 µs without a completed exchange (R301). -/
  | holdover (t : Nat)
  /-- SYNC_LOST: 500 ms in HOLDOVER (R301). -/
  | syncLost (t : Nat)
  /-- WHISTLE: A whistle arrives (R325); whether it ended with /K30.7/. -/
  | whistle (t : Nat) (port : Fin 3) (frame : List Byte) (aborted : Bool)
  /-- WHISTLE_STOP: LTIME of the pending stop arrives (R326). -/
  | whistleStop (t : Nat)
  /-- WHISTLE_CLEAR: 100 ms after a whistle stop (R328). -/
  | whistleClear (t : Nat)
  /-- FAULT_RECORD_WRITE: A fault record that is due is written to the ring (R347, R348). -/
  | faultRecordWrite (t : Nat)
  /-- COLL_INTERVAL: A 1,000 µs COLL interval ends (R348). -/
  | collInterval (t : Nat)
  /-- LOCAL_REACTION_TIMEOUT: A LOCAL reaction is looked at 100 ms after its occurrence (R341). -/
  | localReactionTimeout (t : Nat)
  /-- DEVICE_LOCAL_CLEAR: A device-scope source at LOCAL has been inactive for 1,000 ms (R339). -/
  | deviceLocalClear (t : Nat) (src : Src)
  /-- SOURCE_LOCAL_CLEAR: A source without its own clearing rule has been inactive for 1,000 ms (R558). -/
  | sourceLocalClear (t : Nat) (src : Src)
  /-- FSTAT_CLEAR: A write to FSTAT0 to FSTAT3 (R335). -/
  | fstatClear (t : Nat) (reg : Fin 4) (value : Word)
  /-- FAULT_ACK: A write to FAULT.ACK (R350). -/
  | faultAck (t : Nat) (value : Word)
  /-- RIDX: A write to FAULT.RIDX (R360). -/
  | ridx (t : Nat) (value : Word)
  /-- SIDX: A write to SEQ.SIDX (R409). -/
  | sidx (t : Nat) (value : Word)
  /-- ALERT_SRC_CLEAR: A write to ALERT_SRC (R469). -/
  | alertSrcClear (t : Nat) (value : Word)
  /-- TEMP_READING: The die sensors are read, in 0.125 °C (R543). -/
  | tempReading (t : Nat) (t0 : Int) (t1 : Int) (t2 : Int)
  /-- GROOM_WDOG: The loft watchdog expires (R19). -/
  | groomWdog (t : Nat)
  /-- WRITE_FRAME: A control-port write frame ends (R463): when CP_CS_N fell, the whole bytes received, and bits beyond them. -/
  | writeFrame (t : Nat) (csFall : Nat) (bytes : List Byte) (extraBits : Nat)
  /-- READ_FRAME: A control-port read frame ends (R464): when CP_CS_N fell, CMD, ADDR and CRC_H, the turnaround in ns, and the bits clocked in all. -/
  | readFrame (t : Nat) (csFall : Nat) (bytes : List Byte) (turn : Nat) (bits : Nat)
  /-- REGISTER_WRITE: One word is written to a register (R465). -/
  | registerWrite (t : Nat) (addr : Byte) (value : Word)
  /-- ECHO: The loft serves ECHO (R475). -/
  | echo (t : Nat)
  /-- DEVUID: The loft serves DEVUID (R501). -/
  | devuid (t : Nat)
  /-- MAINT_ENTER: The kennel takes the request for MAINT (R435). -/
  | maintEnter (t : Nat)
  /-- MAINT_LEAVE: The kennel takes the request to leave MAINT (R436). -/
  | maintLeave (t : Nat)
  /-- IMG_BEGIN: The loft serves IMG_BEGIN (R484). -/
  | imgBegin (t : Nat)
  /-- IMG_WRITE: The loft serves IMG_WRITE (R484). -/
  | imgWrite (t : Nat)
  /-- IMG_VERIFY: The loft serves IMG_VERIFY (R485). -/
  | imgVerify (t : Nat)
  /-- IMG_COMMIT: The loft serves IMG_COMMIT (R486). -/
  | imgCommit (t : Nat) (obs : LoadObs)
  /-- YARD_MSEND: The loft serves YARD_MSEND (R476). -/
  | yardMsend (t : Nat)
  /-- YARD_MRECV: The loft serves YARD_MRECV (R476). -/
  | yardMrecv (t : Nat)
  /-- LC_ADVANCE: The kennel serves LC_ADVANCE (R496). -/
  | lcAdvance (t : Nat)
  /-- ERASURE_COMPLETE: An erasure in progress finishes (R498). -/
  | erasureComplete (t : Nat)
  /-- ERASURE_RESTART: 1 ms after the erasure (R498). -/
  | erasureRestart (t : Nat)
  /-- GO: A write of `value` to FARR.CTL (R445). -/
  | go (t : Nat) (value : Word)
  /-- SPOOK_EN: A write of `value` to SPOOK.CTL (R511). -/
  | spookEn (t : Nat) (value : Word)
  /-- EXTEST: The TAP selects EXTEST with these output cells (R195); a running pair halts, with register digests that may differ (R196, R199). -/
  | extest (t : Nat) (obs : ExtestIn)
  /-- IDCODE: The TAP selects IDCODE (R192). -/
  | idcode (t : Nat)
  /-- SAMPLE_PRELOAD: The TAP selects SAMPLE/PRELOAD with these cells for the update stage (R193). -/
  | samplePreload (t : Nat) (cells : Cells)
  /-- BYPASS: The TAP loads a code that selects BYPASS (R192). -/
  | bypass (t : Nat) (code : BitVec 5)
  /-- PAIR_HALT: The TAP selects PAIR_HALT; whether the register-file digests differ (R199). -/
  | pairHalt (t : Nat) (digestDiffer : Bool)
  /-- LEAD_INSPECT: The TAP selects LEAD_INSPECT (R201). -/
  | leadInspect (t : Nat)
  /-- RESYNC: The TAP selects RESYNC (R204). -/
  | resync (t : Nat)
  /-- TAP_RESET: DP_TRST_N resets the TAP (R209). -/
  | tapReset (t : Nat)
  /-- STATUS: DBG_ACCESS operation 0x0 (R197). -/
  | status (t : Nat)
  /-- READ_WORD: DBG_ACCESS operation 0x1 (R197). -/
  | readWord (t : Nat) (addr : BitVec 28)
  /-- WRITE_WORD: DBG_ACCESS operation 0x2 (R198). -/
  | writeWord (t : Nat) (addr : BitVec 28) (data : BitVec 32)
  /-- READ_CORE_REGISTER: DBG_ACCESS operation 0x3 (R197). -/
  | readCoreRegister (t : Nat) (reg : CoreReg) (core : Fin 2)
  /-- WRITE_CORE_REGISTER: DBG_ACCESS operation 0x4 (R199). -/
  | writeCoreRegister (t : Nat) (reg : CoreReg) (core : Fin 2) (data : BitVec 32)
  /-- STEP: DBG_ACCESS operation 0x5 (R199, R201): the number of instructions, and what the comparator finds in them. -/
  | step (t : Nat) (obs : StepIn)
  /-- RESUME: DBG_ACCESS operation 0x6 (R202): the first journal entry whose replay digest differs, and whether the register-file digests differ. -/
  | resume (t : Nat) (replayBad : Option (Fin 64)) (digestDiffer : Bool)
  /-- SI_PIN_CHANGE: A sample of an SI pin changes level (R77, R79). -/
  | siPinChange (t : Nat) (pair : Fin 32) (ch : Chan) (level : Bool)
  /-- CRYSTAL_RUNNING: The crystal starts oscillating (R413). -/
  | crystalRunning (t : Nat)
  /-- PLL_LOCK: The PLLs reach lock (R412). -/
  | pllLock (t : Nat)
  /-- LINK_ERROR: A port receives a special code group outside the table (R291). -/
  | linkError (t : Nat) (port : Fin 3)
  /-- YARD_TICK: A 125 µs yard tick (R404). -/
  | yardTick (t : Nat)
  /-- VIN_SAMPLE: The converter samples VIN_SNS (R399). -/
  | vinSample (t : Nat) (microvolts : Nat)
  deriving DecidableEq, Repr

end Sys2Proof
end

