-- ==== Sys2Proof/Decode.lean ====
section
/-!
DEFINITION. The decoder of the table's words. The table of this block lists operations and events and gives no row any
bits, so no word spells a command.
-/
namespace Sys2Proof

/-- A row of the table that gives bits: its width in bits, the mask and the pattern of its fixed bits, and its command. -/
structure WordRow where
  width : Nat
  mask : Nat
  pattern : Nat
  command : Instr

/-- The rows of the table that give bits: none. -/
def wordRows : List WordRow := []

/-- The command that a word spells by the table's bits. -/
def decodeTableWord (nbits w : Nat) : Option Instr :=
  (wordRows.find? (fun r => r.width == nbits && (w &&& r.mask) == r.pattern)).map (·.command)

end Sys2Proof
end

