-- ==== Sys2Proof/Machine/Bits.lean ====
section
/-!
DEFINITION. Bit fields, byte order (R8), bitmaps, lists by index, saturating counters and the cyclic redundancy checks
of the manual.
-/
namespace Sys2Proof.Machine

/-- The element of a list at an index, or a given value beyond its end. -/
def nth {α : Type} (d : α) : List α → Nat → α
  | [], _ => d
  | x :: _, 0 => x
  | _ :: xs, i + 1 => nth d xs i

/-- A list with the element at an index changed; beyond its end, the list. -/
def updAt {α : Type} (f : α → α) : List α → Nat → List α
  | [], _ => []
  | x :: xs, 0 => f x :: xs
  | x :: xs, i + 1 => x :: updAt f xs i

/-- A list with the element at an index replaced. -/
def setAt {α : Type} (l : List α) (i : Nat) (v : α) : List α := updAt (fun _ => v) l i

/-- Map with the index. -/
def mapIdx {α β : Type} (f : Nat → α → β) (l : List α) (i : Nat := 0) : List β :=
  match l with
  | [] => []
  | x :: xs => f i x :: mapIdx f xs (i + 1)

/-- The indexes, from a base, at which a test holds. -/
def idxsWhere {α : Type} (p : α → Bool) : List α → Nat → List Nat
  | [], _ => []
  | x :: xs, i => if p x then i :: idxsWhere p xs (i + 1) else idxsWhere p xs (i + 1)

/-- A list in pieces of a length, `n` pieces. -/
def chunks {α : Type} (size : Nat) : Nat → List α → List (List α)
  | 0, _ => []
  | n + 1, l => l.take size :: chunks size n (l.drop size)

/-- Bit n of a number. -/
def bit (v n : Nat) : Bool := v.testBit n

/-- The field [hi:lo] of a number. -/
def field (v hi lo : Nat) : Nat := (v >>> lo) % 2 ^ (hi - lo + 1)

/-- A flag as a number placed at a bit. -/
def flag (b : Bool) (n : Nat := 0) : Nat := if b then 2 ^ n else 0

/-- A bitmap of flags, entry 0 at bit 0. -/
def bitmap : List Bool → Nat
  | [] => 0
  | b :: bs => flag b + 2 * bitmap bs

/-- Sixteen entries of a list of flags, from an index, as a register (R90: "Bit n"). -/
def bitmap16 (l : List Bool) (i : Nat) : Nat := bitmap ((l.drop i).take 16)

/-- A counter that saturates. -/
def satAdd (v n top : Nat) : Nat := Nat.min (v + n) top

/-- A saturating eight-bit counter. -/
def sat8 (v : Nat) : Nat := satAdd v 1 0xFF

/-- A saturating sixteen-bit counter. -/
def sat16 (v : Nat) : Nat := satAdd v 1 0xFFFF

/-- A number in two's complement, saturating at a magnitude (R330). -/
def twos16 (v : Int) (top : Nat) : Nat :=
  let c : Int := if v > (top : Int) then (top : Int) else if v < -(top : Int) then -(top : Int) else v
  (c % 65536).toNat

/-- A number in two's complement of 32 bits. -/
def twos32 (v : Int) : Nat := (v % 4294967296).toNat

/-- A word from a number. -/
def w16 (n : Nat) : Word := BitVec.ofNat 16 n

/-! ## Byte order: most significant byte first (R8) -/

/-- The byte at an index of a byte list. -/
def byteAt (l : List Byte) (i : Nat) : Nat := (nth 0 l i).toNat

/-- The number that bytes spell, most significant first. -/
def ofBytes (l : List Byte) : Nat := l.foldl (fun a b => a * 256 + b.toNat) 0

/-- The number in `n` bytes from an index. -/
def beAt (l : List Byte) (i n : Nat) : Nat := ofBytes ((l.drop i).take n)

/-- A number as `n` bytes, most significant first. -/
def toBytes (n v : Nat) : List Byte :=
  match n with
  | 0 => []
  | k + 1 => toBytes k (v / 256) ++ [BitVec.ofNat 8 v]

/-- Bytes to a length, filled with 0 or cut. -/
def padTo (n : Nat) (l : List Byte) : List Byte := (l ++ List.replicate n 0).take n

/-- Every byte is 0. -/
def allZero (l : List Byte) : Bool := l.all (· == 0)

/-- Bytes lo to hi of a list, both included, are 0. -/
def zeroIn (l : List Byte) (lo hi : Nat) : Bool := allZero ((l.drop lo).take (hi + 1 - lo))

/-- Bit k of a payload: byte ⌊k ÷ 8⌋, position k modulo 8 (R311). -/
def payBit (l : List Byte) (k : Nat) : Bool := bit (byteAt l (k / 8)) (k % 8)

/-- A payload with bit k set to a value (R311). -/
def setPayBit (l : List Byte) (k : Nat) (v : Bool) : List Byte :=
  updAt (fun b => if v then b ||| BitVec.ofNat 8 (2 ^ (k % 8)) else b &&& ~~~ (BitVec.ofNat 8 (2 ^ (k % 8)))) l (k / 8)

/-! ## Cyclic redundancy checks -/

/-- One step of a reflected 32-bit CRC. -/
def crcStepR (poly c : BitVec 32) : BitVec 32 := if c.getLsbD 0 then (c >>> 1) ^^^ poly else c >>> 1

/-- `n` steps of a reflected CRC. -/
def crcStepsR (poly : BitVec 32) : Nat → BitVec 32 → BitVec 32
  | 0, c => c
  | n + 1, c => crcStepsR poly n (crcStepR poly c)

/-- A reflected 32-bit CRC with initial value and final XOR 0xFFFFFFFF. -/
def crc32R (poly : BitVec 32) (l : List Byte) : BitVec 32 :=
  ~~~ (l.foldl (fun c b => crcStepsR poly 8 (c ^^^ b.setWidth 32)) 0xFFFFFFFF#32)

/-- CRC-32C: polynomial 0x1EDC6F41 reflected (R28). -/
def crc32c (l : List Byte) : BitVec 32 := crc32R 0x82F63B78#32 l

/-- The link CRC: polynomial 0x04C11DB7 reflected (R292). -/
def crcLink (l : List Byte) : BitVec 32 := crc32R 0xEDB88320#32 l

/-- One step of the port-frame CRC: polynomial 0x1021, most significant bit first (R257). -/
def crc16Step (c : BitVec 16) : BitVec 16 := if c.getLsbD 15 then (c <<< 1) ^^^ 0x1021#16 else c <<< 1

def crc16Steps : Nat → BitVec 16 → BitVec 16
  | 0, c => c
  | n + 1, c => crc16Steps n (crc16Step c)

/-- PCRC: CRC-16, initial value 0xFFFF, no reflection, no final XOR (R257). -/
def crc16 (l : List Byte) : BitVec 16 :=
  l.foldl (fun (c : BitVec 16) (b : Byte) => crc16Steps 8 (c ^^^ BitVec.ofNat 16 (b.toNat * 256))) 0xFFFF#16

/-- One step of the control-port CRC: polynomial 0x2F (R458). -/
def crc8Step (c : Byte) : Byte := if c.getLsbD 7 then (c <<< 1) ^^^ 0x2F#8 else c <<< 1

def crc8Steps : Nat → Byte → Byte
  | 0, c => c
  | n + 1, c => crc8Steps n (crc8Step c)

/-- CRC-8: polynomial 0x2F, initial value 0xFF, no reflection, no final XOR (R458). -/
def crc8 (l : List Byte) : Byte := l.foldl (fun c b => crc8Steps 8 (c ^^^ b)) 0xFF#8

end Sys2Proof.Machine
end

