-- ==== Sys2Proof/Machine/Crypto.lean ====
section
/-!
DEFINITION. SHA-256 and ECDSA over P-256, which R481, R483 and R497 name. The manual names both by their standards; their
constants and steps are PRESUMED from FIPS 180-4 and FIPS 186-4 (notes/assumptions/4.md).
-/
namespace Sys2Proof.Machine

/-! ## SHA-256 -/

/-- The integer k-th root of n, below 2 ^ bits: one bit at a time from the top. -/
def rootBits (k n : Nat) : Nat → Nat → Nat
  | 0, r => r
  | b + 1, r => rootBits k n b (if (r + 2 ^ b) ^ k ≤ n then r + 2 ^ b else r)

/-- The first 32 bits of the fractional part of the k-th root of a prime below 512. -/
def rootWord (k p : Nat) : BitVec 32 := BitVec.ofNat 32 (rootBits k (p * 2 ^ (32 * k)) 37 0)

/-- The primes below a bound. -/
def primesBelow (n : Nat) : List Nat := (List.range n).filter (fun p => 2 ≤ p && (List.range p).all (fun d => d < 2 || p % d != 0))

/-- The round constants: cube roots of the first 64 primes. -/
def shaK : List (BitVec 32) := (primesBelow 312).map (rootWord 3)

/-- The initial chaining value: square roots of the first 8 primes. -/
def shaInit : List (BitVec 32) := (primesBelow 20).map (rootWord 2)

def rotr (x : BitVec 32) (n : Nat) : BitVec 32 := x.rotateRight n

/-- The message schedule: `n` further words, the list newest first. -/
def shaSchedule : Nat → List (BitVec 32) → List (BitVec 32)
  | 0, w => w.reverse
  | n + 1, w =>
    let a := nth 0 w 14
    let b := nth 0 w 1
    let s0 := rotr a 7 ^^^ rotr a 18 ^^^ (a >>> 3)
    let s1 := rotr b 17 ^^^ rotr b 19 ^^^ (b >>> 10)
    shaSchedule n ((nth 0 w 15 + s0 + nth 0 w 6 + s1) :: w)

/-- One round on the eight working words. -/
def shaRound (v : List (BitVec 32)) (k w : BitVec 32) : List (BitVec 32) :=
  match v with
  | [a, b, c, d, e, f, g, h] =>
    let s1 := rotr e 6 ^^^ rotr e 11 ^^^ rotr e 25
    let ch := (e &&& f) ^^^ (~~~e &&& g)
    let t1 := h + s1 + ch + k + w
    let s0 := rotr a 2 ^^^ rotr a 13 ^^^ rotr a 22
    let maj := (a &&& b) ^^^ (a &&& c) ^^^ (b &&& c)
    [t1 + (s0 + maj), a, b, c, d + t1, e, f, g]
  | _ => v

/-- One block of 64 bytes. -/
def shaBlock (h : List (BitVec 32)) (blk : List Byte) : List (BitVec 32) :=
  let w16 := ((List.range 16).map (fun i => BitVec.ofNat 32 (beAt blk (4 * i) 4))).reverse
  let ws := shaSchedule 48 w16
  List.zipWith (· + ·) h ((List.zip shaK ws).foldl (fun v kw => shaRound v kw.1 kw.2) h)

/-- The padded message: 0x80, zeros, and the length in bits in 8 bytes. -/
def shaPad (l : List Byte) : List Byte :=
  l ++ 0x80#8 :: List.replicate ((119 - l.length % 64) % 64) 0 ++ toBytes 8 (8 * l.length)

def shaBlocks : Nat → List Byte → List (BitVec 32) → List (BitVec 32)
  | 0, _, h => h
  | n + 1, l, h => shaBlocks n (l.drop 64) (shaBlock h (l.take 64))

/-- SHA-256 as 32 bytes. -/
def sha256 (l : List Byte) : List Byte :=
  let p := shaPad l
  (shaBlocks (p.length / 64) p shaInit).flatMap (fun x => toBytes 4 x.toNat)

/-! ## P-256 -/

def p256P : Nat := 0xffffffff00000001000000000000000000000000ffffffffffffffffffffffff
def p256N : Nat := 0xffffffff00000000ffffffffffffffffbce6faada7179e84f3b9cac2fc632551
def p256B : Nat := 0x5ac635d8aa3a93e7b3ebbd55769886bc651d06b0cc53b0f63bce3c3e27d2604b
def p256G : Nat × Nat :=
  (0x6b17d1f2e12c4247f8bce6e563a440f277037d812deb33a0f4a13945d898c296,
   0x4fe342e2fe1a7f9b8ee7eb4a7c0f9e162bce33576b315ececbb6406837bf51f5)

/-- Powers modulo a number, over a count of exponent bits from the least significant one. -/
def powMod (m : Nat) : Nat → Nat → Nat → Nat
  | 0, _, _ => 1
  | k + 1, b, e =>
    let r := powMod m k (b * b % m) (e / 2)
    if e % 2 = 1 then r * b % m else r

/-- The inverse modulo a prime. -/
def invMod (m a : Nat) : Nat := powMod m 256 (a % m) (m - 2)

/-- A point of the curve: none is the point at infinity. -/
abbrev Pt := Option (Nat × Nat)

def ptAdd : Pt → Pt → Pt
  | none, q => q
  | p, none => p
  | some (x1, y1), some (x2, y2) =>
    if x1 = x2 && (y1 + y2) % p256P = 0 then none
    else
      let l :=
        if x1 = x2 then (3 * x1 * x1 + p256P - 3) * invMod p256P (2 * y1) % p256P
        else (y2 + p256P - y1) * invMod p256P (x2 + p256P - x1) % p256P
      let x := (l * l + 2 * p256P - x1 - x2) % p256P
      some (x, (l * (x1 + p256P - x) + p256P - y1) % p256P)

/-- A multiple of a point, over a count of bits. -/
def ptMul : Nat → Nat → Pt → Pt
  | 0, _, _ => none
  | k + 1, e, p =>
    let r := ptMul k (e / 2) (ptAdd p p)
    if e % 2 = 1 then ptAdd r p else r

/-- A public key lies on the curve. -/
def onCurve (k : Nat × Nat) : Bool :=
  decide (k.1 < p256P) && decide (k.2 < p256P) &&
    (k.2 * k.2) % p256P == (k.1 * k.1 * k.1 + (p256P - 3) * k.1 + p256B) % p256P

/-- ECDSA verification over a SHA-256 digest (R481, R497). -/
def ecdsaOk (key : Nat × Nat) (digest : List Byte) (r s : Nat) : Bool :=
  if onCurve key && 0 < r && r < p256N && 0 < s && s < p256N then
    let w := invMod p256N s
    let u1 := ofBytes digest * w % p256N
    let u2 := r * w % p256N
    match ptAdd (ptMul 256 u1 (some p256G)) (ptMul 256 u2 (some key)) with
    | some (x, _) => x % p256N == r
    | none => false
  else false

end Sys2Proof.Machine
end

