-- ==== Sys2Proof/Config.lean ====
section
/-!
DEFINITION. What one part or one implementation fixes, and the values the manual leaves open. A free value is an
opaque constant: nothing evaluates it and no proof can see it.
-/
namespace Sys2Proof.Config

/-- UNVERIFIED. The free values of the manual, one for each reading of the state's counter: a result the manual
leaves open takes `freeNat` of the counter, reduced to the range the manual gives. See notes/assumptions/2.md. -/
opaque freeNat : Nat → Nat

/-- UNVERIFIED. The choice the hardware makes where the manual says it "may or may not" act. -/
opaque freeBool : Nat → Bool

/-- The level of ARR_STRAP at an instant (R438, STRAPNOW): no command of the table moves the pin. See notes/assumptions/95.md. -/
opaque strapPin : Nat → Bool

/-- The level that the board gives an FIO at an instant (R219): no command of the table moves the pin. See
notes/assumptions/57.md. -/
opaque fioPad : Nat → Nat → Bool

/-- Kennel mask ROM by word index (R168): the manual does not give its contents. -/
opaque kennelRom : Nat → BitVec 32

/-- A word of kennel RAM by word index (R168): the kennel's data, whose layout the manual does not give. -/
opaque kennelRam : Nat → Nat → BitVec 32

/-- A word read from the peripheral space by the debugger (R197): the manual does not give that space's layout. -/
opaque peripheral : Nat → Nat → BitVec 32

/-- What executing one instruction does to a core register (R201): the instruction set is not documented. -/
opaque stepReg : Nat → Nat → BitVec 32

/-- The stores an executed instruction makes, as kennel RAM word index and value (R201). -/
opaque stepStores : Nat → List (Nat × BitVec 32)

/-- The Ihlevewell loft key (x, y) in the groom boot ROM (R481). -/
opaque loftKey : Nat × Nat

/-- The Ihlevewell return key (x, y) in kennel ROM (R497). -/
opaque returnKey : Nat × Nat

/-- DEVID0[0]: the temperature grade of the ordering code (R1, R2): true for SXH64-XB. -/
opaque gradeXB : Bool

/-- The 16-byte UID written by Ihlevewell at test (R501). -/
opaque uid : List (BitVec 8)

end Sys2Proof.Config
end

