-- ==== Sys2Proof/Machine/State.lean ====
section
/-!
DEFINITION. The state of the H64 as plain data, block by block in the manual's chapters, with the value every field has
at reset: the part held in power-on reset (R382), before VAON has risen past the release threshold. The default of a
field is its reset value. Times are in ns of the part's own time; yard times are in ns of yard time.
-/
namespace Sys2Proof.Machine

/-- The reasons for which the machine stops. There are none: every command of the table is answered by a next state
(safe: nothing is proved of a run that stops). -/
inductive Fault where
  deriving DecidableEq, Repr

/-- The reasons for which a command has no meaning in the model. -/
inductive Refusal where
  /-- Raised by the dispatcher alone, for a row without a meaning yet: safe. -/
  | notModelled (mnemonic : String)
  deriving DecidableEq, Repr

/-- Memory by byte address, in one canonical form: addresses strictly rising, no entry equal to 0, which is what an
unlisted address reads as (notes/assumptions/3.md). -/
abbrev Mem := List Host.Cell

/-! ## AON: the sequencer, the VIN monitor and the snapshot writer (12) -/

/-- A snapshot event as latched, before it is written (R403, R407). -/
structure Snap where
  cause : Nat
  csrc : Nat
  ytime : Nat
  localTime : Bool
  pgmap : Nat
  enmap : Nat
  ramps : List Nat
  vin : Nat
  temps : List Int
  fstat : Nat
  rstate : Nat
  holdup : Bool
  syncLost : Bool
  perturbed : Bool
  /-- A cut cause, written last of the events of its RC cycle (R407). -/
  cut : Bool
  /-- The instant at which it was latched. -/
  at_ : Nat
  deriving DecidableEq, Repr

structure Seq where
  /-- 1 bit; R382; the part is held in power-on reset. -/
  por : Bool := true
  /-- ns; R382; the instant of the power-on reset release. -/
  porAt : Nat := 0
  /-- 3 bits; R409; PHASE. -/
  phase : SeqPhase := .off
  /-- R386, R387, R397; what the sequencer waits for on the channel in hand. -/
  wait : SeqWait := .idle
  /-- 3 bits; R386; the channel in hand. -/
  chan : Nat := 0
  /-- ns; R386; the instant at which that wait began. -/
  waitAt : Nat := 0
  /-- R386, R387, R397; the channels of the phase still to be taken, in order. -/
  todo : List Nat := []
  /-- 8 bits; R384; SEQ_EN0 to SEQ_EN7 (ENMAP). -/
  en : List Bool := List.replicate 8 false
  /-- 8 bits; R386; SEQ_PG0 to SEQ_PG7 recognised high (PGMAP). -/
  pg : List Bool := List.replicate 8 false
  /-- 8 bits; R392; channel running (RUNMAP). -/
  run : List Bool := List.replicate 8 false
  /-- 8 × 16 bits; R386, R403; ramp times in µs. -/
  ramp : List Nat := List.replicate 8 0
  /-- 8 × 2 bits; R390, R409; MODE of the plan in force: channels 0 to 4 read 1. -/
  mode : List Nat := List.replicate 8 0
  /-- 8 × 2 bits; R390; STEP of the plan in force. -/
  step : List Nat := List.replicate 8 0
  /-- 8 × 16 bits; R390; PGTO in 100 µs units. -/
  pgto : List Nat := List.replicate 8 0
  /-- 8 × 16 bits; R390; SETTLE in 100 µs units. -/
  settle : List Nat := List.replicate 8 0
  /-- 8 × 16 bits; R390; DSCTO in ms. -/
  dscto : List Nat := List.replicate 8 0
  /-- 8 × 16 bits; R409; DSCLAST. -/
  dscLast : List Nat := List.replicate 8 0
  /-- 1 bit; R409; PLANOK: the power plan passed its check. -/
  planOk : Bool := false
  /-- 1 bit; R389, R491; a board phase has run since the last power-up. -/
  boardDone : Bool := false
  /-- 1 bit; R398; the ordered power-down has ended with DOWN_DONE. -/
  downDone : Bool := false
  /-- 1 bit; R400; RUNSTATE[11] HOLDUP. -/
  holdup : Bool := false
  /-- 1 bit; R409; VIN_SNS below the warning level now. -/
  belowWarn : Bool := false
  /-- ns; R400; the latest instant at which VIN_SNS was found at or below 1.220 V. -/
  vinLow : Nat := 0
  /-- 1 bit; R401, R409; VIN_SNS below the abandon level now: log writes blocked. -/
  belowAbandon : Bool := false
  /-- 12 bits; R399; latest converter sample. -/
  vin : Nat := 0
  /-- 12 bits; R409; lowest sample since power-up. -/
  vinMin : Nat := 0x0FFF
  /-- 8 bits; R409; warnings. -/
  vinWarns : Nat := 0
  /-- 8 bits; R409; abandons. -/
  vinAbandons : Nat := 0
  /-- At most 8; R407; events that wait to be written. -/
  snapQ : List Snap := []
  /-- 32 bits; R406; the highest SNAPNO given. -/
  snapNo : Nat := 0
  /-- 32 bits; R409; SNAPH and SNAPL: SNAPNO of the newest valid record. -/
  snapTop : Nat := 0
  /-- 32 bits; R408; SNAPNO given to the UP_START record of the present power-up, 0 before it is written. -/
  upStartNo : Nat := 0
  /-- 8 bits; R409; events lost to a full queue. -/
  snapLost : Nat := 0
  /-- 8 bits; R409; events lost while writes were blocked. -/
  snapBlocked : Nat := 0
  /-- 8 bits; R409; records with a wrong COMMIT found at power-up. -/
  snapInv : Nat := 0
  /-- 8 bits; R409; snapshot writes aborted under R401. -/
  snapAborted : Nat := 0
  /-- 64 bytes; R409; the read buffer of SIDX. -/
  snapBuf : List Byte := List.replicate 64 0
  /-- 3 bits; R409. -/
  chsel : Nat := 0
  /-- 8 bits; R409. -/
  sidx : Nat := 0
  /-- 5 bits; R409. -/
  swsel : Nat := 0
  /-- 16 bits; R391, R409; CFGERR. -/
  cfgerr : Word := 0
  /-- 3 bits; R438; RSTCAUSE, kept in AON. -/
  rstcause : Nat := 0
  /-- 16 bits; R438; WARMCNT, kept in AON. -/
  warmcnt : Nat := 0
  /-- 64 bits; R404; the yard time AON received last, and when. -/
  ytick : Nat := 0
  ytickAt : Option Nat := none
  /-- 3 × 16 bits; R403; die temperatures as last delivered to AON, in 0.125 °C. -/
  temps : List Int := [0, 0, 0]
  deriving DecidableEq, Repr

/-! ## Clocks, resets and start-up (13) -/

structure Clk where
  /-- R22; RUNSTATE[3:0]. -/
  rs : RunState := .off
  /-- 1 bit; R343, R438; the state is held. -/
  held : Bool := false
  /-- 1 bit; R21, R427; ARMED held under R427. -/
  mismatch : Bool := false
  /-- 1 bit; R438; XTALOK. -/
  xtal : Bool := false
  /-- 1 bit; R412, R438; PLL_A to PLL_D, enabled together, have locked. -/
  pll : Bool := false
  /-- 11 bits; R423; the island of each number of R416 is out of reset (AON: `Seq.por`). -/
  out : List Bool := List.replicate 11 false
  /-- 1 bit; R438; RCCALOK. -/
  rcOk : Bool := false
  /-- 16 bits; R414, R438; RCCAL in kHz. -/
  rccal : Nat := 0
  /-- 1 bit; R438; MONON: the clock monitor is armed. -/
  mon : Bool := false
  /-- 1 bit; R427, R438; ARR_STRAP as latched: true for S. -/
  strap : Bool := false
  /-- 1 bit; R21; strap and image have agreed since the last power-up: the arrangement is fixed. -/
  fixed : Bool := false
  /-- 1 bit; R419, R438; RCSTOP. -/
  rcstop : Bool := false
  /-- 16 bits; R438; CMDIAG. -/
  cmdiag : Word := 0
  /-- 6 × 16 bits; R438; CDEV in 0.01 %. -/
  dev : List Int := List.replicate 6 0
  /-- 6 × 16 bits; R438; CDEVMAX in 0.01 %. -/
  devMax : List Nat := List.replicate 6 0
  /-- 6 bits; R418, R516; clocks found deviating or without an edge, for as long as they are. -/
  bad : List Bool := List.replicate 6 false
  /-- 3 bits; R438; CSEL. -/
  csel : Nat := 0
  /-- 8 bits; R438; RSTIGN. -/
  rstign : Nat := 0
  /-- 16 bits; R438; HSDIAG. -/
  hsdiag : Word := 0
  /-- 5 × 16 bits; R438; TBOOT, TSELF, TLOAD, TBOARD, TARMED in 0.1 ms. -/
  tboot : Nat := 0
  tself : Nat := 0
  tload : Nat := 0
  tboard : Nat := 0
  tarmed : Nat := 0
  /-- ns; R438; the release from which the stage times run. -/
  start : Nat := 0
  /-- ns; R413; the start of BOOT, of the RC calibration base, and of the board phase. -/
  bootAt : Nat := 0
  pllAt : Nat := 0
  boardAt : Nat := 0
  /-- 1 bit; R421; RESET_N is recognised low. -/
  rstLow : Bool := false
  /-- 1 bit; R422; a warm restart waits for RESET_N to rise. -/
  warm : Bool := false
  /-- R426; the step of LOAD that waits: 3 for the board phase, 7 for the yard, 9 for the boundary that enters ARMED. -/
  loadStep : Nat := 0
  /-- 1 bit; R302; the node has entered ARMED since the end of its last BOOT. -/
  armedOnce : Bool := false
  /-- ns; R304; the instant from which LOCKWAIT runs. -/
  lockAt : Nat := 0
  /-- 3 × 16 bits; R543; the die sensors, in 0.125 °C. -/
  temps : List Int := [0, 0, 0]
  /-- 3 counts; R543; consecutive readings out of range. -/
  tempRun : List Nat := [0, 0, 0]
  deriving DecidableEq, Repr

/-! ## The lockstep pair and debug (06) -/

/-- One journal entry of LEAD_INSPECT (R201). -/
inductive Journal where
  | reg (r : Nat) (v : BitVec 32)
  | ram (index : Nat) (v : BitVec 32)
  | step (stores : List (Nat × BitVec 32)) (regs : List (BitVec 32)) (crc : BitVec 32)
  deriving DecidableEq, Repr

structure Pair where
  /-- 1 bit; R206; ARR: true for S. -/
  arr : Bool := false
  /-- 1 bit; R173; the pair has been split into arrangement S. -/
  split : Bool := false
  /-- 1 bit; R160, R206; LEADCORE. -/
  lead : Nat := 0
  /-- 1 bit; R184, R206; SOLO. -/
  solo : Bool := false
  /-- 1 bit; R206; SOLOCORE. -/
  soloCore : Nat := 0
  /-- 0–3; R189, R206; paired cycles of the hand-over window that remain. -/
  howin : Nat := 0
  /-- 2 bits; R188, R206; CORE0OUT and CORE1OUT. -/
  out0 : Bool := false
  out1 : Bool := false
  /-- 2 bits; R206; DBGMODE. -/
  dbg : DbgMode := .none
  /-- 1 bit; R165, R167; the comparator's muzzle trigger is armed. -/
  cmpArmed : Bool := false
  /-- 16 bits; R162, R206; CMPDIAG. -/
  cmpdiag : Word := 0
  /-- 16 bits; R206; CMPCNT. -/
  cmpcnt : Nat := 0
  /-- 16 bits; R166, R206; INJSTAT. -/
  injstat : Word := 0
  /-- 16 bits; R166, R206; INJMISS. -/
  injmiss : Word := 0
  /-- 5 bits; R179, R206; ROTINT in hours, from the running image. -/
  rotint : Nat := 0
  /-- R179; the instant from which ROTINT runs. -/
  rotFrom : Option Nat := none
  /-- R181; the instant at which the rotation fell due. -/
  due : Option Nat := none
  /-- 1 bit; R181, R206; LATE. -/
  late : Bool := false
  /-- 2 bits; R206; LASTRES. -/
  lastRes : Nat := 0
  /-- 1 bit; R206; LASTCORE. -/
  lastCore : Nat := 0
  /-- 16 bits; R206; ROTCNT. -/
  rotcnt : Nat := 0
  /-- R183; rotations begun since power-up. -/
  rotk : Nat := 0
  /-- R184; the instant of the split. -/
  splitAt : Nat := 0
  /-- 1 bit; R187; the tested core has been reset and is ready. -/
  ready : Bool := false
  /-- 16 bits; R206; SOLOLAST and SOLOMAX in µs. -/
  soloLast : Nat := 0
  soloMax : Nat := 0
  /-- 16 bits; R189, R206; HODIAG. -/
  hodiag : Word := 0
  /-- 1 bit; R191; an input has changed since the last solo cycle's read. -/
  hoInput : Bool := false
  /-- R163, R164; a cycle-entry restart is due at the next boundary. -/
  restart : Bool := false
  /-- 1 bit; R164; a CMP has been raised since SAFE was entered. -/
  cmpSafe : Bool := false
  /-- 2 × 8 bits; R206; ECCCNT. -/
  ecc0 : Nat := 0
  ecc1 : Nat := 0
  /-- 16 bits; R206; KRAMCNT. -/
  kramcnt : Nat := 0
  /-- 17 bits and ROM; R206; KRAMADRH, KRAMADRL. -/
  kramAdr : Nat := 0
  kramRom : Bool := false
  /-- 2 × 34 × 32 bits; R197; registers 0 to 31, program counter, status of core 0 and core 1. -/
  regs0 : List (BitVec 32) := List.replicate 34 0
  regs1 : List (BitVec 32) := List.replicate 34 0
  /-- 65,536 × 32 bits; R168; kennel RAM: the words that the debugger has fixed since the pair last ran, by word index, rising.
  The manual lays out nothing of it: any other word has a free value that stands until the pair runs again, one for each `kgen`. -/
  kram : List (Nat × BitVec 32) := []
  kgen : Nat := 0
  /-- At most 64; R201, R203; the journal. -/
  journal : List Journal := []
  /-- 1 bit; R203, R206; JOVF. -/
  jovf : Bool := false
  /-- 1 bit; R206; RESYNCPEND. -/
  resyncPend : Bool := false
  /-- 1 bit; R203, R206; RAMRELOAD. -/
  ramReload : Bool := false
  /-- 4 bits; R193, R206; REFCNT. -/
  refcnt : Nat := 0
  /-- R205; a halt that waits for the rejoin or for CMPINJ. -/
  pendHalt : DbgMode := .none
  /-- R192; the TAP instruction selected. -/
  tap : TapSel := .idcode
  /-- R193, R195; the update stage of the boundary scan register, and what it captured last. -/
  cells : Cells := {}
  scan : Scan := {}
  /-- 32 bits; R192; the IDCODE register, or 0 where BYPASS is selected, as last captured. -/
  dr : BitVec 32 := 0xB006434F
  /-- 1 bit; R194, R200, R204; the cycle in hand ends late: its commands are discarded. -/
  lateCyc : Bool := false
  /-- 4 bits and 32 bits; R197; RESULT and DATA of the access register. -/
  dbgResult : Nat := 0
  dbgData : BitVec 32 := 0
  deriving DecidableEq, Repr

/-! ## The fabric (07) -/

structure Probe where
  /-- R249; enable, source and FIO of a probe. -/
  on : Bool := false
  src : Nat := 0
  fio : Nat := 0
  deriving DecidableEq, Repr

structure Fab where
  /-- 1 bit; R251; COMMITTED. -/
  committed : Bool := false
  /-- 1 bit; R251; LOADING. -/
  loading : Bool := false
  /-- 1 bit; R237, R241; GSR0 and GSR1 asserted by load control. -/
  gsr : Bool := true
  /-- 1 bit; R231, R251; PROBEFIELD. -/
  probeField : Bool := false
  /-- 1,162 × 128 bytes; R231; the configuration cells by frame index, empty until a load writes them. -/
  cells : List (List Byte) := []
  /-- 1,162 × 32 bits; R241; the scrubber's reference memory by frame index. -/
  refs : List Nat := []
  /-- ns; R241, R244; the instant of the commit, and the end of the next scrub pass. -/
  commitAt : Nat := 0
  passAt : Nat := 0
  /-- 16 bits; R240; CFGERR. -/
  cfgerr : Word := 0
  /-- 16 bits; R251; SCRUBCNT and SCRUBERR. -/
  scrubcnt : Nat := 0
  scruberr : Nat := 0
  /-- 16 bits; R251; LASTFRM. -/
  lastfrm : Word := 0
  /-- 16 bits; R251; PASSTIME in µs. -/
  passtime : Nat := 0
  /-- R247; errors found, by frame index and instant. -/
  errs : List (Nat × Nat) := []
  /-- R245; frames found in error that wait to be reloaded. -/
  reload : List Nat := []
  /-- 16 bits; R223, R251; CHBDEPTH. -/
  chbdepth : Nat := 0
  /-- 4 bits; R228, R251; BANKV of the image and as sensed. -/
  bankImg0 : Bool := false
  bankImg1 : Bool := false
  bankNow0 : Bool := false
  bankNow1 : Bool := false
  /-- 2 bits; R430, R533; the rail that feeds each bank, as known last: true VIO18. -/
  feed0 : Bool := false
  feed1 : Bool := false
  /-- 11, 6 and 3 bits; R251; FSEL, FWSEL, PRBSEL. -/
  fsel : Nat := 0
  fwsel : Nat := 0
  prbsel : Nat := 0
  /-- 8 probes; R249. -/
  probes : List Probe := List.replicate 8 {}
  /-- 16 bits; R250, R251; PRBERR. -/
  prberr : Word := 0
  /-- 16 bits; R224; S monitor gates. -/
  gate : List Bool := List.replicate 16 false
  /-- 2 bits; R224, R175; the timing watchdog of core 0 and core 1 holds. -/
  wd : List Bool := [true, true]
  /-- 16 × 2 × ns; R224; since when each leg's RB reads 1 while the owning core commands off. -/
  rbSince : List (Option Nat × Option Nat) := List.replicate 16 (none, none)
  /-- 2 bits; R119, R175; core 0 and core 1 have written their commands at the last boundary. -/
  wrote : List Bool := [true, true]
  /-- 16 counts; R225; boundaries in a row at which the gate is 0 while the core commands on. -/
  disagree : List Nat := List.replicate 16 0
  deriving DecidableEq, Repr

/-- The running state of the fabric's logic, which moves with time (R222). -/
structure Logic where
  /-- 1,536 bits; R211, R214; macrocell registers, and the macrocell outputs as the interconnect carries them. -/
  regs : List Bool := List.replicate 1536 false
  outs : List Bool := List.replicate 1536 false
  /-- 96 bits; R217, R219; the levels at the FIO pads, and those one period of PLL_C before. -/
  fio : List Bool := List.replicate 96 false
  fioWas : List Bool := List.replicate 96 false
  /-- 96 × (enable, level); R235; FIO outputs. -/
  fioOut : List (Bool × Bool) := List.replicate 96 (false, false)
  /-- 96 × 8 bits; R229; deserialiser words, the bits received since, newest at bit 7, and the bit count within a word. -/
  deser : List Byte := List.replicate 96 0
  shift : List Byte := List.replicate 96 0
  serPos : List Nat := List.replicate 96 0
  /-- 96 × 8 bits; R229; the word that a serialiser is sending. -/
  ser : List Byte := List.replicate 96 0
  /-- 96 bits; R229; the word boundary of a deserialiser is set. -/
  serSet : List Bool := List.replicate 96 false
  /-- 1 bit; R229; GOE has been on since the commit. -/
  goeSeen : Bool := false
  /-- 2 × counts; R217; GCLK2 and GCLK3 fed by an FIO: periods of PLL_C since the last rising edge, and between the last two. -/
  trees : List (Nat × Nat) := List.replicate 2 (1, 0)
  /-- R217; periods of PLL_C since the commit. -/
  tick : Nat := 0
  deriving DecidableEq, Repr

/-! ## The safety sheet (02) -/

/-- Why a record is at LOCAL, which decides how that LOCAL clears (R353). -/
inductive LocalCause where
  /-- The reset condition of the catalogue (R34, R86). -/
  | catalogue (src : Src)
  /-- R151. -/
  | motion (src : Src)
  /-- R172; the reset condition of an OUTGROUP is that of R105. -/
  | group (src : Src)
  /-- R105, by output. -/
  | output (n : Nat) (src : Src)
  /-- R339. -/
  | device (src : Src)
  /-- R558. -/
  | mapped (src : Src)
  /-- R322. -/
  | launch
  /-- R328. -/
  | whistle
  /-- R276, by slot. -/
  | collar (slot : Nat)
  /-- R316, by connection. -/
  | conn (index : Nat)
  deriving DecidableEq, Repr

/-- A LOCAL of a record, with the RECNO of the fault record it belongs to (R349). -/
structure LocalEnt where
  cause : LocalCause
  recno : Nat
  deriving DecidableEq, Repr

/-- What both channels share of a sheet record: LOCAL, start-up test and cross-check. -/
structure InstCom where
  /-- R35; the LOCALs in force. -/
  locals : List LocalEnt := []
  /-- 1 bit; R34, R89; an opening that counts has been validated since the record went to LOCAL. -/
  rcOpen : Bool := false
  /-- 1 bit; R57; the start-up test is pending. -/
  stPend : Bool := false
  /-- 1 bit; R57; the opening of the start-up test has been validated. -/
  stOpen : Bool := false
  /-- 1 bit; R57; the pair of the record's door stood open when it was last looked at. -/
  seen : Bool := false
  /-- ns; R151, R172; since when the motion condition holds, or an OUTGROUP is at the LOCAL of an error in kennel RAM. -/
  motSince : Option Nat := none
  /-- 1 bit; R15; channel B's b0 as last captured. -/
  cap : Bool := false
  /-- 1 bit; R15; a capture of this cycle exists. -/
  capOk : Bool := false
  /-- 1 bit; R15; the last comparison differed. -/
  diff : Bool := false
  /-- 1 bit; R15; the point is held at 0 until SAFE is left. -/
  forced : Bool := false
  /-- 1 bit; R189; the value of the last solo cycle. -/
  soloVal : Bool := false
  /-- 0–3; R190; paired cycles of the hand-over window that differed from it. -/
  hoDiff : Nat := 0
  deriving DecidableEq, Repr

/-- One channel's state of a sheet record. -/
structure InstSt where
  /-- 8 bits; 02; the result word. -/
  res : Byte := 0
  /-- 1 bit; R37 both pairs have been 0 together; R42 muting granted; R51 the permit is unbroken. -/
  arm : Bool := false
  /-- ns; R36, R37, R38, R43, R52; the running timer of the record; yard time for channel A's category-1 delay. -/
  since : Option Nat := none
  /-- 1 bit; R34 DON has passed; R38 SWITCHT has passed; R43 MAXT has passed. -/
  fired : Bool := false
  /-- R146; the counter c of an SDI. -/
  cnt : Nat := 0
  /-- 1 bit; R146; an SLS has counted a normal period below PLIM; an SLP's position was in its window. -/
  viol : Bool := false
  /-- 1 bit; R146; standstill confirmed. -/
  still : Bool := false
  /-- R153; the guard span of a MUTE: bit 0 position invalid, bit 1 anomaly, bit 2 channel difference. -/
  span : Option Nat := none
  /-- R152; an entry that waits for its grant decision: the guard span's bits and the instant of the entry edge. -/
  entry : Option (Nat × Nat) := none
  /-- 1 bit; R105; an OUTGROUP that left the LOCAL of an output fault waits for an MRESET pulse, whatever its SRC1. -/
  need : Bool := false
  /-- 1 bit; R208; an energise of this OUTGROUP was refused: without SRC1 its permit must be 0 first. -/
  shut : Bool := false
  deriving DecidableEq, Repr

/-- A loaded sheet (R28). -/
structure Sheet where
  /-- 1 bit; R63; LOADED. -/
  loaded : Bool := false
  /-- 2 bits; R28; CYCLE code. -/
  cycle : Nat := 0
  /-- COUNT × 16 bytes; R28; the records. -/
  recs : List (List Byte) := []
  /-- 32 bits; R28; SHEET_CRC. -/
  crc : BitVec 32 := 0
  com : List InstCom := []
  /-- Channel A's and channel B's state of every record. -/
  a : List InstSt := []
  b : List InstSt := []
  /-- 1 bit; R40; a validated reset pulse that the next cycle presents. -/
  pulseIn : Bool := false
  /-- 1 bit; R40; the pulse of the cycle in hand. -/
  pulse : Bool := false
  /-- ns; R354; the first edge of the actuation behind those pulses. -/
  from_ : Nat := 0
  /-- 1 bit; R41, R361, R433; the actuation in progress is discarded for this sheet's MRESET. -/
  ackBad : Bool := false
  deriving DecidableEq, Repr

structure SheetPage where
  /-- 16 bits; R62, R63; ERR. -/
  err : Word := 0
  /-- 16 bits; R63; INST_SEL. -/
  isel : Nat := 0
  /-- 1 bit; R55; the start hold, source 0xA2A. -/
  hold : Bool := true
  /-- 2 bits; R40; the levels of ACKA and ACKB. -/
  ackA : Bool := false
  ackB : Bool := true
  /-- ns; R41; since when the two pins are in their present state. -/
  ackSince : Nat := 0
  /-- ns; R354; the first edge of the actuation in progress. -/
  ackFirst : Option Nat := none
  /-- ns; R40; the last edge of each pin into its actuated state, and back, in that actuation. -/
  ackOnA : Option Nat := none
  ackOnB : Option Nat := none
  ackOffA : Option Nat := none
  ackOffB : Option Nat := none
  /-- 32 bits; R90, R134; validated values as channel A last read them. -/
  rdPairs : List Bool := List.replicate 32 false
  /-- 2 × COUNT bits; R340; LOCAL flags as channel A last read them. -/
  rdLoc0 : List Bool := []
  rdLoc1 : List Bool := []
  /-- 2 × 32 bits; R191; validated values and wheel counts of the last solo read. -/
  soloPairs : List Bool := []
  soloCnts : List Nat := []
  /-- 1 bit; R191; the MRESET pulse of that read. -/
  soloPulse : Bool := false
  /-- 64 × 128 bits and 64 payloads; R191; collar data and yard payloads of that read. -/
  soloColl : List (BitVec 64 × BitVec 64) := []
  soloYard : List (List Byte) := []
  /-- 1 bit; R184; the cycle in hand began with a solo core. -/
  rdSolo : Bool := false
  /-- ns and yard ns; R134; the instant and the yard time of channel A's last read. -/
  rdAt : Nat := 0
  rdYt : Nat := 0
  deriving DecidableEq, Repr

/-! ## Safe inputs (03) -/

/-- One channel of a pair in one validator copy. -/
structure ChanV where
  /-- R432; the filtered level, undefined at entry into ARMED from LOAD. -/
  lvl : Option Bool := none
  /-- 1 bit; R79; the level being filtered. -/
  cand : Bool := false
  /-- ns; R79; unblanked time already counted, and since when the timer runs. -/
  acc : Nat := 0
  run : Option Nat := none
  /-- ns; R78; the end of the blanking window in force. -/
  blank : Option Nat := none
  /-- R84; the check sample of the window in force. -/
  chk : Option Bool := none
  /-- R84; the latest verdict: true for a miss. -/
  miss : Option Bool := none
  /-- ns; R82; the start of a low excursion that may still be tolerated. -/
  low : Option Nat := none
  /-- ns; R83; since when the channel reads 1 without a tolerated excursion. -/
  high : Option Nat := none
  deriving DecidableEq, Repr

/-- One validator copy's state of a pair. -/
structure PairV where
  a : ChanV := {}
  b : ChanV := {}
  /-- 1 bit; R80; the latched pair fault. -/
  fault : Bool := false
  /-- 3 bits; R90; CAUSE. -/
  cause : Nat := 0
  /-- ns; R81; since when the filtered levels differ. -/
  disc : Option Nat := none
  /-- 1 bit; R81; SIN_DISC has been raised for this difference. -/
  fired : Bool := false
  /-- 1 bit; R86; both channels have been filtered 0 together since the fault. -/
  clr0 : Bool := false
  /-- 2 bits; R86; a pass verdict of each channel since then. -/
  clrA : Bool := false
  clrB : Bool := false
  deriving DecidableEq, Repr

structure InPair where
  /-- R71; MODE, TPSRC, FILT, SETTLE, OSSDTOL, OSSDCHK, DISC. -/
  mode : Nat := 0
  srcA : Nat := 0
  srcB : Nat := 0
  filt : Nat := 0
  settle : Nat := 0
  ossdtol : Nat := 0
  ossdchk : Nat := 0
  disc : Nat := 0
  /-- 2 bits; R90, R430; levels of the two pins: the latest samples (RAWA, RAWB) wherever the pins are sampled. -/
  rawA : Bool := false
  rawB : Bool := false
  /-- The copies that report to channel A and to channel B (R77). -/
  va : PairV := {}
  vb : PairV := {}
  /-- 2 × 8 bits; R90; PMISS. -/
  missA : Nat := 0
  missB : Nat := 0
  deriving DecidableEq, Repr

structure TpLine where
  /-- R70; WIDTH in µs, PERIOD in ms, PHASE in µs, and TPEN. -/
  on : Bool := false
  width : Nat := 0
  period : Nat := 0
  phase : Nat := 0
  /-- 1 bit; R72; the level that the schedule of the line asks for; the pin is `State.tpPad`. -/
  level : Bool := false
  /-- R72; the dark pulse in progress: its start. -/
  dark : Option Nat := none
  /-- R94; the index of the last pulse issued on the schedule, plus 1. -/
  next : Nat := 0
  /-- 16 bits; R90; TPCNT. -/
  cnt : Nat := 0
  deriving DecidableEq, Repr

structure Sin where
  pairs : List InPair := List.replicate 32 {}
  tp : List TpLine := List.replicate 8 {}
  /-- 16 bits; R76, R90; CFGERR. -/
  cfgerr : Word := 0
  /-- 5 and 3 bits; R90; PSEL, TSEL. -/
  psel : Nat := 0
  tsel : Nat := 0
  deriving DecidableEq, Repr

/-! ## Safe outputs, the muzzle and BARK (04) -/

/-- One leg of an output. -/
structure LegSt where
  /-- 1 bit; R12; the command of the leg's channel. -/
  cmd : Bool := false
  /-- 1 bit; R14, R560; the launch gate. -/
  gate : Bool := false
  /-- 1 bit; R95; the DRV level at the pad. -/
  pad : Bool := false
  /-- 1 bit; R99; the RB pin. -/
  rb : Bool := false
  /-- ns; R102; since when the drive is low for a de-energise, and RB reads 1 after it. -/
  lowAt : Nat := 0
  live : Option Nat := none
  /-- ns; R107; since when a driven-high leg reads 0. -/
  oc : Option Nat := none
  /-- ns; R110; the end of the suspension of the overcurrent check. -/
  susp : Nat := 0
  /-- 1 bit; R106; the leg has conducted since the release. -/
  conducted : Bool := false
  /-- 1 bit; R125; a de-energise of the output has ended a dark test of the leg, which stays low until its drive is taken away. -/
  kept : Bool := false
  /-- R108; dark tests that have fallen due on the schedule. -/
  dueCnt : Nat := 0
  /-- 1 bit; R111; a test that has fallen due is deferred. -/
  deferred : Bool := false
  /-- 1 bit; R124; last verdict pass. -/
  pass : Bool := false
  /-- 16 bits; R124; DARKTP or DARKTM. -/
  dtime : Nat := 0xFFFF
  deriving DecidableEq, Repr

structure OutSt where
  /-- R100; MODE in use, OFFDLY, SWBLANK, OCFILT, DARKPER, DARKW. -/
  used : Bool := false
  offdly : Nat := 0
  swblank : Nat := 0
  ocfilt : Nat := 0
  darkper : Nat := 0
  darkw : Nat := 0
  p : LegSt := {}
  m : LegSt := {}
  /-- 1 bit; R102; the force-off gate is closed. -/
  force : Bool := false
  /-- 1 bit; R103; latched until power-up. -/
  latch : Bool := false
  /-- 2 bits; R104, R124; SOUT_RB and SOUT_OC raised, until R105 clears the fault. -/
  rbFlt : Bool := false
  ocFlt : Bool := false
  /-- ns; R105; since when both pads are low and both RB pins read 0, and since when with the force-off gate closed as well. -/
  idle : Option Nat := none
  off : Option Nat := none
  /-- ns; R106; the end of the switch-on window. -/
  win : Option Nat := none
  /-- ns; R108; the start of the dark-test schedule. -/
  sched : Option Nat := none
  /-- 2 × 8 bits; R124; OCCNT. -/
  episodes : Nat := 0
  ocs : Nat := 0
  deriving DecidableEq, Repr

/-- A dark test in progress (R109). -/
structure DarkTest where
  out : Nat
  leg : Leg
  start : Nat
  /-- Since when RB reads 0. -/
  zero : Option Nat
  /-- When RB first read 0. -/
  first : Option Nat
  deriving DecidableEq, Repr

structure Sout where
  outs : List OutSt := List.replicate 16 {}
  /-- 1 bit; R114, R124; the muzzle is open. -/
  open_ : Bool := true
  /-- 6 bits; R124; sources that have triggered since the muzzle last closed: bit 0 CMP to bit 5 DEBUG. -/
  trig : Nat := 0
  /-- 1 bit; R117, R124; GATEOK. -/
  gateOk : Bool := false
  /-- ns; R95, R117; the end of the gate test, until which the DRV pads are high-impedance. -/
  gateTill : Nat := 0
  /-- 1 bit; R115, R124; MUZZLE_N is recognised low. -/
  ext : Bool := false
  /-- 2 bits; R118; BARK_A and BARK_B. -/
  barkA : Bool := false
  barkB : Bool := false
  /-- ns; R121; the last level change of each. -/
  barkAat : Nat := 0
  barkBat : Nat := 0
  /-- 1 bit; R121; both pins held low. -/
  barkHold : Bool := false
  /-- 2 bits; R124; BARK_MON raised by each pin. -/
  monA : Bool := false
  monB : Bool := false
  /-- R111; the dark test in progress, and when the last one ended. -/
  test : Option DarkTest := none
  testEnd : Option Nat := none
  /-- 1 bit; R561; the readback checks apply. -/
  checks : Bool := false
  /-- 16 bits; R101; CFGERR. -/
  cfgerr : Word := 0
  /-- 4 bits; R124; OSEL. -/
  osel : Nat := 0
  deriving DecidableEq, Repr

/-! ## Speed, position and direction (05) -/

/-- One channel's count of a wheel. Its instants are yard time in channel A, the part's own time in channel B (R134). -/
structure WheelCh where
  /-- 10 bits; R128; the count modulo TEETH. -/
  cnt : Nat := 0
  /-- 2 bits; R141, R142; position and speed valid. -/
  posOk : Bool := false
  spdOk : Bool := true
  /-- µs; R137; the predicted period. -/
  ppred : Option Nat := none
  /-- 1 bit; R156; the last tooth counted down. -/
  down : Bool := false
  /-- 1 bit; R137; a tooth has been counted. -/
  any : Bool := false
  /-- ns; R129; the last counted TWnA rise in each direction. -/
  lastUp : Option Nat := none
  lastDn : Option Nat := none
  /-- 10 ns units; R156; the last counted period. -/
  per : Nat := 0
  /-- µs; R156; the last period counted as normal. -/
  norm : Option Nat := none
  /-- 1 bit; R141; an anomaly since the last normal period. -/
  anom : Bool := false
  /-- R142; consecutive counted teeth in one direction without an anomaly. -/
  good : Nat := 0
  /-- 2 bits; R128; the levels of TWnA and TWnB. -/
  lvA : Bool := false
  lvB : Bool := false
  /-- ns; R139; the last edge of each pin. -/
  edgeA : Option Nat := none
  edgeB : Option Nat := none
  /-- R139; an edge of TWnA, and one of TWnB, that wait for MINW: instant and level. -/
  pend : Option (Nat × Bool) := none
  pendB : Option (Nat × Bool) := none
  /-- 1 bit; R128, R139; the level of TWnB without its discarded edges. -/
  setB : Bool := false
  /-- R140; rises of each pin without an edge of the other, discarded edges apart. -/
  stuckA : Nat := 0
  stuckB : Nat := 0
  /-- ns; R146; the last edge of either pin, discarded edges among them. -/
  last : Nat := 0
  /-- ns; R144; the last validated 0-to-1 change of REFPAIR, until the next tooth. -/
  refAt : Option Nat := none
  /-- 1 bit; R144; the validated value of REFPAIR as last seen. -/
  refVal : Bool := false
  /-- At most 128; R150; the last counted teeth: instant in ns and the position after them where it was valid, newest first. -/
  hist : List (Nat × Option Nat) := []
  deriving DecidableEq, Repr

/-- A TW edge with its timestamp in yard time, on its way to the kennel (R134). -/
structure Edge where
  wheel : Nat
  pin : Chan
  level : Bool
  at_ : Nat
  deriving DecidableEq, Repr

structure Wheel where
  /-- R130; MODE in use, TOLT, TEETH, MINW, REFPAIR, REFTOOTH, CHKSPD, XOFS, XTOLA, XTOLS. -/
  used : Bool := false
  tolt : Nat := 0
  teeth : Nat := 0
  minw : Nat := 0
  refpair : Nat := 0
  reftooth : Nat := 0
  chkspd : Nat := 0
  xofs : Nat := 0
  xtola : Nat := 0
  xtols : Nat := 0
  a : WheelCh := {}
  b : WheelCh := {}
  /-- 10 bits; R135, R156; channel B's count as last latched. -/
  cntB : Nat := 0
  /-- 1 bit; R135; the counts differed by more than TOLT at the last comparison. -/
  far : Bool := false
  /-- 2 bits; R136; the counts differed by a tooth or more at the last comparison, and at the one before too. -/
  near : Bool := false
  diff : Bool := false
  /-- 1 bit; R135; the disagreement in force has raised MOT_DISC. -/
  disc : Bool := false
  /-- 2 × 8 bits; R156; ANOM. -/
  discarded : Nat := 0
  inferred : Nat := 0
  /-- 3 bits; R156; DIAG last anomaly. -/
  diag : Nat := 0
  deriving DecidableEq, Repr

structure Mot where
  wheels : List Wheel := List.replicate 2 {}
  /-- 1 bit; R156; WSEL. -/
  wsel : Nat := 0
  /-- 16 bits; R133; CFGERR. -/
  cfgerr : Word := 0
  /-- 16 bits; R154, R156; SCHED. -/
  sched : Word := 0
  deriving DecidableEq, Repr

/-! ## Collars (08) -/

/-- One channel's state of a slot. -/
structure SlotCh where
  /-- R275; DSTATE (channel A) or the checker's state (channel B). -/
  ds : DState := .absent
  /-- R269; whether a sample has been accepted since the slot entered JOINING, its SEQ and its sample time in µs. -/
  has : Bool := false
  seq0 : Nat := 0
  t0 : Nat := 0
  /-- R268; the latest accepted sample: the time its age runs from in µs, its data, UNSYNC, DIAG. -/
  got : Bool := false
  at_ : Nat := 0
  dataA : BitVec 64 := 0
  dataB : BitVec 64 := 0
  unsync : Bool := false
  diag : Word := 0
  /-- 16 bits; R284; SEQ of the last accepted sample. -/
  seq : Nat := 0
  /-- R275; samples of consecutive ticks accepted, all synced, and the last such tick. -/
  run : Nat := 0
  tick : Nat := 0
  /-- R271; consecutive refreshes missed, and the next tick whose deadline is open, in µs. -/
  misses : Nat := 0
  next : Nat := 0
  /-- µs; R271; ticks from `next` on of which a sample has been accepted, and the last ticks counted as missed. -/
  gotTicks : List Nat := []
  missed : List Nat := []
  /-- ns; R278; the check-2 failures of the last 1,000 ms. -/
  crcAt : List Nat := []
  deriving DecidableEq, Repr

structure Slot where
  /-- R261; MODE bound, head, REFRESH code, K, MAXAGE in ms, BINDID. -/
  bound : Bool := false
  head : Nat := 0
  refresh : Nat := 0
  k : Nat := 0
  maxage : Nat := 0
  bindid : BitVec 32 := 0
  a : SlotCh := {}
  b : SlotCh := {}
  /-- R279; MSTATE. -/
  ms : DState := .absent
  /-- R284; CCRCERR, CMISS (16 bits each), entries into LOST and QUARANTINED (8 bits each). -/
  crcerr : Nat := 0
  miss : Nat := 0
  losts : Nat := 0
  quars : Nat := 0
  /-- R280; input reads in a row with MSTATE LIVE and DSTATE not, and whether this episode has raised COL_VIEW. -/
  view : Nat := 0
  viewUp : Bool := false
  /-- 16 bits; R284; CAGE. -/
  age : Nat := 0xFFFF
  deriving DecidableEq, Repr

/-- A condition record (R262). -/
structure Cond where
  kind : Nat
  slot : Nat
  mode : Nat
  pos : Nat
  tol : Nat
  limit : Nat
  deriving DecidableEq, Repr

/-- A port frame with its head, and its arrival (R259) and its delivery to the kennel (R271) in yard time ns. -/
structure PortFrame where
  port : Nat
  bytes : List Byte
  arr : Nat
  del : Nat
  deriving DecidableEq, Repr

structure RadioPort where
  /-- 1 bit; R255, R261; the head is enabled by the committed table. -/
  on : Bool := false
  /-- µs; R261; HEADDLY. -/
  headdly : Nat := 0
  /-- 1 bit; R284; the head is answering. -/
  answering : Bool := false
  /-- 1 bit; R255; RPn_SCK runs. RPn_DO and RPn_FRM are `RadioPort.frmNow` and `RadioPort.doNow`. -/
  sck : Bool := false
  /-- R259; outbound frames: beacon requests first. -/
  beacons : List (List Byte) := []
  mgmt : List (List Byte) := []
  /-- Yard ns; R265, R505; the start of the transfer that carries the queued beacon request. -/
  bhold : Nat := 0
  /-- R256; the frame last sent. -/
  sent : List Byte := []
  /-- ns; R256; the instant from which the next transfer may start. -/
  last : Nat := 0
  /-- ns; R256; the last bit of the transfer whose inbound frame is still to come. -/
  inAt : Option Nat := none
  /-- 16 bits; R265; beacon sequence number. -/
  bseq : Nat := 0
  /-- ns; R265; yard time of the last reference symbol asked for. -/
  bref : Nat := 0
  /-- 2 × 8 bits; R284; PORTERR and BCNMISS. -/
  err : Nat := 0
  bmiss : Nat := 0
  deriving DecidableEq, Repr

structure Col where
  /-- 1 bit; R275; the collar table has been committed. -/
  committed : Bool := false
  /-- 3 bits; R261; SAMPOFS. -/
  sampofs : Nat := 0
  /-- 7 bits; R261; QCRC. -/
  qcrc : Nat := 0
  slots : List Slot := List.replicate 64 {}
  conds : List Cond := []
  /-- R150; synced samples accepted since the last input read: slot, sample time in µs, channel-A and channel-B data. -/
  third : List (Nat × Nat × BitVec 64 × BitVec 64) := []
  /-- 128 bits; R273; remote bits 0xB00 to 0xB7F. -/
  remote : List Bool := List.replicate 128 false
  ports : List RadioPort := List.replicate 2 {}
  /-- 6 bits; R284; CSEL. -/
  csel : Nat := 0
  /-- 16 bits; R263, R284; CFGERR and LASTDROP. -/
  cfgerr : Word := 0
  lastdrop : Word := 0
  deriving DecidableEq, Repr

/-! ## The yard (09) -/

/-- A safety frame that a channel takes at an instant (R314). -/
structure SFrame where
  seq : Nat
  tstamp : Nat
  unsync : Bool
  data : List Byte
  /-- It echoes the latest nonce (R317). -/
  echo : Bool
  /-- The yard time of its arrival (R313). -/
  arr : Nat
  /-- The yard time at which channel B takes it (R314). -/
  due : Nat
  deriving DecidableEq, Repr

/-- One channel's state of a consume connection. -/
structure ConnCh where
  ds : DState := .absent
  /-- R313, R317; SEQ0 and the last accepted TSTAMP, once a frame has been accepted since JOINING. -/
  has : Bool := false
  seq0 : Nat := 0
  ts : Nat := 0
  /-- The latest accepted frame: UNSYNC and payload (R315). -/
  got : Bool := false
  unsync : Bool := false
  data : List Byte := []
  /-- R317; further frames with d = 1 and UNSYNC clear. -/
  run : Nat := 0
  /-- Yard ns; R313; the last entry into JOINING. -/
  joined : Nat := 0
  /-- R316; input reads in a row without an accepted frame, and whether one was accepted since the last read. -/
  reads : Nat := 0
  took : Bool := false
  /-- ns; R318; check-2 failures of the last 1,000 ms. -/
  crcAt : List Nat := []
  /-- R314; accepted frames that wait for TSTAMP + DLVY. -/
  wait : List SFrame := []
  deriving DecidableEq, Repr

structure Conn where
  /-- R307; MODE (0 unused, 1 consume, 2 produce), LEN, CONNID, PEER, BCAST, WDOG, MAXAGE in µs, DLVY in µs, CTAG. -/
  mode : Nat := 0
  len : Nat := 0
  id : Nat := 0
  peer : Nat := 0
  bcast : Bool := false
  wdog : Nat := 0
  maxage : Nat := 0
  dlvy : Nat := 0
  ctag : BitVec 32 := 0
  a : ConnCh := {}
  b : ConnCh := {}
  ms : DState := .absent
  /-- 16 bits; R317; the latest nonce sent, and when. -/
  nonce : Nat := 0
  openAt : Option Nat := none
  /-- R330; CCRCERR (16 bits), entries into LOST and QUARANTINED (8 bits each), CAGE. -/
  crcerr : Nat := 0
  losts : Nat := 0
  quars : Nat := 0
  age : Nat := 0xFFFF
  view : Nat := 0
  viewUp : Bool := false
  /-- Produce: R312 SEQ; R317 nonces to echo with their consumers; the payload bits of channel A's YARDOUTs. -/
  pseq : Nat := 0
  echoes : List (Nat × Nat) := []
  payload : List Byte := []
  deriving DecidableEq, Repr

/-- What a port transmitter puts on the line (R296). -/
inductive TxItem where
  | whistle (bytes : List Byte) (aborted : Bool)
  | ack (seq : Nat)
  | frame (bytes : List Byte)
  deriving DecidableEq, Repr

/-- A frame sent and not yet acknowledged (R295). -/
structure Unack where
  bytes : List Byte
  attempts : Nat
  sentAt : Nat
  deriving DecidableEq, Repr

structure YPort where
  /-- 1 bit; R306; enabled by the table. -/
  on : Bool := false
  /-- 2 bits; R294, R330; UP, hello mismatch. -/
  up : Bool := false
  bad : Bool := false
  /-- 16 bits; R293; node ID in the neighbour's last hello. -/
  nbr : Nat := 0
  /-- 8, 16 and 16 bits; R330; port-down events, PRETRY, PCRCERR. -/
  downs : Nat := 0
  retry : Nat := 0
  err : Nat := 0
  /-- R296; queues in priority order. -/
  qw : List (List Byte × Bool) := []
  qa : List Nat := []
  qt : List (List Byte) := []
  qs : List (List Byte) := []
  qm : List (List Byte) := []
  qh : List (List Byte) := []
  /-- R295; frames to send again, unacknowledged frames, the next LSEQ to give and the next expected. -/
  again : List Unack := []
  unack : List Unack := []
  lseq : Nat := 0
  lexp : Nat := 0
  /-- The item last put on the line. -/
  sent : Option TxItem := none
  /-- ns; R296; the end of the frame or whistle on the line, and that frame as it is to be sent again if a whistle aborts it: whether
  it is sequenced, and its bytes. -/
  lineTill : Nat := 0
  onLine : Option (Bool × List Byte) := none
  /-- R296; a sequenced frame that a whistle has aborted. -/
  redo : Option (List Byte) := none
  /-- ns; R294, R300; the last hello and the last exchange started. -/
  helloAt : Option Nat := none
  exchAt : Option Nat := none
  /-- 16 bits; R300; exchange sequence. -/
  xseq : Nat := 0
  /-- 128 bytes; R306; routing map of YP1 and YP2, bit by segment. -/
  route : List Byte := []
  deriving DecidableEq, Repr

/-- A pending energise launch (R320). -/
structure Launch where
  sheet : Nat
  group : Nat
  /-- Launch time in yard ns. -/
  time : Nat
  deriving DecidableEq, Repr

structure Yard where
  /-- R299; yard time runs; its value at an instant; rate correction in ppb. -/
  runs : Bool := false
  base : Nat := 0
  baseAt : Nat := 0
  rate : Int := 0
  /-- R301; sync state and the counts and times that move it. -/
  sync : SyncState := .unlocked
  goodRun : Nat := 0
  badRun : Nat := 0
  lastExch : Nat := 0
  holdAt : Nat := 0
  /-- R300; an exchange in progress: sequence, t1, t2, t3. -/
  xch : Option (Nat × Nat × Nat × Nat) := none
  /-- ns; R330; last o and last path delay. -/
  offset : Int := 0
  delay : Nat := 0
  /-- R301, R330; the state upstream reports, and upstream PERTURBED. -/
  up : SyncState := .unlocked
  upPert : Bool := false
  /-- 16 bits; R330; UPSEEN. -/
  upSeen : Nat := 0
  /-- 1 bit; R306; the yard table has been committed. -/
  committed : Bool := false
  /-- R306; header fields. -/
  node : Nat := 0
  root : Bool := false
  depth : Nat := 0
  upnode : Nat := 0
  lockwait : Nat := 0
  wlead : Nat := 0
  worig0 : Nat := 0
  worig1 : Nat := 0
  wstop0 : Nat := 0
  wstop1 : Nat := 0
  ports : List YPort := List.replicate 3 {}
  conns : List Conn := List.replicate 64 {}
  /-- R308; YARDIN records: connection index and bit; and remote bits 0xB80 to 0xBFE. -/
  yins : List (Nat × Nat) := []
  remote : List Bool := List.replicate 127 false
  /-- R320; pending launches. -/
  pend : List Launch := []
  /-- 16 bits; R321, R330; LCANCEL. -/
  lcancel : Word := 0
  /-- R323; WSEQ. -/
  wseq : Nat := 0
  /-- R325; whistles seen: origin, sequence and instant. -/
  seen : List (Nat × Nat × Nat) := []
  /-- R326, R327; LTIME and ORIGIN of the pending stop. -/
  wpend : Option (Nat × Nat) := none
  /-- R328; since when a stop is in force. -/
  wforce : Option Nat := none
  /-- 1 bit; R308; index 0xBFF. -/
  wclear : Bool := true
  /-- 8 bits; R330; whistles received. -/
  wcnt : Nat := 0
  /-- R330; ORIGIN and LTIME of the last whistle acted on, and the latch of WLTIME2 to WLTIME0. -/
  worigin : Nat := 0
  wltime : Nat := 0
  wlatch : Nat := 0
  /-- R476; management frames held for YARD_MRECV (source, payload), and one lost. -/
  mrecv : List (Nat × List Byte) := []
  mlost : Bool := false
  /-- 2, 6 bits; R330; PSEL, CSEL. -/
  psel : Nat := 0
  csel : Nat := 0
  /-- 16 bits; R309; CFGERR. -/
  cfgerr : Word := 0
  deriving DecidableEq, Repr

/-! ## Faults (10) -/

/-- A fault record's content (R344). -/
structure FRec where
  recno : Nat
  ytime : Nat
  srcmap : Nat
  first : Nat
  cls : Cls
  closed : Bool
  fromSnap : Bool
  solo : Bool
  perturbed : Bool
  syncLost : Bool
  merges : Nat
  detail : Nat
  rstate : Nat
  dur : Nat
  deriving DecidableEq, Repr

/-- The open record (R347). -/
structure OpenRec where
  r : FRec
  /-- ns; the instant it opened. -/
  at_ : Nat
  /-- The first write to the ring is done. -/
  written : Bool
  /-- A merge waits for the rewrite at the cycle end (R348). -/
  dirty : Bool
  /-- ns; R341; the occurrence of the latest LOCAL. -/
  locAt : Nat
  deriving DecidableEq, Repr

structure Flt where
  /-- 1 bit; R423; COLL is out of reset. -/
  on : Bool := false
  /-- 64 bits; R334; FSTAT. -/
  fstat : Nat := 0
  /-- ns; R348; COLL's release out of reset, and the 1,000 µs intervals since then that have ended. -/
  onAt : Nat := 0
  coll : Nat := 0
  /-- 64 bits; R562; lasting error lines that are active. -/
  line : Nat := 0
  /-- 2 × 64 bits; R562; the sources latched in the COLL sample of an instant, and those of effective class STOP or CUT. -/
  smp : Nat := 0
  smpStop : Nat := 0
  smpAt : Nat := 0
  /-- 41 × ns; R339, R351, R558; the last occurrence, or the last instant of a lasting line. -/
  occ : List (Option Nat) := List.replicate 41 none
  /-- 16 bytes; R337; the class map. -/
  map : List Byte := List.replicate 16 0
  /-- R347; the open record. -/
  rec? : Option OpenRec := none
  /-- R346; the highest RECNO given. -/
  recno : Nat := 0
  /-- 16 bits; R359; FREC_HEAD's full number. -/
  head : Nat := 0
  /-- R347, R348; contents that wait to be written, in order; whether the write is a record's first. -/
  due : List (FRec × Bool) := []
  /-- R348, R401; contents whose write was aborted or blocked. -/
  blocked : List (FRec × Bool) := []
  /-- R351; sources of the opening sample of the last records, with its instant. -/
  opened : List (Nat × Nat) := []
  /-- R347, R351; NOTEs suppressed in the last COLL sample that suppressed any (FSTAT bit, DETAIL), its instant, and whether
  ALERT_SRC[7] was set before. -/
  supNow : List (Nat × Nat) := []
  supAt : Nat := 0
  supAlert : Bool := false
  /-- 16 bits; R360; NOTESUP without that sample. -/
  notesup : Nat := 0
  /-- R354; since when item 1 holds. -/
  item1 : Option Nat := some 0
  /-- 1 bit; R188, R449; a condition that lasts until power-up. -/
  lasting : Bool := false
  /-- 2 × 8 bits; R360; WRERR. -/
  wrAband : Nat := 0
  wrBad : Nat := 0
  /-- 1 bit; R360; CUTPREV. -/
  cutprev : Bool := false
  /-- R360; RIDX, RWSEL, CSEL, the read buffer. -/
  ridx : Nat := 0
  rwsel : Nat := 0
  csel : Nat := 0
  buf : List Byte := List.replicate 32 0
  /-- 16 bits; R338; CFGERR. -/
  cfgerr : Word := 0
  deriving DecidableEq, Repr

/-! ## The farrier (14) -/

structure Farr where
  /-- R450; ORIGIN, BUSY, FAILHOLD. -/
  origin : FarrOrigin := .none
  busy : Bool := false
  failHold : Bool := false
  /-- 5 bits; R450; CURTEST. -/
  cur : Nat := 0
  /-- ns; R441; start of the running test, end of the last one, start of the set. -/
  startAt : Nat := 0
  endAt : Nat := 0
  setAt : Nat := 0
  /-- R441; tests of the set still to run. -/
  todo : List Nat := []
  /-- 1 bit; R452; a fault of class STOP or higher has been raised during the set. -/
  stopped : Bool := false
  /-- 1 bit; R443; the start-up set has passed. -/
  setOk : Bool := false
  /-- 13 bits; R450; SEL, PASS, FAIL. -/
  sel : Nat := 0
  pass : Nat := 0
  fail : Nat := 0
  /-- 6 bits; R442; BUDGET. -/
  budget : Nat := 0x2D
  /-- 16 bits; R445, R450; REFUSE and FIRSTFAIL. -/
  refuse : Word := 0
  firstFail : Word := 0
  /-- 5 bits; R450; RSEL. -/
  rsel : Nat := 0
  /-- 13 × 32 bits; R450; results by code − 1. -/
  results : List (BitVec 32) := List.replicate 13 0
  /-- 13 × 16 bits; R450; durations in µs. -/
  durs : List Nat := List.replicate 13 0
  /-- 16 bits; R450; SETDUR and HOSTCNT. -/
  setdur : Nat := 0
  hostcnt : Nat := 0
  /-- R447; tests run in the present host run. -/
  ran : List Nat := []
  deriving DecidableEq, Repr

/-! ## Control port and mailbox (15) -/

/-- The mailbox command that runs (R472, R473): the arguments as read at its start. -/
structure Mbx where
  code : Nat
  tag : Nat
  arg0 : Word
  arg1 : Word
  buf : List Byte
  deriving DecidableEq, Repr

structure Cp where
  /-- 1 bit; R423, R470; the CTRL island is out of reset. -/
  on : Bool := false
  /-- 5 bits; R457; status bits [4:0] of the last frame. -/
  st : Nat := 0
  /-- ns; R454; the end and the word count of the last write frame. -/
  wrEnd : Option (Nat × Nat) := none
  /-- R457; what CP_SDO carried in the last frame. -/
  sdo : List Byte := []
  /-- 16 bits; R467; ALERT_EN, ALERT_SRC. -/
  alertEn : Nat := 0
  alertSrc : Nat := 0
  /-- R469; bits that events have set at this instant. -/
  alertNow : Nat := 0
  alertAt : Nat := 0
  /-- 1 bit; R470; CP_ALERT_N driven low. -/
  alertN : Bool := false
  /-- 64 bits; R467; the latch of YTIME. -/
  ylatch : Nat := 0
  /-- 16 bits; R467; CYCLE. -/
  cycle : Nat := 0
  /-- 16 bits; R467; HOSTCMD, HOSTARG0, HOSTARG1, HOSTRESP. -/
  hostcmd : Word := 0
  arg0 : Word := 0
  arg1 : Word := 0
  resp : Word := 0
  /-- 2 × 8 bits; R467; CP_ERRCNT. -/
  crcErr : Nat := 0
  frmErr : Nat := 0
  /-- 128 bytes; R467; MBUF. -/
  mbuf : List Byte := List.replicate 128 0
  /-- 4 bits; R467; PAGE. -/
  page : Nat := 0
  /-- R472; the command that runs. -/
  mbx : Option Mbx := none
  /-- R435, R436; a request the kennel has accepted for the cycle end: true to enter MAINT. -/
  maint : Option Bool := none
  deriving DecidableEq, Repr

/-! ## Images and life cycle (16) -/

structure Img where
  /-- 5 × 3 antifuses; R495; L0 to L3 and LV, read by majority: shipped in BLANK. -/
  fuses : List (List Bool) :=
    [[true, true, true], [false, false, false], [false, false, false], [false, false, false], [false, false, false]]
  /-- 256 bits; R483; key antifuses, when burnt; and the enrolled hash of the life-cycle record. -/
  keyFuse : Option (List Byte) := none
  keyEnr : Option (List Byte) := none
  /-- 1 bit; R498; ERASED of the life-cycle record. -/
  erased : Bool := false
  /-- 1 bit; R498; an erasure is in progress, and the instant it completed. -/
  erasing : Bool := false
  erasedAt : Option Nat := none
  /-- 1 bit; R489, R502; running bank, and whether one has been loaded since power-up. -/
  cfgAct : Nat := 0
  running : Bool := false
  /-- 16 bits; R502; CFGVER. -/
  cfgver : Nat := 0
  /-- 1 bit; R490, R502; PENDING. -/
  pending : Bool := false
  /-- R493, R502; LOFTACT, LOFTFB, NOLOFT, the loft runs, LOFT_VER. -/
  loftAct : Nat := 0
  loftFb : Bool := false
  noLoft : Bool := false
  loft : Bool := false
  loftVer : Nat := 0
  /-- R484, R502; the open sequence: kind, verified, and WBLOCKS. -/
  seqOpen : Option Nat := none
  verified : Bool := false
  wblocks : Nat := 0
  /-- 16 bits; R502; CFGERR, VERR, LCLAST. -/
  cfgerr : Word := 0
  verr : Word := 0
  lclast : Word := 0
  /-- 5 bits; R502; XSEL. -/
  xsel : Nat := 0
  /-- R467; arrangement check: AGREED, IMGARR. -/
  agreed : Bool := false
  imgArr : Bool := false
  deriving DecidableEq, Repr

/-! ## Spook controls (17) -/

structure Spook where
  /-- 1 bit; R511; EN. -/
  en : Bool := false
  /-- Selectors; R515; HSSEL, FIFOSEL, YPSEL, RPSEL, CKSEL. -/
  hssel : Nat := 0
  fifosel : Nat := 0
  ypsel : Nat := 0
  rpsel : Nat := 0
  cksel : Nat := 0
  /-- 11 × 8 bits; R505; handshake delays. -/
  hs : List Nat := List.replicate 11 0
  /-- 10 × 16 bits; R505; FIFOBP words. -/
  bp : List Nat := List.replicate 10 0
  /-- 3 × 16 bits; R505; YDLY, YDROP, YCORR words. -/
  ydly : List Nat := List.replicate 3 0
  ydrop : List Nat := List.replicate 3 0
  ycorr : List Nat := List.replicate 3 0
  /-- 2 × 16 bits; R505; RDROP and BDLY words. -/
  rdrop : List Nat := List.replicate 2 0
  bdly : List Nat := List.replicate 2 0
  /-- 6 × 7 bits; R505; CKDEV words. -/
  ckdev : List Nat := List.replicate 6 0
  /-- R507; frames counted towards N, by port. -/
  ydropN : List Nat := List.replicate 3 0
  ycorrN : List Nat := List.replicate 3 0
  rdropN : List Nat := List.replicate 2 0
  /-- R515; YCNT and RCNT bytes. -/
  dropped : Nat := 0
  corrupted : Nat := 0
  rcnt : List Nat := List.replicate 2 0
  deriving DecidableEq, Repr

/-- What the inter-island FIFOs carry (R417). -/
inductive Datum where
  | input (pair : Nat) (value : Bool) (at_ : Nat)
  | edge (e : Edge)
  | commands (sheet : Nat) (map : Nat)
  | bark
  | dark (out : Nat)
  | port (f : PortFrame)
  | safety (port : Nat) (bytes : List Byte) (arr : Nat)
  | mgmt (src : Nat) (payload : List Byte)
  | tx (port : Nat) (prio : Nat) (bytes : List Byte)
  | radio (port : Nat) (bytes : List Byte)
  | request (code : Nat)
  deriving DecidableEq, Repr

structure Fifo where
  /-- R417; entries in order, and data held back by a full FIFO. -/
  q : List Datum := []
  held : List Datum := []
  deriving DecidableEq, Repr

/-- The state of the H64. -/
structure State where
  /-- ns; the part's own time. -/
  now : Nat := 0
  /-- The MODEL's own: how many free values have been read (notes/assumptions/2.md). -/
  free : Nat := 0
  seq : Seq := {}
  clk : Clk := {}
  pair : Pair := {}
  fab : Fab := {}
  logic : Logic := {}
  /-- 02; sheet 0 and sheet 1. -/
  sh0 : Sheet := {}
  sh1 : Sheet := {}
  sp : SheetPage := {}
  sin : Sin := {}
  sout : Sout := {}
  mot : Mot := {}
  col : Col := {}
  yard : Yard := {}
  flt : Flt := {}
  farr : Farr := {}
  cp : Cp := {}
  img : Img := {}
  spook : Spook := {}
  /-- 10 FIFOs; R417. -/
  fifos : List Fifo := List.replicate 10 {}
  /-- 8 MiB; R478; the MRAM. -/
  mram : Mem := []
  /-- The commands that wait, first in, first out. -/
  pending : List Instr := []
  deriving DecidableEq, Repr

/-- The machine right after reset: power-on reset held, every field at its reset value. -/
def State.reset : State := {}

end Sys2Proof.Machine
end

