-- ==== Sys2Proof/Machine/Memory.lean ====
section
/-!
DEFINITION. Memory by byte address: the MRAM (R478), the fabric's configuration cells and reference memory (R231,
R241), and kennel RAM by word (R168). One canonical form: addresses strictly rising, nothing listed that reads as an
unlisted address does, which is 0.
-/
namespace Sys2Proof.Machine

/-- The byte at an address. -/
def Mem.read : Mem → Nat → Byte
  | [], _ => 0
  | (k, v) :: m, a => if k = a then v else if a < k then 0 else Mem.read m a

/-- The memory with a byte written; 0 unlists the address. -/
def Mem.write : Mem → Nat → Byte → Mem
  | [], a, v => if v = 0 then [] else [(a, v)]
  | (k, w) :: m, a, v =>
    if a < k then (if v = 0 then (k, w) :: m else (a, v) :: (k, w) :: m)
    else if a = k then (if v = 0 then m else (a, v) :: m)
    else (k, w) :: Mem.write m a v

/-- Every listed address is at least a bound, the addresses rise strictly, and no listed byte is 0. -/
def Mem.wfFrom : Nat → Mem → Bool
  | _, [] => true
  | lo, (k, v) :: m => decide (lo ≤ k) && v != 0 && Mem.wfFrom (k + 1) m

/-- The canonical form. -/
def Mem.wf (m : Mem) : Bool := Mem.wfFrom 0 m

/-- The next `n` bytes of a memory whose listed addresses are at least `a`. -/
def Mem.span : Nat → Nat → Mem → List Byte
  | 0, _, _ => []
  | n + 1, a, [] => 0 :: Mem.span n (a + 1) []
  | n + 1, a, (k, v) :: m => if k = a then v :: Mem.span n (a + 1) m else 0 :: Mem.span n (a + 1) ((k, v) :: m)

/-- `n` bytes from an address. -/
def Mem.readN (m : Mem) (a n : Nat) : List Byte := Mem.span n a (m.dropWhile (fun c => c.1 < a))

/-- The memory with bytes written from an address. -/
def Mem.writeN (m : Mem) (a : Nat) : List Byte → Mem
  | [] => m
  | b :: bs => Mem.writeN (m.write a b) (a + 1) bs

/-- The memory without the bytes of an address range (erasure writes 0x00, R498). -/
def Mem.erase (m : Mem) (lo hi : Nat) : Mem := m.filter (fun c => c.1 < lo || hi ≤ c.1)

/-- The indexes of the slots of `size` bytes from `base` to `top` that list a byte. -/
def Mem.slots (m : Mem) (base size top : Nat) : List Nat :=
  m.foldr (fun c l =>
    if base ≤ c.1 && c.1 < top then
      match l with
      | [] => [(c.1 - base) / size]
      | j :: js => if (c.1 - base) / size = j then l else (c.1 - base) / size :: j :: js
    else l) []

/-- A word of kennel RAM whose content is known. -/
def kramRead : List (Nat × BitVec 32) → Nat → Option (BitVec 32)
  | [], _ => none
  | (k, v) :: m, a => if k = a then some v else if a < k then none else kramRead m a

/-- Kennel RAM with a word written. -/
def kramWrite : List (Nat × BitVec 32) → Nat → BitVec 32 → List (Nat × BitVec 32)
  | [], a, v => [(a, v)]
  | (k, w) :: m, a, v =>
    if a < k then (a, v) :: (k, w) :: m else if a = k then (a, v) :: m else (k, w) :: kramWrite m a v

/-- Known words by index, rising. -/
def kramWf : List (Nat × BitVec 32) → Bool
  | [] => true
  | [_] => true
  | (k, _) :: (j, w) :: m => decide (k < j) && kramWf ((j, w) :: m)

/-! ## The MRAM map (R478) -/

def cfgBankBase (bank : Nat) : Nat := if bank = 0 then 0x000000 else 0x180000
def cfgBankSize : Nat := 0x180000
def loftBankBase (bank : Nat) : Nat := if bank = 0 then 0x300000 else 0x400000
def loftBankSize : Nat := 0x100000
def faultRing : Nat := 0x500000
def snapRing : Nat := 0x520000
def logsBase : Nat := 0x500000
def logsEnd : Nat := 0x600000
def paramBase : Nat := 0x600000
def paramEnd : Nat := 0x680000
def lcRecord : Nat := 0x600080

/-- The commit-record slots of a kind: 0 configuration, 1 loft (R487). -/
def commitSlot (kind slot : Nat) : Nat := 0x600000 + 0x40 * kind + 0x20 * slot

end Sys2Proof.Machine
end

