-- ==== Sys2Proof/Machine/Operands.lean ====
section
/-!
DEFINITION. The operand forms of the configuration: the sheet's instance records and signal references (02), the
catalogue's functions, and what the companion tables name by index.
-/
namespace Sys2Proof.Machine

/-- The catalogue functions (R34). -/
inductive Fn where
  | estop | guard | curtain | twohand | enable | modesel | mreset | mute | sls | slp | sdi | sstill
  | andF | orF | notToSafe | delay | collarin | yardin | yardout | outgroup
  deriving DecidableEq, Repr

/-- The function of a TYPE code (R34). -/
def fnOf : Nat → Option Fn
  | 0x01 => some .estop
  | 0x02 => some .guard
  | 0x03 => some .curtain
  | 0x04 => some .twohand
  | 0x05 => some .enable
  | 0x06 => some .modesel
  | 0x07 => some .mreset
  | 0x08 => some .mute
  | 0x10 => some .sls
  | 0x11 => some .slp
  | 0x12 => some .sdi
  | 0x13 => some .sstill
  | 0x20 => some .andF
  | 0x21 => some .orF
  | 0x22 => some .notToSafe
  | 0x23 => some .delay
  | 0x30 => some .collarin
  | 0x31 => some .yardin
  | 0x32 => some .yardout
  | 0x40 => some .outgroup
  | _ => none

/-- How many result bits a function defines (R34). -/
def fnBits : Fn → Nat
  | .modesel => 4
  | .guard => 2
  | .mute => 2
  | .outgroup => 2
  | _ => 1

/-! ## Instance records (R30, R31, R34) -/

def rFn (r : List Byte) : Option Fn := fnOf (byteAt r 0)
def rIs (f : Fn) (r : List Byte) : Bool := rFn r == some f
/-- FLAGS[7] CHECK. -/
def rCheck (r : List Byte) : Bool := bit (byteAt r 1) 7
/-- FLAGS[6] STARTUP. -/
def rStartup (r : List Byte) : Bool := bit (byteAt r 1) 6
/-- SRCk: SRC0 to SRC2 in bytes 2 to 7, SRC3 to SRC6 in bytes 8 to 15. -/
def rSrc (r : List Byte) (k : Nat) : Nat := beAt r (2 + 2 * k) 2
/-- A PARAM byte and a PARAM field of two bytes. -/
def rB (r : List Byte) (i : Nat) : Nat := byteAt r i
def rW (r : List Byte) (i : Nat) : Nat := beAt r i 2

/-- The kind of a signal reference, SRC[15:12] (R31). -/
def srcKind (v : Nat) : Nat := field v 15 12
/-- The pair of an INPUT reference. -/
def srcPair (v : Nat) : Nat := field v 4 0
/-- The instance index of a RESULT reference. -/
def srcIdx (v : Nat) : Nat := field v 8 0
/-- The result bit of a RESULT reference. -/
def srcBit (v : Nat) : Nat := field v 11 9

/-- The source positions that a function's record holds as signal references (R34). -/
def fnSrcs : Fn → List Nat
  | .modesel => [0, 1, 2, 3]
  | .andF => [0, 1, 2, 3, 4, 5, 6]
  | .orF => [0, 1, 2, 3, 4, 5, 6]
  | _ => [0, 1, 2]

/-- The signal references of a record. -/
def rRefs (r : List Byte) : List Nat :=
  match rFn r with
  | some f => (fnSrcs f).map (rSrc r)
  | none => []

/-- The input pairs that a record names (R33). -/
def rPairs (r : List Byte) : List Nat := ((rRefs r).filter (fun v => srcKind v == 1)).map srcPair

/-- The pair whose opening counts for a record's reset condition and start-up test (R34, R57): the door of a GUARD. -/
def rDoor (r : List Byte) : Nat := srcPair (rSrc r 0)

/-- The instances that a record names by RESULT references. -/
def rResults (r : List Byte) : List Nat := ((rRefs r).filter (fun v => srcKind v == 2)).map srcIdx

/-- The motion functions, which name a wheel (R135: MUTE, SLS, SLP, SDI, SSTILL). -/
def rMotion (r : List Byte) : Bool :=
  match rFn r with
  | some .mute => true
  | some .sls => true
  | some .slp => true
  | some .sdi => true
  | some .sstill => true
  | _ => false

def rWheel (r : List Byte) : Nat := rB r 8
def rXslot (r : List Byte) : Nat := rB r 12
/-- The collar slot that a record reads: SLOT of a COLLARIN, XSLOT of an SLS; 0 for none (R282). -/
def rSlot (r : List Byte) : Nat :=
  match rFn r with
  | some .collarin => rB r 8
  | some .sls => rXslot r
  | _ => 0
def rConnid (r : List Byte) : Nat := rW r 8
def rOutmask (r : List Byte) : Nat := rW r 8
def rCat (r : List Byte) : Nat := rB r 10
/-- OUTGROUP DELAY in ns. -/
def rDelayNs (r : List Byte) : Nat := rW r 12 * 1000000
def rLofs (r : List Byte) : Nat := rB r 14

/-- Marks of the instances that are seeds or depend on a seed through RESULT references (R32 makes one forward pass
enough). -/
def fedBy (seed : Nat → List Byte → Bool) (recs : List (List Byte)) : List Bool :=
  recs.foldl (fun marks r => marks ++ [seed marks.length r || (rResults r).any (nth false marks)]) []

/-- The record indexes of the OUTGROUPs of a sheet, in OUTGROUP index order (R30). -/
def ogRecs (recs : List (List Byte)) : List Nat := idxsWhere (rIs .outgroup) recs 0

/-- The OUTGROUP index of a record (R30). -/
def ogIndex (recs : List (List Byte)) (i : Nat) : Nat := ((recs.take i).filter (rIs .outgroup)).length

/-- A position lies in a window taken in the count-up direction, both ends included (R42, R146). -/
def inWindow (teeth pos lo hi : Nat) : Bool :=
  decide ((pos + teeth - lo % teeth) % teeth ≤ (hi + teeth - lo % teeth) % teeth)

/-- The period at a speed in 0.01 rpm, in µs: PLIM and PCHK (R137, R146). -/
def periodAt (teeth speed : Nat) : Nat := (6000000000 + teeth * speed - 1) / (teeth * speed)

/-- A 16-bit field of collar data at a byte offset (R266). -/
def collarField (d : BitVec 64) (pos : Nat) : Nat := field d.toNat (63 - 8 * pos) (48 - 8 * pos)

/-- The condition of a COLLARIN mode on both data copies (R34, R273). -/
def collarCond (mode pos tol limit : Nat) (a b : BitVec 64) : Bool :=
  match mode with
  | 0 => bit a.toNat pos && bit b.toNat pos
  | 1 => decide (collarField a pos ≤ limit) && decide (collarField b pos ≤ limit) &&
      decide ((collarField a pos : Int) - collarField b pos ≤ tol) &&
      decide ((collarField b pos : Int) - collarField a pos ≤ tol)
  | _ => decide (limit ≤ collarField a pos) && decide (limit ≤ collarField b pos) &&
      decide ((collarField a pos : Int) - collarField b pos ≤ tol) &&
      decide ((collarField b pos : Int) - collarField a pos ≤ tol)


/-- The minimum class of a source (R336). -/
def minClass : Src → Cls
  | .cmp => .stop
  | .leadEcc => .stop
  | .heelEcc => .stop
  | .kramEcc => .note
  | .fabScrub => .note
  | .fabChan => .stop
  | .handover => .stop
  | .sinDisc => .loc
  | .sinXshort => .loc
  | .sinStuck => .loc
  | .sinStartup => .note
  | .soutRb => .loc
  | .soutShort => .stop
  | .soutOc => .loc
  | .motDisc => .loc
  | .motTooth => .note
  | .motLimit => .loc
  | .colLost => .loc
  | .colCrc => .note
  | .colView => .note
  | .yardLink => .note
  | .yardWdog => .loc
  | .yardSync => .note
  | .whistle => .loc
  | .launch => .loc
  | .seqPg => .cut
  | .seqVin => .note
  | .seqSlow => .note
  | .clkMon => .stop
  | .temp => .stop
  | .groomWdog => .note
  | .loftAuth => .note
  | .image => .stop
  | .farrier => .stop
  | .muzzleExt => .stop
  | .cpProto => .note
  | .spook => .note
  | .debugHalt => .stop
  | .barkMon => .stop
  | .lifecycle => .note
  | .sheet => .stop

/-- The sources whose scope at LOCAL is "Device" (R336). -/
def deviceScope : Src → Bool
  | .fabScrub => true
  | .sinStartup => true
  | .yardSync => true
  | .seqVin => true
  | .seqSlow => true
  | .groomWdog => true
  | .loftAuth => true
  | .cpProto => true
  | .spook => true
  | .lifecycle => true
  | _ => false

/-- The DETAIL of an instance: index, bit 9 the sheet (R336). -/
def instDetail (k i : Nat) : Nat := i % 512 + 512 * k

end Sys2Proof.Machine
end

