-- ==== Sys2Proof/Machine/Ops.lean ====
section
/-!
DEFINITION. The named operations over the state that every family shares: access by index, time, alerts, snapshots, the
cut, LOCAL, and how a raised error is latched, recorded and answered (10).
-/
namespace Sys2Proof.Machine

/-! ## Access by index -/

def State.sheet (s : State) (k : Nat) : Sheet := if k = 0 then s.sh0 else s.sh1
def State.modSheet (s : State) (k : Nat) (f : Sheet → Sheet) : State :=
  if k = 0 then { s with sh0 := f s.sh0 } else { s with sh1 := f s.sh1 }
def State.modCom (s : State) (k i : Nat) (f : InstCom → InstCom) : State :=
  s.modSheet k (fun h => { h with com := updAt f h.com i })
def State.com (s : State) (k i : Nat) : InstCom := nth {} (s.sheet k).com i
def State.recAt (s : State) (k i : Nat) : List Byte := nth [] (s.sheet k).recs i
def State.out (s : State) (n : Nat) : OutSt := nth {} s.sout.outs n
def State.modOut (s : State) (n : Nat) (f : OutSt → OutSt) : State :=
  { s with sout := { s.sout with outs := updAt f s.sout.outs n } }
def State.mapOuts (s : State) (f : Nat → OutSt → OutSt) : State :=
  { s with sout := { s.sout with outs := mapIdx f s.sout.outs } }
def OutSt.leg (o : OutSt) : Leg → LegSt
  | .p => o.p
  | .m => o.m
def OutSt.modLeg (o : OutSt) (l : Leg) (f : LegSt → LegSt) : OutSt :=
  match l with
  | .p => { o with p := f o.p }
  | .m => { o with m := f o.m }
def State.modLeg (s : State) (n : Nat) (l : Leg) (f : LegSt → LegSt) : State := s.modOut n (fun o => o.modLeg l f)
def State.inPair (s : State) (n : Nat) : InPair := nth {} s.sin.pairs n
def State.modPair (s : State) (n : Nat) (f : InPair → InPair) : State :=
  { s with sin := { s.sin with pairs := updAt f s.sin.pairs n } }
def State.mapPairs (s : State) (f : Nat → InPair → InPair) : State :=
  { s with sin := { s.sin with pairs := mapIdx f s.sin.pairs } }
def State.tp (s : State) (n : Nat) : TpLine := nth {} s.sin.tp n
def State.modTp (s : State) (n : Nat) (f : TpLine → TpLine) : State :=
  { s with sin := { s.sin with tp := updAt f s.sin.tp n } }
def State.wheel (s : State) (n : Nat) : Wheel := nth {} s.mot.wheels n
def State.modWheel (s : State) (n : Nat) (f : Wheel → Wheel) : State :=
  { s with mot := { s.mot with wheels := updAt f s.mot.wheels n } }
def State.slot (s : State) (n : Nat) : Slot := nth {} s.col.slots n
def State.modSlot (s : State) (n : Nat) (f : Slot → Slot) : State :=
  { s with col := { s.col with slots := updAt f s.col.slots n } }
def State.radio (s : State) (n : Nat) : RadioPort := nth {} s.col.ports n
def State.modRadio (s : State) (n : Nat) (f : RadioPort → RadioPort) : State :=
  { s with col := { s.col with ports := updAt f s.col.ports n } }
def State.conn (s : State) (n : Nat) : Conn := nth {} s.yard.conns n
def State.modConn (s : State) (n : Nat) (f : Conn → Conn) : State :=
  { s with yard := { s.yard with conns := updAt f s.yard.conns n } }
def State.yport (s : State) (n : Nat) : YPort := nth {} s.yard.ports n
def State.modYport (s : State) (n : Nat) (f : YPort → YPort) : State :=
  { s with yard := { s.yard with ports := updAt f s.yard.ports n } }
def State.fifo (s : State) (n : Nat) : Fifo := nth {} s.fifos n
def State.modFifo (s : State) (n : Nat) (f : Fifo → Fifo) : State := { s with fifos := updAt f s.fifos n }

/-- The validated value of a pair in one validator copy (R80). -/
def PairV.value (v : PairV) : Bool := v.a.lvl == some true && v.b.lvl == some true && !v.fault

/-- The loaded sheets. -/
def State.sheets (s : State) : List Nat := (if s.sh0.loaded then [0] else []) ++ (if s.sh1.loaded then [1] else [])

/-- The indexes of a record list with their records. -/
def indexed (recs : List (List Byte)) : List (Nat × List Byte) := mapIdx (fun i r => (i, r)) recs

/-- The instances of the loaded sheets for which a test holds (sheet, index, record). -/
def State.insts (s : State) (p : Nat → Nat → List Byte → Bool) : List (Nat × Nat) :=
  s.sheets.flatMap (fun k => ((indexed (s.sheet k).recs).filter (fun e => p k e.1 e.2)).map (fun e => (k, e.1)))

/-! ## Time -/

def us : Nat := 1000
def ms : Nat := 1000000

/-- Yard time in ns (R299): its base, what has passed, and the rate correction of R302. -/
def State.ytime (s : State) : Nat :=
  if s.yard.runs then
    ((s.yard.base + (s.now - s.yard.baseAt) : Int) + ((s.now - s.yard.baseAt : Nat) : Int) * s.yard.rate / 1000000000).toNat
  else 0

/-- The safety cycle of a CYCLE code in ns (R28). -/
def cycleNs : Nat → Nat
  | 0 => 250000
  | 1 => 500000
  | 2 => 1000000
  | _ => 2000000

/-- t_cyc of the loaded sheets (R28, R29). -/
def State.tcyc (s : State) : Nat := cycleNs s.sh0.cycle

/-- The sequenced rails are up and the islands out of reset: the part executes. -/
def State.live (s : State) : Bool := s.clk.rs != .off && s.clk.rs != .cut

/-- The kennel runs safety cycles (R348). -/
def State.cycles (s : State) : Bool :=
  match s.clk.rs with
  | .armed => !s.clk.held
  | .run => true
  | .safe => true
  | .maint => true
  | _ => false

/-- Yard time has reached the next multiple of t_cyc since channel A's last read (R305). -/
def State.boundaryDue (s : State) : Bool := decide (s.sp.rdYt / s.tcyc < s.ytime / s.tcyc)

/-- The yard time of the cycle boundary in hand. -/
def State.boundaryYt (s : State) : Nat := s.ytime / s.tcyc * s.tcyc

/-- The present instant is a cycle boundary, whether its commands are written already or not. -/
def State.atBoundary (s : State) : Bool := s.cycles && (s.boundaryDue || s.sp.rdAt == s.now)

/-- RUNSTATE[9] (R512). -/
def State.perturbed (s : State) : Bool := s.spook.en

/-- RUNSTATE (R22). -/
def State.runstate (s : State) : Nat :=
  s.clk.rs.code + flag s.pair.solo 8 + flag s.perturbed 9 + flag (s.yard.sync == .syncLost) 10 + flag s.seq.holdup 11

/-- A free value: the machine produces some value that the manual does not give. The counter moves on. -/
def State.fresh (s : State) : State := { s with free := s.free + 1 }

/-! ## The lines of a radio port (R255, R256) -/

/-- The time of a transfer, from one frame start to the next: 353 SCK periods; and from its start to its last bit (R256). -/
def transferNs : Nat := 7060
def frameNs : Nat := 6420

/-- RPn_FRM and RPn_DO at an instant (R255, R256): FRM is high for the SCK period before bit 0, and each byte goes out most significant
bit first; both are low between transfers (DO: DESIGN CHOICE, notes/assumptions/113.md). -/
def RadioPort.frmNow (r : RadioPort) (now : Nat) : Bool := r.sck && decide (r.last - transferNs ≤ now) && decide (now < r.last - transferNs + 20) && r.last != 0
def RadioPort.doNow (r : RadioPort) (now : Nat) : Bool :=
  let k := (now - (r.last - transferNs)) / 20
  r.sck && decide (1 ≤ k) && decide (k ≤ 320) && bit (byteAt r.sent ((k - 1) / 8)) (7 - (k - 1) % 8)

/-! ## Alerts (R358, R468, R469) -/

/-- An event sets a bit of ALERT_SRC, while the CTRL island is out of reset. -/
def State.alert (s : State) (n : Nat) : State :=
  if !s.cp.on then s
  else { s with cp := { s.cp with
      alertSrc := s.cp.alertSrc ||| 2 ^ n
      alertNow := (if s.cp.alertAt = s.now then s.cp.alertNow else 0) ||| 2 ^ n
      alertAt := s.now } }

/-- A status bit that the present write sets (R457, R465). -/
def State.frameBit (s : State) (n : Nat) : State := { s with cp := { s.cp with st := s.cp.st ||| 2 ^ n } }

/-- The mailbox command in hand ends (R472): HOSTRESP takes its TAG and RESULT (R474, R468 bit 8). -/
def State.mbxEnd (s : State) (result : Nat) : State :=
  match s.cp.mbx with
  | some m => ({ s with cp := { s.cp with mbx := none, resp := w16 (m.tag % 256 * 256 + result) } }).alert 8
  | none => s

/-- The groom core stops: no loft runs, and the mailbox command in hand ends ABORTED (R474). -/
def State.loftStop (s : State) : State := ({ s with img := { s.img with loft := false, noLoft := false, loftVer := 0 } }).mbxEnd 8

/-! ## Snapshots (R403 to R407) -/

/-- The content of a snapshot event as latched. -/
def State.snapOf (s : State) (cause csrc : Nat) : Snap :=
  { cause := cause, csrc := csrc
    ytime := match s.seq.ytickAt with
      | some a => s.seq.ytick + (s.now - a)
      | none => s.now - s.seq.porAt
    localTime := s.seq.ytickAt.isNone
    pgmap := bitmap s.seq.pg, enmap := bitmap s.seq.en, ramps := s.seq.ramp, vin := s.seq.vin, temps := s.seq.temps
    fstat := s.flt.fstat % 2 ^ 32, rstate := s.clk.rs.code, holdup := s.seq.holdup
    syncLost := s.yard.sync == .syncLost, perturbed := s.perturbed
    cut := decide (4 ≤ cause) && decide (cause ≤ 7), at_ := s.now }

/-- A queue with an event put in: last, but before the cut causes latched at the same instant (R407). -/
def snapInsert (e : Snap) : List Snap → List Snap
  | [] => [e]
  | x :: xs => if x.cut && x.at_ = e.at_ && !e.cut then e :: x :: xs else x :: snapInsert e xs

/-- A snapshot event falls due: lost and counted while writes are blocked (R401) or when the queue of 8 is full
(R407). -/
def State.snap (s : State) (cause csrc : Nat) : State :=
  if s.seq.belowAbandon then { s with seq := { s.seq with snapBlocked := sat8 s.seq.snapBlocked } }
  else if 8 ≤ s.seq.snapQ.length then { s with seq := { s.seq with snapLost := sat8 s.seq.snapLost } }
  else { s with seq := { s.seq with snapQ := snapInsert (s.snapOf cause csrc) s.seq.snapQ } }

/-! ## Outputs that a reaction takes away -/

/-- Every pending launch is cancelled (R342). -/
def State.dropLaunches (s : State) : State := { s with yard := { s.yard with pend := [] } }

/-- The pending launch of one group is cancelled (R16). -/
def State.cancelLaunch (s : State) (k g : Nat) : State :=
  { s with yard := { s.yard with pend := s.yard.pend.filter (fun l => !(l.sheet == k && l.group == g)) } }

/-- A trigger source opens the muzzle (R114): bits as SOUT.MUZZLE[6:1]. -/
def State.trigger (s : State) (n : Nat) : State :=
  { s with sout := { s.sout with open_ := true, trig := s.sout.trig ||| 2 ^ n } }

def trigCmp : Nat := 0
def trigColl : Nat := 1
def trigSeq : Nat := 2
def trigClk : Nat := 3
def trigExt : Nat := 4
def trigDbg : Nat := 5

/-- BARK_A and BARK_B are held low (R121). -/
def State.holdBark (s : State) : State :=
  { s with sout := { s.sout with barkHold := true, barkA := false, barkB := false } }

/-- The cut (R393, R394): every SEQ_EN low together, so that no sequenced channel runs any more (R392), the muzzle open,
RUNSTATE CUT, which RESET_N does not end (R356). The pins of R430's column CUT follow: the control port no longer answers. -/
def State.cut (s : State) (cause csrc : Nat) : State :=
  let s := (s.snap cause csrc).trigger trigSeq
  let s := s.holdBark.dropLaunches
  { s with
    seq := { s.seq with
      en := List.replicate 8 false, phase := .off, wait := .idle, todo := []
      run := mapIdx (fun ch r => r && decide (5 ≤ ch) && nth 0 s.seq.mode ch == 2) s.seq.run }
    clk := { s.clk with rs := .cut, held := false, warm := false }
    cp := { s.cp with on := false }
    img := { s.img with loft := false } }

/-- RUNSTATE becomes SAFE, or is held under R343 (R358 bit 2); in SAFE, HALTED, OFF and CUT it stays. -/
def State.toSafe (s : State) : State :=
  let hold : State := if s.clk.held then s else ({ s with clk := { s.clk with held := true } }).alert 2
  let safe : State := ({ s with clk := { s.clk with rs := .safe } }).dropLaunches
  match s.clk.rs with
  | .boot => hold
  | .selftest => hold
  | .load => hold
  | .armed => if s.clk.mismatch then hold else safe
  | .run => safe
  | .maint => safe
  | _ => s

/-- The reaction of class STOP (R340, R342, R343): the collector opens the muzzle and the bark stops. -/
def State.stop (s : State) : State := ((s.trigger trigColl).holdBark).toSafe

/-! ## LOCAL (R35, R340, R353) -/

def InstCom.atLocal (c : InstCom) : Bool := !c.locals.isEmpty

/-- Every OUTGROUP of every loaded sheet. -/
def State.allGroups (s : State) : List (Nat × Nat) := s.insts (fun _ _ r => rIs .outgroup r)

/-- The OUTGROUPs at LOCAL of a sheet, by OUTGROUP index (LOCALG0, LOCALG1). -/
def Sheet.localGroups (h : Sheet) : List Bool := (ogRecs h.recs).map (fun i => (nth {} h.com i).atLocal)

/-- The segment of a node ID (R290). -/
def segOf (id : Nat) : Nat := id / 64

/-- A segment is set in the routing map of a port (R306). -/
def State.routes (s : State) (port seg : Nat) : Bool := bit (byteAt (s.yport port).route (seg / 8)) (seg % 8)

/-- The port beyond which a node's segment lies (R336, bit 20). -/
def State.portOf (s : State) (id : Nat) : Nat :=
  if s.routes 1 (segOf id) then 1 else if s.routes 2 (segOf id) then 2 else 0

/-- The index of the record of a CONNID with a given MODE (R307). -/
def connIndex (mode id : Nat) : List Conn → Nat → Option Nat
  | [], _ => none
  | c :: cs, i => if c.mode = mode && c.id = id then some i else connIndex mode id cs (i + 1)

def State.consumeIdx (s : State) (id : Nat) : Option Nat := connIndex 1 id s.yard.conns 0
def State.produceIdx (s : State) (id : Nat) : Option Nat := connIndex 2 id s.yard.conns 0

/-- The YARDIN instances of a connection record. -/
def State.yardinsOf (s : State) (c : Nat) : List (Nat × Nat) :=
  s.insts (fun _ _ r => rIs .yardin r && s.consumeIdx (rConnid r) == some c)

/-- The COLLARIN instances of a slot and the SLS instances that name it (R276). -/
def State.slotInsts (s : State) (n : Nat) : List (Nat × Nat) := s.insts (fun _ _ r => n != 0 && rSlot r == n)

/-- The scope at LOCAL of an occurrence (R336). -/
def State.scope (s : State) (src : Src) (detail : Nat) : List (Nat × Nat) :=
  let one : List (Nat × Nat) := [(detail / 512 % 2, detail % 512)]
  let pairUsers := s.insts (fun _ _ r => (rPairs r).any (· == detail))
  let group := s.insts (fun _ _ r => rIs .outgroup r && bit (rOutmask r) detail)
  match src with
  | .kramEcc => if detail = 0x03FF then [] else one
  | .sinDisc => if 0x8000 ≤ detail then one else pairUsers
  | .sinXshort => pairUsers
  | .sinStuck => pairUsers
  | .soutRb => group
  | .soutOc => group
  | .motDisc => s.insts (fun _ _ r => rMotion r && rWheel r == detail)
  | .motTooth => s.insts (fun _ _ r => rMotion r && rWheel r == detail)
  | .motLimit => one
  | .colLost => s.slotInsts detail
  | .colCrc => if 0x0100 ≤ detail then s.yardinsOf (detail - 0x0100) else s.slotInsts detail
  | .colView => if 0x0100 ≤ detail then s.yardinsOf (detail - 0x0100) else s.slotInsts detail
  | .yardLink => s.insts (fun _ _ r => rIs .yardin r &&
      match s.consumeIdx (rConnid r) with
      | some c => s.portOf (s.conn c).peer == detail
      | none => false)
  | .yardWdog => s.yardinsOf detail
  | .whistle => s.insts (fun k i r => rIs .outgroup r &&
      bit (if k = 0 then s.yard.wstop0 else s.yard.wstop1) (ogIndex (s.sheet k).recs i))
  | .launch => s.insts (fun k i r => rIs .outgroup r && k == detail / 16 && ogIndex (s.sheet k).recs i == detail % 16)
  | src => if deviceScope src then s.allGroups else []

/-- Why an instance goes to LOCAL, which decides how that LOCAL clears (R353, R558). -/
def localCause (src : Src) (detail : Nat) (r : List Byte) : LocalCause :=
  match src with
  | .sinDisc => .catalogue src
  | .sinXshort => .catalogue src
  | .sinStuck => .catalogue src
  | .soutRb => .output detail src
  | .soutOc => .output detail src
  | .motDisc => .motion src
  | .motLimit => .motion src
  | .colLost => .collar detail
  | .yardWdog => .conn detail
  | .whistle => .whistle
  | .launch => .launch
  | .kramEcc =>
    match rFn r with
    | some .mreset => .mapped src
    | some .andF => .mapped src
    | some .orF => .mapped src
    | some .notToSafe => .mapped src
    | some .delay => .mapped src
    | some .yardout => .mapped src
    | some .outgroup => .group src
    | some .mute => .mapped src
    | some .sls => .motion src
    | some .slp => .motion src
    | some .sdi => .motion src
    | some .sstill => .motion src
    | _ => .catalogue src
  | src => if deviceScope src then .device src else .mapped src

/-- One instance goes to LOCAL; a cause already in force belongs to the latest record that it has caused (R349). -/
def State.addLocal (s : State) (src : Src) (detail recno : Nat) (e : Nat × Nat) : State :=
  let c := localCause src detail (s.recAt e.1 e.2)
  let group := rIs .outgroup (s.recAt e.1 e.2)
  let entered := group && !(s.com e.1 e.2).atLocal
  let s := s.modCom e.1 e.2 (fun m =>
    if m.locals.any (fun x => x.cause == c) then
      { m with locals := m.locals.map (fun x => if x.cause == c && recno != 0 then { x with recno := recno } else x) }
    else { m with locals := m.locals ++ [{ cause := c, recno := recno }], rcOpen := false, motSince := none })
  if entered then s.alert 4 else s

/-- Pending launches of the groups that are in a scope or depend on it are cancelled (R340, R16). -/
def State.cancelAffected (s : State) (sc : List (Nat × Nat)) : State :=
  s.sheets.foldl (fun s k =>
    let recs := (s.sheet k).recs
    let marks := fedBy (fun i _ => sc.any (fun e => e.1 == k && e.2 == i)) recs
    { s with yard := { s.yard with pend := s.yard.pend.filter (fun l =>
        !(l.sheet == k && nth false marks (nth 512 (ogRecs recs) l.group))) } }) s

/-- The reaction of class LOCAL (R340). -/
def State.localReact (s : State) (src : Src) (detail recno : Nat) : State :=
  let sc := s.scope src detail
  (sc.foldl (fun s e => s.addLocal src detail recno e) s).cancelAffected sc

/-- Every LOCAL whose cause meets a test clears. -/
def State.clearLocals (s : State) (p : Nat → Nat → LocalCause → Bool) : State :=
  let one := fun (k : Nat) (h : Sheet) =>
    { h with com := mapIdx (fun i m => { m with locals := m.locals.filter (fun e => !p k i e.cause) }) h.com }
  { s with sh0 := one 0 s.sh0, sh1 := one 1 s.sh1 }

/-! ## Errors (R334, R337, R340, R347, R348, R351) -/

/-- The class map entry of a source (R337). -/
def State.mapEntry (s : State) (src : Src) : Cls :=
  Cls.ofCode (field (byteAt s.flt.map (src.bit / 4)) (2 * (src.bit % 4) + 1) (2 * (src.bit % 4)))

/-- The source is latched in the opening sample of a record less than 1,000 ms ago (R351). -/
def State.recentlyOpened (s : State) (b : Nat) : Bool :=
  s.flt.opened.any (fun e => e.1 == b && decide (s.now < e.2 + 1000 * ms))

/-- The NOTEs of this COLL sample are not suppressed after all: what they set in ALERT_SRC is taken back (R347, R358). -/
def State.unsup (s : State) : State :=
  { s with cp := { s.cp with alertSrc := s.cp.alertSrc &&& 0xFF7F, alertNow := s.cp.alertNow &&& 0xFF7F } }

/-- A record opens, with the NOTEs that the same COLL sample has suppressed (R347). -/
def State.openRecord (s : State) (b detail : Nat) (cls : Cls) : State :=
  let sup : List (Nat × Nat) := if s.flt.supAt = s.now then s.flt.supNow else []
  let first : Nat × Nat := sup.foldl (fun m e => if e.1 < m.1 then e else m) (b, detail)
  let r : FRec :=
    { recno := s.flt.recno + 1, ytime := s.ytime
      srcmap := sup.foldl (fun m e => m ||| 2 ^ e.1) (2 ^ b), first := first.1, cls := cls, closed := false
      fromSnap := false, solo := s.pair.solo, perturbed := s.perturbed, syncLost := s.yard.sync == .syncLost
      merges := Nat.min sup.length 0xFFFF, detail := first.2, rstate := s.clk.rs.code, dur := 0 }
  let s := { s with flt := { s.flt with
    rec? := some { r := r, at_ := s.now, written := false, dirty := false, locAt := s.now }
    recno := s.flt.recno + 1
    due := s.flt.due ++ [(r, true)]
    opened := (b, s.now) :: (sup.map (fun (e : Nat × Nat) => (e.1, s.now)) ++ s.flt.opened.filter (fun (e : Nat × Nat) => decide (s.now < e.2 + 1000 * ms)))
    supNow := if sup.isEmpty then s.flt.supNow else [] } }
  (if sup.isEmpty || s.flt.supAlert then s else s.unsup).alert 0

/-- A LOCAL reaction is complete: both channels hold every result in the scope at 0, and every output of an OUTGROUP in
the scope has both pad drives low (R340). -/
def State.localDone (s : State) (recno : Nat) : Bool :=
  s.sheets.all (fun k =>
    let h := s.sheet k
    (indexed h.recs).all (fun e =>
      !(nth {} h.com e.1).locals.any (fun x => x.recno == recno) ||
        ((nth {} h.a e.1).res == 0 && (s.pair.split || (nth {} h.b e.1).res == 0) &&
          (!rIs .outgroup e.2 || (mapIdx (fun n (o : OutSt) => !bit (rOutmask e.2) n || (!o.p.pad && !o.m.pad)) s.sout.outs).all id))))

/-- An error is merged into the open record: into its opening sample at the same instant (R347), else under R348. The 100 ms
of R341 run from the first LOCAL occurrence whose reaction is not complete. -/
def State.mergeRecord (s : State) (o : OpenRec) (b detail : Nat) (cls : Cls) : State :=
  let same := o.at_ == s.now
  let lower := same && decide (b < o.r.first)
  let r := { o.r with
    srcmap := o.r.srcmap ||| 2 ^ b, merges := sat16 o.r.merges, cls := Cls.max o.r.cls cls
    first := if lower then b else o.r.first, detail := if lower then detail else o.r.detail }
  { s with flt := { s.flt with
    rec? := some { o with r := r, dirty := if same && !o.written then o.dirty else true, locAt := if cls = .loc && (o.r.cls == .note || s.localDone o.r.recno) then s.now else o.locAt }
    due := if same then s.flt.due.map (fun e => if e.1.recno = r.recno then (r, e.2) else e) else s.flt.due
    opened := if same then (b, s.now) :: s.flt.opened else s.flt.opened } }

/-- A record whose write was aborted or blocked waits once, whatever is written to it meanwhile (R348, R401). -/
def holdRec (l : List (FRec × Bool)) (e : FRec × Bool) : List (FRec × Bool) :=
  if l.any (fun x => x.1.recno == e.1.recno) then l.map (fun x => if x.1.recno = e.1.recno then (e.1, x.2 || e.2) else x)
  else l ++ [e]

/-- A NOTE is suppressed (R351). -/
def State.suppress (s : State) (b detail : Nat) : State :=
  let f := s.flt
  let same := f.supAt == s.now
  let s := { s with flt := { f with
    notesup := if same then f.notesup else satAdd f.notesup f.supNow.length 0xFFFF
    supNow := (if same then f.supNow else []) ++ [(b, detail)], supAt := s.now
    supAlert := if same && !f.supNow.isEmpty then f.supAlert else bit s.cp.alertSrc 7 } }
  s.alert 7

/-- NOTESUP (R360). -/
def Flt.notesupNow (f : Flt) : Nat := satAdd f.notesup f.supNow.length 0xFFFF

/-- The record side of an occurrence. No record is written before a CUT (R352). -/
def State.record (s : State) (b detail : Nat) (cls : Cls) : State :=
  if cls = .cut then s
  else match s.flt.rec? with
    | some o => s.mergeRecord o b detail cls
    | none => if cls = .note && s.recentlyOpened b then s.suppress b detail else s.openRecord b detail cls

/-- The muzzle triggers beside the collector's (R114). -/
def ownTrigger : Src → Option Nat
  | .cmp => some trigCmp
  | .seqPg => some trigSeq
  | .clkMon => some trigClk
  | .muzzleExt => some trigExt
  | .debugHalt => some trigDbg
  | _ => none

/-- A cycle-entry restart (R163): both register files take identical initial values; only kennel RAM is carried over. -/
def State.cycleEntry (s : State) : State :=
  { s with pair := { s.pair with regs0 := List.replicate 34 0, regs1 := List.replicate 34 0, restart := false } }

/-- Kennel RAM takes contents that the manual does not give: those the kennel writes as it runs, or initialises it with. -/
def State.kramAnew (s : State) : State := { s.fresh with pair := { s.pair with kram := [], kgen := s.free } }

/-- What a host run restores of the pair after the tests that have run: kennel RAM and a cycle-entry restart (R447). The loft
starts again with LOFT_START, the fabric is empty and a looped port says hello since the test began. -/
def State.hostRestore (s : State) : State :=
  if s.farr.ran.any (fun c => c == 1 || c == 2 || c == 4 || c == 8) then s.kramAnew.cycleEntry else s

/-- A fault of class STOP or higher stops the farrier's set after the running test (R452), and between two tests at once; a host
run is then restored (R447). A debug halt does not (R205). -/
def State.farrStop (s : State) (src : Src) : State :=
  if s.farr.busy && src != .debugHalt then
    let s' : State := { s with farr := { s.farr with stopped := true, todo := [], busy := s.farr.cur != 0 } }
    if s.farr.cur = 0 && s.farr.origin == .host then s'.hostRestore else s'
  else s

/-- An error is raised, and answered by the reaction of its effective class alone, also where the class map makes a STOP of an error
whose rule sends an instance to LOCAL (DESIGN CHOICE, notes/assumptions/103.md): its effective class is the higher of the class
map's entry and the class the raising rule gives (R337); COLL latches it (R334), records it (R347 to R352), and its class reacts at once (R340). While COLL is in reset
nothing is latched. The sequencer itself cuts on SEQ_PG (R393). -/
def State.raise (s : State) (src : Src) (detail : Nat) (rule : Cls) : State :=
  if !s.flt.on then s
  else
    let cls := Cls.max (s.mapEntry src) rule
    let same := s.flt.smpAt == s.now
    let s := { s with flt := { s.flt with
      fstat := s.flt.fstat ||| 2 ^ src.bit, occ := setAt s.flt.occ src.bit (some s.now)
      smp := (if same then s.flt.smp else 0) ||| 2 ^ src.bit, smpAt := s.now
      smpStop := (if same then s.flt.smpStop else 0) ||| (if 2 ≤ cls.code then 2 ^ src.bit else 0)
      item1 := if 2 ≤ cls.code then some s.now else s.flt.item1 } }
    let s := s.record src.bit detail cls
    match cls with
    | .note => s
    | .loc => s.localReact src detail (match s.flt.rec? with | some o => o.r.recno | none => 0)
    | .stop =>
      let s := s.farrStop src
      match ownTrigger src with
      | some n => (s.trigger n).stop
      | none => s.stop
    | .cut => if src = .seqPg then s.trigger trigColl else (s.trigger trigColl).cut 0x07 src.bit

/-- An error at its source's minimum class. -/
def State.err (s : State) (src : Src) (detail : Nat) : State := s.raise src detail (minClass src)

/-- An error that lasts is active or not (R562). Going active is an occurrence; going inactive starts the time of R339
and R558. -/
def State.line (s : State) (src : Src) (active : Bool) (detail : Nat) : State :=
  let b := src.bit
  if active then
    if bit s.flt.line b then s else ({ s with flt := { s.flt with line := s.flt.line ||| 2 ^ b } }).err src detail
  else if bit s.flt.line b then
    { s with flt := { s.flt with line := s.flt.line ^^^ 2 ^ b, occ := setAt s.flt.occ b (some s.now) } }
  else s

/-- An error that lasts is active or not, without an occurrence of its own: its rule raises it. -/
def State.holdLine (s : State) (src : Src) (active : Bool) : State :=
  if active then { s with flt := { s.flt with line := s.flt.line ||| 2 ^ src.bit } } else s.line src false 0

/-- The error line of a source is active now: a lasting line, or an event of this COLL sample (R562). -/
def State.active (s : State) (b : Nat) : Bool := bit s.flt.line b || (s.flt.smpAt == s.now && bit s.flt.smp b)

/-- The lasting effective class of a source: the higher of its map entry and its minimum class. -/
def State.srcClass (s : State) (src : Src) : Cls := Cls.max (s.mapEntry src) (minClass src)

/-- A source of effective class STOP or CUT has its lasting error line active. -/
def State.stopActive (s : State) : Bool :=
  Src.all.any (fun src => bit s.flt.line src.bit && decide (2 ≤ (s.srcClass src).code))

/-- The conditions of item 1 of R354 that last. An event of class STOP or CUT ends item 1 for its own COLL sample
(`State.raise`). -/
def State.item1Now (s : State) : Bool := !s.stopActive && !s.sout.ext && !s.flt.lasting

/-- An event of this COLL sample has effective class STOP or CUT. -/
def State.stopSample (s : State) : Bool := s.flt.smpAt == s.now && s.flt.smpStop != 0

/-- The time since the source's line was last active has reached 1,000 ms (R339, R558). -/
def State.quiet (s : State) (src : Src) : Bool :=
  !bit s.flt.line src.bit &&
    match nth none s.flt.occ src.bit with
    | some a => decide (a + 1000 * ms ≤ s.now)
    | none => true

/-- A change of the error line of a source without an occurrence of its own. -/
def State.raiseAll (s : State) (l : List (Src × Nat)) : State := l.foldl (fun s e => s.err e.1 e.2) s

/-- Writes to the MRAM (R478). -/
def State.mramWrite (s : State) (a : Nat) (l : List Byte) : State := { s with mram := s.mram.writeN a l }

end Sys2Proof.Machine
end

