-- ==== Sys2Proof/Machine/FabricLogic.lean ====
section
/-!
DEFINITION. The fabric's logic (R211 to R222, R229, R235): what the configuration cells hold, what they compute in one period of
PLL_C, 2.5 ns, and what time does to it. Channel B itself follows the sheet (R60, notes/assumptions/11.md): of its destinations
this file gives what their multiplexers let through.
-/
namespace Sys2Proof.Machine

/-! ## The cells (R214, R232, R235) -/

/-- The frame address of a frame index (R232). -/
def frameAddr (i : Nat) : Nat := if i < 1152 then i / 12 * 16 + i % 12 else 0x600 + (i - 1152)

/-- The frame index of a frame address (R232). -/
def frameIndex (a : Nat) : Option Nat :=
  if a < 0x600 then (if a % 16 < 12 then some (a / 16 * 12 + a % 16) else none)
  else if a < 0x60A then some (1152 + (a - 0x600)) else none

/-- The frames of a fabric section, and its CRC table. -/
def fabFrames (l : List Byte) : List (List Byte) := chunks 128 1162 (l.drop 32)
def fabCrcs (l : List Byte) : List Nat := (chunks 4 1162 (l.drop 148768)).map ofBytes

/-- A 12-bit selector (R235). -/
def sel (f : List Byte) (ofs : Nat) : Nat := beAt f ofs 2 % 4096
/-- Its reserved bits are 0. -/
def selOk (f : List Byte) (ofs : Nat) : Bool := decide (beAt f ofs 2 < 4096)

/-- The macrocell word of macrocell m in frame 0 of a pen (R214). -/
def mcWord (f : List Byte) (m : Nat) : Nat := beAt f (4 * m) 4
def mcSteer (w : Nat) : Nat := field w 2 0
def mcUsed (w : Nat) : Bool := bit w 4
def mcXor (w : Nat) : Bool := bit w 5
def mcByp (w : Nat) : Bool := bit w 6
def mcT (w : Nat) : Bool := bit w 7
def mcCesel (w : Nat) : Nat := field w 9 8
def mcCein (w : Nat) : Nat := field w 15 10
def mcClk (w : Nat) : Nat := field w 17 16
def mcSr1 (w : Nat) : Bool := bit w 18
def mcSrval (w : Nat) : Bool := bit w 19
def mcCarry (w : Nat) : Nat := field w 21 20
def mcCin (w : Nat) : Nat := field w 23 22

/-- The macrocell that cluster m is steered to (R214): none where it is unused or the code is reserved. -/
def steerTo (m code : Nat) : Option Nat :=
  match code with
  | 0 => some m
  | 1 => some (m + 1)
  | 2 => some (m + 2)
  | 3 => if 1 ≤ m then some (m - 1) else none
  | 4 => if 2 ≤ m then some (m - 2) else none
  | _ => none

/-- The FIO record of an FIO in its frame (R235). -/
def fioRec (frames : List (List Byte)) (n : Nat) : List Byte := ((nth [] frames (1155 + n / 16)).drop (8 * (n % 16))).take 8
def fioMode (r : List Byte) : Nat := byteAt r 6 % 8
def fioRatio (r : List Byte) : Nat := 2 ^ (byteAt r 6 / 16 % 4)

/-- The probe record of a probe (R235). -/
def probeRec (frames : List (List Byte)) (p : Nat) : Nat := beAt (nth [] frames 1161) (4 * p) 4
def probeOf (v : Nat) : Probe := { on := bit v 31, src := field v 10 0, fio := field v 24 18 }

/-- A source index in a range, or none. -/
def srcIn (lo hi v : Nat) : Bool := v == 0xFFF || (decide (lo ≤ v) && decide (v ≤ hi))

/-! ## Sources (R219 to R221) -/

/-- The schedule of a TP line reaches its pin in the run states of the sheet alone; elsewhere the pin is driven low, or its
pull-down holds it low (R74, R430). -/
def State.tpPad (s : State) (n : Nat) : Bool :=
  (s.tp n).level && match s.clk.rs with
  | .armed => !s.clk.held
  | .run => true
  | .safe => true
  | .maint => true
  | .halted => true
  | _ => false

/-- A pulse one GCLK0 period wide that begins at an instant: the ticks of the four periods of PLL_C that follow it see it. -/
def State.gclk0Pulse (s : State) (at_ : Nat) : Bool := decide (at_ < s.now) && decide (s.now ≤ at_ + 10)

/-- The LOCAL flag of an OUTGROUP index of sheet 0. -/
def State.localFlag (s : State) (g : Nat) : Bool := nth false s.sh0.localGroups g

/-- A source outside the pens and the FIOs (0xA00 to 0xBFF). -/
def State.sioSrc (s : State) (v : Nat) : Bool :=
  let pair := s.inPair (v % 32)
  if v < 0xA20 then pair.vb.value
  else if v < 0xA24 then
    let w := s.wheel ((v - 0xA20) / 2)
    if v % 2 = 0 then w.b.lvA else w.b.lvB
  else if v = 0xA24 then s.sp.ackA
  else if v = 0xA25 then s.sp.ackB
  else if v < 0xA28 then (s.wheel (v - 0xA26)).diff
  else if v = 0xA28 then s.cycles && s.gclk0Pulse s.sp.rdAt
  else if v = 0xA29 then decide (s.now % 1000 < 10)
  else if v = 0xA2A then s.sp.hold
  else if v < 0xA40 then false
  else if v < 0xA50 then s.localFlag (v - 0xA40)
  else if v < 0xA60 then (s.out (v - 0xA50)).p.rb
  else if v < 0xA70 then (s.out (v - 0xA60)).m.rb
  else if v < 0xA78 then s.tpPad (v - 0xA70)
  else if v < 0xA80 then false
  else if v < 0xAA0 then pair.vb.fault
  else if v < 0xAB0 then s.pair.split && (s.out (v - 0xAA0)).m.cmd
  else if v = 0xAC0 || v = 0xAC1 then
    s.pair.split && s.cycles && s.gclk0Pulse s.sp.rdAt && nth false s.fab.wrote (v - 0xAC0)
  else if v < 0xB00 then false
  else if v < 0xB80 then nth false s.col.remote (v - 0xB00)
  else if v < 0xBFF then nth false s.yard.remote (v - 0xB80)
  else if v = 0xBFF then s.yard.wclear
  else false

/-- A source by its index; an unlisted index is constant 0. -/
def State.source (s : State) (v : Nat) : Bool :=
  if v < 0x600 then nth false s.logic.outs v
  else if v < 0x660 then nth false s.logic.fio (v - 0x600)
  else if v < 0x960 then bit (byteAt s.logic.deser ((v - 0x660) / 8)) ((v - 0x660) % 8)
  else if v < 0xA00 then false
  else s.sioSrc v

/-- The multiplexer of a destination: a selector outside its range connects constant 0 (R221). -/
def State.mux (s : State) (ok : Bool) (v : Nat) : Bool := ok && s.source v

/-- The multiplexer of an M-leg request, of BARK_B, of an S monitor gate or of a cross-check capture lets its source through: the
selector lies among the safety pens; 0xFFF and every index out of range connect constant 0 (R220, R221, R235). -/
def State.routed (s : State) (frame ofs : Nat) : Bool := decide (sel (nth [] s.fab.cells frame) ofs < 0x300)

/-- Those multiplexers: frame 0x601, bytes 2n, 32 and 34 + 2n, and frame 0x602, bytes 2k (R235). -/
def State.routedM (s : State) (n : Nat) : Bool := s.routed 1153 (2 * n)
def State.routedBark (s : State) : Bool := s.routed 1153 32
def State.routedGate (s : State) (n : Nat) : Bool := s.routed 1153 (34 + 2 * n)
def State.routedPoint (s : State) (k : Nat) : Bool := s.routed 1154 (2 * k)

/-! ## Pens (R211 to R215) -/

/-- The 54 inputs of a pen. -/
def State.penInputs (s : State) (p : Nat) : List Bool :=
  let f := nth [] s.fab.cells (12 * p + 1)
  (List.range 54).map (fun k =>
    let v := sel f (2 * k)
    s.mux (if p < 48 then srcIn 0 0x2FF v || srcIn 0xA00 0xBFF v else srcIn 0x300 0x95F v) v)

/-- A product term: 0 where no literal is connected (R212, R234). -/
def productTerm (ins : List Bool) (r : List Byte) : Bool :=
  !allZero (r.take 13 ++ [r.getD 13 0 &&& 0x0F#8]) &&
  (mapIdx (fun n v => !(payBit r (2 * n) && !v) && !(payBit r (2 * n + 1) && v)) ins).all id

/-- The 80 product terms of a pen. -/
def State.penTerms (s : State) (p : Nat) : List Bool :=
  let ins := s.penInputs p
  (List.range 10).flatMap (fun j => (chunks 14 8 (nth [] s.fab.cells (12 * p + 2 + j))).map (productTerm ins))

/-- The macrocell words of a pen. -/
def Fab.penWords (f : Fab) (p : Nat) : List Nat := (List.range 16).map (mcWord (nth [] f.cells (12 * p)))

/-- The sums of a pen's macrocells, with XORPOL. A cluster steered beyond the pen reaches nothing. -/
def sumsOf (ws : List Nat) (pts : List Bool) : List Bool :=
  let clusters := mapIdx (fun m w =>
    let own := (pts.drop (5 * m)).take (if mcCesel w = 1 then 4 else 5)
    (steerTo m (mcSteer w), own.any id)) ws
  mapIdx (fun k w => (clusters.any (fun c => c.1 == some k && c.2)) != mcXor w) ws

/-- The register inputs along a column, and the sums, from the carry of the position before (R214, R215). -/
def carryChain : Bool → List (Nat × Bool) → List Bool
  | _, [] => []
  | cout, (w, sum) :: rest =>
    let cin := match mcCin w with
      | 0 => cout
      | 2 => true
      | _ => false
    if mcCarry w = 1 then (sum != cin) :: carryChain (sum && cin) rest else sum :: carryChain false rest

/-- What one macrocell offers its register: word, sum, register input, clock enable. -/
structure Cell where
  w : Nat
  sum : Bool
  d : Bool
  ce : Bool

/-- Every macrocell of a column of four pens; the registers of a column that has no macrocell in use stay, since nothing reads them. -/
def State.column (s : State) (c : Nat) : List Cell :=
  let pens := [4 * c, 4 * c + 1, 4 * c + 2, 4 * c + 3]
  if !pens.any (fun p => (s.fab.penWords p).any mcUsed) then List.replicate 64 { w := 0, sum := false, d := false, ce := false }
  else
  let one := fun (p : Nat) =>
    let ws := s.fab.penWords p
    let pts := s.penTerms p
    let ins := s.penInputs p
    mapIdx (fun m e => (e.1, e.2, match mcCesel e.1 with
      | 1 => nth false pts (5 * m + 4)
      | 2 => nth false ins (mcCein e.1)
      | _ => true)) (List.zip ws (sumsOf ws pts))
  let cells := pens.flatMap one
  let ds := carryChain false (cells.map (fun e => (e.1, e.2.1)))
  List.zipWith (fun (e : Nat × Bool × Bool) d => { w := e.1, sum := e.2.1, d := d, ce := e.2.2 }) cells ds

def State.fabCells (s : State) : List Cell := (List.range 24).flatMap s.column

/-- The output of a macrocell (R214). -/
def cellOut (c : Cell) (reg : Bool) : Bool := mcUsed c.w && (if mcByp c.w then c.sum else reg)

/-- The interconnect takes up the macrocell outputs once. -/
def State.propagate (s : State) : State :=
  { s with logic := { s.logic with outs := List.zipWith cellOut s.fabCells s.logic.regs } }

/-! ## Trees (R217) -/

/-- A tree source code of GCLK2 or GCLK3 (R217), and the FIO it names. -/
def gclkOk (v : Nat) : Bool := decide (v ≤ 4) || (decide (8 ≤ v) && decide (v ≤ 15))
def gclkFio (v : Nat) : Option Nat := if 8 ≤ v && v ≤ 11 then some (v - 8) else if 12 ≤ v && v ≤ 15 then some (v + 36) else none

/-- A source code of GCLK2 or GCLK3 as periods of PLL_C per period; 0 where it is off. -/
def gclkTicks : Nat → Nat
  | 1 => 2
  | 2 => 4
  | 3 => 8
  | 4 => 16
  | _ => 0

/-- The source code of GCLK2 or GCLK3. -/
def Fab.gclkCode (f : Fab) (k : Nat) : Nat := byteAt (nth [] f.cells 1152) (k - 2)

/-- Where a tree stands: periods of PLL_C since its last rising edge, and in its period, 0 where it has none. An FIO-fed tree
has the period that its last two edges gave. -/
def State.tree (s : State) (k : Nat) : Nat × Nat :=
  let fixed := fun (g : Nat) => (if g = 0 then 1 else s.logic.tick % g, g)
  match k with
  | 0 => fixed 4
  | 1 => fixed 2
  | _ => match gclkFio (s.fab.gclkCode k) with
    | some _ => nth (1, 0) s.logic.trees (k - 2)
    | none => fixed (gclkTicks (s.fab.gclkCode k))

/-- A tree has a rising edge at the present tick. -/
def State.edgeOf (s : State) (k : Nat) : Bool := (s.tree k).1 == 0

/-- GSR1 and GOE with their sources (R217). -/
def State.gsr1 (s : State) : Bool :=
  let v := sel (nth [] s.fab.cells 1152) 2
  s.fab.gsr || s.mux (srcIn 0x300 0x65F v && v != 0xFFF) v

/-- GOE as load control gives it: on 16 GCLK0 cycles after the commit (R241). -/
def State.goeLoad (s : State) : Bool := s.fab.committed && decide (s.fab.commitAt + 160 ≤ s.now)

def State.goeOn (s : State) : Bool :=
  let v := sel (nth [] s.fab.cells 1152) 4
  s.goeLoad && (v == 0xFFF || s.mux (srcIn 0x300 0x65F v) v)

/-- The next value of a macrocell's register (R214). -/
def State.nextReg (s : State) (gsr1 : Bool) (c : Cell) (reg : Bool) : Bool :=
  if (if mcSr1 c.w then gsr1 else s.fab.gsr) then mcSrval c.w
  else if mcUsed c.w && s.edgeOf (mcClk c.w) && c.ce then (if mcT c.w then reg != c.d else c.d)
  else reg

def State.clockRegs (s : State) : State :=
  let g := s.gsr1
  { s with logic := { s.logic with regs := List.zipWith (s.nextReg g) s.fabCells s.logic.regs } }

/-! ## FIOs (R229, R235, R237, R250) -/

/-- The parallel clock of an FIO record: GCLK2 or GCLK3. -/
def parClock (r : List Byte) : Nat := if bit (byteAt r 6) 6 then 3 else 2

/-- An index that an FIO output may take. -/
def fioSrc (v : Nat) : Bool := srcIn 0x300 0x5FF v && v != 0xFFF

/-- The output of one FIO: enable and level. A serialiser sends the word that it took at the last edge, bit 0 first. -/
def State.fioDrive (s : State) (n : Nat) : Bool × Bool :=
  let r := fioRec s.fab.cells n
  match s.fab.probes.find? (fun (p : Probe) => p.on && p.fio == n) with
  | some p => (true, nth false s.logic.outs p.src)
  | none =>
    let oe := sel r 2
    let on := (fioMode r == 2 || fioMode r == 3) && s.goeOn && (oe == 0xFFF || s.mux (fioSrc oe) oe)
    let at_ := s.tree (parClock r)
    let level := if fioRatio r = 1 then s.mux (fioSrc (sel r 0)) (sel r 0)
      else bit (byteAt s.logic.ser n) (if at_.2 = 0 then 0 else Nat.min (at_.1 * fioRatio r / at_.2) (fioRatio r - 1))
    (on, on && level)

/-- The weak pull-down of an FIO that is not driven is on: before the commit, where its record keeps it, and at a disabled probe's
FIO. -/
def State.fioPull (s : State) (n : Nat) : Bool :=
  !s.fab.committed || bit (byteAt (fioRec s.fab.cells n) 7) 0 || s.fab.probes.any (fun p => !p.on && p.fio == n)

/-- The levels at the FIO pads: what the part drives, else what the board gives (notes/assumptions/57.md). -/
def State.sampleFio (s : State) : State :=
  { s with logic := { s.logic with
      fio := mapIdx (fun n (o : Bool × Bool) => if o.1 then o.2 else Config.fioPad n s.now) s.logic.fioOut, fioWas := s.logic.fio } }

/-- The FIO-fed trees take up the new levels, and whether GOE has been on (R229). -/
def State.clockTrees (s : State) : State :=
  let one := fun (k : Nat) (e : Nat × Nat) =>
    match gclkFio (s.fab.gclkCode (k + 2)) with
    | some n => if nth false s.logic.fio n && !nth false s.logic.fioWas n then (0, e.1 + 1) else (e.1 + 1, e.2)
    | none => e
  { s with logic := { s.logic with trees := mapIdx one s.logic.trees, goeSeen := s.logic.goeSeen || s.goeOn } }

/-- One received bit of a deserialiser: the word is delivered at its boundary, first bit as bit 0. -/
def Logic.receive (f : Logic) (n ratio : Nat) (v : Bool) : Logic :=
  let sh := (nth 0 f.shift n >>> 1) ||| (if v then 0x80#8 else 0)
  let pos := nth 0 f.serPos n + 1
  let done := decide (ratio ≤ pos)
  { f with
    shift := setAt f.shift n sh, serPos := setAt f.serPos n (if done then 0 else pos)
    deser := if done then setAt f.deser n (sh >>> (8 - ratio)) else f.deser }

def Logic.receiveN (n ratio : Nat) (v : Bool) : Nat → Logic → Logic
  | 0, f => f
  | k + 1, f => Logic.receiveN n ratio v k (f.receive n ratio v)

/-- The word that a serialiser takes: bit b from OSRC + b. -/
def State.serWord (s : State) (r : List Byte) : Byte :=
  BitVec.ofNat 8 (bitmap ((List.range (fioRatio r)).map (fun b => s.mux (fioSrc (sel r 0 + b)) (sel r 0 + b))))

/-- A serialising or deserialising FIO at a tick (R229): at an edge of its parallel clock a word is taken to be sent, the word
boundary is set once GOE has been on, and a bitslip moves it; the bits that end in the tick are received. -/
def State.fioTake (s : State) (n : Nat) : State :=
  let r := fioRec s.fab.cells n
  let at_ := s.tree (parClock r)
  let ratio := fioRatio r
  if ratio = 1 || fioMode r == 0 then s
  else
    let edge := at_.1 == 0
    let v := sel r 4
    let isSet := nth false s.logic.serSet n
    let f := if !edge then s.logic else
      { s.logic with
        ser := setAt s.logic.ser n (s.serWord r)
        serSet := setAt s.logic.serSet n (isSet || s.logic.goeSeen)
        serPos := if !isSet then setAt s.logic.serPos n 0
          else if s.mux (fioSrc v) v then updAt (fun p => (p + 1) % ratio) s.logic.serPos n else s.logic.serPos }
    let bits := if at_.2 = 0 then 0 else Nat.min ((at_.1 + 1) * ratio / at_.2) ratio - Nat.min (at_.1 * ratio / at_.2) ratio
    { s with logic := if nth false f.serSet n && (fioMode r == 1 || fioMode r == 3)
        then f.receiveN n ratio (nth false s.logic.fio n) bits else f }

def State.driveFio (s : State) : State :=
  { s with logic := { s.logic with fioOut := (List.range 96).map s.fioDrive } }

/-! ## Time (R222) -/

/-- One period of PLL_C: the pads are sampled and the trees move, the FIOs take and receive, two levels of logic, the registers,
their outputs, and the FIO outputs. -/
def State.fabTick (s : State) : State :=
  let s := (List.range 96).foldl State.fioTake s.sampleFio.clockTrees
  ((s.propagate.propagate).clockRegs.propagate).driveFio

/-- The instant of a period of PLL_C since the commit, in whole ns rounded up. -/
def Fab.tickAt (f : Fab) (k : Nat) : Nat := f.commitAt + (5 * k + 1) / 2

/-- Periods of PLL_C, one after the other. -/
def State.runTicks : Nat → State → State
  | 0, s => s
  | n + 1, s =>
    let k := s.logic.tick + 1
    State.runTicks n ({ s with now := s.fab.tickAt k, logic := { s.logic with tick := k } }).fabTick

/-- No macrocell and no FIO is in use: no period of PLL_C changes anything that can be observed but the levels at the pads. -/
def Fab.inert (f : Fab) : Bool :=
  (mapIdx (fun i c => (i, c)) f.cells).all (fun e =>
    if e.1 < 1152 then e.1 % 12 != 0 || !(List.range 16).any (fun m => mcUsed (mcWord e.2 m))
    else e.1 < 1155 || e.1 = 1161 || (List.range 16).all (fun k => byteAt e.2 (8 * k + 6) % 8 == 0))

/-- The fabric runs from the commit on in every run state (R222), up to an instant. -/
def State.runFabric (s : State) (t : Nat) : Logic :=
  if s.live && s.fab.committed then
    let last := (t - s.fab.commitAt) * 2 / 5
    if s.fab.inert then
      (({ s with now := Nat.max s.now t, logic := { s.logic with tick := last, outs := List.replicate 1536 false } }).driveFio.sampleFio).logic
    else (s.runTicks (last - s.logic.tick)).logic
  else s.logic

/-- The part's time moves to the command's instant; it never moves back (notes/assumptions/1.md). The fabric's logic runs
meanwhile. -/
def State.upTo (s : State) (t : Nat) : State := { s with now := Nat.max s.now t, logic := s.runFabric t }

end Sys2Proof.Machine
end

