-- ==== Sys2Proof/Machine/Catalogue.lean ====
section
/-!
DEFINITION. The function catalogue of the safety sheet (R34 to R58, R146): one evaluation of one instance, shared by both
channels, and one evaluation of a whole sheet in index order. What a channel sees is an environment of plain data.
-/
namespace Sys2Proof.Machine

/-- What a channel sees in one evaluation of one sheet. -/
structure Env where
  /-- Channel A (the kennel), else channel B (the safety pens). -/
  isA : Bool
  sheet : Nat
  /-- The instant at which timers are judged. -/
  now : Nat
  /-- Instant (ns) and yard time (ns) of the inputs evaluated. -/
  readAt : Nat
  readYt : Nat
  /-- Yard time of the boundary at which channel A evaluates (R52, R368). -/
  endYt : Nat
  pairs : List Bool
  /-- Results held at 0 by LOCAL or a pending start-up test, as the channel sees it (R35, R57). -/
  held : List Bool
  /-- The MRESET pulse of the cycle (R40). -/
  pulse : Bool
  /-- A rise on an MRESET pulse may happen in this evaluation: channel A always, channel B at the cycle start, on the
  same permit as channel A (R54, R66; DEDUCED, notes/assumptions/9.md). -/
  rise : Bool
  /-- The first paired cycle after a rejoin (R189). -/
  gate : Bool
  deriving DecidableEq, Repr

def Env.pair (e : Env) (n : Nat) : Bool := nth false e.pairs n

/-- A signal reference to an earlier result: none when the operand is absent (R31). -/
def refVal (res : List InstSt) (src : Nat) : Option Bool :=
  if srcKind src = 2 then some (bit (nth {} res (srcIdx src)).res.toNat (srcBit src)) else none

/-- An operand that is absent counts as a given value. -/
def refOr (d : Bool) (res : List InstSt) (src : Nat) : Bool := (refVal res src).getD d

def resOf (b0 : Bool) (b1 : Bool := false) : Byte := BitVec.ofNat 8 (flag b0 + flag b1 1)
def InstSt.b0 (st : InstSt) : Bool := bit st.res.toNat 0
def InstSt.b1 (st : InstSt) : Bool := bit st.res.toNat 1

/-- Result and errors of one evaluation. -/
abbrev EvalOut := InstSt × List (Src × Nat)

/-- TWOHAND (R37). `arm`: both pairs have been 0 together since the last command; `since`: the first press. -/
def evalTwohand (e : Env) (r : List Byte) (st : InstSt) : EvalOut :=
  let p := e.pair (srcPair (rSrc r 0))
  let q := e.pair (srcPair (rSrc r 1))
  if p && q then
    if st.b0 then (st, [])
    else
      let quick := match st.since with
        | some a => decide (e.now ≤ a + 500 * ms)
        | none => true
      ({ st with res := resOf (st.arm && quick), arm := false, since := none }, [])
  else if p || q then
    ({ st with res := 0, since := if st.arm then some (st.since.getD e.now) else none }, [])
  else ({ st with res := 0, arm := true, since := none }, [])

/-- The positions of a MODESEL (R34, R38). -/
def modeselPositions (e : Env) (r : List Byte) : List Bool :=
  [0, 1, 2, 3].map (fun k => srcKind (rSrc r k) == 1 && e.pair (srcPair (rSrc r k)))

/-- Exactly one position is validated. -/
def oneHot (l : List Bool) : Bool := (l.filter id).length == 1

/-- MODESEL (R38). `fired`: SWITCHT has been reported for this undecided time. -/
def evalModesel (e : Env) (i : Nat) (r : List Byte) (st : InstSt) : EvalOut :=
  let v := modeselPositions e r
  if oneHot v then ({ st with res := BitVec.ofNat 8 (bitmap v), since := none, fired := false }, [])
  else
    let since := st.since.getD e.now
    let expired := e.isA && !st.fired && decide (since + rW r 10 * ms < e.now)
    let st := { st with res := 0, since := some since, fired := st.fired || expired }
    (st, if expired then [(.sinDisc, 0x8000 + instDetail e.sheet i)] else [])

/-! ## Teeth that channel B has confirmed and not yet counted (R137 to R139, R155) -/

def Wheel.ch (w : Wheel) (isA : Bool) : WheelCh := if isA then w.a else w.b

/-- Ppred is defined (R137). -/
def Wheel.predicted (x : Wheel) (isA : Bool) : Option Nat :=
  match (x.ch isA).ppred with
  | some p => if p ≤ periodAt x.teeth x.chkspd then some p else none
  | none => none

/-- The class of the period that a TWnA rise ends (R137, R138). -/
inductive RiseClass where
  /-- Ppred is undefined, or the direction turns: counted as normal, with the period in µs where there is one. -/
  | free (t : Option Nat)
  | noise
  | normal (t : Nat)
  | missed (t : Nat)
  | gap
  deriving DecidableEq, Repr

/-- The class of a rise at an instant (R137, R138). -/
def Wheel.classOf (x : Wheel) (isA up : Bool) (at_ : Nat) : RiseClass :=
  let c := x.ch isA
  match x.predicted isA, (if up then c.lastUp else c.lastDn) with
  | some p, some a =>
    let t := (at_ - a) / us
    if c.any && c.down == up then .free none
    else if 2 * t < p then .noise
    else if 5 * t ≤ 8 * p then .normal t
    else if 2 * t ≤ 5 * p then .missed t
    else .gap
  | _, some a => .free (some ((at_ - a) / us))
  | _, none => .free none

/-- The direction of a TWnA rise: TWnB's level at its instant, without discarded edges (R128, R139). -/
def WheelCh.dirAt (c : WheelCh) (at_ : Nat) : Bool :=
  match c.pendB with
  | some (b, l) => if b < at_ then !l else !c.setB
  | none => !c.setB

/-- Channel B has confirmed a rise that no command has counted yet, and counting it ends muting in a window: the position
leaves it, or becomes invalid (R155; DEDUCED, notes/assumptions/85.md). -/
def Wheel.leaves (x : Wheel) (now lo hi : Nat) : Bool :=
  let c := x.b
  match c.pend with
  | some (a, true) =>
    let up := c.dirAt a
    let pos := fun (k : Nat) => if up then (c.cnt + k) % x.teeth else (c.cnt + x.teeth - k) % x.teeth
    let out := fun (k : Nat) => !inWindow x.teeth (pos k) lo hi
    let stuck := decide (2 ≤ c.stuckA) && (x.predicted false).isSome && c.anom
    let off := fun (k : Nat) => match c.refAt with
      | some r => up && decide (r ≤ a) && c.posOk && pos k != x.reftooth
      | none => false
    decide (a + x.minw * us ≤ now) && (stuck || match x.classOf false up a with
      | .noise => c.anom
      | .gap => true
      | .missed _ => c.anom || out 1 || out 2 || off 1
      | _ => out 1 || off 1)
  | _ => false

/-- MUTE (R42, R43). `arm`: the window is granted; `since`: since when muting is active; `fired`: MAXT has ended it;
`ended`: a tooth that waits to be counted ends it in this channel. -/
def evalMute (e : Env) (res : List InstSt) (r : List Byte) (ended : Bool) (st : InstSt) : EvalOut :=
  let act := st.arm && refOr true res (rSrc r 1) && !st.fired && !ended
  let since := st.since.getD e.now
  let expired := e.isA && act && decide (since + rB r 15 * 100 * ms ≤ e.now)
  let act := act && !expired
  ({ st with
      res := resOf (refOr false res (rSrc r 0) || act) act
      since := if act then some since else none
      fired := st.fired || expired }, [])

/-- A violation raises MOT_LIMIT once per LOCAL (R146, R147). -/
def motLimit (e : Env) (c : InstCom) (i : Nat) (viol : Bool) : List (Src × Nat) :=
  if viol && !c.locals.any (fun x => x.cause == .motion .motLimit) then [(.motLimit, instDetail e.sheet i)] else []

/-- A channel's view of a wheel. -/
def Env.wheelCh (e : Env) (w : Wheel) : WheelCh := if e.isA then w.a else w.b

/-- A slot is in use for a channel's consumers: LIVE and not older than MAXAGE (R44, R149). -/
def slotUsable (e : Env) (sl : Slot) (ch : SlotCh) : Bool :=
  ch.ds == .live && decide (e.readYt ≤ ch.at_ * 1000 + sl.maxage * ms)

/-- Either data copy of a collar sample reports a speed above an SLS's LIMIT (R149). -/
def overSpeed (xofs : Nat) (r : List Byte) (a b : BitVec 64) : Bool :=
  decide (rW r 10 < collarField a (xofs + 2)) || decide (rW r 10 < collarField b (xofs + 2))

/-- SLS (R146, R149). `viol`: a normal period below PLIM(LIMIT), or a collar speed above LIMIT, since the last
evaluation; the latest usable sample counts in every evaluation. Periods counted while the limit was lifted are not judged when
the lift falls (DEDUCED, notes/assumptions/96.md). -/
def evalSls (e : Env) (s : State) (res : List InstSt) (cond : Bool) (c : InstCom) (i : Nat) (r : List Byte)
    (st : InstSt) : EvalOut :=
  let w := e.wheelCh (s.wheel (rWheel r))
  let lifted := refOr false res (rSrc r 0)
  let sl := s.slot (rXslot r)
  let collar := rXslot r == 0 || (if e.isA then slotUsable e sl sl.a else cond)
  let ch := if e.isA then sl.a else sl.b
  let fast := st.viol || (rXslot r != 0 && slotUsable e sl ch && overSpeed (s.wheel (rWheel r)).xofs r ch.dataA ch.dataB)
  let viol := !lifted && w.spdOk && fast
  ({ st with res := resOf (lifted || (w.spdOk && !fast && collar)), viol := false, arm := lifted }, motLimit e c i viol)

/-- SLP (R146). `viol`: a tooth has put the position outside the window since the last evaluation. An enforced SLP whose
position becomes valid outside its window is violated as one whose lift falls there is (DEDUCED, notes/assumptions/97.md). -/
def evalSlp (e : Env) (s : State) (res : List InstSt) (c : InstCom) (i : Nat) (r : List Byte) (st : InstSt) : EvalOut :=
  let wh := s.wheel (rWheel r)
  let w := e.wheelCh wh
  let lifted := refOr false res (rSrc r 0)
  let inside := inWindow wh.teeth w.cnt (rW r 10) (rW r 12) && !st.viol
  let viol := !lifted && w.posOk && !inside
  ({ st with res := resOf (lifted || (w.posOk && inside)), viol := false, arm := lifted }, motLimit e c i viol)

/-- SDI (R146). `arm`: lifted at the last evaluation; `cnt`: the counter c. -/
def evalSdi (e : Env) (s : State) (res : List InstSt) (c : InstCom) (i : Nat) (r : List Byte) (st : InstSt) : EvalOut :=
  let w := e.wheelCh (s.wheel (rWheel r))
  let lifted := refOr false res (rSrc r 0)
  let cnt := if lifted || st.arm then 0 else st.cnt
  let viol := !lifted && w.spdOk && decide (rB r 10 < cnt)
  ({ st with res := resOf (lifted || (w.spdOk && decide (cnt ≤ rB r 10))), cnt := cnt, arm := lifted }, motLimit e c i viol)

/-- The standstill time of an SSTILL, in ns: the larger of CONFT and PLIM(MAXSPD) (R146). -/
def stillNs (teeth : Nat) (r : List Byte) : Nat := Nat.max (rW r 12 * ms) (periodAt teeth (rW r 10) * us)

/-- SSTILL (R146). `still`: channel B's confirmation. -/
def evalSstill (e : Env) (s : State) (r : List Byte) (st : InstSt) : EvalOut :=
  let wh := s.wheel (rWheel r)
  let ok := if e.isA then decide (wh.a.last + stillNs wh.teeth r ≤ e.readYt) else st.still
  ({ st with res := resOf ok }, [])

/-- DELAY (R36). `since`: the rise of the source; `fired`: DON has passed. -/
def evalDelay (e : Env) (res : List InstSt) (r : List Byte) (st : InstSt) : EvalOut :=
  if refOr false res (rSrc r 0) then
    let since := st.since.getD e.now
    let done := st.fired || rW r 8 == 0 || (e.isA && decide (since + rW r 8 * ms ≤ e.now))
    ({ st with res := resOf done, since := some since, fired := done }, [])
  else ({ st with res := 0, since := none, fired := false }, [])

/-- A datum flagged unsynced may take a result to 0 and never to 1 (R45, R315). -/
def unsyncGate (prev unsync v : Bool) : Bool := v && (!unsync || prev)

/-- COLLARIN in channel A (R44, R45); channel B takes its remote bit (R273). -/
def evalCollarin (e : Env) (s : State) (cond : Bool) (r : List Byte) (st : InstSt) : EvalOut :=
  if e.isA then
    let sl := s.slot (rB r 8)
    let v := slotUsable e sl sl.a && collarCond (rB r 10) (rB r 9) (rB r 11) (rW r 12) sl.a.dataA sl.a.dataB
    ({ st with res := resOf (unsyncGate st.b0 sl.a.unsync v) }, [])
  else ({ st with res := resOf cond }, [])

/-- YARDIN in channel A (R315, R316); channel B takes its remote bit (R308). -/
def evalYardin (e : Env) (s : State) (cond : Bool) (r : List Byte) (st : InstSt) : EvalOut :=
  if e.isA then
    match s.consumeIdx (rConnid r) with
    | some n =>
      let c := (s.conn n).a
      let v := c.ds == .live && payBit c.data (rW r 10)
      ({ st with res := resOf (unsyncGate st.b0 c.unsync v) }, [])
    | none => ({ st with res := 0 }, [])
  else ({ st with res := resOf cond }, [])

/-- An output latched off by SOUT_SHORT holds the b0 of its OUTGROUP at 0 (R103). -/
def State.groupLatched (s : State) (mask : Nat) : Bool :=
  (mapIdx (fun n (o : OutSt) => o.latch && bit mask n) s.sout.outs).any id

/-- The result of the sheet's MRESET in this evaluation (R39, R40): the pulse, unless LOCAL or the cross-check holds it at 0. -/
def Env.resetPulse (e : Env) (s : State) : Bool :=
  let h := s.sheet e.sheet
  e.pulse && (List.zip h.recs (mapIdx (fun i (c : InstCom) => nth false e.held i || c.forced) h.com)).all (fun x => !rIs .mreset x.1 || !x.2)

/-- OUTGROUP (R50 to R55, R105, R342). `arm`: the permit has been 1 without interruption since b0 rose; `since`: the category-1
delay in progress; `fired`: it has elapsed in channel B. -/
def evalOutgroup (e : Env) (s : State) (res : List InstSt) (r : List Byte) (st : InstSt) : EvalOut :=
  let permit := refOr false res (rSrc r 0)
  let off : InstSt := { st with res := 0, arm := false, since := none, fired := false, shut := st.shut && permit }
  let clock := if e.isA then e.endYt else e.now
  if s.clk.rs == .safe || s.groupLatched (rOutmask r) || (srcKind (rSrc r 1) != 2 && s.sp.hold) then (off, [])
  else if st.b0 then
    if rCat r = 0 then
      if permit then ({ st with res := resOf true st.arm }, []) else (off, [])
    else
      match st.since with
      | some a =>
        if st.fired || (e.isA && decide (a + rDelayNs r ≤ clock)) then (off, [])
        else ({ st with res := resOf true, arm := false }, [])
      | none =>
        if permit then ({ st with res := resOf true st.arm }, [])
        else if rDelayNs r = 0 then (off, [])
        else ({ st with res := resOf true, arm := false, since := some clock, fired := false }, [])
  else
    let go := match refVal res (rSrc r 1) with
      | some pulse => permit && pulse && e.rise
      | none => permit && !st.shut && (!st.need || (e.resetPulse s && e.rise))
    if go then ({ st with res := resOf true true, arm := true, since := none, fired := false, need := false }, []) else (off, [])

/-- The results of a record before LOCAL and the cross-check hold. -/
def evalFn (e : Env) (s : State) (cond : Bool) (res : List InstSt) (i : Nat) (r : List Byte) (c : InstCom)
    (st : InstSt) : EvalOut :=
  let one := fun (b : Bool) => (({ st with res := resOf b }, []) : EvalOut)
  let ops := (rRefs r).filterMap (refVal res)
  match rFn r with
  | some .estop => one (e.pair (rDoor r))
  | some .curtain => one (e.pair (rDoor r))
  | some .enable => one (e.pair (rDoor r))
  | some .guard =>
    let door := e.pair (rDoor r)
    let lock := srcKind (rSrc r 1) != 1 || e.pair (srcPair (rSrc r 1))
    ({ st with res := resOf (door && lock) door }, [])
  | some .twohand => evalTwohand e r st
  | some .modesel => evalModesel e i r st
  | some .mreset => one e.pulse
  | some .mute => evalMute e res r (!e.isA && (s.wheel (rWheel r)).leaves e.now (rW r 10) (rW r 12)) st
  | some .sls => evalSls e s res cond c i r st
  | some .slp => evalSlp e s res c i r st
  | some .sdi => evalSdi e s res c i r st
  | some .sstill => evalSstill e s r st
  | some .andF => one (ops.all id)
  | some .orF => one (ops.any id)
  | some .notToSafe => one (!refOr false res (rSrc r 0) && refOr false res (rSrc r 1))
  | some .delay => evalDelay e res r st
  | some .collarin => evalCollarin e s cond r st
  | some .yardin => evalYardin e s cond r st
  | some .yardout => one (refOr false res (rSrc r 0))
  | some .outgroup => evalOutgroup e s res r st
  | none => (st, [])

/-- A result held at 0 keeps no timer and no command (R35). -/
def maskSt (r : List Byte) (st : InstSt) : InstSt :=
  match rFn r with
  | some .delay => { st with res := 0, since := none, fired := false }
  | some .outgroup => { st with res := 0, arm := false, since := none, fired := false }
  | _ => { st with res := 0 }

/-- The kennel holds an energise at 0 and stores 0 as the point's state (R189); an OUTGROUP needs a new restart condition (R208). -/
def refuseSt (r : List Byte) (old new : InstSt) : InstSt :=
  if rIs .outgroup r then { maskSt r new with need := old.need, shut := true } else maskSt r new

/-- One instance in one evaluation: the function, then the holds at 0 of LOCAL (R35), of a pending start-up test (R57),
of a cross-check point (R15), and of the hand-over (R189). -/
def evalInst (e : Env) (s : State) (cond : Bool) (res : List InstSt) (i : Nat) (r : List Byte) (c : InstCom)
    (st : InstSt) : EvalOut :=
  let out := evalFn e s cond res i r c st
  let late := e.gate && rCheck r && out.1.b0 && !st.b0 && !c.soloVal
  if nth false e.held i || c.forced then (maskSt r out.1, out.2)
  else if late then (refuseSt r st out.1, out.2)
  else out

/-- The condition record of a COLLARIN or of an SLS with a collar: its position in sheet order (R262). -/
def isCond (r : List Byte) : Bool := rIs .collarin r || (rIs .sls r && rXslot r != 0)

/-- The remote source bit that channel B reads for an instance (R262, R273, R308). -/
def remoteBit (s : State) (nc ny : Nat) (r : List Byte) : Bool :=
  if isCond r then nth false s.col.remote nc else if rIs .yardin r then nth false s.yard.remote ny else false

/-- The records of a sheet in index order, with the numbers of condition and YARDIN records taken so far. -/
def evalRecs (e : Env) (s : State) : List (List Byte) → List InstCom → List InstSt → List InstSt → List (Src × Nat) →
    Nat → Nat → List InstSt × List (Src × Nat)
  | [], _, _, res, errs, _, _ => (res, errs)
  | r :: rs, coms, sts, res, errs, nc, ny =>
    let out := evalInst e s (remoteBit s nc ny r) res res.length r (coms.headD {}) (sts.headD {})
    evalRecs e s rs coms.tail sts.tail (res ++ [out.1]) (errs ++ out.2)
      (nc + flag (isCond r)) (ny + flag (rIs .yardin r))

/-- How many condition records and YARDIN records sheet 0 takes before sheet 1 (R262, R308). -/
def State.condBase (s : State) (k : Nat) : Nat := if k = 0 then 0 else (s.sh0.recs.filter isCond).length
def State.yinBase (s : State) (k : Nat) : Nat := if k = 0 then 0 else (s.sh0.recs.filter (rIs .yardin)).length

/-- One evaluation of a sheet by one channel. -/
def evalSheet (e : Env) (s : State) : List InstSt × List (Src × Nat) :=
  let h := s.sheet e.sheet
  evalRecs e s h.recs h.com (if e.isA then h.a else h.b) [] [] (s.condBase e.sheet) (s.yinBase e.sheet)

/-- LOCAL or a pending start-up test holds an instance at 0. -/
def Sheet.holds (h : Sheet) : List Bool := h.com.map (fun c => c.atLocal || c.stPend)

end Sys2Proof.Machine
end

