-- ==== Sys2Proof/Machine/Settle.lean ====
section
/-!
DEFINITION. What follows every command at once, without a command of its own: the progress of openings and of LOCAL
reset conditions, channel B's continuous evaluation, the launch gates, the muzzle, the pads, item 1 of R354, the closing
of records, and CP_ALERT_N. Every meaning ends with `State.settle`.
-/
namespace Sys2Proof.Machine

/-! ## Openings and LOCAL reset conditions (R35, R57, R86, R89, R151, R276, R316) -/

/-- Both channels of a pair are filtered 0, defined, and no pair fault is latched, in both validator copies: an opening
that counts (R89). -/
def InPair.opened (p : InPair) : Bool :=
  p.va.a.lvl == some false && p.va.b.lvl == some false && !p.va.fault &&
  p.vb.a.lvl == some false && p.vb.b.lvl == some false && !p.vb.fault

/-- The pair is validated 1 in both copies. -/
def InPair.closed (p : InPair) : Bool := p.va.value && p.vb.value

/-- The functions whose reset condition is "pair validated 0, then 1" (R34). -/
def fnOpens : Fn → Bool
  | .estop => true
  | .guard => true
  | .curtain => true
  | .enable => true
  | _ => false

def rOpens (r : List Byte) : Bool :=
  match rFn r with
  | some f => fnOpens f
  | none => false

/-- The catalogue's reset condition of a record (R34), with the clearing of the pair faults of R86. -/
def State.catalogueMet (s : State) (r : List Byte) (c : InstCom) : Bool :=
  let ps := (rPairs r).map s.inPair
  let noFault := ps.all (fun p => !p.va.fault && !p.vb.fault)
  noFault && match rFn r with
  | some .twohand => ps.all (fun p => !p.va.value && !p.vb.value)
  | some .modesel => oneHot (ps.map (fun p => p.va.value)) && oneHot (ps.map (fun p => p.vb.value))
  | some .collarin => (s.slot (rSlot r)).a.ds == .live
  | some .yardin =>
    match s.consumeIdx (rConnid r) with
    | some n => (s.conn n).a.ds == .live
    | none => false
  | some f => if fnOpens f then c.rcOpen && (s.inPair (rDoor r)).closed else true
  | none => true

/-- The motion condition of R151 in one channel: `lifted` and a normal period below PLIM(LIMIT) as last evaluated. -/
def State.motionMet (s : State) (isA : Bool) (r : List Byte) (st : InstSt) : Bool :=
  let wh := s.wheel (rWheel r)
  let w := if isA then wh.a else wh.b
  let sl := s.slot (rXslot r)
  let ch := if isA then sl.a else sl.b
  match rFn r with
  | some .sls => st.arm || (w.spdOk && !st.viol && (rXslot r == 0 || (sl.a.ds == .live &&
      decide (collarField ch.dataA (wh.xofs + 2) ≤ rW r 10) && decide (collarField ch.dataB (wh.xofs + 2) ≤ rW r 10))))
  | some .slp => st.arm || (w.posOk && inWindow wh.teeth w.cnt (rW r 10) (rW r 12))
  | some .sdi => st.arm || st.cnt == 0
  | _ => true

/-- The progress of one record's LOCAL and start-up test. A start-up test needs a 0 validated after it became pending (R57); a
pair fault undoes an opening, which has to come again once the fault has cleared (R89). -/
def State.progress (s : State) (r : List Byte) (a b : InstSt) (c : InstCom) : InstCom :=
  let p := s.inPair (rDoor r)
  let opened := rOpens r && p.opened
  let fault := p.va.fault || p.vb.fault
  let stOpen := c.stPend && !fault && (c.stOpen || (opened && !c.seen))
  let done := stOpen && p.closed
  let c := { c with stPend := c.stPend && !done, stOpen := stOpen && !done, seen := opened
                    rcOpen := c.atLocal && !fault && (c.rcOpen || opened) }
  let motion := rMotion r && !(s.wheel (rWheel r)).far && s.motionMet true r a && (s.pair.split || s.motionMet false r b)
  let group := c.locals.any (fun e => match e.cause with
    | .group _ => true
    | _ => false)
  let c := { c with motSince := if (motion && c.atLocal) || group then some (c.motSince.getD s.now) else none }
  let met := s.catalogueMet r c
  { c with locals := c.locals.filter (fun e => !(match e.cause with
      | .catalogue _ => met
      | .collar n => (s.slot n).a.ds == .live
      | .conn n => (s.conn n).a.ds == .live
      | _ => false)) }

def State.progressRecs (s : State) : List (List Byte) → List InstSt → List InstSt → List InstCom → List InstCom
  | r :: rs, as, bs, c :: cs =>
    s.progress r (as.headD {}) (bs.headD {}) c :: s.progressRecs rs as.tail bs.tail cs
  | _, _, _, _ => []

def State.progressSheet (s : State) (h : Sheet) : Sheet :=
  if h.loaded then { h with com := s.progressRecs h.recs h.a h.b h.com } else h

/-- Openings, start-up tests and catalogue reset conditions make progress. -/
def State.openings (s : State) : State := { s with sh0 := s.progressSheet s.sh0, sh1 := s.progressSheet s.sh1 }

/-- A validated 0-to-1 change of a wheel's REFPAIR, in one channel's copy, is the start of a reference pass unless the
wheel counts down (R144): for both channels by the last tooth of channel B, whose count is up to date (DESIGN CHOICE,
notes/assumptions/102.md). -/
def WheelCh.seeRef (now : Nat) (down v : Bool) (c : WheelCh) : WheelCh :=
  if c.refVal == v then c else { c with refVal := v, refAt := if v && !down then some now else c.refAt }

def State.refs (s : State) : State :=
  { s with mot := { s.mot with wheels := s.mot.wheels.map (fun w =>
      if w.used then
        let p := s.inPair w.refpair
        { w with a := w.a.seeRef s.ytime w.b.down p.va.value, b := w.b.seeRef s.now w.b.down p.vb.value }
      else w) } }

/-! ## Channel B (R11, R13, 02) -/

/-- Channel B evaluates: in the run states in which the sheet is evaluated, in arrangement P (R77, R227, R342). -/
def State.chanB (s : State) : Bool :=
  !s.pair.split && match s.clk.rs with
  | .armed => !s.clk.held
  | .run => true
  | .safe => true
  | .maint => true
  | .halted => true
  | _ => false

def State.envB (s : State) (tick : Bool) : Env :=
  { isA := false, sheet := 0, now := s.now, readAt := s.now, readYt := s.ytime, endYt := s.ytime
    pairs := s.sin.pairs.map (fun p => p.vb.value), held := s.sh0.holds, pulse := s.cycles && s.sh0.pulse
    rise := s.cycles && tick, gate := false }

/-- The groups of a sheet whose b0 has gone from 1 to 0. -/
def fallen (recs : List (List Byte)) (old new : List InstSt) : List Nat :=
  (mapIdx (fun g i => (g, i)) (ogRecs recs)).filterMap (fun e =>
    if (nth {} old e.2).b0 && !(nth {} new e.2).b0 then some e.1 else none)

/-- One evaluation by channel B: its results, the launches that a fall cancels (R16), and the errors it finds. -/
def State.evalB (s : State) (tick : Bool) : State × List (Src × Nat) :=
  if s.chanB && s.sh0.loaded then
    let out := evalSheet (s.envB tick) s
    let falls := fallen s.sh0.recs s.sh0.b out.1
    let s := falls.foldl (fun s g => s.cancelLaunch 0 g) { s with sh0 := { s.sh0 with b := out.1 } }
    (s, out.2)
  else (s, [])

/-- Channel B settles: a second evaluation takes up the LOCALs that its own errors caused (R147). -/
def State.runB (s : State) (tick : Bool) : State :=
  let r := s.evalB tick
  if r.2.isEmpty then r.1 else ((r.1.raiseAll r.2).evalB false).1

/-! ## Leg commands and gates (R11, R12, R14, R98, R560) -/

/-- A channel's command of an output: the b0 of the OUTGROUP that holds it (R12). -/
def groupCmd (recs : List (List Byte)) (sts : List InstSt) (n : Nat) : Bool :=
  (mapIdx (fun i r => (i, r)) recs).any (fun e => rIs .outgroup e.2 && bit (rOutmask e.2) n && (nth {} sts e.1).b0)

/-- The sheet whose OUTGROUP holds an output: 1 or 0. -/
def State.owner (s : State) (n : Nat) : Nat :=
  if s.sh1.loaded && s.sh1.recs.any (fun r => rIs .outgroup r && bit (rOutmask r) n) then 1 else 0

/-- Channel B's commands go to the M-legs at once in arrangement P (R11, R13), through the M-leg request multiplexers (R235). -/
def State.mCommands (s : State) : State :=
  if s.pair.split then s
  else s.mapOuts (fun n o => { o with m := { o.m with cmd := s.chanB && s.sh0.loaded && groupCmd s.sh0.recs s.sh0.b n && s.routedM n } })

/-- A launch gate closes when its leg's command is 0 (R560), and when the muzzle is open: no leg comes back without a new
launch (R116, R126). -/
def OutSt.shutGates (isOpen : Bool) (o : OutSt) : OutSt :=
  { o with p := { o.p with gate := o.p.gate && o.p.cmd && !isOpen }, m := { o.m with gate := o.m.gate && o.m.cmd && !isOpen } }

/-! ## The S monitor gates (R224) -/

/-- A pair fault is latched in the channel-B copy of a pair that an OUTGROUP's SRC0 reaches. -/
def State.monitorFault (s : State) (k n : Nat) : Bool :=
  let recs := (s.sheet k).recs
  let marks := fedBy (fun _ r => (rPairs r).any (fun p => (s.inPair p).vb.fault)) recs
  recs.any (fun r => rIs .outgroup r && bit (rOutmask r) n && srcKind (rSrc r 0) == 2 && nth false marks (srcIdx (rSrc r 0)))

/-- The readback condition of R224 fails. -/
def State.monitorRb (s : State) (n : Nat) (o : OutSt) : Bool :=
  let late := fun (a : Option Nat) => a.any (fun a => decide (a + o.offdly * 10 * us < s.now))
  let e := nth (none, none) s.fab.rbSince n
  late e.1 || late e.2

/-- The three conditions of the S monitor gate of an output hold, and its multiplexer has a source (R235). -/
def State.monitorOk (s : State) (n : Nat) (o : OutSt) : Bool :=
  nth false s.fab.wd (s.owner n) && !s.monitorFault (s.owner n) n && !s.monitorRb n o && s.routedGate n

/-- The readback times and the falls of the S monitor gates. -/
def State.monitor (s : State) : State :=
  if s.pair.split then
    let since := fun (n : Nat) (e : Option Nat × Option Nat) =>
      let o := s.out n
      let one := fun (rb : Bool) (a : Option Nat) => if !o.p.cmd && rb then some (a.getD s.now) else none
      (one o.p.rb e.1, one o.m.rb e.2)
    let s := { s with fab := { s.fab with rbSince := mapIdx since s.fab.rbSince } }
    { s with fab := { s.fab with gate := mapIdx (fun n g => g && s.monitorOk n (s.out n)) s.fab.gate } }
  else s

/-! ## The pads (R95, R98, R102, R107, R125, R195) -/

/-- The drive of a leg apart from dark tests (R95). -/
def State.drive (s : State) (n : Nat) (o : OutSt) (l : Leg) : Bool :=
  let g := match l with
    | .p => o.p.cmd && o.p.gate
    | .m => o.m.cmd && o.m.gate && (!s.pair.split || nth false s.fab.gate n)
  s.clk.rs == .run && !s.sout.open_ && o.used && !o.force && !o.latch && g

/-- The test in progress is on this leg. -/
def State.dark (s : State) (n : Nat) (l : Leg) : Bool :=
  match s.sout.test with
  | some t => t.out == n && t.leg == l
  | none => false

/-- A majority of three antifuses (R495). -/
def majority (l : List Bool) : Bool := decide (2 ≤ (l.filter id).length)

/-- LIFECYCLE's four bits and the void bit, by majority of their antifuses (R495). -/
def Img.lcBits (i : Img) : Nat := bitmap (i.fuses.map majority)

/-- LIFECYCLE (R23): 0 in VOID. -/
def Img.lc (i : Img) : Nat := if bit i.lcBits 4 then 0 else i.lcBits % 16

def lcBlank : Nat := 0x1
def lcDevelop : Nat := 0x3
def lcField : Nat := 0x7
def lcReturn : Nat := 0xF

/-- The pad level of a leg: EXTEST drives the pads from the update stage in RETURN, past the muzzle gate (R195). -/
def State.padLevel (s : State) (n : Nat) (o : OutSt) (l : Leg) : Bool :=
  if s.pair.tap == .extest && s.live then
    s.img.lc == lcReturn && s.pair.cells.so.getLsbD (match l with | .p => n | .m => 16 + n)
  else s.drive n o l && !s.dark n l && !(o.leg l).kept

/-! ## The muzzle (R103, R114, R116) -/

/-- Both legs of an output latched off are live although its pads are low: SOUT_SHORT lasts (R562; DEDUCED,
notes/assumptions/12.md). -/
def State.shorted (s : State) (n : Nat) (o : OutSt) : Bool :=
  o.latch && o.p.rb && o.m.rb && !s.padLevel n o .p && !s.padLevel n o .m

/-- A leg of an output whose SOUT_RB is not cleared is live although its pad is low: SOUT_RB lasts (R562; DEDUCED,
notes/assumptions/12.md). -/
def State.liveOff (s : State) (n : Nat) (o : OutSt) : Bool :=
  o.rbFlt && ((o.p.rb && !s.padLevel n o .p) || (o.m.rb && !s.padLevel n o .m))

/-- The lasting lines of SOUT_SHORT and SOUT_RB. -/
def State.shortLine (s : State) : State :=
  (s.holdLine .soutShort ((mapIdx s.shorted s.sout.outs).any id)).holdLine .soutRb ((mapIdx s.liveOff s.sout.outs).any id)

/-- The muzzle is to be open: every state other than ARMED, RUN and MAINT, a held state, a trigger source that lasts, and
an ordered power-down. -/
def State.muzzleOpen (s : State) : Bool :=
  !(s.clk.rs == .armed || s.clk.rs == .run || s.clk.rs == .maint) || s.clk.held || s.sout.ext || s.clk.rcstop ||
    s.seq.phase == .down || s.stopActive

def State.muzzle (s : State) : State :=
  let o := s.muzzleOpen
  { s with sout := { s.sout with open_ := o, trig := if s.sout.open_ && !o then 0 else s.sout.trig } }

/-! ## The pads change -/

/-- A leg's pad takes a level; its fall and rise start the readback times. -/
def LegSt.setPad (now : Nat) (v : Bool) (l : LegSt) : LegSt :=
  if l.pad == v then l
  else if v then { l with pad := true, live := none, oc := if l.rb then none else some now, conducted := l.conducted || l.rb }
  else { l with pad := false, lowAt := now, live := if l.rb then some now else none, oc := none }

/-- The output is energised: both legs driven high, dark tests aside. -/
def State.energised (s : State) (n : Nat) (o : OutSt) : Bool := s.drive n o .p && s.drive n o .m

/-- A de-energise ends a dark test of the output without a verdict; the tested leg stays low, and OFFDLY counts from the
de-energise (R125). -/
def State.darkAbort (s : State) : State :=
  match s.sout.test with
  | some t =>
    if s.energised t.out (s.out t.out) then s
    else
      let s := { s with sout := { s.sout with test := none, testEnd := some s.now } }
      s.modLeg t.out t.leg (fun l => { l with lowAt := s.now, live := if l.rb then some s.now else none, kept := true })
  | none => s

/-- One output's pads, the deferral of its dark tests (R111) and the time it has been fully off (R105). -/
def State.padsOf (s : State) (n : Nat) (o : OutSt) : OutSt :=
  let on := s.energised n o
  let o := { o with p := { o.p.setPad s.now (s.padLevel n o .p) with deferred := o.p.deferred && on, kept := o.p.kept && s.drive n o .p }
                    m := { o.m.setPad s.now (s.padLevel n o .m) with deferred := o.m.deferred && on, kept := o.m.kept && s.drive n o .m } }
  let idle := !o.p.pad && !o.m.pad && !o.p.rb && !o.m.rb
  { o with idle := if idle then some (o.idle.getD s.now) else none, off := if o.force && idle then some (o.off.getD s.now) else none }

def State.pads (s : State) : State :=
  let s := (s.mapOuts (fun _ o => o.shutGates s.sout.open_)).darkAbort
  s.mapOuts s.padsOf

/-! ## Records close (R349) and item 1 of R354 -/

/-- The open record closes: CLOSED and RSDUR are set and the record is rewritten (R349). -/
def State.closeRecord (s : State) : State :=
  match s.flt.rec? with
  | some o =>
    let r := { o.r with closed := true, dur := Nat.min ((s.now - o.at_) / ms) 0xFFF }
    ({ s with flt := { s.flt with rec? := none, due := s.flt.due ++ [(r, false)] } }).alert 1
  | none => s

/-- A LOCAL caused by a record is still in force. -/
def State.localOf (s : State) (recno : Nat) : Bool :=
  let has := fun (h : Sheet) => h.com.any (fun c => c.locals.any (fun e => e.recno == recno))
  has s.sh0 || has s.sh1

/-- An open record of class STOP closes when the state held under R343 is left (R349). -/
def State.closeStop (s : State) : State :=
  match s.flt.rec? with
  | some o => if s.clk.held && o.r.cls == .stop then s.closeRecord else s
  | none => s

/-- The closing conditions of R349 that need no cycle end. -/
def State.closing (s : State) : State :=
  match s.flt.rec? with
  | some o =>
    match o.r.cls with
    | .loc => if !s.localOf o.r.recno then s.closeRecord else s
    | .stop => if !s.clk.held && (s.clk.rs == .armed || s.clk.rs == .run || s.clk.rs == .maint) then s.closeRecord else s
    | _ => s
  | none => s

/-- An actuation in progress is discarded for the MRESET of every sheet (R361, R433). -/
def State.discardAck (s : State) : State :=
  { s with sh0 := { s.sh0 with ackBad := true }, sh1 := { s.sh1 with ackBad := true } }

/-- Item 1 of R354 is judged at every change of its conditions; the change that completes it in SAFE discards an actuation
in progress (R361). -/
def State.item1 (s : State) : State :=
  let s := { s with flt := { s.flt with item1 := if s.item1Now then some (s.flt.item1.getD s.now) else none } }
  if s.clk.rs == .safe && s.flt.item1 == some s.now && s.sp.ackFirst.isSome then s.discardAck else s

/-- CP_ALERT_N is low while an enabled bit is set (R470). -/
def State.alertPin (s : State) : State :=
  { s with cp := { s.cp with alertN := s.cp.on && (s.cp.alertSrc &&& s.cp.alertEn) != 0 } }

/-- What follows a command at once. `tick`: the command is the cycle-start tick. -/
def State.settleAt (s : State) (tick : Bool) : State :=
  let s := (s.refs.openings.runB tick).openings.mCommands
  ((((s.monitor.shortLine).muzzle).pads).closing).item1

/-- What follows a command at once. -/
def State.settle (s : State) : State := s.settleAt false

/-- A collar slot or a consume connection has left LIVE in the data view (R468). -/
def State.leftLive (old s : State) : Bool :=
  let slots := (List.zip old.col.slots s.col.slots).any (fun e => e.1.a.ds == .live && e.2.a.ds != .live)
  slots || (List.zip old.yard.conns s.yard.conns).any (fun e => e.1.a.ds == .live && e.2.a.ds != .live)

/-- The alerts that changes of state give (R358 bits 2 and 3, R468 bits 12 to 15), and CP_ALERT_N. -/
def State.watch (old s : State) : State :=
  let set := fun (s : State) (on : Bool) (n : Nat) => if on then s.alert n else s
  let ch := old.clk.rs != s.clk.rs
  let s := set s (ch && (s.clk.rs == .safe || s.clk.rs == .cut)) 2
  let s := set s (ch && old.clk.rs == .safe) 3
  let s := set s ch 12
  let s := set s (old.leftLive s) 13
  let s := set s (old.yard.sync != s.yard.sync) 14
  (set s (!old.seq.holdup && s.seq.holdup) 15).alertPin

/-- Where the part is unpowered or in power-on reset, a command only lets time pass. -/
def whenLive (s : State) (f : State → State) : State := if s.live then f s else s

/-- The outcome of a command: time moves to its instant, it takes effect, and the part settles. `tick`: the command is
the cycle-start tick. -/
def actAt (tick : Bool) (t : Nat) (s : State) (f : State → State) : Host.Outcome State Fault Refusal :=
  .next (s.watch ((f (s.upTo t)).settleAt tick))

/-- The outcome of any other command. -/
def act (t : Nat) (s : State) (f : State → State) : Host.Outcome State Fault Refusal := actAt false t s f

end Sys2Proof.Machine
end

