-- ==== Sys2Proof/Machine/Records.lean ====
section
/-!
DEFINITION. The byte layouts of fault records and snapshot records (R344, R403), their rings in the logs region, and the
resets of the islands (R420, R422).
-/
namespace Sys2Proof.Machine

/-! ## Layouts -/

/-- COMMIT over the bytes before it (R344, R403). -/
def commitOf (l : List Byte) : List Byte := toBytes 4 (crc32c l).toNat

/-- A record's bytes carry a valid COMMIT in their last four bytes. -/
def commitOk (l : List Byte) : Bool := l.drop (l.length - 4) == commitOf (l.take (l.length - 4))

/-- Bytes 0 to 27 of a fault record (R344). -/
def FRec.body (r : FRec) : List Byte :=
  toBytes 4 r.recno ++ toBytes 8 r.ytime ++ toBytes 8 r.srcmap ++ toBytes 1 (r.first % 64) ++
  toBytes 1 (r.cls.code + flag r.closed 2 + flag r.fromSnap 3 + flag r.solo 4 + flag r.perturbed 5 + flag r.syncLost 6) ++
  toBytes 2 r.merges ++ toBytes 2 r.detail ++ toBytes 2 (r.rstate % 16 + 16 * r.dur)

/-- A fault record with its COMMIT. -/
def FRec.bytes (r : FRec) : List Byte := r.body ++ commitOf r.body

/-- Bytes 0 to 59 of a snapshot record (R403). -/
def Snap.body (e : Snap) (no : Nat) : List Byte :=
  toBytes 4 no ++ toBytes 8 e.ytime ++ toBytes 1 e.cause ++ toBytes 1 e.csrc ++ toBytes 1 e.pgmap ++ toBytes 1 e.enmap ++
  (padTo 16 (e.ramps.flatMap (toBytes 2))) ++ toBytes 2 e.vin ++ padTo 6 (e.temps.flatMap (fun t => toBytes 2 (twos16 t 32767))) ++
  toBytes 4 e.fstat ++ toBytes 1 (e.rstate % 16) ++
  toBytes 1 (flag e.localTime + flag e.holdup 1 + flag e.syncLost 2 + flag e.perturbed 3) ++ List.replicate 14 0

/-- A snapshot record with its COMMIT. -/
def Snap.bytes (e : Snap) (no : Nat) : List Byte := e.body no ++ commitOf (e.body no)

/-! ## The rings: slot (number − 1) modulo the ring's length (notes/assumptions/13.md) -/

def faultSlotOf (recno : Nat) : Nat := (recno + 4095) % 4096
def snapSlotOf (no : Nat) : Nat := (no + 255) % 256
def faultAddr (slot : Nat) : Nat := faultRing + 32 * slot
def snapAddr (slot : Nat) : Nat := snapRing + 64 * slot

def State.faultSlot (s : State) (slot : Nat) : List Byte := s.mram.readN (faultAddr slot) 32
def State.snapSlot (s : State) (slot : Nat) : List Byte := s.mram.readN (snapAddr slot) 64

/-- The slots of the fault ring that hold bytes, and of the snapshot ring. A slot of zeros alone is no record. -/
def State.faultSlots (s : State) : List Nat := s.mram.slots faultRing 32 snapRing
def State.snapSlots (s : State) : List Nat := s.mram.slots snapRing 64 (snapRing + 64 * 256)

/-- The valid records of the fault ring, as bytes. -/
def State.faultRecs (s : State) : List (List Byte) := (s.faultSlots.map s.faultSlot).filter commitOk
def State.snapRecs (s : State) : List (List Byte) := (s.snapSlots.map s.snapSlot).filter commitOk

/-- The highest number in bytes 0 to 3 of some records, 0 when there are none (R346, R406). -/
def topNo (l : List (List Byte)) : Nat := l.foldl (fun m r => Nat.max m (beAt r 0 4)) 0

/-- The record with a number. -/
def recNo (n : Nat) (l : List (List Byte)) : Option (List Byte) := l.find? (fun r => beAt r 0 4 == n)

/-- A slot holds a valid record of another number (R358 bit 5). -/
def State.overwrites (s : State) (recno : Nat) : Bool :=
  let l := s.faultSlot (faultSlotOf recno)
  !allZero l && commitOk l && beAt l 0 4 != recno

/-- What an aborted write leaves: the body without a valid COMMIT; its last word is a free value (R401, R345). -/
def State.tornBytes (s : State) (body : List Byte) : List Byte :=
  body ++ toBytes 4 (((crc32c body).toNat + 1 + Config.freeNat s.free % 0xFFFFFFFF) % 4294967296)

/-! ## Resets (R382, R420, R422) -/

/-- What of the images and the life cycle survives any reset: antifuses, and what the life-cycle record holds. -/
def Img.keep (i : Img) : Img :=
  { fuses := i.fuses, keyFuse := i.keyFuse, keyEnr := i.keyEnr, erased := i.erased }

/-- Pin levels that partners drive, and the rails that feed the FIO banks, stay across a reset: SI, TW, RB, ACK, FIO and MUZZLE_N. -/
def State.pinsOf (s : State) (r : State) : State :=
  { r with
    sin := { r.sin with pairs := List.zipWith (fun (n o : InPair) => { n with rawA := o.rawA, rawB := o.rawB }) r.sin.pairs s.sin.pairs }
    sout := { r.sout with
      outs := List.zipWith (fun (n o : OutSt) => { n with p := { n.p with rb := o.p.rb }, m := { n.m with rb := o.m.rb } }) r.sout.outs s.sout.outs
      ext := s.sout.ext }
    mot := { r.mot with wheels := List.zipWith (fun (n o : Wheel) =>
      { n with a := { n.a with lvA := o.a.lvA, lvB := o.a.lvB, setB := o.a.lvB }, b := { n.b with lvA := o.b.lvA, lvB := o.b.lvB, setB := o.b.lvB } }) r.mot.wheels s.mot.wheels }
    sp := { r.sp with ackA := s.sp.ackA, ackB := s.sp.ackB, ackSince := s.sp.ackSince }
    clk := { r.clk with rstLow := s.clk.rstLow }
    fab := { r.fab with feed0 := s.fab.feed0, feed1 := s.fab.feed1 }
    logic := { r.logic with fio := s.logic.fio } }

/-- Every island except AON is reset (R420, R422): every register at its reset value, RUNSTATE OFF. MRAM and antifuses
stay, and so does AON, which no longer receives yard time. -/
def State.islandsReset (s : State) : State :=
  s.pinsOf { State.reset with
    now := s.now, free := s.free, mram := s.mram, img := s.img.keep, pending := s.pending
    seq := { s.seq with ytickAt := none } }

/-- What of an output and of a collar slot counts since power-up or lasts until the next one (R103, R105, R124, R284). -/
def OutSt.sincePower (new old : OutSt) : OutSt :=
  { new with force := old.force, latch := old.latch, rbFlt := old.rbFlt, ocFlt := old.ocFlt, episodes := old.episodes, ocs := old.ocs }
def Slot.sincePower (new old : Slot) : Slot :=
  { new with crcerr := old.crcerr, miss := old.miss, losts := old.losts, quars := old.quars }

/-- A warm restart (R422): the islands are reset, but what counts since power-up goes on counting, and what lasts until the
next power-up, which a warm restart is not (R389), stays: the agreed arrangement (R21), a core that is isolated (R188), a
failure of the farrier (R449), and the force-off gates, which open only under R103 and R105 (DEDUCED,
notes/assumptions/107.md). -/
def State.warmReset (s : State) : State :=
  let r := s.islandsReset
  { r with
    clk := { r.clk with strap := s.clk.strap, fixed := s.clk.fixed, devMax := s.clk.devMax }
    pair := { r.pair with
      arr := s.pair.arr, cmpcnt := s.pair.cmpcnt, rotcnt := s.pair.rotcnt, rotk := s.pair.rotk, soloMax := s.pair.soloMax
      out0 := s.pair.out0, out1 := s.pair.out1 }
    sin := { r.sin with
      pairs := List.zipWith (fun (n o : InPair) => { n with missA := o.missA, missB := o.missB }) r.sin.pairs s.sin.pairs
      tp := List.zipWith (fun (n o : TpLine) => { n with cnt := o.cnt }) r.sin.tp s.sin.tp }
    sout := { r.sout with outs := List.zipWith OutSt.sincePower r.sout.outs s.sout.outs }
    mot := { r.mot with wheels := List.zipWith (fun (n o : Wheel) => { n with discarded := o.discarded, inferred := o.inferred }) r.mot.wheels s.mot.wheels }
    col := { r.col with
      slots := List.zipWith Slot.sincePower r.col.slots s.col.slots
      ports := List.zipWith (fun (n o : RadioPort) => { n with err := o.err }) r.col.ports s.col.ports }
    yard := { r.yard with
      ports := List.zipWith (fun (n o : YPort) => { n with retry := o.retry }) r.yard.ports s.yard.ports }
    fab := { r.fab with scruberr := s.fab.scruberr }
    flt := { r.flt with
      notesup := s.flt.notesupNow, lasting := s.flt.lasting, line := if bit s.flt.line Src.farrier.bit then 2 ^ Src.farrier.bit else 0 }
    farr := { r.farr with pass := s.farr.pass, fail := s.farr.fail, firstFail := s.farr.firstFail, hostcnt := s.farr.hostcnt } }

/-- Power-on reset: every AON state is cleared too (R382). -/
def State.powerReset (s : State) : State :=
  s.pinsOf { State.reset with now := s.now, free := s.free, mram := s.mram, img := s.img.keep, pending := s.pending }

/-- COLL leaves reset: RECNO continues from the highest valid record of the ring, and records with a wrong COMMIT are
counted (R345, R346, R359). -/
def State.collStart (s : State) : State :=
  { s with flt := { s.flt with
    on := true, onAt := s.now, recno := topNo s.faultRecs, head := topNo s.faultRecs
    wrBad := Nat.min (s.faultSlots.length - s.faultRecs.length) 0xFF } }

/-- A stage time in 0.1 ms from the release (R438). -/
def State.stage (s : State) : Nat := Nat.min ((s.now - s.clk.start) / 100000) 0xFFFF

/-- The islands in the order of their release, and the PLL, as its clock index, that drives each one's clock: COLL runs on the RC
oscillator (R412, R423). -/
def islandOrder : List Nat := [8, 10, 4, 1, 9, 3, 2, 7, 5, 6]
def islandPll : Nat → Option Nat
  | 1 => some 1
  | 4 => some 1
  | 2 => some 2
  | 7 => some 2
  | 8 => some 2
  | 9 => some 2
  | 3 => some 3
  | 5 => some 4
  | 6 => some 4
  | _ => none

/-- PLL n, by its clock index, is locked: it has locked and the monitor does not find it bad (R438). -/
def State.locked (s : State) (n : Nat) : Bool := s.clk.pll && !nth false s.clk.bad n

/-- Island `n` has a running clock. -/
def State.clocked (s : State) (n : Nat) : Bool :=
  match islandPll n with
  | some p => s.locked p
  | none => true

/-- The islands whose clock runs leave reset, in order (R423); the control port answers once CTRL has left it (R470). -/
def State.releaseIslands (s : State) : State :=
  let out := islandOrder.foldl (fun l n => if s.clocked n then setAt l n true else l) s.clk.out
  { s with clk := { s.clk with out := out }, cp := { s.cp with on := nth false out 7 } }

/-- BOOT begins (R424, R437): the clocks start. COLL, which runs on the RC oscillator, leaves reset at once: it latches what BOOT
finds (R413; DEDUCED, notes/assumptions/17.md). A MUZZLE_N that is low is recognised from
BOOT on (R534, R562). -/
def State.boot (s : State) : State :=
  let s := { s.collStart with clk := { s.collStart.clk with rs := .boot, bootAt := s.now, tboot := s.stage, out := setAt s.clk.out 10 true } }
  if s.sout.ext then s.line .muzzleExt true 0 else s

end Sys2Proof.Machine
end

