-- ==== Sys2Proof/Machine/Pair.lean ====
section
/-!
DEFINITION. The lockstep pair (06): comparison, memory errors, rotation, and debug through the TAP.
-/
namespace Sys2Proof.Machine

/-- A write refused under the LK access code: LOCKED is returned, and the write is logged (R5, R336, R465, R468). -/
def State.lkRefused (s : State) (addr : Nat) : State := ((s.frameBit 3).err .cpProto (addr % 256 + 256)).alert 11

/-- The part is in FIELD: LK fields are locked (R499). -/
def State.field (s : State) : Bool := s.img.lc == lcField

/-! ## Comparison and memory errors (R162, R170, R172) -/

/-- CMP with a cause and, for lockstep, the first difference (R162, R206). -/
def State.cmp (s : State) (group bitIn cause : Nat) : State :=
  let d := group % 8 + 8 * (bitIn % 128) + 1024 * cause
  let s := { s with pair := { s.pair with cmpdiag := w16 d, cmpcnt := sat16 s.pair.cmpcnt, cmpSafe := true } }
  s.err .cmp d

def cmpLockstep : Nat := 1
def cmpHalt : Nat := 2
def cmpResume : Nat := 3
def cmpReplay : Nat := 4
def cmpSolo : Nat := 5
def cmpPartition : Nat := 6

/-- The state words of an instance take their initial values (R172): the evaluation state, and a start-up test pending
where the record asks for one (DEDUCED, notes/assumptions/16.md). -/
def State.resetInst (s : State) (k i : Nat) : State :=
  let s := s.modSheet k (fun h => { h with a := updAt (fun _ => {}) h.a i })
  s.modCom k i (fun c => { c with stPend := c.stPend || rStartup (s.recAt k i), stOpen := false })

/-- One SECDED event (R170, R206). -/
def State.ecc (s : State) (e : EccEvent) : State :=
  let count := fun (s : State) => { s with pair := { s.pair with kramcnt := sat16 s.pair.kramcnt } }
  let note := fun (s : State) (d : Nat) => (count s).err .kramEcc d
  let at_ := fun (s : State) (a : Nat) (rom : Bool) => { s with pair := { s.pair with kramAdr := a, kramRom := rom } }
  match e.place with
  | .record k i =>
    if e.corrected then note s (instDetail k i)
    else ((at_ s (Config.freeNat s.free % 262144) false).fresh.raise .kramEcc (instDetail k i) .loc).resetInst k i
  | .kram a => if e.corrected then note s 0x03FF else (at_ s a false).raise .kramEcc 0x03FF .stop
  | .krom a => if e.corrected then note s 0x03FF else (at_ s a true).raise .kramEcc 0x03FF .stop
  | .regfile c =>
    if e.corrected then
      if c.val = 0 then { s with pair := { s.pair with ecc0 := sat8 s.pair.ecc0 } }
      else { s with pair := { s.pair with ecc1 := sat8 s.pair.ecc1 } }
    else
      let lead := if s.pair.split then 0 else s.pair.lead
      if c.val = lead then s.err .leadEcc 0 else s.err .heelEcc 0

def State.eccAll (s : State) (l : List EccEvent) : State := l.foldl State.ecc s

/-- The kennel runs: not before the cores have left reset at the end of SELFTEST (R443), and not while the pair is halted. -/
def State.kennelRuns (s : State) : Bool :=
  s.live && !(s.clk.rs == .boot || s.clk.rs == .selftest || s.clk.rs == .halted)

/-- KRAM_PATROL (R171): the kennel's sweep meets the errors named. -/
def execKramPatrol (t : Nat) (errs : List EccEvent) (s : State) : Host.Outcome State Fault Refusal :=
  act t s (fun s => if s.kennelRuns then s.eccAll errs else s)

/-! ## Rotation (R179 to R191) -/

/-- The deferral conditions of R180, as PAIR.DEFCAUSE. -/
def State.defCause (s : State) : Nat :=
  flag (!(s.clk.rs == .armed || s.clk.rs == .run)) +
  flag s.flt.rec?.isSome 1 +
  flag (s.farr.cur != 0 || s.farr.busy || decide (s.now < s.farr.endAt + 100 * us) || decide (s.farr.budget < 45)) 2 +
  flag (s.pair.dbg != .none || s.pair.pendHalt != .none || s.pair.resyncPend) 3 +
  flag (s.pair.howin != 0) 4

/-- ROTATION_DUE (R179). -/
def State.rotDue (s : State) : State :=
  match s.pair.rotFrom with
  | some a =>
    if s.live && !s.pair.arr && s.pair.rotint != 0 && s.pair.due.isNone && !s.pair.solo &&
        decide (a + s.pair.rotint * 3600 * 1000 * ms ≤ s.now) then
      { s with pair := { s.pair with due := some s.now } }
    else s
  | none => s

def execRotationDue (t : Nat) (s : State) : Host.Outcome State Fault Refusal := act t s State.rotDue

/-- A write to PAIR.ROTCTL (R182): a write of 1 in DEVELOP or RETURN makes a rotation fall due; LK in FIELD. -/
def State.rotctlWrite (s : State) (v : Word) : State :=
  if s.field then s.lkRefused 0x86
  else if (s.img.lc == lcDevelop || s.img.lc == lcReturn) && bit v.toNat 0 && s.pair.rotint != 0 && s.pair.due.isNone &&
      !s.pair.arr then
    { s with pair := { s.pair with due := some s.now } }
  else s

def execRotctlNow (t : Nat) (value : Word) (s : State) : Host.Outcome State Fault Refusal :=
  act t s (fun s => whenLive s (fun s => s.rotctlWrite value))

/-- The core that rotation k tests (R183). -/
def rotTested (k : Nat) : Nat := if k % 2 = 1 then 1 else 0

/-- The solo cycle's read of the inputs of R191. -/
def State.soloRead (s : State) : State :=
  { s with sp := { s.sp with
      soloPairs := s.sp.rdPairs, soloPulse := s.sh0.pulse, soloCnts := s.mot.wheels.map (fun w => w.a.cnt)
      soloColl := s.col.slots.map (fun x => (x.a.dataA, x.a.dataB)), soloYard := s.yard.conns.map (fun c => c.a.data) } }

/-- ROTATION_SPLIT (R180, R183, R184), at the end of a cycle whose comparisons agree: the tested core is handed to the
farrier and the other core carries on alone. -/
def State.split (s : State) : State :=
  if s.atBoundary && s.pair.due.isSome && s.defCause = 0 && !s.pair.solo && !s.pair.arr && !(s.sh0.com.any (·.diff)) then
    let k := s.pair.rotk + 1
    let tested := rotTested k
    let s := if s.sp.rdAt == s.now then s.soloRead else s
    { s with
      pair := { s.pair with solo := true, soloCore := 1 - tested, rotk := k, due := none, splitAt := s.now, ready := false }
      farr := { s.farr with origin := .rotation, busy := true, todo := [tested + 1, 8], stopped := false, setAt := s.now
                            endAt := s.now - 100 * us }
      sp := { s.sp with rdSolo := s.sp.rdAt == s.now || s.sp.rdSolo } }
  else s

def execRotationSplit (t : Nat) (s : State) : Host.Outcome State Fault Refusal := act t s State.split

/-- ROTATION_LATE (R181). -/
def State.rotLate (s : State) : State :=
  match s.pair.due with
  | some a => if decide (a + 3600 * 1000 * ms < s.now) then { s with pair := { s.pair with late := true } } else s
  | none => s

def execRotationLate (t : Nat) (s : State) : Host.Outcome State Fault Refusal := act t s State.rotLate

/-- The tested core failed, or solo lasted over 40 ms (R188): it stays isolated, and SAFE lasts until power-up. -/
def State.coreOut (s : State) (res code : Nat) : State :=
  let tested := 1 - s.pair.soloCore
  let s := { s with
    pair := { s.pair with out0 := s.pair.out0 || tested == 0, out1 := s.pair.out1 || tested == 1, lastRes := res, lastCore := tested, ready := false }
    farr := { s.farr with todo := [], busy := false, firstFail := if s.farr.firstFail = 0 then w16 (code + 0x8000) else s.farr.firstFail }
    flt := { s.flt with lasting := true } }
  if bit s.flt.line Src.farrier.bit then s else s.err .farrier code

/-- SOLO_TIMEOUT (R188). -/
def State.soloLate (s : State) : State :=
  if s.pair.solo && !s.pair.out0 && !s.pair.out1 && decide (s.pair.splitAt + 40 * ms < s.now) then s.coreOut 3 0x12 else s

def execSoloTimeout (t : Nat) (s : State) : Host.Outcome State Fault Refusal := act t s State.soloLate

/-! ## Halting (R199, R201, R205) -/

/-- The run states from which the pair can be halted (R437). -/
def State.haltable (s : State) : Bool :=
  !s.clk.held && match s.clk.rs with
  | .armed => true
  | .run => true
  | .maint => true
  | .safe => true
  | _ => false

def tapPairHalt : Nat := 0b01001
def tapLeadInspect : Nat := 0b01010
def tapResync : Nat := 0b01011

/-- What the kennel has left in the register files is not documented (R159): free values, the same in both cores of a
pair whose digests agree. -/
def State.freeRegs (s : State) (same : Bool) : State :=
  let regs := fun (n : Nat) => (List.range 34).map (Config.stepReg n)
  { s.fresh.fresh with pair := { s.pair with regs0 := regs s.free, regs1 := regs (if same then s.free else s.free + 1) } }

/-- The pair halts: DEBUG_HALT, the muzzle open, RUNSTATE HALTED; with a digest that differs under PAIR_HALT in
arrangement P, CMP (R194, R199). What the kennel has left in kennel RAM is not documented. -/
def State.haltNow (s : State) (mode : DbgMode) (digestDiffer : Bool) : State :=
  let s := if mode == .pairHalt && digestDiffer && !s.pair.split then s.cmp 0 0 cmpHalt else s
  let s := (s.freeRegs (!digestDiffer && !s.pair.split)).kramAnew
  if s.clk.rs == .cut then s
  else
    ({ s with clk := { s.clk with rs := .halted }, pair := { s.pair with dbg := mode, pendHalt := .none, journal := [], jovf := false } } : State).holdLine
      .debugHalt true

/-- A halt or inspection request (R199, R201): at once, or after the rejoin or CMPINJ under R205. DEBUG_HALT opens the
muzzle in every case; in a state that no transition of R437 leaves for HALTED, R343 then holds the part there (DEDUCED,
notes/assumptions/109.md). -/
def State.haltRequest (s : State) (mode : DbgMode) (code : Nat) (digestDiffer : Bool) : State :=
  if s.clk.rs == .halted then s
  else
    let s := s.err .debugHalt code
    if s.clk.rs == .cut then s
    else if s.pair.solo || s.farr.cur = 8 then { s with pair := { s.pair with pendHalt := mode } }
    else if s.haltable then s.haltNow mode digestDiffer
    else s

/-- A halt that waited takes effect (R205), where R437 has a way to HALTED. -/
def State.haltPending (s : State) : State :=
  if s.pair.pendHalt == .none then s
  else if s.haltable then s.haltNow s.pair.pendHalt false
  else { s with pair := { s.pair with pendHalt := .none } }

/-- ROTATION_REJOIN (R187, R189): the solo core becomes the lead, and the hand-over window opens. -/
def State.rejoin (s : State) : State :=
  if s.atBoundary && s.pair.solo && s.pair.ready then
    let len := Nat.min ((s.now - s.pair.splitAt) / us) 0xFFFF
    let s := { s.cycleEntry with pair := { s.cycleEntry.pair with
      solo := false, lead := s.pair.soloCore, lastCore := 1 - s.pair.soloCore, lastRes := 1, rotcnt := (s.pair.rotcnt + 1) % 65536
      soloLast := len, soloMax := Nat.max s.pair.soloMax len, late := false, rotFrom := some s.now, howin := 3
      ready := false, hoInput := s.pair.hoInput && s.sp.rdAt == s.now } }
    ({ s with sh0 := { s.sh0 with com := s.sh0.com.map (fun c => { c with hoDiff := 0 }) }
              sp := { s.sp with rdSolo := s.sp.rdSolo && s.sp.rdAt != s.now } } : State).haltPending
  else s

/-- A rejoin boundary more than 40 ms after the split isolates the tested core instead (R188). -/
def State.rejoinDue (s : State) : State :=
  if s.atBoundary && s.pair.solo && s.pair.ready && decide (s.pair.splitAt + 40 * ms < s.now) then s.coreOut 3 0x12 else s.rejoin

def execRotationRejoin (t : Nat) (s : State) : Host.Outcome State Fault Refusal := act t s State.rejoinDue

/-! ## The TAP (R192, R193, R500) -/

/-- A refused instruction acts as BYPASS and is counted (R193). -/
def State.tapRefused (s : State) : State :=
  { s with pair := { s.pair with tap := .bypass, dr := 0, refcnt := satAdd s.pair.refcnt 1 0xF } }

/-- The data register that an instruction captures: IDCODE, or the 0 of BYPASS (R192). -/
def tapData (i : TapSel) (dr : BitVec 32) : BitVec 32 :=
  match i with
  | .idcode => 0xB006434F
  | .bypass => 0
  | _ => dr

def State.setTap (s : State) (i : TapSel) : State := { s with pair := { s.pair with tap := i, dr := tapData i s.pair.dr } }

/-- Bits as a vector, the first at bit 0. -/
def bitsOf (n : Nat) (l : List Bool) : BitVec n := BitVec.ofNat n (bitmap l)

/-- The levels of the pins as the boundary scan register captures them (R193); where RPn_SCK runs, its level is a free value. -/
def State.pinScan (s : State) : Scan :=
  let out := fun (f : OutSt → Bool) => s.sout.outs.map f
  let tw := fun (n : Nat) => [(s.wheel n).b.lvA, (s.wheel n).b.lvB]
  let rp := fun (r : RadioPort) => [r.sck && Config.freeBool s.free, r.doNow s.now, r.frmNow s.now]
  { out := { so := bitsOf 32 (out (·.p.pad) ++ out (·.m.pad)), tp := bitsOf 8 ((List.range 8).map s.tpPad)
             bark := bitsOf 2 [s.sout.barkA, s.sout.barkB], fio := bitsOf 96 (s.logic.fioOut.map (·.2))
             fioEn := bitsOf 96 (s.logic.fioOut.map (·.1)), rp := bitsOf 6 (s.col.ports.flatMap rp), alertN := s.cp.alertN }
    rb := bitsOf 32 (out (·.p.rb) ++ out (·.m.rb)), si := bitsOf 64 (s.sin.pairs.map (·.rawA) ++ s.sin.pairs.map (·.rawB))
    tw := bitsOf 4 (tw 0 ++ tw 1), ack := bitsOf 2 [s.sp.ackA, s.sp.ackB], fio := bitsOf 96 s.logic.fio, muzzle := s.sout.ext }

/-- The boundary scan register captures the pins. -/
def State.takeScan (s : State) : State := ({ s with pair := { s.pair with scan := s.pinScan } }).fresh

def State.lcDebug (s : State) : Bool := s.img.lc == lcDevelop || s.img.lc == lcReturn

/-- IDCODE (R192). -/
def execIdcode (t : Nat) (s : State) : Host.Outcome State Fault Refusal :=
  act t s (fun s => whenLive s (fun s => s.setTap .idcode))

/-- A code is one of the listed instructions other than BYPASS (R192). -/
def tapListed (c : Nat) : Bool := [0b00000, 0b00001, 0b00010, 0b01000, 0b01001, 0b01010, 0b01011].any (· == c)

/-- BYPASS (R192): 0b11111 and every unlisted code. -/
def execBypass (t : Nat) (code : BitVec 5) (s : State) : Host.Outcome State Fault Refusal :=
  act t s (fun s => whenLive s (fun s => if tapListed code.toNat then s else s.setTap .bypass))

/-- TAP_RESET (R192, R209): IDCODE is selected; a halt, an inspection and the journal stay. -/
def execTapReset (t : Nat) (s : State) : Host.Outcome State Fault Refusal :=
  act t s (fun s => whenLive s (fun s => s.setTap .idcode))

/-- SAMPLE/PRELOAD (R193): the pins are captured; in FIELD the update stage is not loaded. -/
def State.preload (s : State) (cells : Cells) : State :=
  if s.img.lc = 0 then s.tapRefused
  else
    let s := s.takeScan.setTap .sample
    if s.img.lc = lcField then s else { s with pair := { s.pair with cells := cells } }

def execSamplePreload (t : Nat) (cells : Cells) (s : State) : Host.Outcome State Fault Refusal :=
  act t s (fun s => whenLive s (fun s => s.preload cells))

/-- EXTEST (R193, R195, R196): a running pair halts first as for PAIR_HALT, the pins are captured, and the output cells drive
theirs; the safe-output drive cells are obeyed in RETURN alone (`State.padLevel`). -/
def State.extestSel (s : State) (cells : Cells) (digestDiffer : Bool) : State :=
  if s.img.lc = lcField || s.img.lc = 0 then s.tapRefused
  else
    let s := (s.haltRequest .pairHalt tapPairHalt digestDiffer).takeScan.setTap .extest
    { s with pair := { s.pair with cells := cells } }

def execExtest (t : Nat) (obs : ExtestIn) (s : State) : Host.Outcome State Fault Refusal :=
  act t s (fun s => whenLive s (fun s => s.extestSel obs.cells obs.digestDiffer))

/-- PAIR_HALT (R193, R194, R199). -/
def State.pairHaltSel (s : State) (digestDiffer : Bool) : State :=
  if s.lcDebug then (s.setTap .bypass).haltRequest .pairHalt tapPairHalt digestDiffer else s.tapRefused

def execPairHalt (t : Nat) (digestDiffer : Bool) (s : State) : Host.Outcome State Fault Refusal :=
  act t s (fun s => whenLive s (fun s => s.pairHaltSel digestDiffer))

/-- LEAD_INSPECT (R193, R201): refused in arrangement S. -/
def State.leadInspectSel (s : State) : State :=
  if s.lcDebug && !s.pair.arr then (s.setTap .bypass).haltRequest .leadInspect tapLeadInspect false else s.tapRefused

def execLeadInspect (t : Nat) (s : State) : Host.Outcome State Fault Refusal :=
  act t s (fun s => whenLive s State.leadInspectSel)

/-- The pair leaves HALTED for SAFE: DEBUG_HALT lasts no longer (R562). -/
def State.leaveHalt (s : State) : State :=
  (if s.clk.rs == .halted then { s with clk := { s.clk with rs := .safe } } else s).holdLine .debugHalt false

/-- The cycle in hand ends late, its boundary having passed while the pair was halted: the kennel takes up its schedule at the
next boundary (R194, R200). A RESYNC leaves no cycle in hand at all (R204). -/
def State.cycleLate (s : State) (always : Bool) : State :=
  if always || s.boundaryDue then { s with pair := { s.pair with lateCyc := true }, sp := { s.sp with rdYt := s.ytime } } else s

/-- RESYNC, selected or forced (R204): DEBUG_HALT, the journal and its held stores discarded, a cycle-entry restart at the next
boundary, and the device in SAFE. Kennel RAM stays. -/
def State.resyncNow (s : State) : State :=
  let s := s.err .debugHalt tapResync
  let s := if s.clk.rs == .halted then s.leaveHalt.cycleLate true else s
  { s with pair := { s.pair with dbg := .none, pendHalt := .none, journal := [], resyncPend := true, restart := true } }

def State.resyncSel (s : State) : State :=
  if s.lcDebug && !s.pair.arr then (s.setTap .bypass).resyncNow else s.tapRefused

def execResync (t : Nat) (s : State) : Host.Outcome State Fault Refusal := act t s (fun s => whenLive s State.resyncSel)

/-! ## The access register (R197 to R203) -/

/-- PAIR.DBGSTAT (R206). -/
def Pair.dbgstat (p : Pair) (halted : Bool) : Nat :=
  p.journal.length % 128 + flag p.jovf 7 + flag halted 8 + flag (p.dbg == .leadInspect) 9 + flag p.resyncPend 10 +
  flag p.ramReload 11 + 4096 * p.refcnt

/-- The access register captures a result and data (R197). -/
def State.answer (s : State) (result : Nat) (data : BitVec 32) : State :=
  { s with pair := { s.pair with dbgResult := result, dbgData := data } }

/-- An operation of DBG_ACCESS: refused outside DEVELOP and RETURN (R193); operations 0x1 to 0x6 need the pair halted
(R198). -/
def State.dbg (s : State) (needsHalt : Bool) (f : State → State) : State :=
  whenLive s (fun s =>
    if s.lcDebug then
      let s := s.setTap .dbgAccess
      if needsHalt && s.clk.rs != .halted then s.answer 1 0 else f s
    else s.tapRefused)

def kramBase : Nat := 0x0100000
def kramTop : Nat := 0x0140000

/-- The stores that journal entries hold (R201). -/
def heldStores (j : List Journal) : List (Nat × BitVec 32) :=
  j.flatMap (fun e => match e with
    | .reg _ _ => []
    | .ram i v => [(i, v)]
    | .step stores _ _ => stores)

/-- A word of kennel RAM (R168). -/
def Pair.ram (p : Pair) (i : Nat) : BitVec 32 := (kramRead p.kram i).getD (Config.kennelRam i p.kgen)

/-- Kennel RAM as loads of the halted lead see it: the held stores over the memory (R201). -/
def Pair.ramView (p : Pair) (i : Nat) : BitVec 32 :=
  match (heldStores p.journal).reverse.find? (fun e => e.1 % 65536 == i) with
  | some e => e.2
  | none => p.ram i

/-- Stores committed to kennel RAM. -/
def commitStores (m : List (Nat × BitVec 32)) (l : List (Nat × BitVec 32)) : List (Nat × BitVec 32) :=
  l.foldl (fun m e => kramWrite m (e.1 % 65536) e.2) m

/-- STATUS (OP 0x0). -/
def execStatus (t : Nat) (s : State) : Host.Outcome State Fault Refusal :=
  act t s (fun s => s.dbg false (fun s => s.answer 0 (BitVec.ofNat 32 (s.pair.dbgstat (s.clk.rs == .halted)))))

/-- Read word (OP 0x1): kennel ROM, kennel RAM, the peripheral space (R197). -/
def State.dbgRead (s : State) (a : Nat) : State :=
  if a % 4 != 0 then s.answer 2 0
  else if a < 0x10000 then s.answer 0 (Config.kennelRom (a / 4))
  else if kramBase ≤ a && a < kramTop then s.answer 0 (s.pair.ramView ((a - kramBase) / 4))
  else if 0x8000000 ≤ a && a < 0x8100000 then (s.answer 0 (Config.peripheral a s.free)).fresh
  else s.answer 2 0

def execReadWord (t : Nat) (addr : BitVec 28) (s : State) : Host.Outcome State Fault Refusal :=
  act t s (fun s => s.dbg true (fun s => s.dbgRead addr.toNat))

/-- A store that goes directly to kennel RAM hides what the journal holds for that word, which no resume commits any more (R203). -/
def Journal.over (w : Nat × BitVec 32) (e : Journal) : Journal :=
  match e with
  | .reg r v => .reg r v
  | .ram i v => .ram i (if i == w.1 % 65536 then w.2 else v)
  | .step stores regs crc => .step (stores.map (fun x => if x.1 % 65536 == w.1 % 65536 then (x.1, w.2) else x)) regs crc

/-- One operation under LEAD_INSPECT: journaled while the journal has room, else done directly with RESULT 0x3 (R201,
R203). -/
def State.journaled (s : State) (e : Journal) (direct : Pair → Pair) : State :=
  if s.pair.journal.length < 64 && !s.pair.jovf then
    { s with pair := { s.pair with journal := s.pair.journal ++ [e], dbgResult := 0, dbgData := 0 } }
  else
    let shown := (heldStores [e]).foldl (fun j w => j.map (Journal.over w)) s.pair.journal
    { s with pair := { direct s.pair with journal := shown, jovf := true, dbgResult := 3, dbgData := 0 } }

/-- Write word (OP 0x2): kennel RAM alone (R198, R199, R201). -/
def State.dbgWrite (s : State) (a : Nat) (v : BitVec 32) : State :=
  if a % 4 != 0 || a < kramBase || kramTop ≤ a then s.answer 2 0
  else
    let i := (a - kramBase) / 4
    let put := fun (p : Pair) => { p with kram := kramWrite p.kram i v }
    if s.pair.dbg == .leadInspect then s.journaled (.ram i v) put
    else ({ s with pair := put s.pair }).answer 0 0

def execWriteWord (t : Nat) (addr : BitVec 28) (data : BitVec 32) (s : State) : Host.Outcome State Fault Refusal :=
  act t s (fun s => s.dbg true (fun s => s.dbgWrite addr.toNat data))

/-- The physical core that ADDR[6] names: lead or heeler in P, the core itself in S (R194, R197). -/
def Pair.coreOf (p : Pair) (c : Nat) : Nat := if p.split then c else if c = 0 then p.lead else 1 - p.lead

def Pair.regsOf (p : Pair) (core : Nat) : List (BitVec 32) := if core = 0 then p.regs0 else p.regs1
def Pair.setReg (p : Pair) (core r : Nat) (v : BitVec 32) : Pair :=
  if core = 0 then { p with regs0 := setAt p.regs0 r v } else { p with regs1 := setAt p.regs1 r v }

/-- Read core register (OP 0x3). -/
def execReadCoreRegister (t : Nat) (reg : CoreReg) (core : Fin 2) (s : State) : Host.Outcome State Fault Refusal :=
  act t s (fun s => s.dbg true (fun s => s.answer 0 (nth 0 (s.pair.regsOf (s.pair.coreOf core)) reg)))

/-- Write core register (OP 0x4): in P with ADDR[6] = 0, to both cores under PAIR_HALT and journaled under LEAD_INSPECT; in
S to the named core (R194, R199, R201). -/
def State.dbgWriteReg (s : State) (r core : Nat) (v : BitVec 32) : State :=
  if s.pair.split then ({ s with pair := s.pair.setReg core r v }).answer 0 0
  else if core != 0 then s.answer 2 0
  else if s.pair.dbg == .leadInspect then
    let put := fun (p : Pair) => p.setReg p.lead r v
    let s := s.journaled (.reg r v) id
    { s with pair := put s.pair }
  else ({ s with pair := (s.pair.setReg 0 r v).setReg 1 r v }).answer 0 0

def execWriteCoreRegister (t : Nat) (reg : CoreReg) (core : Fin 2) (data : BitVec 32) (s : State) :
    Host.Outcome State Fault Refusal :=
  act t s (fun s => s.dbg true (fun s => s.dbgWriteReg reg core data))

/-- What the instructions of a step compute is not documented: 34 free register values. -/
def stepRegs (n : Nat) : List (BitVec 32) := (List.range 34).map (Config.stepReg n)

/-- A step under PAIR_HALT in arrangement P: both cores with the comparator on (R199). Registers that agreed agree after it, unless
the comparator finds a difference; then CMP is raised, and what is written from the failed comparison on is discarded (R169). -/
def State.pairStep (s : State) (mismatch : Option (Fin 8 × Fin 70)) : State :=
  let same := mismatch.isNone && s.pair.regs0 == s.pair.regs1
  let stores := Config.stepStores s.free
  let kept := if mismatch.isNone then stores else stores.take (Config.freeNat s.free)
  let s : State := { s.fresh.fresh with pair := { s.pair with
    regs0 := stepRegs s.free, regs1 := stepRegs (if same then s.free else s.free + 1), kram := commitStores s.pair.kram kept } }
  match mismatch with
  | some d => if s.pair.cmpArmed then s.cmp d.1 d.2 cmpLockstep else s
  | none => s

/-- Step (OP 0x5): what the instructions compute is not documented, so registers, stores and digests are free values (R159, R199,
R201). -/
def State.dbgStep (s : State) (count : Nat) (mismatch : Option (Fin 8 × Fin 70)) : State :=
  if count = 0 then s.answer 2 0
  else if s.pair.dbg == .leadInspect then
    let regs := stepRegs s.free
    let stores := Config.stepStores s.free
    let s := s.fresh.journaled (.step stores regs (BitVec.ofNat 32 (Config.freeNat s.free))) (fun p => { p with kram := commitStores p.kram stores })
    { s with pair := if s.pair.lead = 0 then { s.pair with regs0 := regs } else { s.pair with regs1 := regs } }
  else if s.pair.split then
    ({ s.fresh.fresh with pair := { s.pair with
      regs0 := stepRegs s.free, regs1 := stepRegs (s.free + 1), kram := commitStores s.pair.kram (Config.stepStores s.free) } } : State).answer 0 0
  else (s.pairStep mismatch).answer 0 0

def execStep (t : Nat) (obs : StepIn) (s : State) : Host.Outcome State Fault Refusal :=
  act t s (fun s => s.dbg true (fun s => s.dbgStep obs.count.toNat obs.mismatch))

/-- Register writes and steps of journal entries as the heeler replays them (R202). -/
def replayRegs (p : Pair) (j : List Journal) : Pair :=
  j.foldl (fun p e => match e with
    | .reg r v => p.setReg (1 - p.lead) r v
    | .ram _ _ => p
    | .step _ regs _ => if p.lead = 0 then { p with regs1 := regs } else { p with regs0 := regs }) p

/-- The pair goes on from its halt point, in SAFE (R200). -/
def State.goOn (s : State) : State := ({ s with pair := { s.pair with dbg := .none } } : State).leaveHalt.cycleLate false

/-- The heeler replays the entries before the first whose digest differs, and their stores and RAM writes are committed; those of
that entry and of every later one are discarded (R202). -/
def State.replay (s : State) (good : List Journal) : State :=
  let p := replayRegs s.pair good
  { s with pair := { p with journal := [], kram := commitStores p.kram (heldStores good) } }

/-- Resume (OP 0x6, R200, R202, R203): the device is in SAFE afterwards. -/
def State.dbgResume (s : State) (replayBad : Option Nat) (digestDiffer : Bool) : State :=
  if s.pair.dbg == .leadInspect then
    if s.pair.jovf then ({ s with pair := { s.pair with ramReload := true } } : State).resyncNow.answer 0 0
    else
      let good := match replayBad with
        | some k => s.pair.journal.take k
        | none => s.pair.journal
      let bad := decide (good.length < s.pair.journal.length)
      let s := (s.replay good).goOn
      (if bad then s.cmp 0 0 cmpReplay else if digestDiffer then s.cmp 0 0 cmpResume else s).answer 0 0
  else
    let s := s.goOn
    (if digestDiffer && !s.pair.split then s.cmp 0 0 cmpResume else s).answer 0 0

def execResume (t : Nat) (replayBad : Option (Fin 64)) (digestDiffer : Bool) (s : State) : Host.Outcome State Fault Refusal :=
  act t s (fun s => s.dbg true (fun s => s.dbgResume (replayBad.map (·.val)) digestDiffer))

end Sys2Proof.Machine
end

