-- ==== Sys2Proof/Machine/Images.lean ====
section
/-!
DEFINITION. Images (16): header, directory, sections, key and signature, the checks of R485, commit records, and which bank
governs.
-/
namespace Sys2Proof.Machine

/-! ## Commit records (R487, R488) -/

/-- Kind 0 is configuration, kind 1 the loft (R475); KIND in headers and records is one more (R479). -/
def bankBase (kind bank : Nat) : Nat := if kind = 0 then cfgBankBase bank else loftBankBase bank
def bankSize (kind : Nat) : Nat := if kind = 0 then cfgBankSize else loftBankSize

def State.commitRec (s : State) (kind slot : Nat) : List Byte := s.mram.readN (commitSlot kind slot) 32
def cBank (r : List Byte) : Nat := if byteAt r 1 = 0 then 0 else 1
def cGen (r : List Byte) : Nat := beAt r 4 4
def cLen (r : List Byte) : Nat := beAt r 8 4
def cDigest (r : List Byte) : List Byte := (r.drop 12).take 16

/-- The slot of the governing record of a kind with the record: the valid one with the higher GEN (R488). -/
def State.governing (s : State) (kind : Nat) : Option (Nat × List Byte) :=
  let r0 := s.commitRec kind 0
  let r1 := s.commitRec kind 1
  if commitOk r0 && (!commitOk r1 || decide (cGen r1 ≤ cGen r0)) then some (0, r0)
  else if commitOk r1 then some (1, r1)
  else none

/-- The governing bank of a kind. -/
def State.govBank (s : State) (kind : Nat) : Option Nat := (s.governing kind).map (fun e => cBank e.2)

/-- The inactive bank of a kind: the one that does not govern; bank A where none does (DESIGN CHOICE,
notes/assumptions/24.md). -/
def State.openBank (s : State) (kind : Nat) : Nat :=
  match s.govBank kind with
  | some b => 1 - b
  | none => 0

/-- A commit record (R487). -/
def commitRecBytes (kind bank gen len : Nat) (digest : List Byte) : List Byte :=
  let b := toBytes 1 (kind + 1) ++ toBytes 1 bank ++ [0, 0] ++ toBytes 4 gen ++ toBytes 4 len ++ padTo 16 digest
  b ++ commitOf b

/-! ## The header (R479) and the directory (R480) -/

def imgLen (l : List Byte) : Nat := beAt l 4 4
def imgVer (l : List Byte) : Nat := beAt l 8 2
def imgArrange (l : List Byte) : Nat := byteAt l 10
def imgRotint (l : List Byte) : Nat := byteAt l 11
def imgKey (l : List Byte) : List Byte := (l.drop 32).take 64
def dirEntry (l : List Byte) (j : Nat) : List Byte := (l.drop (96 + 16 * j)).take 16
def dirOfs (e : List Byte) : Nat := beAt e 4 4
def dirLen (e : List Byte) : Nat := beAt e 8 4

/-- IMGLEN's upper bound (R479). -/
def imgMax (kind : Nat) : Nat := if kind = 0 then 1572864 else 1048576

/-- The bytes of the image in a bank; a bank without a plausible IMGLEN gives its header alone. -/
def State.imageAt (s : State) (kind bank : Nat) : List Byte :=
  let h := s.mram.readN (bankBase kind bank) 256
  if decide (imgLen h ≤ imgMax kind) && decide (256 ≤ imgLen h) then s.mram.readN (bankBase kind bank) (imgLen h) else h

/-- The fixed length of a section TYPE (R480); 0 for the sheets. -/
def secLen : Nat → Nat
  | 3 => 336
  | 4 => 144
  | 5 => 48
  | 6 => 1544
  | 7 => 1824
  | 8 => 48
  | 9 => 16
  | 10 => 153416
  | _ => 0

/-- The length that the directory must give a section; a sheet's is 16 + 16 × COUNT. -/
def wantLen (l : List Byte) (ty ofs : Nat) : Nat := if ty ≤ 2 then 16 + 16 * beAt l (ofs + 4) 2 else secLen ty

/-- The first multiple of 16 at or after a number. -/
def align16 (n : Nat) : Nat := (n + 15) / 16 * 16

/-- The directory entries from TYPE `ty` on are in order, given the end of the previous section: R480. -/
def dirOk (l : List Byte) (n : Nat) (arrS : Bool) : Nat → Nat → Nat → Bool
  | 0, _, prev => decide (align16 prev + 64 ≤ n) && decide (n ≤ prev + 80) && allZero ((l.drop prev).take (align16 prev - prev))
  | fuel + 1, ty, prev =>
    let e := dirEntry l (ty - 1)
    if allZero e then (ty == 2 && !arrS) && dirOk l n arrS fuel (ty + 1) prev
    else
      let ofs := dirOfs e
      (ty != 2 || arrS) && byteAt e 0 == ty && zeroIn e 1 3 && zeroIn e 12 15 && ofs == align16 prev &&
        dirLen e == wantLen l ty ofs && decide (ofs + dirLen e + 64 ≤ n) && allZero ((l.drop prev).take (ofs - prev)) &&
        dirOk l n arrS fuel (ty + 1) (ofs + dirLen e)

/-- A section of an image, empty where it is absent. -/
def section_ (l : List Byte) (ty : Nat) : List Byte :=
  let e := dirEntry l (ty - 1)
  if allZero e then [] else (l.drop (dirOfs e)).take (dirLen e)

/-! ## Key and signature (R481 to R483) -/

def keyHash (l : List Byte) : List Byte := sha256 (imgKey l)

/-- The key of a configuration image is accepted (R482). -/
def State.keyAccepted (s : State) (l : List Byte) : Bool :=
  if s.img.lc = 0 then false
  else if s.img.lc = lcField then some (keyHash l) == s.img.keyFuse
  else true

/-- The signed digest (R481). -/
def imgDigest (l : List Byte) : List Byte := sha256 (l.take (imgLen l - 64))

/-- The signature of an image of a kind verifies. -/
def sigOk (kind : Nat) (l : List Byte) : Bool :=
  let n := imgLen l
  let key := if kind = 0 then (beAt l 32 32, beAt l 64 32) else Config.loftKey
  ecdsaOk key (imgDigest l) (beAt l (n - 64) 32) (beAt l (n - 32) 32)

/-! ## The checks of R485 -/

/-- Fields that the table of R479 gives as 0 and that have no meaning for the kind count as reserved bytes: PUBKEY of a loft
image (DEDUCED, notes/assumptions/25.md). -/
def formatOk (kind : Nat) (l : List Byte) : Bool :=
  beAt l 0 2 == 1 && byteAt l 2 == kind + 1 && byteAt l 3 == 0 && zeroIn l 13 15 && zeroIn l 20 31 &&
    (kind == 0 || allZero (imgKey l))

def lengthOk (kind : Nat) (l : List Byte) : Bool :=
  decide (320 ≤ imgLen l) && decide (imgLen l ≤ imgMax kind) && imgLen l % 16 == 0

/-- ARRANGE, ROTINT and NSECT (R479, R178, R179). -/
def arrangeOk (kind : Nat) (l : List Byte) : Bool :=
  if kind = 0 then decide (imgArrange l ≤ 1) && decide (imgRotint l ≤ 24) && (imgArrange l == 0 || imgRotint l == 0) &&
    byteAt l 12 == 9 + imgArrange l
  else zeroIn l 10 12

def directoryOk (kind : Nat) (l : List Byte) : Bool :=
  if kind = 0 then dirOk l (imgLen l) (imgArrange l == 1) 10 1 256 else zeroIn l 96 255

/-- The bank matches its commit record (R485 code 0x8). -/
def matchesRec (kind : Nat) (r l : List Byte) : Bool :=
  byteAt r 0 == kind + 1 && zeroIn r 2 3 && cLen r == imgLen l && cDigest r == (imgDigest l).take 16

/-- The check code of an image (R485): the first failure; code 0x8 where a commit record is given. -/
def State.imgCode (s : State) (kind : Nat) (rec? : Option (List Byte)) (l : List Byte) : Nat :=
  if !formatOk kind l then 1
  else if !lengthOk kind l then 2
  else if beAt l 16 2 != 0x000B || beAt l 18 2 != 0x0B03 then 3
  else if !arrangeOk kind l then 4
  else if !directoryOk kind l then 5
  else if kind == 0 && !s.keyAccepted l then 6
  else if !sigOk kind l then 7
  else match rec? with
    | some r => if matchesRec kind r l then 0 else 8
    | none => 0

def State.imgCheck (s : State) (kind bank : Nat) (rec? : Option (List Byte)) : Nat := s.imgCode kind rec? (s.imageAt kind bank)

/-- A code register: [3:0] code, [15] VALID (R502). -/
def codeWord (c : Nat) : Word := w16 (c % 16 + 0x8000)

/-! ## Running image (R489) -/

/-- The running configuration image. -/
def State.running_ (s : State) : List Byte := s.imageAt 0 s.img.cfgAct

/-- UID as 16 bytes (R501). -/
def uidBytes : List Byte := padTo 16 Config.uid

/-! ## Mailbox (R472, R473) -/

/-- A mailbox command is served (R472): the loft runs it, or the boot ROM where it may (R494), while it is the command in
hand. The request has left FIFO 7. -/
def State.serve (s : State) (code : Nat) (bootRom : Bool) (f : Mbx → State → State) : State :=
  whenLive s (fun s =>
    match s.cp.mbx with
    | some m =>
      if m.code != code || !(s.img.loft || s.img.noLoft) || !(s.fifo 7).held.isEmpty then s
      else
        let s := s.modFifo 7 (fun q => { q with q := [] })
        if s.img.loft || bootRom then f m s else s.mbxEnd 3
    | none => s)

/-- Words of the mailbox as a command returns them. -/
def State.setArg0 (s : State) (v : Nat) : State := { s with cp := { s.cp with arg0 := w16 v } }
def State.setArg1 (s : State) (v : Nat) : State := { s with cp := { s.cp with arg1 := w16 v } }

end Sys2Proof.Machine
end

