-- ==== Sys2Proof/Machine/Clocks.lean ====
section
/-!
DEFINITION. Clocks, crossings and die temperature (13, 19): start of the clocks in BOOT, the clock monitor, the SIO's watch
on the RC oscillator, the handshake watchdog, the die sensors, and the loft's watchdog.
-/
namespace Sys2Proof.Machine

/-- CRYSTAL_RUNNING (R413, R438). -/
def execCrystalRunning (t : Nat) (s : State) : Host.Outcome State Fault Refusal :=
  act t s (fun s => whenLive s (fun s => { s with clk := { s.clk with xtal := true } }))

/-- PLL_LOCK (R412): all four PLLs lock together. -/
def State.lockPll (s : State) : State :=
  if s.clk.rs == .boot && s.clk.xtal && !s.clk.pll then
    { s with clk := { s.clk with pll := true, pllAt := s.now } }
  else s

def execPllLock (t : Nat) (s : State) : Host.Outcome State Fault Refusal := act t s State.lockPll

/-- CLK_MON with a clock index (R418, R336): CMDIAG shows it. -/
def State.clkMon (s : State) (idx : Nat) (edge dev : Bool) : State :=
  let s := { s with clk := { s.clk with cmdiag := w16 (idx % 32 + flag edge 5 + flag dev 6 + 0x8000) } }
  s.err .clkMon idx

/-- A clock is found bad: CLK_MON once, its line active until every clock is good again (R418, R516, R562). -/
def State.clkBad (s : State) (idx : Nat) (edge dev : Bool) : State :=
  if nth false s.clk.bad idx then s
  else
    let s := { s with clk := { s.clk with bad := setAt s.clk.bad idx true }
                      flt := { s.flt with line := s.flt.line ||| 2 ^ Src.clkMon.bit } }
    s.clkMon idx edge dev

/-- A clock is found good. -/
def State.clkGood (s : State) (idx : Nat) : State :=
  let bad := setAt s.clk.bad idx false
  let s := { s with clk := { s.clk with bad := bad } }
  if bad.any id then s else s.line .clkMon false idx

/-- CRYSTAL_START_TIMEOUT (R413). -/
def State.crystalLate (s : State) : State :=
  if s.clk.rs == .boot && !s.clk.xtal && decide (s.clk.bootAt + 10 * ms ≤ s.now) then s.clkBad 0 false false else s

def execCrystalStartTimeout (t : Nat) (s : State) : Host.Outcome State Fault Refusal := act t s State.crystalLate

/-- RC_CALIBRATION (R414): 1 ms after lock; the clock monitor is armed. -/
def State.calibrate (s : State) (khz : Nat) : State :=
  if s.clk.rs == .boot && s.clk.pll && !s.clk.rcOk && decide (s.clk.pllAt + ms ≤ s.now) then
    { s with clk := { s.clk with rcOk := true, rccal := Nat.min khz 0xFFFF, mon := true } }
  else s

def execRcCalibration (t : Nat) (khz : Nat) (s : State) : Host.Outcome State Fault Refusal :=
  act t s (fun s => s.calibrate khz)

/-- The deviation that a CKDEV field adds to the monitor's count, in 0.01 %: [5:0] in 0.1 %, [6] lowers it (R509,
R515). -/
def State.ckdevOf (s : State) (idx : Nat) : Int :=
  let v := nth 0 s.spook.ckdev idx
  if s.spook.en then (if bit v 6 then -((v % 64 * 10 : Nat) : Int) else ((v % 64 * 10 : Nat) : Int)) else 0

/-- PLL_LOSS_DETECT (R418): above 3 % CLK_MON is always raised, up to 2 % never, between them as the part does. -/
def State.clkWindow (s : State) (idx : Nat) (dev : Int) : State :=
  if s.live && s.clk.mon then
    let d := dev + s.ckdevOf idx
    let s := { s with clk := { s.clk with dev := setAt s.clk.dev idx d, devMax := updAt (fun m => Nat.max m (Nat.min d.natAbs 0xFFFF)) s.clk.devMax idx } }
    if 300 < d.natAbs then s.clkBad idx false true
    else if d.natAbs ≤ 200 then s.clkGood idx
    else if Config.freeBool s.free then s.fresh.clkBad idx false true
    else s.fresh.clkGood idx
  else s

def execPllLossDetect (t : Nat) (idx : Fin 6) (dev : Int) (s : State) : Host.Outcome State Fault Refusal :=
  act t s (fun s => s.clkWindow idx dev)

/-- CLOCK_EDGE_MISSING (R418, R114). -/
def execClockEdgeMissing (t : Nat) (idx : Fin 6) (s : State) : Host.Outcome State Fault Refusal :=
  act t s (fun s => if s.live && s.clk.mon then s.clkBad idx true false else s)

/-- RCSTOP (R419): the SIO opens the muzzle and holds both BARK pins low, the kennel enters SAFE, and the part stays there
until power-up. COLL and the sequencer stop: nothing is latched, recorded or sequenced any more (`whenAon`). -/
def State.rcStopped (s : State) : State :=
  if s.live && s.clk.pll && !s.clk.rcstop then
    let s := ({ s with clk := { s.clk with rcstop := true } }).holdBark.toSafe
    { s with flt := { s.flt with on := false, lasting := true } }
  else s

def execRcstop (t : Nat) (s : State) : Host.Outcome State Fault Refusal := act t s State.rcStopped

/-- HANDSHAKE_TIMEOUT (R416). -/
def State.handshakeLate (s : State) (island waiter : Nat) : State :=
  let s := { s with clk := { s.clk with hsdiag := w16 (island % 16 + 16 * (waiter % 16) + 0x8000) } }
  s.clkMon (0x10 + island) false false

def execHandshakeTimeout (t : Nat) (island waiter : Fin 11) (s : State) : Host.Outcome State Fault Refusal :=
  act t s (fun s => whenLive s (fun s => s.handshakeLate island waiter))

/-- A reading is outside −46.0 °C to +131.0 °C, in 0.125 °C; one is inside −41.0 °C to +121.0 °C (R543). -/
def tempHot (v : Int) : Bool := decide (1048 < v) || decide (v < -368)
def tempCool (v : Int) : Bool := decide (-328 < v) && decide (v < 968)

/-- TEMP_READING (R543): TEMP at the third consecutive reading out of range of a sensor. -/
def State.readTemps (s : State) (l : List Int) : State :=
  let run := List.zipWith (fun v n => if tempHot v then satAdd n 1 3 else 0) l s.clk.tempRun
  let s := { s with clk := { s.clk with temps := l, tempRun := run }, seq := { s.seq with temps := l } }
  match (idxsWhere (fun n => decide (3 ≤ n)) run 0).head? with
  | some k => s.line .temp true k
  | none => if l.all tempCool then s.line .temp false 0 else s

def execTempReading (t : Nat) (t0 t1 t2 : Int) (s : State) : Host.Outcome State Fault Refusal :=
  act t s (fun s => whenLive s (fun s => s.readTemps [t0, t1, t2]))

/-- GROOM_WDOG (R19, R420): the groom core is reset; a mailbox command it was serving is lost with it. -/
def State.groomReset (s : State) : State :=
  if s.img.loft then s.loftStop.err .groomWdog 0 else s

def execGroomWdog (t : Nat) (s : State) : Host.Outcome State Fault Refusal := act t s State.groomReset

end Sys2Proof.Machine
end

