-- ==== Sys2Proof/Machine/Link.lean ====
section
/-!
DEFINITION. The yard's frames (R292, R300, R310, R324): parsing, building, their checks of form; and the inter-island FIFOs
(R417) with their back-pressure (R505).
-/
namespace Sys2Proof.Machine

/-! ## Link frames (R292, R293) -/

/-- A link frame that R293 does not discard. -/
structure LinkFrame where
  typ : Nat
  bcast : Bool
  pert : Bool
  dst : Nat
  src : Nat
  lseq : Nat
  payload : List Byte
  deriving DecidableEq, Repr

def typSafety : Nat := 1
def typTime : Nat := 2
def typMgmt : Nat := 3
def typHello : Nat := 4

/-- The bytes of a link frame, with its LCRC. -/
def LinkFrame.bytes (f : LinkFrame) : List Byte :=
  let b := toBytes 1 f.typ ++ toBytes 1 (flag f.bcast + flag f.pert 1) ++ toBytes 2 f.dst ++ toBytes 2 f.src ++
    toBytes 1 f.lseq ++ toBytes 1 f.payload.length ++ f.payload
  b ++ toBytes 4 (crcLink b).toNat

/-- The checks of R293. -/
def linkOk (l : List Byte) : Bool :=
  decide (12 ≤ l.length) && decide (byteAt l 7 ≤ 128) && decide (byteAt l 7 + 12 = l.length) &&
  (l.drop (l.length - 4) == toBytes 4 (crcLink (l.take (l.length - 4))).toNat) &&
  decide (1 ≤ byteAt l 0) && decide (byteAt l 0 ≤ 4) && decide (byteAt l 1 < 4)

def parseLink (l : List Byte) : Option LinkFrame :=
  if linkOk l then
    some { typ := byteAt l 0, bcast := bit (byteAt l 1) 0, pert := bit (byteAt l 1) 1, dst := beAt l 2 2, src := beAt l 4 2
           lseq := byteAt l 6, payload := (l.drop 8).take (byteAt l 7) }
  else none

/-- Frames of TYPE 0x01 and 0x03 are sequenced hop by hop (R295). -/
def LinkFrame.sequenced (f : LinkFrame) : Bool := f.typ == typSafety || f.typ == typMgmt

/-- The hello payload (R293). -/
def helloPayload (node depth : Nat) (root : Bool) : List Byte := toBytes 2 node ++ toBytes 1 depth ++ toBytes 1 (flag root)

/-- A reserved bit of a time or hello payload is not 0 (R293, R300). -/
def LinkFrame.reservedSet (f : LinkFrame) : Bool :=
  (f.typ == typTime && f.payload.length == 16 && (byteAt f.payload 3 != 0 || !zeroIn f.payload 6 7)) ||
  (f.typ == typHello && f.payload.length == 4 && decide (2 ≤ byteAt f.payload 3))

/-- The time payload (R300). -/
def timePayload (sub state depth seq ts : Nat) : List Byte :=
  toBytes 1 sub ++ toBytes 1 state ++ toBytes 1 depth ++ [0] ++ toBytes 2 seq ++ [0, 0] ++ toBytes 8 ts

/-- A whistle (R324). -/
def whistleBytes (hops origin wseq ltime : Nat) : List Byte :=
  let b := toBytes 1 0x0F ++ toBytes 1 hops ++ toBytes 2 origin ++ toBytes 2 wseq ++ toBytes 8 ltime ++ [0, 0]
  b ++ toBytes 4 (crcLink b).toNat

/-- A whistle's LCRC is good: all that R325 and R326 ask of it (DEDUCED, notes/assumptions/114.md). -/
def whistleOk (l : List Byte) : Bool :=
  decide (l.length = 20) && l.drop 16 == toBytes 4 (crcLink (l.take 16)).toNat

/-! ## Safety payloads (R310, R311) -/

def kindData : Nat := 1
def kindOpen : Nat := 2

/-- SCRC over CTAG and the payload without its last four bytes (R311). -/
def scrcOf (ctag : BitVec 32) (l : List Byte) : List Byte := toBytes 4 (crc32c (toBytes 4 ctag.toNat ++ l)).toNat

/-- A safety frame payload with its SCRC. -/
def safetyPayload (kind sflags src dst connid seq echo echosrc tstamp : Nat) (ctag : BitVec 32) (data : List Byte) : List Byte :=
  let b := toBytes 1 kind ++ toBytes 1 sflags ++ toBytes 2 src ++ toBytes 2 dst ++ toBytes 2 connid ++ toBytes 2 seq ++
    toBytes 2 echo ++ toBytes 2 echosrc ++ toBytes 8 tstamp ++ toBytes 1 data.length ++ [0] ++ data
  b ++ scrcOf ctag b

def pSflags (l : List Byte) : Nat := byteAt l 1
def pSrc (l : List Byte) : Nat := beAt l 2 2
def pDst (l : List Byte) : Nat := beAt l 4 2
def pConnid (l : List Byte) : Nat := beAt l 6 2
def pSeq (l : List Byte) : Nat := beAt l 8 2
def pEcho (l : List Byte) : Nat := beAt l 10 2
def pEchosrc (l : List Byte) : Nat := beAt l 12 2
def pTstamp (l : List Byte) : Nat := beAt l 14 8

/-- SCRC is correct (R313 check 2). -/
def scrcOk (ctag : BitVec 32) (l : List Byte) : Bool :=
  l.drop (l.length - 4) == scrcOf ctag (l.take (l.length - 4))

/-! ## FIFOs (R417, R505) -/

def fifoDepth : Nat → Nat
  | 0 => 64
  | 1 => 64
  | 3 => 32
  | 4 => 32
  | _ => 16

/-- FIFOBP of a FIFO, while the spook controls act: N and M (R505, R511). -/
def State.backP (s : State) (n : Nat) : Nat × Nat :=
  let v := nth 0 s.spook.bp n
  if s.spook.en then (v % 256, v / 256) else (0, 0)

/-- A datum enters a FIFO, or is held back while it is full or shows full: it is never dropped (R417). -/
def State.fifoPush (s : State) (n : Nat) (d : Datum) : State :=
  s.modFifo n (fun f =>
    if (s.backP n).1 != 0 || !f.held.isEmpty || decide (fifoDepth n ≤ f.q.length) then { f with held := f.held ++ [d] }
    else { f with q := f.q ++ [d] })

/-- Room has freed: the oldest held datum enters. A FIFO that shows full in every cycle takes none. -/
def State.fifoFree (s : State) (n : Nat) : State :=
  let stuck := (s.backP n).1 != 0 && (s.backP n).1 == (s.backP n).2
  s.modFifo n (fun f =>
    match f.held with
    | d :: rest => if stuck || decide (fifoDepth n ≤ f.q.length) then f else { q := f.q ++ [d], held := rest }
    | [] => f)

/-- The receiver takes every entry of a FIFO. -/
def State.fifoTake (s : State) (n : Nat) : State := s.modFifo n (fun f => { f with q := [] })

/-- The command set of the mailbox (R475). -/
def mbxCodes : List Nat := [0x01, 0x02, 0x10, 0x11, 0x20, 0x21, 0x22, 0x23, 0x30, 0x31, 0x40]

/-- A command that is not in the command set is answered UNKNOWN as soon as its request reaches the loft or the boot ROM
(R474; DESIGN CHOICE, notes/assumptions/30.md). -/
def State.mbxUnknown (s : State) : State :=
  match s.cp.mbx with
  | some m =>
    if mbxCodes.any (· == m.code) || !(s.img.loft || s.img.noLoft) || !(s.fifo 7).held.isEmpty then s
    else (s.fifoTake 7).mbxEnd 2
  | none => s

/-! ## Sample ticks of the collars (R264) -/

/-- REFRESH in µs (R261). -/
def Slot.refUs (sl : Slot) : Nat := 1000 * 2 ^ (sl.refresh % 4)

/-- The first sample tick of a slot at or after a yard time in ns, in µs. -/
def State.tickFrom (s : State) (sl : Slot) (y : Nat) : Nat :=
  let ofs := s.col.sampofs * 125
  let u := (y + us - 1) / us
  if u ≤ ofs then ofs else ofs + (u - ofs + sl.refUs - 1) / sl.refUs * sl.refUs

/-- The next deadlines start afresh from the present yard time: at a commit, and when yard time steps. -/
def State.retick (s : State) : State :=
  let one := fun (sl : Slot) (c : SlotCh) => { c with next := s.tickFrom sl s.ytime, gotTicks := [] }
  { s with col := { s.col with slots := s.col.slots.map (fun sl => { sl with a := one sl sl.a, b := one sl sl.b }) } }

end Sys2Proof.Machine
end

