-- ==== Sys2Proof/Machine/Yard.lean ====
section
/-!
DEFINITION. The yard (09): port transmitters and go-back-N, routing, hellos, yard time, safety connections, and whistles.
-/
namespace Sys2Proof.Machine

/-! ## Transmission (R290, R295, R296, R505 to R507, R512) -/

/-- A frame as it is sent: LSEQ of this hop, FLAGS[1] of this node, and the LCRC over both. -/
def sealFrame (lseq : Nat) (pert : Bool) (l : List Byte) : List Byte :=
  let b := updAt (fun x => if pert then x ||| 2 else x) (setAt (l.take (l.length - 4)) 6 (BitVec.ofNat 8 lseq)) 1
  b ++ toBytes 4 (crcLink b).toNat

/-- The time a frame of `n` bytes takes on the line, with its start and end groups (R287). -/
def lineNs (n : Nat) : Nat := 40 * (n + 2)

/-- A port carries frames: it is enabled by the committed table, and no SERLOOP test has its serialiser (R306, R440). -/
def State.portOn (s : State) (p : Nat) : Bool := s.yard.committed && (s.yport p).on && s.farr.cur != 9 + p

/-- The spook controls of a port act on a frame: whether it is dropped, and what is put on the line (R505, R507). The
counters count every frame; the N-th is hit (notes/assumptions/18.md). -/
def State.spooked (s : State) (p : Nat) (whistle : Bool) (item : TxItem) : State × Option TxItem :=
  if !s.spook.en then (s, some item)
  else
    let d := nth 0 s.spook.ydrop p
    let c := nth 0 s.spook.ycorr p
    let counts := !whistle || bit d 15
    let nd := nth 0 s.spook.ydropN p + flag counts
    let nc := nth 0 s.spook.ycorrN p + flag (!whistle)
    let drop := d % 4096 != 0 && counts && decide (d % 4096 ≤ nd)
    let hit := c % 4096 != 0 && !whistle && decide (c % 4096 ≤ nc)
    let corr := hit && !drop
    let sp := { s.spook with
      ydropN := setAt s.spook.ydropN p (if drop || d % 4096 = 0 then 0 else nd)
      ycorrN := setAt s.spook.ycorrN p (if hit || c % 4096 = 0 then 0 else nc)
      dropped := if drop then sat8 s.spook.dropped else s.spook.dropped
      corrupted := if corr then sat8 s.spook.corrupted else s.spook.corrupted }
    let s := { s with spook := sp }
    if drop then (s, none)
    else if corr then
      match item with
      | .frame l =>
        let n := byteAt l 7
        let i := 8 + Config.freeNat s.free % (Nat.max n 1)
        let bad := if n = 0 then l else updAt (fun b => ~~~ b) l i
        let out := if bit c 12 then sealFrame (byteAt l 6) false bad else bad
        (s.fresh, some (.frame out))
      | x => (s, some x)
    else (s, some item)

/-- An item goes on the line. -/
def State.transmit (s : State) (p : Nat) (whistle : Bool) (item : TxItem) : State :=
  let r := s.spooked p whistle item
  r.1.modYport p (fun y => { y with sent := r.2 })

/-- When a frame's end group has left, the delay stage included (R506). -/
def State.sentAt (s : State) (p : Nat) (l : List Byte) : Nat :=
  s.now + (if s.spook.en then 8 * nth 0 s.spook.ydly p else 0) + lineNs l.length

/-- A frame takes the line from now on; `seqd`: it is sequenced. -/
def State.takeLine (s : State) (p : Nat) (seqd : Bool) (l : List Byte) : State :=
  s.modYport p (fun y => { y with lineTill := s.now + lineNs l.length, onLine := some (seqd, l) })

/-- A sequenced frame goes out for the first time: it takes the next LSEQ. -/
def State.sendSeq (s : State) (p : Nat) (l : List Byte) : State :=
  let y := s.yport p
  let out := sealFrame y.lseq s.spook.en l
  let s := s.modYport p (fun y => { y with
    lseq := (y.lseq + 1) % 256, unack := y.unack ++ [{ bytes := out, attempts := 1, sentAt := s.sentAt p out }] })
  (s.takeLine p true out).transmit p false (.frame out)

/-- A sequenced frame goes out once more; `attempt`: it counts as an attempt (R295, R296). -/
def State.resend (s : State) (p : Nat) (attempt : Bool) (out : List Byte) : State :=
  let s := s.modYport p (fun y => { y with
    retry := if attempt then sat16 y.retry else y.retry
    unack := y.unack.map (fun v => if v.bytes == out then { v with attempts := v.attempts + (if attempt then 1 else 0), sentAt := s.sentAt p out } else v) })
  (s.takeLine p true out).transmit p false (.frame out)

/-- A time frame goes out: TS of SYNC and DREQ is written as it leaves (R300). -/
def State.sendTime (s : State) (p : Nat) (l : List Byte) : State :=
  let sub := byteAt l 8
  let stamped := if sub = 3 then l else l.take 16 ++ toBytes 8 s.ytime ++ l.drop 24
  let s := if sub = 2 then
    { s with yard := { s.yard with xch := s.yard.xch.map (fun x => (x.1, x.2.1, x.2.2.1, s.ytime)) } } else s
  (s.takeLine p false l).transmit p false (.frame (sealFrame 0 s.spook.en stamped))

/-- The frame on the line is aborted (R296): it is to be sent again from its start, in its place. -/
def State.abortLine (s : State) (p : Nat) : State :=
  s.modYport p (fun y =>
    match y.onLine with
    | some (true, l) => { y with redo := some l, onLine := none }
    | some (false, l) =>
      if byteAt l 0 = typTime then { y with qt := l :: y.qt, onLine := none } else { y with qh := l :: y.qh, onLine := none }
    | none => y)

/-- The next frame of a port whose line is free (R296): time frames, then an aborted frame and those to be sent again, then new safety
and management frames, then hellos. -/
def State.nextFrame (s : State) (p : Nat) : State :=
  let y := s.yport p
  match y.qt, y.redo, y.again with
  | f :: r, _, _ => (s.modYport p (fun y => { y with qt := r })).sendTime p f
  | [], some l, _ => (s.modYport p (fun y => { y with redo := none })).resend p false l
  | [], none, u :: r => (s.modYport p (fun y => { y with again := r })).resend p true u.bytes
  | [], none, [] =>
    let room := decide (y.unack.length < 8)
    match room, y.qs, y.qm, y.qh with
    | true, f :: r, _, _ => (s.modYport p (fun y => { y with qs := r })).sendSeq p f
    | true, [], f :: r, _ => (s.modYport p (fun y => { y with qm := r })).sendSeq p f
    | _, _, _, f :: r => ((s.modYport p (fun y => { y with qh := r })).takeLine p false f).transmit p false (.frame (sealFrame 0 s.spook.en f))
    | _, _, _, [] => s

/-- The next item of a port (R296): a whistle aborts the frame on the line; an acknowledge ordered set goes between two of its code
groups, three of which it takes; nothing breaks into a whistle. -/
def State.linkSend (s : State) (p : Nat) : State :=
  let y := s.yport p
  let busy := decide (s.now < y.lineTill)
  if !s.portOn p || (busy && y.onLine.isNone) then s
  else match y.qw, y.qa with
  | w :: r, _ =>
    let s := if busy then s.abortLine p else s
    (s.modYport p (fun y => { y with qw := r, lineTill := s.now + lineNs w.1.length, onLine := none })).transmit p true (.whistle w.1 w.2)
  | [], a :: r => s.modYport p (fun y =>
      { y with qa := r, sent := some (.ack a), lineTill := (if busy then y.lineTill else s.now) + 120, onLine := if busy then y.onLine else none })
  | [], [] => if busy then s else s.nextFrame p

/-- LINK_FRAME_SEND (R296). -/
def execLinkFrameSend (t : Nat) (port : Fin 3) (s : State) : Host.Outcome State Fault Refusal :=
  act t s (fun s => whenLive s (fun s => s.linkSend port))

/-- A port goes down: its queues are discarded and it returns to hello (R295). -/
def YPort.drop (y : YPort) : YPort :=
  { y with up := false, qw := [], qa := [], qt := [], qs := [], qm := [], qh := [], again := [], unack := [], redo := none, onLine := none
           lseq := 0, lexp := 0
           helloAt := none, exchAt := none }

/-- The retries of a port are exhausted, and YARD_LINK is raised (R295). -/
def State.portDown (s : State) (p : Nat) : State :=
  (s.modYport p (fun y => { y.drop with downs := sat8 y.downs })).err .yardLink p

/-- ACK_ORDERED_SET (R291, R295): an acknowledgement names a frame; the frames before it were accepted too. -/
def ackFrames (seq : Nat) (l : List Unack) : List Unack :=
  if l.any (fun u => byteAt u.bytes 6 == seq) then (l.dropWhile (fun u => byteAt u.bytes 6 != seq)).drop 1 else l

def State.ackSet (s : State) (p : Nat) (seq compl : Byte) : State :=
  if compl != ~~~ seq then s.modYport p (fun y => { y with err := sat16 y.err })
  else s.modYport p (fun y =>
    let left := ackFrames seq.toNat y.unack
    { y with unack := left, again := y.again.filter (fun u => left.any (fun v => v.bytes == u.bytes)) })

def execAckOrderedSet (t : Nat) (port : Fin 3) (seq compl : Byte) (s : State) : Host.Outcome State Fault Refusal :=
  act t s (fun s => whenLive s (fun s => if (s.yport port).up then s.ackSet port seq compl else s))

/-- ACK_TIMEOUT (R295): 12 µs after the oldest frame's end group; after four attempts the port goes down. -/
def State.ackLate (s : State) (p : Nat) : State :=
  let y := s.yport p
  match y.unack with
  | u :: _ =>
    if y.again.isEmpty && decide (u.sentAt + 12 * us ≤ s.now) then
      if 4 ≤ u.attempts then s.portDown p else s.modYport p (fun y => { y with again := y.unack })
    else s
  | [] => s

def execAckTimeout (t : Nat) (port : Fin 3) (s : State) : Host.Outcome State Fault Refusal :=
  act t s (fun s => whenLive s (fun s => s.ackLate port))

/-- LINK_ERROR (R291). -/
def execLinkError (t : Nat) (port : Fin 3) (s : State) : Host.Outcome State Fault Refusal :=
  act t s (fun s => whenLive s (fun s => if (s.yport port).on then s.modYport port (fun y => { y with err := sat16 y.err }) else s))

/-! ## Routing (R290, R297) -/

/-- The ports a frame leaves on: those that are up. -/
def State.ports (s : State) (bcast : Bool) (dst : Nat) (arr : Option Nat) : List Nat :=
  let l := if bcast then [0, 1, 2].filter (fun p => arr != some p)
    else if segOf dst = segOf s.yard.node then []
    else if s.routes 1 (segOf dst) then [1]
    else if s.routes 2 (segOf dst) then [2]
    else if s.yard.root then [] else [0]
  l.filter (fun p => (s.yport p).up)

/-- A frame is queued on every port it leaves on. -/
def State.queue (s : State) (arr : Option Nat) (f : LinkFrame) : State :=
  (s.ports f.bcast f.dst arr).foldl (fun s p => s.modYport p (fun y =>
    if f.typ = typSafety then { y with qs := y.qs ++ [f.bytes] } else { y with qm := y.qm ++ [f.bytes] })) s

/-- A frame of this node. -/
def State.ownFrame (s : State) (typ dst : Nat) (bcast : Bool) (payload : List Byte) : LinkFrame :=
  { typ := typ, bcast := bcast, pert := s.spook.en, dst := dst, src := s.yard.node, lseq := 0, payload := payload }

/-- Frames and whistles that have reached the YARD island through FIFO 5 or 8 are queued on the ports. A whistle's
`prio` is 0. -/
def State.drainTx (s : State) (n : Nat) : State :=
  (s.fifo n).q.foldl (fun s d => match d with
    | .tx _ prio bytes =>
      if prio = 0 then
        ([0, 1, 2].filter (fun p => (s.yport p).up)).foldl (fun s p => s.modYport p (fun y => { y with qw := y.qw ++ [(bytes, false)] })) s
      else match parseLink bytes with
      | some f => s.queue none f
      | none => s
    | _ => s) (s.fifoTake n)

/-- The kennel (FIFO 5) or the loft (FIFO 8) sends a frame. -/
def State.sendOwn (s : State) (n : Nat) (f : LinkFrame) : State := (s.fifoPush n (.tx 0 1 f.bytes)).drainTx n

/-- The loft's view of the connections of a producer moves as the loft decides: a free value (R279, R319). -/
def State.mgmtView (s : State) (src : Nat) : State :=
  let v := DState.ofCode (Config.freeNat s.free % 6)
  { s.fresh with yard := { s.yard with conns := s.yard.conns.map (fun c => if c.mode = 1 && c.peer = src then { c with ms := v } else c) } }

/-- The loft takes inbound management frames from FIFO 6: it holds up to 16 (R476, R468). -/
def State.drainMgmt (s : State) : State :=
  if s.img.loft then
    (s.fifo 6).q.foldl (fun s d => match d with
      | .mgmt src l =>
        let s := s.mgmtView src
        if s.yard.mrecv.length < 16 then ({ s with yard := { s.yard with mrecv := s.yard.mrecv ++ [(src, l)] } }).alert 9
        else { s with yard := { s.yard with mlost := true } }
      | _ => s) (s.fifoTake 6)
  else s

/-! ## Reception (R293, R295) -/

/-- A frame arrives on a port: it is discarded and counted under R293, or handled. YARD.STATUS[10] follows the frames of
YP0 (R512). -/
def State.receive (s : State) (p : Nat) (l : List Byte) (f : State → LinkFrame → State) : State :=
  if !s.live || !s.portOn p then s
  else match parseLink l with
  | some fr => if fr.reservedSet then s.modYport p (fun y => { y with err := sat16 y.err }) else f (if p = 0 then { s with yard := { s.yard with upPert := fr.pert } } else s) fr
  | none => s.modYport p (fun y => { y with err := sat16 y.err })

/-- A sequenced frame is accepted when its LSEQ is the next expected one; it is acknowledged (R295). -/
def State.sequenced (s : State) (p : Nat) (fr : LinkFrame) (f : State → State) : State :=
  let y := s.yport p
  if y.up && y.lexp == fr.lseq then
    f (s.modYport p (fun y => { y with lexp := (y.lexp + 1) % 256, qa := y.qa ++ [fr.lseq] }))
  else s

/-- The frame is for this node (R290 points 1 and 2). -/
def State.forUs (s : State) (fr : LinkFrame) : Bool := fr.bcast || fr.dst == s.yard.node

/-- The frame is for another slot of this node's segment: a collar that the loft manages (R290 point 3). -/
def State.forCollar (s : State) (fr : LinkFrame) : Bool :=
  !fr.bcast && fr.dst != s.yard.node && segOf fr.dst == segOf s.yard.node

/-! ## Safety connections (R313 to R319) -/

def Conn.ch (c : Conn) (isA : Bool) : ConnCh := if isA then c.a else c.b
def Conn.modCh (c : Conn) (isA : Bool) (f : ConnCh → ConnCh) : Conn := if isA then { c with a := f c.a } else { c with b := f c.b }
def State.modConnCh (s : State) (i : Nat) (isA : Bool) (f : ConnCh → ConnCh) : State := s.modConn i (fun c => c.modCh isA f)

/-- The remote bits of a connection follow channel B's state and latest frame (R308, R315). -/
def State.yardRemotes (s : State) (i : Nat) : State :=
  let c := (s.conn i).b
  let bits := mapIdx (fun y (old : Bool) =>
    match s.yard.yins[y]? with
    | some e => if e.1 = i then unsyncGate old c.unsync (c.ds == .live && payBit c.data e.2) else old
    | none => old) s.yard.remote
  { s with yard := { s.yard with remote := bits } }

/-- A connection enters a state in one channel (R316, R318). LOST returns to JOINING at once. In arrangement S the checks of the
owning core alone raise (R227). -/
def State.connEnter (s : State) (i : Nat) (isA : Bool) (d : DState) : State :=
  let join := fun (c : ConnCh) => { c with ds := .joining, has := false, run := 0, joined := s.ytime, wait := [] }
  let raise := fun (s : State) => if isA || !s.pair.split then s.err .yardWdog i else s
  let s := match d with
    | .joining => s.modConnCh i isA join
    | .lost =>
      let s := s.modConn i (fun c => { c with losts := if isA then sat8 c.losts else c.losts })
      raise (s.modConnCh i isA join)
    | .quarantined =>
      let s := s.modConn i (fun c => { c with quars := if isA then sat8 c.quars else c.quars })
      raise (s.modConnCh i isA (fun c => { c with ds := .quarantined, wait := [] }))
    | d => s.modConnCh i isA (fun c => { c with ds := d })
  s.yardRemotes i

/-- Checks 0 and 1 of R313 on a consume record. -/
def State.connForm (s : State) (c : Conn) (bcast : Bool) (l : List Byte) : Bool :=
  c.mode == 1 && pSrc l == c.peer && (pDst l == s.yard.node || (bcast && pDst l == 0xFFFF)) &&
  byteAt l 0 == kindData && byteAt l 22 == c.len && l.length == 28 + c.len && decide (pSflags l < 4) && byteAt l 23 == 0

/-- Checks 0 to 2 of R313 in one channel. A check-2 failure counts towards quarantine (R318). The frame that passes waits
for TSTAMP + DLVY (R314). -/
def State.connPre (s : State) (i : Nat) (isA : Bool) (bcast : Bool) (l : List Byte) (arr : Nat) : State :=
  let c := s.conn i
  if !s.connForm c bcast l then s
  else if !scrcOk c.ctag l then
    let crcAt := s.now :: ((c.ch isA).crcAt.filter (fun a => decide (s.now < a + 1000 * ms)))
    let s := s.modConn i (fun c => { c with crcerr := if isA then sat16 c.crcerr else c.crcerr })
    let s := (s.modConnCh i isA (fun c => { c with crcAt := crcAt.take 17 })).err .colCrc (0x0100 + i)
    if 16 < crcAt.length && (c.ch isA).ds != .quarantined then s.connEnter i isA .quarantined else s
  else
    let f : SFrame := { seq := pSeq l, tstamp := pTstamp l, unsync := bit (pSflags l) 0, data := (l.drop 24).take c.len
                        echo := pEcho l == c.nonce && pEcho l != 0 && pEchosrc l == s.yard.node
                        arr := arr, due := Nat.max arr (pTstamp l + c.dlvy * us) }
    s.modConnCh i isA (fun c => { c with wait := c.wait ++ [f] })

/-- Checks 3 to 5 of R313, as a channel takes a frame at yard time `y`. -/
def connAccepts (c : Conn) (ch : ConnCh) (f : SFrame) (y : Nat) : Bool :=
  let d := (f.seq + 65536 - ch.seq0) % 65536
  (!ch.has || (decide (1 ≤ d) && decide (d ≤ 64) && decide (ch.ts < f.tstamp))) &&
  decide (ch.joined < f.tstamp) && decide (f.tstamp ≤ f.arr + us) && decide (y ≤ f.tstamp + c.maxage * us)

/-- A channel takes a frame at the present yard time (R313 to R317). In JOINING a frame that does not echo the latest nonce fails
check 3. A quarantined connection's frames are checked too; nothing but a release ends its state (notes/assumptions/45.md). -/
def State.connTake (s : State) (i : Nat) (isA : Bool) (f : SFrame) : State :=
  let c := s.conn i
  let ch := c.ch isA
  if ch.ds == .absent then s
  else if (!ch.has && !f.echo) || !connAccepts c ch f s.ytime then s.err .colCrc (0x0100 + i)
  else
    let one := ch.has && (f.seq + 65536 - ch.seq0) % 65536 == 1 && !f.unsync
    let s := s.modConnCh i isA (fun c => { c with
      has := true, seq0 := f.seq, ts := f.tstamp, got := true, unsync := f.unsync, data := f.data, took := true
      run := if one then satAdd c.run 1 2 else c.run })
    let ch := (s.conn i).ch isA
    let s := if (ch.ds == .joining && decide (2 ≤ ch.run)) || (ch.ds == .stale && !f.unsync) then s.connEnter i isA .live else s
    s.yardRemotes i

/-- A channel takes every waiting frame whose time has come (R314), in arrival order. -/
def State.connDue (s : State) (i : Nat) (isA : Bool) : State :=
  let ch := (s.conn i).ch isA
  let s' := s.modConnCh i isA (fun c => { c with wait := c.wait.filter (fun f => decide (s.ytime < f.due)) })
  (ch.wait.filter (fun f => decide (f.due ≤ s.ytime))).foldl (fun s f => s.connTake i isA f) s'

/-- A safety frame is delivered to channel B's checker at once and to the kennel's queue (R313). -/
def State.deliverSafety (s : State) (p : Nat) (fr : LinkFrame) : State :=
  let s := match s.consumeIdx (pConnid fr.payload) with
    | some i => (s.connPre i false fr.bcast fr.payload s.ytime).connDue i false
    | none => s
  s.fifoPush 4 (.safety (2 * p + flag fr.bcast) fr.payload s.ytime)

/-- SAFETY_DATA_FRAME (R290, R293, R295, R297, R313). -/
def State.safetyData (s : State) (p : Nat) (l : List Byte) : State :=
  s.receive p l (fun s fr =>
    if fr.typ = typSafety && byteAt fr.payload 0 != kindOpen then
      s.sequenced p fr (fun s =>
        let s := s.queue (some p) fr
        if s.forUs fr then s.deliverSafety p fr else s)
    else s)

def execSafetyDataFrame (t : Nat) (port : Fin 3) (frame : List Byte) (s : State) : Host.Outcome State Fault Refusal :=
  act t s (fun s => s.safetyData port frame)

/-- A consumer's OPEN reaches its producer: the nonce waits for its echo (R317 step 2). -/
def State.openIn (s : State) (l : List Byte) : State :=
  match s.produceIdx (pConnid l) with
  | some i =>
    let c := s.conn i
    if l.length == 28 && byteAt l 22 == 0 && byteAt l 23 == 0 && decide (pSflags l < 4) && pDst l == s.yard.node && pSeq l != 0 &&
        (c.bcast || pSrc l == c.peer) && scrcOk c.ctag l then
      s.modConn i (fun c => { c with echoes := c.echoes ++ [(pSeq l, pSrc l)] })
    else s
  | none => s

/-- SAFETY_OPEN_FRAME (R317). -/
def State.safetyOpen (s : State) (p : Nat) (l : List Byte) : State :=
  s.receive p l (fun s fr =>
    if fr.typ = typSafety && byteAt fr.payload 0 == kindOpen then
      s.sequenced p fr (fun s =>
        let s := s.queue (some p) fr
        if s.forUs fr then s.openIn fr.payload else s)
    else s)

def execSafetyOpenFrame (t : Nat) (port : Fin 3) (frame : List Byte) (s : State) : Host.Outcome State Fault Refusal :=
  act t s (fun s => s.safetyOpen port frame)

/-- MANAGEMENT_FRAME (R290, R476): a frame for another slot of this segment is the loft's, for the collar. -/
def State.mgmtFrame (s : State) (p : Nat) (l : List Byte) : State :=
  s.receive p l (fun s fr =>
    if fr.typ = typMgmt then
      s.sequenced p fr (fun s =>
        let s := s.queue (some p) fr
        if s.forUs fr || s.forCollar fr then (s.fifoPush 6 (.mgmt fr.src fr.payload)).drainMgmt else s)
    else s)

def execManagementFrame (t : Nat) (port : Fin 3) (frame : List Byte) (s : State) : Host.Outcome State Fault Refusal :=
  act t s (fun s => s.mgmtFrame port frame)

/-- CONNECTION_FRAME_TAKE (R314): channel B takes the frames whose time has come. -/
def execConnectionFrameTake (t : Nat) (conn : Fin 64) (s : State) : Host.Outcome State Fault Refusal :=
  act t s (fun s => whenLive s (fun s => s.connDue conn false))

/-- SFLAGS (R310). -/
def State.sflags (s : State) : Nat :=
  flag (s.yard.sync == .unlocked || s.yard.sync == .syncLost) + flag (s.clk.rs == .safe) 1

/-- OPEN_SEND (R317): a fresh nonce that is not 0x0000. -/
def State.openSend (s : State) (i : Nat) : State :=
  let c := s.conn i
  let due := match c.openAt with
    | some a => decide (a + 10 * ms ≤ s.now)
    | none => true
  if s.live && s.yard.committed && c.mode == 1 && (c.a.ds == .joining || c.b.ds == .joining) && due then
    let nonce := Config.freeNat s.free % 65535 + 1
    let s := (s.fresh).modConn i (fun c => { c with nonce := nonce, openAt := some s.now })
    s.sendOwn 5 (s.ownFrame typSafety c.peer false
      (safetyPayload kindOpen s.sflags s.yard.node c.peer c.id nonce 0 0 s.ytime c.ctag []))
  else s

def execOpenSend (t : Nat) (conn : Fin 64) (s : State) : Host.Outcome State Fault Refusal :=
  act t s (fun s => s.openSend conn)

/-- A write to YARD.QREL (R318): RELEASE moves a quarantined connection to JOINING. -/
def State.yardQrel (s : State) (v : Word) : State :=
  let i := v.toNat % 64
  let one := fun (s : State) (isA : Bool) => if ((s.conn i).ch isA).ds == .quarantined then s.connEnter i isA .joining else s
  if bit v.toNat 6 then one (one s true) false else s

def execYardQrel (t : Nat) (value : Word) (s : State) : Host.Outcome State Fault Refusal :=
  act t s (fun s => whenLive s (fun s => s.yardQrel value))

/-! ## Hellos (R294) -/

/-- HELLO_SEND (R294): every 1,000 µs until the port is up. The DST of a hello on YP1 or YP2 is a free value. -/
def State.helloSend (s : State) (p : Nat) : State :=
  let y := s.yport p
  let due := match y.helloAt with
    | some a => decide (a + 1000 * us ≤ s.now)
    | none => true
  if s.live && s.portOn p && !y.up && due then
    let dst := if p = 0 then s.yard.upnode else Config.freeNat s.free % 65536
    let f := s.ownFrame typHello dst false (helloPayload s.yard.node s.yard.depth s.yard.root)
    s.fresh.modYport p (fun y => { y with qh := y.qh ++ [f.bytes], helloAt := some s.now })
  else s

def execHelloSend (t : Nat) (port : Fin 3) (s : State) : Host.Outcome State Fault Refusal := act t s (fun s => s.helloSend port)

/-- The neighbour's hello matches the yard table. -/
def State.helloOk (s : State) (p node depth : Nat) : Bool :=
  if p = 0 then node == s.yard.upnode && depth + 1 == s.yard.depth
  else depth == s.yard.depth + 1 && s.routes p (segOf node)

/-- HELLO (R294): the port comes up, or stays down with YARD_LINK. -/
def State.helloIn (s : State) (p : Nat) (l : List Byte) : State :=
  s.receive p l (fun s fr =>
    let h := fr.payload
    if fr.typ = typHello && h.length == 4 && decide (byteAt h 3 < 2) then
      let node := beAt h 0 2
      let s := s.modYport p (fun y => { y with nbr := node })
      let s := if p = 0 then { s with yard := { s.yard with upSeen := node } } else s
      if (s.yport p).up then s
      else if s.helloOk p node (byteAt h 2) then
        s.modYport p (fun y => { y with up := true, bad := false, qh := [], lseq := 0, lexp := 0 })
      else (s.modYport p (fun y => { y with bad := true })).err .yardLink p
    else s)

def execHello (t : Nat) (port : Fin 3) (frame : List Byte) (s : State) : Host.Outcome State Fault Refusal :=
  act t s (fun s => s.helloIn port frame)

/-! ## Yard time (R299 to R302) -/

/-- Yard time is rebased at this instant with an offset and a rate. -/
def State.setTime (s : State) (step rate : Int) : State :=
  { s with yard := { s.yard with base := ((s.ytime : Int) + step).toNat, baseAt := s.now, rate := rate } }

/-- The sync state changes (R301): YARD_SYNC on entry into UNLOCKED from LOCKED and into SYNC_LOST. -/
def State.setSync (s : State) (n : SyncState) : State :=
  let old := s.yard.sync
  if old == n then s
  else
    let s := { s with yard := { s.yard with sync := n, goodRun := 0, badRun := 0
                                            holdAt := if n == .holdover then s.now else s.yard.holdAt
                                            lastExch := if n == .locked then s.now else s.yard.lastExch } }
    if (n == .unlocked && old == .locked) || n == .syncLost then s.err .yardSync n.code else s

/-- What the upstream neighbour reports limits the node's state (R301). -/
def State.upReport (s : State) (u : SyncState) : State :=
  let s := { s with yard := { s.yard with up := u } }
  let s := if s.yard.sync == .locked then
    (match u with
      | .locked => s
      | .unlocked => s.setSync .unlocked
      | _ => s.setSync .holdover) else s
  if s.yard.sync == .holdover && u == .syncLost then s.setSync .syncLost else s

/-- What a completed exchange with offset `o` does to the sync state (R301). -/
def State.exchanged (s : State) (o : Int) : State :=
  let s := { s with yard := { s.yard with lastExch := s.now } }
  match s.yard.sync with
  | .unlocked =>
    let good := if o.natAbs ≤ 100 then satAdd s.yard.goodRun 1 8 else 0
    let s := { s with yard := { s.yard with goodRun := good } }
    if 8 ≤ good && s.yard.up == .locked then s.setSync .locked else s
  | .locked =>
    let bad := if 1000 < o.natAbs then satAdd s.yard.badRun 1 3 else 0
    let s := { s with yard := { s.yard with badRun := bad } }
    if 3 ≤ bad then s.setSync .unlocked else s
  | .holdover => if s.yard.up == .locked then s.setSync (if o.natAbs ≤ 100 then .locked else .unlocked) else s
  | .syncLost => if s.yard.up == .locked then s.setSync .unlocked else s

def clampInt (top v : Int) : Int := if v > top then top else if v < -top then -top else v

/-- The correction of R302. The servo constants are not part of the interface: the change of rate is a free value within
the limits. -/
def State.correct (s : State) (o : Int) : State :=
  if s.yard.sync == .unlocked && s.clk.rs == .load && !s.clk.armedOnce && decide (1000 < o.natAbs) then (s.setTime (-o) s.yard.rate).retick
  else if s.yard.sync == .holdover || s.yard.sync == .syncLost then s
  else
    let d : Int := ((Config.freeNat s.free % 4001 : Nat) : Int) - 2000
    s.fresh.setTime 0 (clampInt 100000 (s.yard.rate + d))

/-- TIME_EXCHANGE_START (R300). -/
def State.exchStart (s : State) (p : Nat) : State :=
  let y := s.yport p
  let due := match y.exchAt with
    | some a => decide (a + 990 * us ≤ s.now)
    | none => true
  if s.live && p != 0 && y.up && due then
    let x := (y.xseq + 1) % 65536
    let f := s.ownFrame typTime y.nbr false (timePayload 1 s.yard.sync.code s.yard.depth x 0)
    s.modYport p (fun y => { y with xseq := x, exchAt := some s.now, qt := y.qt ++ [f.bytes] })
  else s

def execTimeExchangeStart (t : Nat) (port : Fin 3) (s : State) : Host.Outcome State Fault Refusal :=
  act t s (fun s => s.exchStart port)

/-- A time frame with a given SUB arrives on a port that is up (R300). -/
def State.timeIn (s : State) (p : Nat) (l : List Byte) (sub : Nat) (f : State → List Byte → State) : State :=
  s.receive p l (fun s fr =>
    let h := fr.payload
    if fr.typ = typTime && (s.yport p).up && h.length == 16 && byteAt h 0 == sub && decide (byteAt h 1 < 4) && byteAt h 3 == 0 &&
        zeroIn h 6 7 then f s h
    else s)

/-- The arrival of a frame's start group, in yard time: the frame has come in whole by now (R300). -/
def State.startGroup (s : State) (l : List Byte) : Nat := s.ytime - lineNs l.length

/-- SYNC (R300): t2 is stamped, and DREQ is queued. -/
def State.syncIn (s : State) (l : List Byte) : State :=
  if s.yard.root then s
  else s.timeIn 0 l 1 (fun s h =>
    let s := s.upReport (SyncState.ofCode (byteAt h 1))
    let s := { s with yard := { s.yard with xch := some (beAt h 4 2, beAt h 8 8, s.startGroup l, 0) } }
    let f := s.ownFrame typTime s.yard.upnode false (timePayload 2 s.yard.sync.code s.yard.depth (beAt h 4 2) 0)
    s.modYport 0 (fun y => { y with qt := y.qt ++ [f.bytes] }))

def execSync (t : Nat) (frame : List Byte) (s : State) : Host.Outcome State Fault Refusal := act t s (fun s => s.syncIn frame)

/-- DREQ (R300): the answer carries t4. -/
def State.dreqIn (s : State) (p : Nat) (l : List Byte) : State :=
  if p = 0 then s
  else s.timeIn p l 2 (fun s h =>
    let f := s.ownFrame typTime (s.yport p).nbr false (timePayload 3 s.yard.sync.code s.yard.depth (beAt h 4 2) (s.startGroup l))
    s.modYport p (fun y => { y with qt := y.qt ++ [f.bytes] }))

def execDreq (t : Nat) (port : Fin 3) (frame : List Byte) (s : State) : Host.Outcome State Fault Refusal :=
  act t s (fun s => s.dreqIn port frame)

/-- A DRESP completes an exchange (R300 to R302); its meaning also continues LOAD (R304). -/
def State.drespIn (s : State) (l : List Byte) : State :=
  if s.yard.root then s
  else s.timeIn 0 l 3 (fun s h =>
    let s := s.upReport (SyncState.ofCode (byteAt h 1))
    match s.yard.xch with
    | some (seq, t1, t2, t3) =>
      if seq = beAt h 4 2 && t3 != 0 then
        let t4 : Int := beAt h 8 8
        let x : Int := (t2 : Int) - t1
        let y : Int := t4 - t3
        let o := (x - y).tdiv 2
        let s := { s with yard := { s.yard with xch := none, offset := o, delay := ((x + y).tdiv 2).toNat } }
        (s.exchanged o).correct o
      else s
    | none => s)

/-- HOLDOVER (R301). -/
def State.holdoverNow (s : State) : State :=
  if s.live && s.yard.sync == .locked && !s.yard.root && decide (s.yard.lastExch + 3000 * us ≤ s.now) then s.setSync .holdover else s

def execHoldover (t : Nat) (s : State) : Host.Outcome State Fault Refusal := act t s State.holdoverNow

/-- SYNC_LOST (R301). -/
def State.syncLostNow (s : State) : State :=
  if s.live && s.yard.sync == .holdover && decide (s.yard.holdAt + 500 * ms ≤ s.now) then s.setSync .syncLost else s

def execSyncLost (t : Nat) (s : State) : Host.Outcome State Fault Refusal := act t s State.syncLostNow

/-! ## Whistles (R323 to R328) -/

/-- The kennel issues a whistle (R323). -/
def State.whistleOut (s : State) (cycleEnd : Nat) : State :=
  let w := (s.yard.wseq + 1) % 65536
  let s := { s with yard := { s.yard with wseq := w, seen := (s.yard.node, w, s.now) :: s.yard.seen } }
  (s.fifoPush 5 (.tx 0 0 (whistleBytes 0 s.yard.node w (cycleEnd + s.yard.wlead * us)))).drainTx 5

/-- The outputs of the groups set in WSTOP. -/
def State.wstopOut (s : State) (n : Nat) : Bool :=
  (s.scope .whistle 0).any (fun e => bit (rOutmask (s.recAt e.1 e.2)) n)

/-- The pending stop takes effect (R326): the launch gates close, 0xBFF goes to 0, WHISTLE is raised on those groups. -/
def State.whistleAct (s : State) : State :=
  match s.yard.wpend with
  | some (ltime, origin) =>
    let shut := fun (l : LegSt) => { l with gate := false }
    let s := s.mapOuts (fun n o => if s.wstopOut n then { o with p := shut o.p, m := shut o.m } else o)
    let s := { s with yard := { s.yard with wpend := none, wforce := some s.now, wclear := false, worigin := origin, wltime := ltime } }
    if (s.scope .whistle 0).isEmpty then s else s.err .whistle origin
  | none => s

/-- A whistle arrives (R325 to R327). Every sighting counts: one seen within the last 1,000 ms is not forwarded. -/
def State.whistleIn (s : State) (p : Nat) (l : List Byte) (aborted : Bool) : State :=
  if !s.live || !s.yard.committed || !(s.yport p).up then s
  else
    let good := !aborted && whistleOk l
    let origin := beAt l 2 2
    let wseq := beAt l 4 2
    let ltime := beAt l 6 8
    let seen := s.yard.seen.filter (fun e => decide (s.now < e.2.2 + 1000 * ms))
    let new := !(seen.any (fun e => e.1 == origin && e.2.1 == wseq))
    let copy := whistleBytes (byteAt l 1 + 1) origin wseq ltime
    let fwd := if new && decide (16 ≤ l.length) && decide (byteAt l 1 < 24) then
      [0, 1, 2].filter (fun q => q != p && (s.yport q).up) else []
    let s := fwd.foldl (fun s q => s.modYport q (fun y => { y with qw := y.qw ++ [(copy, !good)] })) s
    if !good then s.modYport p (fun y => { y with err := sat16 y.err })
    else if !new then
      { s with yard := { s.yard with seen := (origin, wseq, s.now) :: seen.filter (fun e => !(e.1 == origin && e.2.1 == wseq)) } }
    else
      let pend : Nat × Nat := match s.yard.wpend with
        | some e => if ltime < e.1 then (ltime, origin) else e
        | none => (ltime, origin)
      let s := { s with yard := { s.yard with
        seen := (origin, wseq, s.now) :: seen, wcnt := sat8 s.yard.wcnt, wpend := some pend } }
      if decide (pend.1 ≤ s.ytime) || s.yard.sync == .unlocked || s.yard.sync == .syncLost then s.whistleAct else s

/-- WHISTLE. -/
def execWhistle (t : Nat) (port : Fin 3) (frame : List Byte) (aborted : Bool) (s : State) : Host.Outcome State Fault Refusal :=
  act t s (fun s => s.whistleIn port frame aborted)

/-- WHISTLE_STOP (R326): LTIME of the pending stop has come. -/
def State.whistleDue (s : State) : State :=
  match s.yard.wpend with
  | some (ltime, _) => if s.live && decide (ltime ≤ s.ytime) then s.whistleAct else s
  | none => s

def execWhistleStop (t : Nat) (s : State) : Host.Outcome State Fault Refusal := act t s State.whistleDue

/-- WHISTLE_CLEAR (R328): 100 ms after the stop, provided that no further whistle is pending. -/
def State.whistleClearNow (s : State) : State :=
  match s.yard.wforce with
  | some a =>
    if decide (a + 100 * ms ≤ s.now) && s.yard.wpend.isNone then
      ({ s with yard := { s.yard with wforce := none, wclear := true } }).clearLocals (fun _ _ c => c == LocalCause.whistle)
    else s
  | none => s

def execWhistleClear (t : Nat) (s : State) : Host.Outcome State Fault Refusal := act t s State.whistleClearNow

/-! ## The input read's part (R314, R316, R319) -/

/-- The kennel takes its queue of safety frames (FIFO 4) and makes checks 0 to 2 on each. -/
def State.kennelFrames (s : State) : State :=
  (s.fifo 4).q.foldl (fun s d => match d with
    | .safety p l arr =>
      match s.consumeIdx (pConnid l) with
      | some i => s.connPre i true (bit p 0) l arr
      | none => s
    | _ => s) (s.fifoTake 4)

/-- One connection at an input read: the frames whose time has come, the watchdog of both channels, MAXAGE in channel A,
CAGE, and COL_VIEW as R280 applies it. -/
def State.connRead (s : State) (i : Nat) : State :=
  if (s.conn i).mode != 1 then s
  else
    let s := s.connDue i true
    let dog := fun (s : State) (isA : Bool) =>
      let ch := (s.conn i).ch isA
      let reads := if ch.took then 0 else satAdd ch.reads 1 0x3F
      let s := s.modConnCh i isA (fun c => { c with reads := reads, took := false })
      if (ch.ds == .live || ch.ds == .stale) && decide ((s.conn i).wdog ≤ reads) then s.connEnter i isA .lost else s
    let s := dog (dog s true) false
    let c := s.conn i
    let s := if c.a.ds == .live && decide (c.a.ts + c.maxage * us < s.ytime) then s.connEnter i true .stale else s
    let c := s.conn i
    let view := if c.ms == .live && c.a.ds != .live then satAdd c.view 1 5 else 0
    let up := decide (4 < view)
    let s := s.modConn i (fun c => { c with
      view := view, viewUp := up, age := if c.a.got then Nat.min ((s.ytime - c.a.ts) / us) 0xFFFF else 0xFFFF })
    if up && !c.viewUp then s.err .colView (0x0100 + i) else s

def State.connReads (s : State) : State := (List.range 64).foldl State.connRead s.kennelFrames

end Sys2Proof.Machine
end

