-- ==== Sys2Proof/Machine/Collars.lean ====
section
/-!
DEFINITION. Collars (08): the radio ports, the checks of a PDU in each channel, the data-view states, the management view,
and the inter-island FIFOs' transfers.
-/
namespace Sys2Proof.Machine

/-! ## Port frames (R256 to R259, R265) -/

/-- A port frame with its PCRC. -/
def portFrame (typ slot : Nat) (payload : List Byte) : List Byte :=
  let b := toBytes 1 typ ++ toBytes 1 slot ++ [0, 0] ++ padTo 32 payload ++ [0, 0]
  b ++ toBytes 2 (crc16 b).toNat

/-- An inbound frame that R258 does not discard. -/
def portOk (l : List Byte) : Bool :=
  decide (l.length = 40) && (l.drop 38 == toBytes 2 (crc16 (l.take 38)).toNat) && decide (byteAt l 0 ≤ 5) &&
  zeroIn l 2 3 && zeroIn l 36 37 && (byteAt l 0 == 1 || byteAt l 1 == 0)

/-- A port starts a transfer that sends a frame, at an instant: it brings one frame in (R256). -/
def State.radioSend (s : State) (p : Nat) (at_ : Nat) (l : List Byte) : State :=
  s.modRadio p (fun r => { r with sent := l, last := at_ + transferNs, inAt := some (at_ + frameNs) })

/-- A port may start a transfer: it is enabled, the last one is over, and this one would be over before a queued beacon request has to
start (R259, R265). -/
def State.radioFree (s : State) (p : Nat) : Bool :=
  let r := s.radio p
  s.live && r.on && decide (r.last ≤ s.now) && (r.beacons.isEmpty || decide (s.ytime + transferNs ≤ r.bhold))

/-- RADIO_TRANSFER (R256, R259): beacon requests first, then management frames, else an idle frame for a head that asks. The
transfer of a beacon request starts at its own instant (R265), or as soon after it as the port is free. -/
def State.radioXfer (s : State) (p : Nat) (irqLow : Bool) : State :=
  let r := s.radio p
  match decide (r.bhold ≤ s.ytime) && s.live && r.on && decide (r.last ≤ s.now), r.beacons with
  | true, b :: rest =>
    (s.modRadio p (fun r => { r with beacons := rest })).radioSend p (Nat.max r.last (s.now - (s.ytime - r.bhold))) b
  | _, _ =>
    if !s.radioFree p then s
    else match r.mgmt with
    | m :: rest => (s.modRadio p (fun r => { r with mgmt := rest })).radioSend p s.now m
    | [] => if irqLow then s.radioSend p s.now (portFrame 0 0 []) else s

def execRadioTransfer (t : Nat) (port : Fin 2) (irqLow : Bool) (s : State) : Host.Outcome State Fault Refusal :=
  act t s (fun s => s.radioXfer port irqLow)

/-- RADIO_POLL (R259): with nothing queued, an idle transfer 125 µs after the last one started. -/
def State.radioPollNow (s : State) (p : Nat) : State :=
  let r := s.radio p
  if s.radioFree p && r.beacons.isEmpty && r.mgmt.isEmpty && decide (r.last + (125 * us - transferNs) ≤ s.now) then
    s.radioSend p s.now (portFrame 0 0 [])
  else s

def execRadioPoll (t : Nat) (port : Fin 2) (s : State) : Host.Outcome State Fault Refusal :=
  act t s (fun s => s.radioPollNow port)

/-- The first reference instant of a head at or after a yard time: whole milliseconds of yard time for RP0, and
500 µs more for RP1 (R265). -/
def nextRef (p y : Nat) : Nat :=
  let ofs := if p = 0 then 0 else 500 * us
  if y ≤ ofs then ofs else ofs + (y - ofs + ms - 1) / ms * ms

/-- BEACON_REQUEST (R265): one per reference instant. Its transfer starts so that its last bit ends HEADDLY before that instant; the
spook delay holds it back and leaves REFTIME (R505). The bytes of R265 are numbered from the frame's start
(notes/assumptions/19.md). -/
def State.beaconNow (s : State) (p : Nat) : State :=
  let r := s.radio p
  let lead := r.headdly * us + frameNs
  let ref := nextRef p (s.ytime + lead)
  if s.live && r.on && r.bref != ref then
    let f := portFrame 2 0 (toBytes 8 ref ++ toBytes 1 s.col.sampofs ++ [0] ++ toBytes 2 r.bseq)
    let dly := if s.spook.en then nth 0 s.spook.bdly p * us else 0
    s.modRadio p (fun r => { r with
      beacons := r.beacons ++ [f], bseq := (r.bseq + 1) % 65536, bref := ref, bhold := ref - lead + dly })
  else s

def execBeaconRequest (t : Nat) (port : Fin 2) (s : State) : Host.Outcome State Fault Refusal :=
  act t s (fun s => s.beaconNow port)

/-! ## Slots -/

def Slot.ch (sl : Slot) (isA : Bool) : SlotCh := if isA then sl.a else sl.b
def Slot.modCh (sl : Slot) (isA : Bool) (f : SlotCh → SlotCh) : Slot := if isA then { sl with a := f sl.a } else { sl with b := f sl.b }
def State.modSlotCh (s : State) (n : Nat) (isA : Bool) (f : SlotCh → SlotCh) : State := s.modSlot n (fun sl => sl.modCh isA f)

/-- A condition on both data copies (R273). -/
def Cond.holds (c : Cond) (a b : BitVec 64) : Bool :=
  if c.kind = 2 then decide (collarField a c.pos ≤ c.limit) && decide (collarField b c.pos ≤ c.limit)
  else collarCond c.mode c.pos c.tol c.limit a b

/-- The remote bits of a slot follow channel B's checker (R273, R274). -/
def State.collarRemotes (s : State) (n : Nat) : State :=
  let sl := s.slot n
  let fresh := sl.b.ds == .live && decide (s.ytime ≤ sl.b.at_ * us + sl.maxage * ms)
  let bits := mapIdx (fun r (old : Bool) =>
    match s.col.conds[r]? with
    | some c => if c.slot = n then unsyncGate old sl.b.unsync (fresh && c.holds sl.b.dataA sl.b.dataB) else old
    | none => old) s.col.remote
  { s with col := { s.col with remote := bits } }

/-- A slot enters a state in one channel (R275 to R278). `cause` is LASTDROP's. In arrangement S the checks of the owning core alone
decide (R227): channel B's keep the remote bits, and raise nothing. -/
def State.slotEnter (s : State) (n : Nat) (isA : Bool) (d : DState) (cause : Nat) : State :=
  let old := ((s.slot n).ch isA).ds
  let s := if isA && old == .live && d != .live then
    { s with col := { s.col with lastdrop := w16 (n % 64 + 64 * cause + 0x8000) } } else s
  let s := s.modSlotCh n isA (fun c =>
    if d == .joining then { c with ds := d, has := false, run := 0 } else { c with ds := d })
  let s := s.modSlot n (fun sl => { sl with
    losts := if isA && d == .lost then sat8 sl.losts else sl.losts
    quars := if isA && d == .quarantined then sat8 sl.quars else sl.quars })
  let s := if (isA || !s.pair.split) && (d == .lost || (d == .quarantined && (old == .live || old == .stale))) then s.err .colLost n else s
  s.collarRemotes n

/-- The deadline of the next tick has passed (R271): the tick is missed unless a sample of it was accepted; K misses in a
row take LIVE and STALE to LOST. -/
def State.deadline (s : State) (n : Nat) (isA : Bool) : State :=
  let sl := s.slot n
  let ch := sl.ch isA
  let step := fun (c : SlotCh) => { c with next := c.next + sl.refUs, gotTicks := c.gotTicks.filter (· != c.next) }
  if ch.gotTicks.any (· == ch.next) then s.modSlotCh n isA (fun c => { step c with misses := 0 })
  else
    let s := s.modSlotCh n isA (fun c => { step c with misses := c.misses + 1, missed := (c.next :: c.missed).take 66 })
    let s := s.modSlot n (fun sl => { sl with miss := if isA then sat16 sl.miss else sl.miss })
    if (ch.ds == .live || ch.ds == .stale) && decide (sl.k ≤ ch.misses + 1) then s.slotEnter n isA .lost 1 else s

def repeatN (n : Nat) (f : State → State) (s : State) : State := (List.range n).foldl (fun s _ => f s) s

/-- Every deadline that has come by a yard time. -/
def State.deadlines (s : State) (n : Nat) (isA : Bool) (y : Nat) : State :=
  let sl := s.slot n
  let first := ((sl.ch isA).next + 2000) * us
  if !sl.bound || decide (y < first) then s else repeatN ((y - first) / (sl.refUs * us) + 1) (fun s => s.deadline n isA) s

/-! ## The checks of a PDU (R267 to R270) -/

/-- The 64-bit time in µs nearest the arrival whose low 32 bits are STIME (R268). -/
def nearTime (arr stime : Nat) : Nat :=
  let base := arr / 2 ^ 32 * 2 ^ 32
  let dist := fun (v : Nat) => ((v : Int) - arr).natAbs
  let best := fun (u v : Nat) => if dist v < dist u then v else u
  let lo := if 2 ^ 32 ≤ base then base - 2 ^ 32 + stime else base + stime
  best (best lo (base + stime)) (base + 2 ^ 32 + stime)

def pduData (p : List Byte) (i : Nat) : BitVec 64 := BitVec.ofNat 64 (beAt p i 8)

/-- SCRC of a PDU (R267). -/
def pduScrcOk (node : Nat) (sl : Slot) (p : List Byte) : Bool :=
  p.drop 28 == toBytes 4 (crc32c (toBytes 2 node ++ toBytes 4 sl.bindid.toNat ++ p.take 28)).toNat

/-- Check 1 of R269. -/
def pduForm (slot : Nat) (p : List Byte) : Bool :=
  byteAt p 0 / 16 == 1 && byteAt p 0 % 8 == 0 && byteAt p 1 == slot && zeroIn p 26 27

/-- Check 8 of R269, from the condition records of the slot. -/
def State.pduAgrees (s : State) (n : Nat) (a b : BitVec 64) : Bool :=
  s.col.conds.all (fun c => !(c.slot = n && c.kind = 1 && c.mode != 0) ||
    (decide ((collarField a c.pos : Int) - collarField b c.pos ≤ c.tol) &&
     decide ((collarField b c.pos : Int) - collarField a c.pos ≤ c.tol)))

/-- The tick a sample belongs to: its time, or for UNSYNC the tick nearest STIME (DEDUCED, notes/assumptions/20.md). -/
def State.pduTick (s : State) (sl : Slot) (unsync : Bool) (raw : Nat) : Nat :=
  let ofs := s.col.sampofs * 125
  if unsync then ofs + (raw + sl.refUs / 2 - ofs) / sl.refUs * sl.refUs else raw

/-- A sample that reports a speed above LIMIT violates the SLS instances that name the slot, in the channel that accepts it
(R149). -/
def State.collarSpeed (s : State) (n : Nat) (isA : Bool) (a b : BitVec 64) : State :=
  let fast := fun (r : List Byte) => rIs .sls r && rXslot r == n && overSpeed (s.wheel (rWheel r)).xofs r a b
  let one := fun (h : Sheet) =>
    let set := fun (l : List InstSt) => mapIdx (fun i (st : InstSt) => if fast (nth [] h.recs i) then { st with viol := true } else st) l
    if isA then { h with a := set h.a } else { h with b := set h.b }
  { s with sh0 := one s.sh0, sh1 := one s.sh1 }

/-- The wheels that SLS instances compare with a slot (R150). -/
def State.collarWheels (s : State) (n : Nat) : List Nat :=
  [0, 1].filter (fun w => (s.wheel w).used && !(s.insts (fun _ _ r => rIs .sls r && rXslot r == n && rWheel r == w)).isEmpty)

/-- The third source disagrees with a wheel (R150): the angle with the position counted at the sample time, valid then and
now, or the speed with the wheel's, as far as that is valid and at least CHKSPD (DEDUCED, notes/assumptions/21.md). -/
def State.collarOff (s : State) (w : Nat) (st : Nat) (d : BitVec 64) : Bool :=
  let wh := s.wheel w
  let at_ := st * us
  let ang := collarField d wh.xofs
  let spd := collarField d (wh.xofs + 2)
  let full := 65536 * wh.teeth
  let past := wh.a.hist.find? (fun e => decide (e.1 ≤ at_))
  let angleOff := match past with
    | some (_, some n) =>
      let p := (n + wh.teeth - wh.reftooth) % wh.teeth * 65536
      let x := (p + full - ang * wh.teeth % full) % full
      wh.a.posOk && decide (wh.xtola * 65536 < Nat.min x (full - x))
    | _ => false
  let speedOff := match wh.a.norm, past with
    | some per, some e =>
      let v := 6000000000 / Nat.max (wh.teeth * Nat.max per ((at_ - e.1) / us)) 1
      wh.a.spdOk && decide (wh.chkspd ≤ v) && (decide (wh.xtols * v < (spd - v) * 100) || decide (wh.xtols * v < (v - spd) * 100))
    | _, _ => false
  angleOff || speedOff

/-- MOT_DISC on a wheel: both channels mark its position invalid and muting on it ends (R135, R155). -/
def State.motDisc (s : State) (w : Nat) : State :=
  let off := fun (h : Sheet) =>
    let set := fun (l : List InstSt) => mapIdx (fun i (st : InstSt) =>
      let r := nth [] h.recs i
      if rIs .mute r && rWheel r == w then
        { st with arm := false, since := none, span := st.span.map (· ||| 1), entry := st.entry.map (fun e => (e.1 ||| 1, e.2)) }
      else st) l
    { h with a := set h.a, b := set h.b }
  let s := { s with sh0 := off s.sh0, sh1 := off s.sh1 }
  (s.modWheel w (fun x => { x with a := { x.a with posOk := false }, b := { x.b with posOk := false } })).err .motDisc w

/-- Checks 3 to 8 of R269 by one channel, at the present yard time, and acceptance (R270, R275). -/
def State.pduSample (s : State) (n : Nat) (isA : Bool) (p : List Byte) (arr : Nat) : State :=
  let sl := s.slot n
  let ch := sl.ch isA
  let unsync := bit (byteAt p 0) 3
  let seq := beAt p 2 2
  let raw := nearTime (arr / us) (beAt p 4 4)
  let st := if unsync then Nat.min raw (arr / us - 1500) else raw
  let d := (seq + 65536 - ch.seq0) % 65536
  let ofs := s.col.sampofs * 125
  let seqOk := !ch.has || (decide (1 ≤ d) && decide (d ≤ 16) && (unsync || st == ch.t0 + d * sl.refUs))
  let timeOk := unsync || (decide (ofs ≤ st) && (st - ofs) % sl.refUs == 0 && decide (st * us ≤ arr + 4 * us))
  let tick := s.pduTick sl unsync raw
  let inTime := !ch.missed.any (· == tick)
  let ageOk := decide (s.ytime ≤ st * us + sl.maxage * ms)
  let da := pduData p 8
  let db := pduData p 16
  if !seqOk || !timeOk || !inTime || !ageOk then s.err .colCrc n
  else if byteAt p 25 % 4 != 0 || !s.pduAgrees n da db then
    (s.modSlotCh n isA (fun c => { c with seq0 := seq, t0 := st, run := 0 })).err .colCrc n
  else
    let run := if unsync then 0 else if ch.has && d == 1 then satAdd ch.run 1 3 else 1
    let s := s.modSlotCh n isA (fun c => { c with
      has := true, seq0 := seq, t0 := st, got := true, at_ := st, dataA := da, dataB := db, unsync := unsync
      diag := w16 (beAt p 24 2), seq := seq, run := run, tick := tick, gotTicks := c.gotTicks ++ [tick] })
    let s := if (ch.ds == .joining && decide (3 ≤ run)) || ch.ds == .stale then s.slotEnter n isA .live 0 else s
    let s := s.collarSpeed n isA da db
    let s := if isA && !unsync then { s with col := { s.col with third := s.col.third ++ [(n, st, da, db)] } } else s
    s.collarRemotes n

/-- Checks 0 to 2 of R269 by one channel; more than QCRC failures of check 2 in 1,000 ms quarantine the slot (R278). Every PDU
goes through the checks that follow, whatever the state of its slot. -/
def State.pduCheck (s : State) (isA : Bool) (f : PortFrame) : State :=
  let n := byteAt f.bytes 1
  let p := (f.bytes.drop 4).take 32
  let sl := s.slot n
  let ch := sl.ch isA
  if n = 0 || !sl.bound || sl.head != f.port then s
  else if !pduForm n p then s.err .colCrc n
  else if !pduScrcOk s.yard.node sl p then
    let crcAt := s.now :: (ch.crcAt.filter (fun a => decide (s.now < a + 1000 * ms)))
    let s := s.modSlot n (fun sl => { sl with crcerr := if isA then sat16 sl.crcerr else sl.crcerr })
    let s := (s.modSlotCh n isA (fun c => { c with crcAt := crcAt.take 65 })).err .colCrc n
    if s.col.qcrc < crcAt.length && ch.ds != .quarantined then s.slotEnter n isA .quarantined 3 else s
  else
    let s := if ch.ds == .lost then s.slotEnter n isA .joining 0 else s
    s.pduSample n isA p f.arr

/-! ## FIFO 2 and 3: the loft forwards (R259, R272) -/

/-- The loft's management view of a slot moves as the loft decides: a free value (R279). -/
def State.slotView (s : State) (n : Nat) : State :=
  let v := DState.ofCode (Config.freeNat s.free % 6)
  s.fresh.modSlot n (fun sl => { sl with ms := if sl.bound then v else sl.ms })

/-- The loft takes inbound port frames: it forwards PDUs to the kennel (FIFO 3), and reads head status. -/
def State.drainRadio (s : State) : State :=
  if s.img.loft then
    (s.fifo 2).q.foldl (fun s d => match d with
      | .port f =>
        if byteAt f.bytes 0 = 1 then (s.slotView (byteAt f.bytes 1)).fifoPush 3 (.port { f with del := s.ytime })
        else if byteAt f.bytes 0 = 5 then
          (List.range 64).foldl (fun s n => if (s.slot n).bound && (s.slot n).head == f.port then s.slotView n else s) s
        else s
      | _ => s) (s.fifoTake 2)
  else s

/-- The loft's outbound management port frames reach the heads' queues (FIFO 9). -/
def State.drainHeads (s : State) : State :=
  (s.fifo 9).q.foldl (fun s d => match d with
    | .radio p l => s.modRadio p (fun r => { r with mgmt := r.mgmt ++ [l] })
    | _ => s) (s.fifoTake 9)

/-! ## Inbound port frames -/

/-- The inbound frame of a transfer is complete and has not been taken (R256). -/
def RadioPort.brings (r : RadioPort) (now : Nat) : Bool := r.inAt.any (fun a => decide (a ≤ now))

/-- The inbound port frame of a transfer, of a given TYPE: counted and discarded under R258, or handled. -/
def State.portIn (s : State) (p : Nat) (l : List Byte) (typ : Nat) (f : State → State) : State :=
  if !s.live || !(s.radio p).on || !(s.radio p).brings s.now then s
  else
  let s := s.modRadio p (fun r => { r with inAt := none })
  if !portOk l || byteAt l 0 == 2 then s.modRadio p (fun r => { r with err := sat8 r.err })
  else if byteAt l 0 != typ then s
  else f (s.modRadio p (fun r => { r with answering := true }))

/-- The spook control drops one PDU in N of a slot or of all slots (R505, R508). -/
def State.radioDrop (s : State) (p slot : Nat) : State × Bool :=
  let v := nth 0 s.spook.rdrop p
  let n := v % 256
  if !s.spook.en || n = 0 || (v / 256 % 64 != 0 && v / 256 % 64 != slot) then (s, false)
  else
    let c := nth 0 s.spook.rdropN p + 1
    let hit := decide (n ≤ c)
    ({ s with spook := { s.spook with
        rdropN := setAt s.spook.rdropN p (if hit then 0 else c)
        rcnt := updAt (fun v => if hit then sat8 v else v) s.spook.rcnt p } }, hit)

/-- PDU (R269, R272): channel B's checker at once, channel A through the loft. -/
def State.pduIn (s : State) (p : Nat) (l : List Byte) : State :=
  s.portIn p l 1 (fun s =>
    let r := s.radioDrop p (byteAt l 1)
    if r.2 then r.1
    else
      let f : PortFrame := { port := p, bytes := l, arr := s.ytime, del := s.ytime }
      ((r.1.pduCheck false f).fifoPush 2 (.port f)).drainRadio)

def execPdu (t : Nat) (port : Fin 2) (frame : List Byte) (s : State) : Host.Outcome State Fault Refusal :=
  act t s (fun s => s.pduIn port frame)

/-- BEACON_REPORT (R265). -/
def execBeaconReport (t : Nat) (port : Fin 2) (frame : List Byte) (s : State) : Host.Outcome State Fault Refusal :=
  act t s (fun s => s.portIn port frame 3 (fun s =>
    if bit (byteAt frame 6) 0 then s else s.modRadio port (fun r => { r with bmiss := sat8 r.bmiss })))

/-- HEAD_STATUS (R259, R279): only the loft reads it. -/
def execHeadStatus (t : Nat) (port : Fin 2) (frame : List Byte) (s : State) : Host.Outcome State Fault Refusal :=
  act t s (fun s => s.portIn port frame 5 (fun s =>
    (s.fifoPush 2 (.port { port := port, bytes := frame, arr := s.ytime, del := s.ytime })).drainRadio))

/-- PORT_MANAGEMENT_FRAME (R259): only the loft reads it. -/
def execPortManagementFrame (t : Nat) (port : Fin 2) (frame : List Byte) (s : State) : Host.Outcome State Fault Refusal :=
  act t s (fun s => s.portIn port frame 4 (fun s =>
    (s.fifoPush 2 (.port { port := port, bytes := frame, arr := s.ytime, del := s.ytime })).drainRadio))

/-! ## Deadlines and ages (R271, R273, R275) -/

/-- REFRESH_MISSED (R271): channel B takes the deadline at its instant. -/
def execRefreshMissed (t : Nat) (slot : Fin 64) (s : State) : Host.Outcome State Fault Refusal :=
  act t s (fun s => whenLive s (fun s => s.deadlines slot false s.ytime))

/-- MAXAGE_EXPIRY (R273, R275, R316) in channel B: STALE. -/
def State.maxAge (s : State) (isConn : Bool) (n : Nat) : State :=
  if isConn then
    let c := s.conn n
    if c.b.ds == .live && decide (c.b.ts + c.maxage * us < s.ytime) then s.connEnter n false .stale else s
  else
    let sl := s.slot n
    if sl.b.ds == .live && decide (sl.b.at_ * us + sl.maxage * ms < s.ytime) then s.slotEnter n false .stale 2 else s

def execMaxageExpiry (t : Nat) (conn : Bool) (idx : Fin 64) (s : State) : Host.Outcome State Fault Refusal :=
  act t s (fun s => whenLive s (fun s => s.maxAge conn idx))

/-- A write to COL.QREL (R278). -/
def State.colQrel (s : State) (v : Word) : State :=
  let n := v.toNat % 64
  let one := fun (s : State) (isA : Bool) => if ((s.slot n).ch isA).ds == .quarantined then s.slotEnter n isA .joining 0 else s
  if bit v.toNat 6 then one (one s true) false else s

def execColQrel (t : Nat) (value : Word) (s : State) : Host.Outcome State Fault Refusal :=
  act t s (fun s => whenLive s (fun s => s.colQrel value))

/-! ## The input read's part (R271, R277, R280) -/

/-- The kennel takes the PDUs delivered before the read. Deadlines and PDUs of one cycle are taken by their own instants. -/
def State.kennelPdus (s : State) : State :=
  let q := (s.fifo 3).q
  let early := fun (d : Datum) => match d with
    | .port f => decide (f.del < s.ytime)
    | _ => true
  let s := s.modFifo 3 (fun f => { f with q := q.filter (fun d => !early d) })
  (q.filter early).foldl (fun s d => match d with
    | .port f => ((s.deadlines (byteAt f.bytes 1) true (f.del - 1)).pduCheck true f)
    | _ => s) s

/-- One slot at an input read. -/
def State.slotRead (s : State) (n : Nat) : State :=
  if !(s.slot n).bound then s
  else
    let s := s.deadlines n true s.ytime
    let sl := s.slot n
    let s := if sl.a.ds == .live && decide (sl.a.at_ * us + sl.maxage * ms < s.ytime) then s.slotEnter n true .stale 2 else s
    let sl := s.slot n
    let view := if sl.ms == .live && sl.a.ds != .live then satAdd sl.view 1 5 else 0
    let up := decide (4 < view)
    let s := s.modSlot n (fun sl => { sl with
      view := view, viewUp := up, age := if sl.a.got then Nat.min (s.ytime / us - sl.a.at_) 0xFFFF else 0xFFFF })
    if up && !sl.viewUp then s.err .colView n else s

def State.slotReads (s : State) : State := (List.range 64).foldl State.slotRead s.kennelPdus

/-- The synced samples that the kennel has accepted are compared with the wheels, once the edges that came before the read
are counted (R150). -/
def State.thirdSource (s : State) : State :=
  s.col.third.foldl (fun s e => (s.collarWheels e.1).foldl (fun s w =>
    if s.collarOff w e.2.1 e.2.2.1 || s.collarOff w e.2.1 e.2.2.2 then s.motDisc w else s) s) { s with col := { s.col with third := [] } }

end Sys2Proof.Machine
end

