-- ==== Sys2Proof/Machine/TablesNet.lean ====
section
/-!
DEFINITION. The collar table and the yard table (R261 to R263, R306 to R309): their checks and what they load.
-/
namespace Sys2Proof.Machine

/-- The first failed check of a list of (code, item, failed). -/
def firstBad (l : List (Nat × Nat × Bool)) : Option (Nat × Nat) :=
  match l.find? (fun e => e.2.2) with
  | some e => some (e.1, e.2.1)
  | none => none

/-- CFGERR with a seven-bit ITEM: [6:0] ITEM, [14:12] CODE, [15] VALID. -/
def cfgWord (e : Nat × Nat) : Word := w16 (e.2 % 128 + 4096 * e.1 + 0x8000)

/-! ## Collar table -/

def collarRec (l : List Byte) (n : Nat) : List Byte := (l.drop (16 + 8 * (n - 1))).take 8
def condRec (l : List Byte) (i : Nat) : List Byte := (l.drop (520 + 8 * i)).take 8

/-- The condition record an instance needs (R262); `xofs` gives XOFS of a wheel. -/
def condOf (xofs : Nat → Nat) (r : List Byte) : List Byte :=
  if rIs .collarin r then toBytes 1 1 ++ toBytes 1 (rB r 8) ++ toBytes 1 (rB r 10) ++ toBytes 1 (rB r 9) ++ toBytes 1 (rB r 11) ++ [0] ++ toBytes 2 (rW r 12)
  else toBytes 1 2 ++ toBytes 1 (rXslot r) ++ [0] ++ toBytes 1 (xofs (rWheel r) + 2) ++ [0, 0] ++ toBytes 2 (rW r 10)

/-- A collar record is bound. -/
def collarBound (l : List Byte) (n : Nat) : Bool := byteAt (collarRec l n) 0 == 1
def collarHead (l : List Byte) (n : Nat) : Nat := byteAt (collarRec l n) 1 % 2

/-- A collar record is out of range, or not zero when unbound. -/
def collarRecBad (r : List Byte) : Bool :=
  let k := byteAt r 2
  let age := byteAt r 3
  match byteAt r 0 with
  | 0 => !allZero r
  | 1 => !(decide (2 ≤ k) && decide (k ≤ 16) && decide (2 ≤ age) && decide (age ≤ 64) &&
      decide (2 ^ (byteAt r 1 / 16 % 4) + 2 ≤ age) && beAt r 4 4 != 0)
  | _ => true

/-- The slots 1 to n that are bound to a head. -/
def boundTo (l : List Byte) (h n : Nat) : Nat := ((List.range n).filter (fun i => collarBound l (i + 1) && collarHead l (i + 1) == h)).length

/-- The checks of R263 in code order. -/
def collarErr (xofs : Nat → Nat) (recs : List (List Byte)) (l : List Byte) : Option (Nat × Nat) :=
  let dly := fun (i : Nat) => decide (beAt l i 2 < 50) || decide (500 < beAt l i 2)
  let slots := (List.range 63).map (· + 1)
  let want := (recs.filter isCond).map (condOf xofs)
  let head1 := beAt l 0 2 != 1 || decide (4 ≤ byteAt l 2) || decide (7 < byteAt l 3) || dly 4 || dly 6 ||
    decide (byteAt l 9 < 4) || decide (64 < byteAt l 9) || !zeroIn l 10 15 || decide (128 < byteAt l 8) ||
    slots.any (fun n => collarBound l n && (byteAt (collarRec l n) 1 &&& 0xCE) != 0) ||
    (List.range 128).any (fun i => byteAt (condRec l i) 5 != 0)
  firstBad (
    [(1, 0x7F, head1)] ++
    slots.map (fun n => (2, n, collarRecBad (collarRec l n))) ++
    slots.map (fun n => (3, n, collarBound l n &&
      (!bit (byteAt l 2) (collarHead l n) || decide (32 < boundTo l (collarHead l n) n)))) ++
    [(4, 0x7F, decide (128 < want.length))] ++
    (List.range 128).map (fun i => (5, i, condRec l i != nth (List.replicate 8 0) want i)) ++
    [(5, Nat.min (byteAt l 8) want.length, byteAt l 8 != want.length)])

/-- The slot that a collar record binds: every bound slot starts in JOINING (R275). -/
def slotOf (l : List Byte) (n : Nat) : Slot :=
  let r := collarRec l n
  if n != 0 && collarBound l n then
    { bound := true, head := byteAt r 1 % 2, refresh := byteAt r 1 / 16 % 4, k := byteAt r 2, maxage := byteAt r 3
      bindid := BitVec.ofNat 32 (beAt r 4 4), a := { ds := .joining }, b := { ds := .joining }, ms := .joining }
  else {}

/-- The collar table commits (R255, R275): the enabled radio ports start. -/
def State.commitCollars (s : State) (l : List Byte) : State :=
  let s := (List.range 64).foldl (fun s n =>
    if (s.slot n).a.ds == .live then s.slotEnter n true .absent 4 else s) s
  let conds := (List.range (byteAt l 8)).map (fun i =>
    let r := condRec l i
    { kind := byteAt r 0, slot := byteAt r 1, mode := byteAt r 2, pos := byteAt r 3, tol := byteAt r 4, limit := beAt r 6 2 : Cond })
  let port := fun (p : Nat) (r : RadioPort) =>
    { r with on := bit (byteAt l 2) p, headdly := beAt l (4 + 2 * p) 2, sck := bit (byteAt l 2) p }
  ({ s with col := { s.col with
      committed := true, sampofs := byteAt l 3, qcrc := byteAt l 9, slots := mapIdx (fun n (o : Slot) => (slotOf l n).sincePower o) s.col.slots, conds := conds
      remote := List.replicate 128 false, ports := mapIdx port s.col.ports } }).retick

/-! ## Yard table -/

def connRec (l : List Byte) (i : Nat) : List Byte := (l.drop (32 + 16 * i)).take 16
def routeMap (l : List Byte) (p : Nat) : List Byte := (l.drop (1056 + 128 * (p - 1))).take 128
def yinRec (l : List Byte) (y : Nat) : List Byte := (l.drop (1312 + 4 * y)).take 4

/-- A connection record is out of range, or not zero when unused (R307). -/
def connRecBad (r : List Byte) : Bool :=
  let len := byteAt r 1
  let base := decide (1 ≤ len) && decide (len ≤ 64) && beAt r 2 2 != 0 && beAt r 12 4 != 0
  match byteAt r 0 with
  | 0 => !allZero r
  | 1 => !(base && byteAt r 6 == 0 && decide (1 ≤ byteAt r 7) && decide (byteAt r 7 ≤ 64) &&
      decide (250 ≤ beAt r 8 2) && decide (beAt r 8 2 ≤ 65000) && decide (beAt r 10 2 ≤ 20000))
  | 2 => !(base && decide (byteAt r 6 < 2) && byteAt r 7 == 0 && beAt r 8 2 == 0 && beAt r 10 2 == 0 &&
      (byteAt r 6 == 0 || beAt r 4 2 == 0xFFFF))
  | _ => true

/-- The connection record a CONNID names for consuming. -/
def yinIndex (l : List Byte) (id : Nat) : Option Nat :=
  (List.range 64).find? (fun i => byteAt (connRec l i) 0 == 1 && beAt (connRec l i) 2 2 == id)

/-- A YARDIN record matches its instance (R308). -/
def yinOk (l : List Byte) (y : Nat) (r : List Byte) : Bool :=
  byteAt (yinRec l y) 1 == 0 && beAt (yinRec l y) 2 2 == rW r 10 &&
  match yinIndex l (rConnid r) with
  | some i => byteAt (yinRec l y) 0 == i
  | none => true

/-- The checks of R309 in code order. -/
def yardErr (recs : List (List Byte)) (l : List Byte) : Option (Nat × Nat) :=
  let node := beAt l 2 2
  let fl := byteAt l 4
  let root := bit fl 0
  let depth := byteAt l 5
  let want := recs.filter (rIs .yardin)
  let nyin := byteAt l 20
  let seg := segOf node
  let inMap := fun (p g : Nat) => bit (byteAt (routeMap l p) (g / 8)) (g % 8)
  let overlap := (List.zip (routeMap l 1) (routeMap l 2)).any (fun e => (e.1 &&& e.2) != 0)
  let disabled := fun (p : Nat) => !allZero (routeMap l p) && !bit fl (p + 1)
  firstBad (
    [(1, 0x7F, beAt l 0 2 != 1 || node % 64 != 0 || decide (16 ≤ fl) || decide (12 < depth) || decide (10000 < beAt l 8 2) ||
        decide (beAt l 10 2 < 20) || decide (10000 < beAt l 10 2) || decide (127 < nyin) || !zeroIn l 21 31 ||
        (List.range 64).any (fun i => byteAt (connRec l i) 0 != 0 && decide (2 ≤ byteAt (connRec l i) 6)))] ++
    (List.range 64).map (fun i => (2, i, connRecBad (connRec l i) || (byteAt (connRec l i) 0 != 0 &&
      (List.range i).any (fun j => byteAt (connRec l j) 0 != 0 && beAt (connRec l j) 2 2 == beAt (connRec l i) 2 2)))) ++
    [(3, 0x7F, overlap || inMap 1 seg || inMap 2 seg || disabled 1 || disabled 2),
     (4, 0x7F, decide (127 < want.length))] ++
    (List.range 128).map (fun y => (4, y, match want[y]? with
      | some r => !yinOk l y r
      | none => !allZero (yinRec l y))) ++
    [(4, Nat.min nyin want.length, nyin != want.length),
     (5, 0x7F, root != (depth == 0) || (root && (beAt l 6 2 != 0 || bit fl 1)) || (!root && !bit fl 1))])

/-- The connection that a record sets up: a consume record starts in JOINING. -/
def connOf (y : Nat) (r : List Byte) : Conn :=
  let ds : DState := if byteAt r 0 = 1 then .joining else .absent
  { mode := byteAt r 0, len := byteAt r 1, id := beAt r 2 2, peer := beAt r 4 2, bcast := bit (byteAt r 6) 0, wdog := byteAt r 7
    maxage := beAt r 8 2, dlvy := beAt r 10 2, ctag := BitVec.ofNat 32 (beAt r 12 4)
    a := { ds := ds, joined := y }, b := { ds := ds, joined := y }, ms := ds, payload := List.replicate (byteAt r 1) 0 }

/-- The yard table commits (R306): the yard ports start. The root is LOCKED (R301). -/
def State.commitYard (s : State) (l : List Byte) : State :=
  let fl := byteAt l 4
  let port := fun (p : Nat) (y : YPort) => { y.drop with
    on := bit fl (p + 1), route := if p = 0 then [] else routeMap l p }
  let s := { s with yard := { s.yard with
    committed := true, node := beAt l 2 2, root := bit fl 0, depth := byteAt l 5, upnode := beAt l 6 2, lockwait := beAt l 8 2
    wlead := beAt l 10 2, worig0 := beAt l 12 2, worig1 := beAt l 14 2, wstop0 := beAt l 16 2, wstop1 := beAt l 18 2
    ports := mapIdx port s.yard.ports, conns := (List.range 64).map (fun i => connOf s.ytime (connRec l i))
    yins := (List.range (byteAt l 20)).map (fun y => (byteAt (yinRec l y) 0, beAt (yinRec l y) 2 2))
    remote := List.replicate 127 false, xch := none } }
  if s.yard.root then s.setSync .locked else s

end Sys2Proof.Machine
end

