-- ==== Sys2Proof/Machine/Motion.lean ====
section
/-!
DEFINITION. Speed, position and direction (05): edges, teeth, plausibility and reference passes in each channel, the count
comparison, mute grants, and the wheel table.
-/
namespace Sys2Proof.Machine

def Wheel.modCh (w : Wheel) (isA : Bool) (f : WheelCh → WheelCh) : Wheel := if isA then { w with a := f w.a } else { w with b := f w.b }
def State.modWheelCh (s : State) (n : Nat) (isA : Bool) (f : WheelCh → WheelCh) : State := s.modWheel n (fun w => w.modCh isA f)

/-- One channel's instances of the sheets that name a wheel change. -/
def State.modMotion (s : State) (w : Nat) (isA : Bool) (f : List Byte → InstSt → InstSt) : State :=
  let one := fun (h : Sheet) =>
    let set := fun (l : List InstSt) => mapIdx (fun i (st : InstSt) =>
      let r := nth [] h.recs i
      if rMotion r && rWheel r == w then f r st else st) l
    if isA then { h with a := set h.a } else { h with b := set h.b }
  { s with sh0 := one s.sh0, sh1 := one s.sh1 }

/-! ## Verdicts (R138 to R142) -/

/-- The position is invalid: the guard span sees it and muting ends (R153, R155). -/
def muteInvalid (r : List Byte) (st : InstSt) : InstSt :=
  if rIs .mute r then
    { st with arm := false, since := none, span := st.span.map (· ||| 1), entry := st.entry.map (fun e => (e.1 ||| 1, e.2)) }
  else st

/-- Speed and position become invalid. -/
def State.invalidate (s : State) (w : Nat) (isA : Bool) : State :=
  (s.modWheelCh w isA (fun c => { c with posOk := false, spdOk := false, ppred := none, good := 0 })).modMotion w isA muteInvalid

def diagShort : Nat := 1
def diagNoise : Nat := 2
def diagMissed : Nat := 3
def diagGap : Nat := 4
def diagStuck : Nat := 5
def diagRef : Nat := 6
def diagCount : Nat := 7

/-- An anomaly marks the guard span of a MUTE, and an entry whose edge it covers: one not earlier than the anomaly's first instant (R153).
-/
def markSpan (from_ : Nat) (r : List Byte) (st : InstSt) : InstSt :=
  if rIs .mute r then
    { st with span := st.span.map (· ||| 2), entry := st.entry.map (fun e => if from_ ≤ e.2 then (e.1 ||| 2, e.2) else e) }
  else st

/-- An anomaly of R138 to R140 at an edge: MOT_TOOTH, and a second one without a normal period between makes speed and
position invalid (R141). Channel A keeps the counters; MOT_TOOTH is raised as channel B finds it (notes/assumptions/22.md). -/
def State.anomaly (s : State) (w : Nat) (isA : Bool) (from_ diag discarded inferred : Nat) : State :=
  let second := ((s.wheel w).ch isA).anom
  let s := s.modWheelCh w isA (fun c => { c with anom := true, good := 0 })
  let s := s.modMotion w isA (markSpan from_)
  let s := if isA then s.modWheel w (fun x => { x with
    diag := diag, discarded := satAdd x.discarded discarded 0xFF, inferred := satAdd x.inferred inferred 0xFF })
    else s.err .motTooth w
  if second then s.invalidate w isA else s

/-! ## One counted tooth (R128, R144, R146, R152 to R157) -/

/-- What one tooth does to an instance of its wheel. An entry that no guard-span edge has come before is refused as one with
an invalid position (DEDUCED, notes/assumptions/99.md). -/
def toothInst (teeth cnt : Nat) (posOk up : Bool) (at_ : Nat) (r : List Byte) (st : InstSt) : InstSt :=
  match rFn r with
  | some .slp => { st with viol := st.viol || (!st.arm && posOk && !inWindow teeth cnt (rW r 10) (rW r 12)) }
  | some .sdi =>
    let forbidden := if rB r 9 = 0 then !up else up
    { st with cnt := if st.arm then 0 else if forbidden then satAdd st.cnt 1 0xFFFF else st.cnt - 1 }
  | some .mute =>
    let start := rW r 10
    let inside := inWindow teeth cnt start (rW r 12)
    let span := if cnt = (start + teeth - rB r 14 % teeth) % teeth then some (flag (!posOk)) else st.span
    let st := { st with span := span }
    let st := if inside then st else { st with arm := false, since := none, entry := none }
    if up && cnt = start then { st with entry := some ((span.getD 1) ||| flag (!posOk), at_), span := none } else st
  | _ => st

/-- The count moves by one tooth. -/
def State.count (s : State) (w : Nat) (isA up : Bool) (at_ : Nat) : State :=
  let teeth := (s.wheel w).teeth
  s.modWheelCh w isA (fun c =>
    let n := if up then (c.cnt + 1) % teeth else (c.cnt + teeth - 1) % teeth
    { c with cnt := n, hist := ((at_, if c.posOk then some n else none) :: c.hist).take 128 })

/-- A reference pass (R142, R144): the first tooth after the validated change that counts up. A mismatch found in one
channel ends the pass in both (notes/assumptions/88.md). -/
def State.reference (s : State) (w : Nat) (isA up : Bool) (at_ : Nat) : State :=
  let x := s.wheel w
  let c := x.ch isA
  match c.refAt with
  | some a =>
    if at_ < a || !up then s
    else
      let s := s.modWheelCh w isA (fun c => { c with refAt := none })
      if c.posOk then
        if c.cnt = x.reftooth then s
        else (s.modWheel w (fun x => { x with
          diag := diagRef, a := { x.a with refAt := none }, b := { x.b with refAt := none } })).motDisc w
      else s.modWheelCh w isA (fun c => { c with
        cnt := x.reftooth, posOk := c.spdOk, hist := ((at_, if c.spdOk then some x.reftooth else none) :: c.hist.drop 1).take 128 })
  | none => s

/-- One tooth, what a reference pass makes of it, and then what the instances of the wheel make of the position. -/
def State.passTooth (s : State) (w : Nat) (isA up : Bool) (at_ : Nat) : State :=
  let s := (s.count w isA up at_).reference w isA up at_
  let c := (s.wheel w).ch isA
  s.modMotion w isA (toothInst (s.wheel w).teeth c.cnt c.posOk up at_)

/-- The instant of a tooth that is inferred before a rise: halfway from the last counted one in the direction (notes/assumptions/32.md). -/
def WheelCh.midOf (c : WheelCh) (up : Bool) (at_ : Nat) : Nat :=
  match (if up then c.lastUp else c.lastDn) with
  | some a => a + (at_ - a) / 2
  | none => at_

/-- A tooth is counted, with one inferred halfway before it or not (notes/assumptions/32.md): direction, period, the limits,
and the recovery of the speed (R129, R142, R146). `normal`: its period counts as normal; another is an anomaly, which does
not count towards that recovery. -/
def State.tooth (s : State) (w : Nat) (isA up : Bool) (at_ : Nat) (teeth : Nat) (normal : Bool) (ppred : Option Nat) : State :=
  let x := s.wheel w
  let c := x.ch isA
  let lastT := if up then c.lastUp else c.lastDn
  let turned := c.any && c.down == up
  let per := lastT.map (fun a => (at_ - a) / 10)
  let t := per.map (fun p => p / 100)
  let mid := c.midOf up at_
  let s := s.modWheelCh w isA (fun c => { c with
    any := true, down := !up, ppred := if turned then none else ppred
    lastUp := if up then some at_ else c.lastUp, lastDn := if up then c.lastDn else some at_
    per := per.getD c.per, norm := if normal then (match t with | some v => some v | none => c.norm) else c.norm
    anom := c.anom && !(normal && t.isSome) })
  let s := if teeth = 2 then s.passTooth w isA up mid else s
  let s := s.passTooth w isA up at_
  let s := if normal then (match t with
    | some v => s.modMotion w isA (fun r st =>
        if rIs .sls r && decide (v < periodAt x.teeth (rW r 10)) then { st with viol := true } else st)
    | none => s) else s
  if c.spdOk || !normal then s
  else
    let good := if turned then 1 else satAdd c.good 1 4
    s.modWheelCh w isA (fun c => { c with good := good, spdOk := c.spdOk || decide (4 ≤ good) })

/-- A TWnA rise that MINW has confirmed is classed and counted (R137, R138). -/
def State.rise (s : State) (w : Nat) (isA up : Bool) (at_ : Nat) : State :=
  match (s.wheel w).classOf isA up at_ with
  | .free t => s.tooth w isA up at_ 1 true t
  | .noise => s.anomaly w isA at_ diagNoise 1 0
  | .normal t => s.tooth w isA up at_ 1 true (some t)
  | .missed t => (s.tooth w isA up at_ 2 false (some (t / 2))).anomaly w isA (((s.wheel w).ch isA).midOf up at_) diagMissed 0 1
  | .gap => ((s.tooth w isA up at_ 1 false none).anomaly w isA at_ diagGap 0 0).invalidate w isA

/-- Three rises of one pin without an edge of the other, with Ppred defined (R140; DEDUCED, notes/assumptions/98.md). -/
def State.stuck (s : State) (w : Nat) (isA : Bool) (pin : Chan) (at_ : Nat) : State :=
  let x := s.wheel w
  let c := x.ch isA
  let n := match pin with
    | .a => c.stuckA
    | .b => c.stuckB
  if 3 ≤ n then
    let s := s.modWheelCh w isA (fun c => match pin with
      | .a => { c with stuckA := 0 }
      | .b => { c with stuckB := 0 })
    if (x.predicted isA).isSome then s.anomaly w isA at_ diagStuck 0 0 else s
  else s

/-- An edge that stands: TWnB's level, the stuck rule, and the tooth of a TWnA rise (R128, R139, R140). -/
def State.edgeStands (s : State) (w : Nat) (isA : Bool) (pin : Chan) (level : Bool) (at_ : Nat) : State :=
  let s := s.modWheelCh w isA (fun c => match pin with
    | .a => { c with pend := none, stuckA := c.stuckA + flag level, stuckB := 0 }
    | .b => { c with pendB := none, setB := level, stuckB := c.stuckB + flag level, stuckA := 0 })
  let s := s.stuck w isA pin at_
  if level && pin == .a then s.rise w isA (((s.wheel w).ch isA).dirAt at_) at_ else s

/-- The waiting edge of one pin stands once its phase has lasted MINW (R139). -/
def State.confirmPin (s : State) (w : Nat) (isA : Bool) (pin : Chan) (now : Nat) : State :=
  let x := s.wheel w
  let c := x.ch isA
  match (match pin with
    | .a => c.pend
    | .b => c.pendB) with
  | some (a, level) => if a + x.minw * us ≤ now then s.edgeStands w isA pin level a else s
  | none => s

/-- The waiting edges of a wheel stand in the order in which they came. -/
def State.confirm (s : State) (w : Nat) (isA : Bool) (now : Nat) : State :=
  let c := (s.wheel w).ch isA
  let bFirst := match c.pend, c.pendB with
    | some (a, _), some (b, _) => decide (b < a)
    | _, _ => false
  if bFirst then (s.confirmPin w isA .b now).confirmPin w isA .a now
  else (s.confirmPin w isA .a now).confirmPin w isA .b now

/-- An edge in one channel (R139). A phase shorter than MINW discards both its edges. -/
def State.edge (s : State) (w : Nat) (isA : Bool) (pin : Chan) (level : Bool) (at_ : Nat) : State :=
  let s := s.confirm w isA at_
  let x := s.wheel w
  let c := x.ch isA
  let before := match pin with
    | .a => c.edgeA
    | .b => c.edgeB
  let short := match before with
    | some a => decide (at_ < a + x.minw * us)
    | none => false
  let wait := if short then none else some (at_, level)
  let s := s.modWheelCh w isA (fun c => match pin with
    | .a => { c with lvA := level, edgeA := some at_, last := at_, pend := wait }
    | .b => { c with lvB := level, edgeB := some at_, last := at_, pendB := wait })
  let s := s.modMotion w isA (fun r st => if rIs .sstill r then { st with still := false } else st)
  if short then s.anomaly w isA at_ diagShort 2 0 else s

/-- The TW pins are sampled: in ARMED and in every later state but CUT (R430). -/
def State.sampling (s : State) : Bool :=
  match s.clk.rs with
  | .armed => true
  | .run => true
  | .safe => true
  | .maint => true
  | .halted => true
  | _ => false

/-- TOOTH_EDGE (R128, R134): channel B at once, on its own timer; channel A through FIFO 0, with a stamp of yard time at
10 ns resolution. -/
def State.twEdge (s : State) (w : Nat) (pin : Chan) (level : Bool) : State :=
  if s.sampling && (s.wheel w).used then
    (s.edge w false pin level s.now).fifoPush 0 (.edge { wheel := w, pin := pin, level := level, at_ := s.ytime / 10 * 10 })
  else
    let set := fun (c : WheelCh) => match pin with
      | .a => { c with lvA := level }
      | .b => { c with lvB := level, setB := level }
    s.modWheel w (fun x => { x with a := set x.a, b := set x.b })

def execToothEdge (t : Nat) (wheel : Fin 2) (pin : Chan) (level : Bool) (s : State) : Host.Outcome State Fault Refusal :=
  act t s (fun s => s.twEdge wheel pin level)

/-- STANDSTILL_CONFIRM (R146): channel B has seen no edge for the larger of CONFT and PLIM(MAXSPD). -/
def State.standstill (s : State) (k i : Nat) : State :=
  let r := s.recAt k i
  let x := s.wheel (rWheel r)
  if s.sampling && rIs .sstill r && x.used && decide (x.b.last + stillNs x.teeth r ≤ s.now) then
    s.modSheet k (fun h => { h with b := updAt (fun st => { st with still := true }) h.b i })
  else s

def execStandstillConfirm (t : Nat) (sheet : Fin 2) (idx : Fin 512) (s : State) : Host.Outcome State Fault Refusal :=
  act t s (fun s => (([0, 1].foldl (fun s w => s.confirm w false s.now) s)).standstill sheet idx)

/-- MOTION_LOCAL_RESET (R151). -/
def State.motionReset (s : State) (k i : Nat) : State :=
  match (s.com k i).motSince with
  | some a =>
    if a + 1000 * ms ≤ s.now then
      s.clearLocals (fun k' i' c => k' == k && i' == i && (match c with
        | .motion _ => true
        | _ => false))
    else s
  | none => s

def execMotionLocalReset (t : Nat) (sheet : Fin 2) (idx : Fin 512) (s : State) : Host.Outcome State Fault Refusal :=
  act t s (fun s => s.motionReset sheet idx)

/-! ## The input read's part (R134 to R136) -/

/-- A datum that misses the read: a value that a pair of `missed` has validated within the last 25 µs (R364, R379). -/
def State.missesRead (s : State) (missed : List (Fin 32)) : Datum → Bool
  | .input n _ a => missed.any (fun m => m.val == n) && decide (s.now ≤ a + 25 * us)
  | _ => false

/-- The kennel takes the edges that came before the read, and confirms its rises; what misses the read stays in FIFO 0. -/
def State.kennelEdges (s : State) (missed : List (Fin 32)) : State :=
  let late := (s.fifo 0).q.filter (s.missesRead missed)
  let s := (s.fifo 0).q.foldl (fun s d => match d with
    | .edge e => s.edge e.wheel true e.pin e.level e.at_
    | _ => s) (s.modFifo 0 (fun f => { f with q := late }))
  [0, 1].foldl (fun s w => (s.confirm w true s.ytime).confirm w false s.now) s

/-- The count comparison of a wheel at a read. -/
def State.compareCounts (s : State) (w : Nat) : State :=
  let x := s.wheel w
  if !x.used then s
  else
    let d := (x.a.cnt + x.teeth - x.b.cnt) % x.teeth
    let gap := Nat.min d (x.teeth - d)
    let far := decide (x.tolt < gap)
    let near := decide (1 ≤ gap)
    let diff := near && x.near
    let s := s.modWheel w (fun x => { x with cntB := x.b.cnt, far := far, near := near, diff := diff, disc := x.disc && far })
    let s := if diff then
      let mark := fun (r : List Byte) (st : InstSt) => if rIs .mute r then { st with span := st.span.map (· ||| 4) } else st
      (s.modMotion w true mark).modMotion w false mark
    else s
    if far && x.far && !x.disc then
      (s.modWheel w (fun x => { x with diag := diagCount, disc := true })).motDisc w
    else s

/-! ## Mute grants (R152 to R154) -/

/-- The wheel is at LOCAL: an instance that names it is, through MOT_DISC. -/
def State.wheelLocal (s : State) (w : Nat) : Bool :=
  let has := fun (h : Sheet) => (List.zip h.recs h.com).any (fun e =>
    rMotion e.1 && rWheel e.1 == w && e.2.locals.any (fun x => x.cause == .motion .motDisc))
  has s.sh0 || has s.sh1

/-- The reason a grant is refused, 0 when it is given (R153, R156); of several, the one with the lowest code (DESIGN CHOICE,
notes/assumptions/100.md). -/
def grantReason (bits : Nat) (posOk isLocal : Bool) : Nat :=
  if bit bits 0 || !posOk then 1 else if bit bits 1 then 2 else if bit bits 2 then 3 else if isLocal then 4 else 0

/-- One channel's decision on the entries whose edge came before the read of the cycle that ends. -/
def State.grantOne (s : State) (k i : Nat) (isA : Bool) : State :=
  let h := s.sheet k
  let st := nth {} (if isA then h.a else h.b) i
  let w := rWheel (s.recAt k i)
  match st.entry with
  | some (bits, at_) =>
    if (if isA then s.sp.rdYt else s.sp.rdAt) < at_ then s
    else
      let why := grantReason bits ((s.wheel w).ch isA).posOk (s.wheelLocal w)
      let set := fun (st : InstSt) => { st with
        entry := none, arm := why == 0, since := none, fired := st.fired && why != 0 }
      let s := s.modSheet k (fun h => if isA then { h with a := updAt set h.a i } else { h with b := updAt set h.b i })
      if isA then { s with mot := { s.mot with sched := w16 (instDetail k i + flag (why == 0) 10 + 2048 * why + 0x8000) } } else s
  | none => s

/-- MUTE_GRANT, in both channels, at a cycle end. -/
def State.grants (s : State) : State :=
  (s.insts (fun _ _ r => rIs .mute r)).foldl (fun s e => (s.grantOne e.1 e.2 true).grantOne e.1 e.2 false) s

/-! ## The wheel table (R130 to R133) -/

def wheelRec (l : List Byte) (w : Nat) : List Byte := (l.drop (16 + 16 * w)).take 16

/-- An SLS with a collar names the wheel (R131). -/
def wheelXslot (recs : List (List Byte)) (w : Nat) : Bool := recs.any (fun r => rIs .sls r && rXslot r != 0 && rWheel r == w)

/-- A wheel record is out of range, or R131 is broken. -/
def wheelRecBad (recs : List (List Byte)) (l : List Byte) (w : Nat) : Bool :=
  let r := wheelRec l w
  let within := fun (v lo hi : Nat) => decide (lo ≤ v) && decide (v ≤ hi)
  let x := wheelXslot recs w
  match byteAt r 0 with
  | 0 => !allZero r
  | 1 => !(within (byteAt r 1) 1 4 && within (beAt r 2 2) 8 1024 && within (beAt r 4 2) 1 500 && decide (byteAt r 6 ≤ 31) &&
      byteAt r 7 == 0 && decide (beAt r 8 2 < beAt r 2 2) && decide (1 ≤ beAt r 10 2) && byteAt r 15 == 0 &&
      (if x then decide (byteAt r 12 ≤ 4) && within (byteAt r 13) 1 16 && within (byteAt r 14) 1 50 else zeroIn r 12 14))
  | _ => true

/-- The checks of R133: 0x3, then 0x1, then 0x2. `tpMode` tells whether a pair is in TP mode. A REFPAIR that both wheels
name is reported on wheel 1 (DESIGN CHOICE, notes/assumptions/101.md). -/
def wheelErr (tpMode : Nat → Bool) (recs : List (List Byte)) (l : List Byte) : Option (Nat × Nat) :=
  let used := fun (w : Nat) => byteAt (wheelRec l w) 0 == 1
  let ref := fun (w : Nat) => byteAt (wheelRec l w) 6
  let named := fun (p : Nat) => recs.any (fun r => (rPairs r).any (· == p))
  let badRef := fun (w : Nat) => used w && (!tpMode (ref w) || named (ref w) || (w == 1 && used 0 && ref 0 == ref 1))
  firstBad [
    (3, 3, beAt l 0 2 != 1 || !zeroIn l 3 15 || byteAt l 2 != flag (used 0) + flag (used 1) 1),
    (1, 0, wheelRecBad recs l 0), (1, 1, wheelRecBad recs l 1), (2, 0, badRef 0), (2, 1, badRef 1)]

/-- The wheel a record sets up: the levels of the pins stay. -/
def wheelOf (l : List Byte) (w : Nat) (old : Wheel) : Wheel :=
  let r := wheelRec l w
  { used := byteAt r 0 == 1, tolt := byteAt r 1, teeth := beAt r 2 2, minw := beAt r 4 2, refpair := byteAt r 6
    reftooth := beAt r 8 2, chkspd := beAt r 10 2, xofs := byteAt r 12, xtola := byteAt r 13, xtols := byteAt r 14
    a := { lvA := old.a.lvA, lvB := old.a.lvB, setB := old.a.lvB }, b := { lvA := old.b.lvA, lvB := old.b.lvB, setB := old.b.lvB }
    discarded := old.discarded, inferred := old.inferred }

def State.loadWheels (s : State) (l : List Byte) : State :=
  { s with mot := { s.mot with wheels := mapIdx (wheelOf l) s.mot.wheels } }

end Sys2Proof.Machine
end

