-- ==== Sys2Proof/Machine/SafeInputs.lean ====
section
/-!
DEFINITION. Safe inputs and test pulses (03): the two validator copies of every pair, the dark pulses of the TP lines, pulse
checks and pair faults, and the input table.
-/
namespace Sys2Proof.Machine

def modeTp : Nat := 1
def modeOssd : Nat := 2

def PairV.ch (v : PairV) : Chan → ChanV
  | .a => v.a
  | .b => v.b
def PairV.modCh (v : PairV) (c : Chan) (f : ChanV → ChanV) : PairV :=
  match c with
  | .a => { v with a := f v.a }
  | .b => { v with b := f v.b }
def InPair.raw (p : InPair) : Chan → Bool
  | .a => p.rawA
  | .b => p.rawB
def InPair.src (p : InPair) : Chan → Nat
  | .a => p.srcA
  | .b => p.srcB

/-- FILT, DISC, OSSDTOL and OSSDCHK in ns (R71). -/
def InPair.filtNs (p : InPair) : Nat := p.filt * 100 * us
def InPair.discNs (p : InPair) : Nat := p.disc * ms
def InPair.tolNs (p : InPair) : Nat := p.ossdtol * 10 * us
def InPair.chkNs (p : InPair) : Nat := p.ossdchk * 10 * ms

/-! ## One copy (R78 to R86) -/

/-- What a validator copy finds in one step: its new state and the faults it raises. -/
abbrev CopyOut := PairV × List Src

/-- A pair fault is latched (R85, R90). CAUSE keeps what latched it, so that "both missed", which a miss of one channel always
comes before, replaces nothing (DEDUCED, notes/assumptions/105.md). -/
def PairV.latch (v : PairV) (cause : Nat) : PairV :=
  { v with fault := true, cause := if v.fault then v.cause else cause, clr0 := v.a.lvl == some false && v.b.lvl == some false, clrA := false, clrB := false }

/-- The fault clears when R86 allows it. -/
def PairV.tryClear (p : InPair) (v : PairV) : PairV :=
  let zero := v.clr0 || (v.a.lvl == some false && v.b.lvl == some false)
  let v := { v with clr0 := v.fault && zero }
  if v.fault && zero && (p.mode != modeTp || (v.clrA && v.clrB)) then
    { v with fault := false, cause := 0, clr0 := false, clrA := false, clrB := false }
  else v

/-- After a sample: the discrepancy timer (R81), at DISC = 0 the fault at once, and R86. One difference without
interruption raises SIN_DISC once. -/
def PairV.levels (p : InPair) (now : Nat) (v : PairV) : CopyOut :=
  let differ := v.a.lvl.isSome && v.b.lvl.isSome && v.a.lvl != v.b.lvl
  let found := differ && p.disc = 0 && !v.fired
  let v := { v with disc := if differ then some (v.disc.getD now) else none, fired := differ && (v.fired || found) }
  if found then (v.latch 1, [.sinDisc]) else (v.tryClear p, [])

/-- A level enters the debounce filter of a channel, from an instant on (R79). -/
def ChanV.filter (filt now since : Nat) (v : Bool) (c : ChanV) : ChanV :=
  if c.lvl == some v then { c with cand := v, acc := 0, run := none }
  else if filt = 0 then { c with lvl := some v, cand := v, acc := 0, run := none }
  else if c.cand == v && (c.run.isSome || c.acc != 0) then { c with run := some (c.run.getD now) }
  else { c with cand := v, acc := 0, run := some since }

/-- A blanking window is in force. -/
def ChanV.blanked (now : Nat) (c : ChanV) : Bool :=
  match c.blank with
  | some e => decide (now < e)
  | none => false

/-- A sample of a channel changes level (R78, R79, R82, R83). -/
def ChanV.sample (p : InPair) (now : Nat) (v : Bool) (c : ChanV) : ChanV :=
  if p.mode = modeOssd then
    if c.lvl == some true && c.cand then
      if v then { c with low := none, high := if c.low.isSome then some now else c.high } else { c with low := some (c.low.getD now), high := none }
    else { c.filter p.filtNs now now v with low := none, high := if v then some (c.high.getD now) else none }
  else if c.blank.isSome then c
  else c.filter p.filtNs now now v

/-- SI_PIN_CHANGE in one copy. -/
def PairV.sample (p : InPair) (now : Nat) (ch : Chan) (v : Bool) (pv : PairV) : CopyOut :=
  (pv.modCh ch (fun c => c.sample p now v)).levels p now

/-- FILTER_EXPIRY in one copy. -/
def PairV.filterEnd (p : InPair) (now : Nat) (ch : Chan) (pv : PairV) : CopyOut :=
  let c := pv.ch ch
  match c.run with
  | some a =>
    if !c.blank.isSome && decide (p.filtNs ≤ c.acc + (now - a)) then
      (pv.modCh ch (fun c => { c with lvl := some c.cand, acc := 0, run := none })).levels p now
    else (pv, [])
  | none => (pv, [])

/-- DISCREPANCY_EXPIRY in one copy. -/
def PairV.discEnd (p : InPair) (now : Nat) (pv : PairV) : CopyOut :=
  match pv.disc with
  | some a =>
    if !pv.fired && decide (a + p.discNs < now) then (({ pv with fired := true } : PairV).latch 1, [.sinDisc]) else (pv, [])
  | none => (pv, [])

/-- OSSDTOL_EXPIRY in one copy: the excursion is a level change from its first sample. -/
def PairV.tolEnd (p : InPair) (now : Nat) (ch : Chan) (pv : PairV) : CopyOut :=
  match (pv.ch ch).low with
  | some a =>
    if a + p.tolNs < now then
      (pv.modCh ch (fun c => { c.filter p.filtNs now a false with low := none, high := none })).levels p now
    else (pv, [])
  | none => (pv, [])

/-- OSSDCHK_EXPIRY in one copy (R83). -/
def PairV.chkEnd (p : InPair) (now : Nat) (ch : Chan) (pv : PairV) : CopyOut :=
  match (pv.ch ch).high with
  | some a =>
    if p.ossdchk != 0 && decide (a + p.chkNs < now) then
      ((pv.modCh ch (fun c => { c with high := none })).latch (match ch with | .a => 5 | .b => 6), [.sinStuck])
    else (pv, [])
  | none => (pv, [])

/-- A dark pulse of the channel's line starts its blanking window: the filter timer pauses (R78, R79). -/
def ChanV.darken (now till : Nat) (c : ChanV) : ChanV :=
  { c with blank := some till, chk := none, acc := c.acc + (match c.run with | some a => now - a | none => 0), run := none }

/-- The verdict of a channel's check sample (R84 to R86). -/
def PairV.verdict (p : InPair) (ch : Chan) (pv : PairV) : CopyOut :=
  match (pv.ch ch).chk with
  | none => (pv, [])
  | some true =>
    let pv := pv.modCh ch (fun c => { c with chk := none, miss := some true })
    if pv.a.miss == some true && pv.b.miss == some true then (pv.latch 4, [.sinStuck])
    else (pv.latch (match ch with | .a => 2 | .b => 3), [.sinXshort])
  | some false =>
    let pv := pv.modCh ch (fun c => { c with chk := none, miss := some false })
    let pv := match ch with
      | .a => { pv with clrA := pv.clrA || pv.clr0 }
      | .b => { pv with clrB := pv.clrB || pv.clr0 }
    (pv.tryClear p, [])

/-- BLANKING_END in one copy: the verdict, and the present sample enters the filter (R84, R93). -/
def PairV.blankEnd (p : InPair) (now : Nat) (ch : Chan) (pv : PairV) : CopyOut :=
  match (pv.ch ch).blank with
  | some e =>
    if e ≤ now then
      let pv := pv.modCh ch (fun c => { c with blank := none })
      let r := pv.verdict p ch
      let r2 := (r.1.modCh ch (fun c => c.filter p.filtNs now now (p.raw ch))).levels p now
      (r2.1, r.2 ++ r2.2)
    else (pv, [])
  | none => (pv, [])

/-! ## Both copies (R77) -/

/-- Both copies take a step; a new validated value goes to the kennel through FIFO 0 (R417), and a fault that either finds is
raised, once, on the pair. -/
def State.copies (s : State) (n : Nat) (f : InPair → PairV → CopyOut) : State :=
  let p := s.inPair n
  let ra := f p p.va
  let rb := f p p.vb
  let s := s.modPair n (fun p => { p with va := ra.1, vb := rb.1 })
  let s := if ra.1.value != p.va.value then s.fifoPush 0 (.input n ra.1.value s.now) else s
  (if ra.2.isEmpty then rb.2 else ra.2).foldl (fun s src => s.err src n) s

/-- A command on a pair in use acts while the pins are sampled (R430). -/
def State.onPair (s : State) (n : Nat) (f : State → State) : State :=
  if s.sampling && (s.inPair n).mode != 0 then f s else s

/-- SI_PIN_CHANGE (R77, R79). -/
def State.siChange (s : State) (n : Nat) (ch : Chan) (v : Bool) : State :=
  let s := s.modPair n (fun p => match ch with
    | .a => { p with rawA := v }
    | .b => { p with rawB := v })
  s.onPair n (fun s => s.copies n (fun p pv => pv.sample p s.now ch v))

def execSiPinChange (t : Nat) (pair : Fin 32) (ch : Chan) (level : Bool) (s : State) : Host.Outcome State Fault Refusal :=
  act t s (fun s => s.siChange pair ch level)

/-- FILTER_EXPIRY (R79). -/
def execFilterExpiry (t : Nat) (pair : Fin 32) (ch : Chan) (s : State) : Host.Outcome State Fault Refusal :=
  act t s (fun s => s.onPair pair (fun s => s.copies pair (fun p pv => pv.filterEnd p s.now ch)))

/-- DISCREPANCY_EXPIRY (R81). -/
def execDiscrepancyExpiry (t : Nat) (pair : Fin 32) (s : State) : Host.Outcome State Fault Refusal :=
  act t s (fun s => s.onPair pair (fun s => s.copies pair (fun p pv => pv.discEnd p s.now)))

/-- OSSDTOL_EXPIRY (R82). -/
def execOssdtolExpiry (t : Nat) (pair : Fin 32) (ch : Chan) (s : State) : Host.Outcome State Fault Refusal :=
  act t s (fun s => s.onPair pair (fun s => s.copies pair (fun p pv => pv.tolEnd p s.now ch)))

/-- OSSDCHK_EXPIRY (R83). -/
def execOssdchkExpiry (t : Nat) (pair : Fin 32) (ch : Chan) (s : State) : Host.Outcome State Fault Refusal :=
  act t s (fun s => s.onPair pair (fun s => s.copies pair (fun p pv => pv.chkEnd p s.now ch)))

/-- BLANKING_END (R84). A miss is counted by the copy that reports to channel A (R90). -/
def State.blankOver (s : State) (n : Nat) (ch : Chan) : State :=
  let p := s.inPair n
  let due := match (p.va.ch ch).blank with
    | some e => decide (e ≤ s.now)
    | none => false
  let missed := due && (p.va.ch ch).chk == some true
  let s := s.copies n (fun p pv => pv.blankEnd p s.now ch)
  s.modPair n (fun p => match ch with
    | .a => { p with missA := if missed then sat8 p.missA else p.missA }
    | .b => { p with missB := if missed then sat8 p.missB else p.missB })

def execBlankingEnd (t : Nat) (pair : Fin 32) (ch : Chan) (s : State) : Host.Outcome State Fault Refusal :=
  act t s (fun s => s.onPair pair (fun s => s.blankOver pair ch))

/-! ## Dark pulses (R72, R74, R84, R94) -/

/-- WIDTH of a line, in ns; the start of its n-th pulse, in ns of yard time. -/
def TpLine.widthNs (l : TpLine) : Nat := l.width * us
def TpLine.startNs (l : TpLine) (n : Nat) : Nat := l.phase * us + n * l.period * ms

/-- The channels that a line feeds change, in both copies. -/
def State.fedByLine (s : State) (line : Nat) (f : InPair → Bool → ChanV → ChanV) : State :=
  s.mapPairs (fun _ p =>
    if p.mode = modeTp then
      let one := fun (v : PairV) => { v with
        a := if p.srcA = line then f p p.rawA v.a else v.a
        b := if p.srcB = line then f p p.rawB v.b else v.b }
      { p with va := one p.va, vb := one p.vb }
    else p)

/-- DARK_PULSE_START (R72): the next pulse of the schedule has come. -/
def State.darkStart (s : State) (n : Nat) : State :=
  let l := s.tp n
  if s.sampling && l.on && l.dark.isNone && decide (l.startNs l.next ≤ s.ytime) then
    let s := s.modTp n (fun l => { l with level := false, dark := some s.now, next := l.next + 1, cnt := (l.cnt + 1) % 65536 })
    s.fedByLine n (fun p _ c => c.darken s.now (s.now + l.widthNs + p.settle * 10 * us))
  else s

def execDarkPulseStart (t : Nat) (line : Fin 8) (s : State) : Host.Outcome State Fault Refusal := act t s (fun s => s.darkStart line)

/-- CHECK_SAMPLE (R84): 1 µs before the end of the pulse. -/
def State.checkSample (s : State) (n : Nat) : State :=
  let l := s.tp n
  match l.dark with
  | some a => if s.sampling && decide (a + l.widthNs ≤ s.now + us) then s.fedByLine n (fun _ raw c => { c with chk := some raw }) else s
  | none => s

def execCheckSample (t : Nat) (line : Fin 8) (s : State) : Host.Outcome State Fault Refusal := act t s (fun s => s.checkSample line)

/-- DARK_PULSE_END (R72). -/
def State.darkEnd (s : State) (n : Nat) : State :=
  let l := s.tp n
  match l.dark with
  | some a => if s.sampling && decide (a + l.widthNs ≤ s.now) then s.modTp n (fun l => { l with level := true, dark := none }) else s
  | none => s

def execDarkPulseEnd (t : Nat) (line : Fin 8) (s : State) : Host.Outcome State Fault Refusal := act t s (fun s => s.darkEnd line)

/-- The first index of a line's schedule at or after a yard time (R94). -/
def TpLine.firstIdx (l : TpLine) (y : Nat) : Nat :=
  if y ≤ l.phase * us then 0 else (y - l.phase * us + l.period * ms - 1) / Nat.max (l.period * ms) 1

/-- Entry into ARMED from LOAD (R94, R432): the TP schedules start and every filtered level is undefined, but where FILT is 0:
there a difference of the two channels counts from the entry (R81). -/
def State.armInputs (s : State) : State :=
  let ch := fun (p : InPair) (raw : Bool) =>
    ({ lvl := if p.filt = 0 then some raw else none, cand := raw, run := if p.filt = 0 then none else some s.now
       high := if p.mode = modeOssd && raw then some s.now else none } : ChanV)
  let s := s.mapPairs (fun _ p =>
    if p.mode = 0 then p
    else { p with va := { a := ch p p.rawA, b := ch p p.rawB }, vb := { a := ch p p.rawA, b := ch p p.rawB } })
  let s : State := (List.range 32).foldl (fun s n => s.onPair n (fun s => s.copies n (fun p pv => pv.levels p s.now))) s
  { s with sin := { s.sin with tp := s.sin.tp.map (fun l =>
      { l with level := l.on, dark := none, next := if l.on then l.firstIdx s.ytime else 0 }) } }

/-! ## The input table (R69 to R76) -/

def tpRec (l : List Byte) (n : Nat) : List Byte := (l.drop (16 + 8 * n)).take 8
def pairRec (l : List Byte) (n : Nat) : List Byte := (l.drop (80 + 8 * n)).take 8
def pairMode (l : List Byte) (n : Nat) : Nat := byteAt (pairRec l n) 0

/-- A TP record is out of range, or not zero for a disabled line (R70). -/
def tpRecBad (l : List Byte) (n : Nat) : Bool :=
  let r := tpRec l n
  if bit (byteAt l 2) n then
    !(decide (100 ≤ beAt r 0 2) && decide (beAt r 0 2 ≤ 1000) && decide (10 ≤ beAt r 2 2) && decide (beAt r 2 2 ≤ 2000) &&
      decide (beAt r 4 4 < beAt r 2 2 * 1000))
  else !allZero r

/-- R73 holds for two enabled lines. -/
def tpApart (l : List Byte) (i j : Nat) : Bool :=
  let ri := tpRec l i
  let rj := tpRec l j
  let g := Nat.gcd (beAt ri 2 2 * 1000) (beAt rj 2 2 * 1000)
  let d := (beAt rj 4 4 + g - beAt ri 4 4 % g) % g
  decide (beAt ri 0 2 + 1000 ≤ d) && decide (beAt rj 0 2 + 1000 ≤ g - d)

/-- A pair record is out of range, or not zero where R71 requires it. -/
def pairRecBad (r : List Byte) : Bool :=
  let within := fun (v lo hi : Nat) => decide (lo ≤ v) && decide (v ≤ hi)
  match byteAt r 0 with
  | 0 => !allZero r
  | 1 => !((byteAt r 1 &&& 0x88) == 0 && decide (byteAt r 2 ≤ 200) && within (byteAt r 3) 2 50 && byteAt r 4 == 0 && byteAt r 5 == 0 &&
      decide (beAt r 6 2 ≤ 2000))
  | 2 => !(byteAt r 1 == 0 && decide (byteAt r 2 ≤ 200) && byteAt r 3 == 0 && within (byteAt r 4) 10 100 && decide (beAt r 6 2 ≤ 2000))
  | _ => true

/-- The checks of R76: 0x6, then 0x1 to 0x5. -/
def inputErr (recs : List (List Byte)) (l : List Byte) : Option (Nat × Nat) :=
  let on := fun (n : Nat) => bit (byteAt l 2) n
  let lines := List.range 8
  let pairs := List.range 32
  let named := fun (n : Nat) => recs.any (fun r => (rPairs r).any (· == n))
  let curtain := fun (n : Nat) => recs.any (fun r => rIs .curtain r && srcKind (rSrc r 0) == 1 && rDoor r == n)
  let src := fun (n : Nat) => byteAt (pairRec l n) 1
  firstBad (
    [(6, 63, beAt l 0 2 != 1 || byteAt l 3 != 0 || !zeroIn l 8 15 || pairs.any (fun n => bit (beAt l 4 4) n != (pairMode l n != 0)))] ++
    lines.map (fun n => (1, n + 32, tpRecBad l n)) ++
    lines.flatMap (fun i => (lines.filter (fun j => decide (i < j))).map (fun j => (2, i + 32, on i && on j && !tpApart l i j))) ++
    pairs.map (fun n => (3, n, pairRecBad (pairRec l n))) ++
    pairs.map (fun n => (4, n, pairMode l n == 1 &&
      (src n % 8 == src n / 16 % 8 || !on (src n % 8) || !on (src n / 16 % 8)))) ++
    pairs.map (fun n => (5, n, (named n && pairMode l n == 0) || (curtain n && pairMode l n != 2))))

/-- CFGERR with a six-bit ITEM. -/
def cfgWord6 (e : Nat × Nat) : Word := w16 (e.2 % 64 + 4096 * e.1 + 0x8000)

/-- The committed input table; the samples stay. -/
def State.loadInputs (s : State) (l : List Byte) : State :=
  let tp := fun (n : Nat) =>
    let r := tpRec l n
    ({ on := bit (byteAt l 2) n, width := beAt r 0 2, period := beAt r 2 2, phase := beAt r 4 4, cnt := (s.tp n).cnt } : TpLine)
  let pair := fun (n : Nat) (p : InPair) =>
    let r := pairRec l n
    ({ mode := byteAt r 0, srcA := byteAt r 1 % 8, srcB := byteAt r 1 / 16 % 8, filt := byteAt r 2, settle := byteAt r 3
       ossdtol := byteAt r 4, ossdchk := byteAt r 5, disc := beAt r 6 2, rawA := p.rawA, rawB := p.rawB
       missA := p.missA, missB := p.missB } : InPair)
  { s with sin := { s.sin with tp := (List.range 8).map tp, pairs := mapIdx pair s.sin.pairs } }

end Sys2Proof.Machine
end

