-- ==== Sys2Proof/Machine/Sequencer.lean ====
section
/-!
DEFINITION. Power sequencing and supervision (12): the power-on reset, the up-sequence and the ordered power-down, the
cut on a running rail, VIN supervision, and the snapshot writer.
-/
namespace Sys2Proof.Machine

/-! ## The up-sequence and the power-down (R386, R387, R397) -/

/-- The sequencer raises SEQ_PG and cuts (R388, R393). -/
def State.seqCut (s : State) (cause ch : Nat) : State := (s.err .seqPg ch).cut cause ch

/-- MODE of a channel in the plan in force: channels 0 to 4 are sequenced (R385, R409). -/
def State.chMode (s : State) (ch : Nat) : Nat := if ch < 5 then 1 else nth 0 s.seq.mode ch

/-- PGTO and SETTLE of a channel, in ns (R386, R390). -/
def State.pgtoNs (s : State) (ch : Nat) : Nat := if ch < 5 then 5 * ms else nth 0 s.seq.pgto ch * 100 * us
def State.settleNs (s : State) (ch : Nat) : Nat := if ch < 5 then 1000 * us else nth 0 s.seq.settle ch * 100 * us

/-- The sequencer and the VIN monitor run on the RC oscillator, out of power-on reset: without it they do nothing (R382, R419). -/
def whenAon (s : State) (f : State → State) : State := if s.seq.por || s.clk.rcstop then s else f s

/-- A power-up starts (R389): SNAPNO continues from the ring, and what the SEQ page counts since power-up starts again (R406,
R409). -/
def State.powerUp (s : State) : State :=
  let no := topNo s.snapRecs
  { s with seq := { s.seq with
      snapNo := no, snapTop := no, snapInv := Nat.min (s.snapSlots.length - s.snapRecs.length) 0xFF
      vinMin := 0x0FFF, vinWarns := 0, vinAbandons := 0, planOk := false } }

/-- The sequencer waits on a channel from now. -/
def State.seqWait (s : State) (w : SeqWait) (ch : Nat) : State :=
  { s with seq := { s.seq with wait := w, chan := ch, waitAt := s.now } }

/-- A sequenced channel is taken (R386): its PG must read low (R388), then EN goes high. -/
def State.enable (s : State) (ch : Nat) : State :=
  if nth false s.seq.pg ch then s.seqCut 0x05 ch
  else ({ s with seq := { s.seq with en := setAt s.seq.en ch true } }).seqWait .pgHigh ch

/-- A monitor-only channel is running from the moment its PG is recognised high in the board phase (R392). -/
def State.running (s : State) (ch : Nat) : State := { s with seq := { s.seq with run := setAt s.seq.run ch true } }

/-- The sequencer goes on to the next channel of its phase. Monitor-only channels that read high already need no wait.
The channels still to be taken shrink with every call. -/
def State.nextUp (s : State) : List Nat → State
  | [] => { s with seq := { s.seq with wait := .idle, todo := [] } }
  | ch :: rest =>
    let s := { s with seq := { s.seq with todo := rest } }
    if s.chMode ch = 2 then
      if nth false s.seq.pg ch then (s.running ch).nextUp rest else s.seqWait .monitorHigh ch
    else s.enable ch

/-- The up-sequence starts with the core phase (R386). -/
def State.startUp (s : State) : State :=
  ({ s with seq := { s.seq with phase := .core, downDone := false, boardDone := false, ramp := List.replicate 8 0 } }).nextUp [0, 1, 2, 3, 4]

/-- The board channels in the order of the board phase (R387): monitor-only channels in channel order, then sequenced
channels in increasing STEP. -/
def State.boardOrder (s : State) : List Nat :=
  ([5, 6, 7].filter (fun ch => s.chMode ch == 2)) ++
  [1, 2, 3].flatMap (fun st => [5, 6, 7].filter (fun ch => s.chMode ch == 1 && nth 0 s.seq.step ch == st))

/-- The board phase starts (R387). -/
def State.startBoard (s : State) : State :=
  let s := { s with seq := { s.seq with phase := .board }, clk := { s.clk with boardAt := s.now } }
  s.nextUp s.boardOrder

/-- The core phase is complete: UP_CORE, and BOOT begins (R386). -/
def State.coreDone (s : State) : State :=
  if s.seq.phase == .core && s.seq.wait == .idle then
    (({ s with seq := { s.seq with phase := .waitPlan } }).snap 0x02 0xFF).boot
  else s

/-- The board phase is complete: UP_BOARD (R387). -/
def State.boardEnd (s : State) : State :=
  if s.seq.phase == .board && s.seq.wait == .idle then
    let s := { s with seq := { s.seq with phase := .running, boardDone := true }
                      clk := { s.clk with tboard := Nat.min ((s.now - s.clk.boardAt) / 100000) 0xFFFF } }
    s.snap 0x03 0xFF
  else s

/-- PG of a channel is recognised high: the ramp time is recorded (R386), a monitored rail runs (R387), or a channel still
to be enabled reads high too early (R388). -/
def State.pgRise (s : State) (ch : Nat) : State :=
  let s := { s with seq := { s.seq with pg := setAt s.seq.pg ch true } }
  if s.seq.wait == .pgHigh && s.seq.chan = ch then
    let s := { s with seq := { s.seq with ramp := setAt s.seq.ramp ch (Nat.min ((s.now - s.seq.waitAt) / us) 0xFFFF) } }
    (s.running ch).seqWait .settling ch
  else if s.seq.wait == .monitorHigh && s.seq.chan = ch then (s.running ch).nextUp s.seq.todo
  else if (s.seq.phase == .core || s.seq.phase == .board) && s.chMode ch = 1 && s.seq.todo.any (· == ch) then s.seqCut 0x05 ch
  else s

/-- The settle time of the channel in hand ends (R386). -/
def State.settled (s : State) (ch : Nat) : State :=
  if s.seq.wait == .settling && s.seq.chan = ch && decide (s.seq.waitAt + s.settleNs ch ≤ s.now) then s.nextUp s.seq.todo
  else s

/-- The ordered power-down is over (R397 step 6, R437): DOWN_DONE, RUNSTATE OFF, and the islands lose their rails. -/
def State.downEnd (s : State) : State :=
  let s := (({ s with seq := { s.seq with phase := .off, wait := .idle, downDone := true } }).snap 0x0A 0xFF).islandsReset
  s

/-- The power-down goes on to the next channel: EN low, then the wait for its discharge (R397 steps 3 and 4). A rail whose
PG reads low already is discharged. -/
def State.nextDown (s : State) : List Nat → State
  | [] => s.downEnd
  | ch :: rest =>
    let s := { s with seq := { s.seq with en := setAt s.seq.en ch false, run := setAt s.seq.run ch false, todo := rest } }
    if nth false s.seq.pg ch then s.seqWait .discharge ch
    else ({ s with seq := { s.seq with dscLast := setAt s.seq.dscLast ch 0 } }).nextDown rest

/-- The channels in the order of the power-down (R397 step 3): the sequenced ones in reverse. -/
def State.downOrder (s : State) : List Nat := ((s.boardOrder.filter (fun ch => s.chMode ch == 1)).reverse) ++ [4, 3, 2, 1, 0]

/-- The ordered power-down starts (R397 steps 1 to 3). -/
def State.startDown (s : State) : State :=
  let order := s.downOrder
  let s := (s.snap 0x08 0xFF)
  let s := { s with seq := { s.seq with phase := .down, run := mapIdx (fun ch r => r && s.chMode ch != 2) s.seq.run }
                    sout := { s.sout with open_ := true } }
  s.nextDown order

/-- SEQ_PG of a channel is recognised low (R393): the cut on a running rail, or the discharge awaited (R397). -/
def State.pgFall (s : State) (ch : Nat) : State :=
  let s := { s with seq := { s.seq with pg := setAt s.seq.pg ch false } }
  if nth false s.seq.run ch then s.seqCut 0x06 ch
  else if s.seq.wait == .discharge && s.seq.chan = ch then
    ({ s with seq := { s.seq with dscLast := setAt s.seq.dscLast ch (Nat.min ((s.now - s.seq.waitAt) / ms) 0xFFFE) } }).nextDown s.seq.todo
  else s

/-! ## Meanings -/

/-- POWER_ON_RESET_RELEASE (R382, R406): UP_START. -/
def State.porRelease (s : State) : State :=
  if s.seq.por then
    let s := { s with
      seq := { s.seq with por := false, porAt := s.now, rstcause := 1, warmcnt := 0 }
      clk := { s.clk with start := s.now } }
    s.powerUp.snap 0x01 0xFF
  else s

def execPowerOnResetRelease (t : Nat) (s : State) : Host.Outcome State Fault Refusal := act t s State.porRelease

/-- POWER_ON_RESET_ASSERT (R382, R356): every AON state is cleared, CUT among it. -/
def execPowerOnResetAssert (t : Nat) (s : State) : Host.Outcome State Fault Refusal := act t s State.powerReset

/-- UP_SEQUENCE_START (R382): 1 ms − 5 % after the release at the earliest. -/
def State.upSequence (s : State) : State :=
  if !s.seq.por && s.seq.phase == .off && s.clk.rs == .off && !s.seq.downDone && !s.clk.warm &&
      decide (s.seq.porAt + 950 * us ≤ s.now) then s.startUp.coreDone
  else s

def execUpSequenceStart (t : Nat) (s : State) : Host.Outcome State Fault Refusal := act t s (fun s => whenAon s State.upSequence)

/-- The timeout of the wait on PG high has passed (R388). -/
def State.pgLate (s : State) (ch : Nat) : State :=
  if (s.seq.wait == .pgHigh || s.seq.wait == .monitorHigh) && s.seq.chan = ch && decide (s.seq.waitAt + s.pgtoNs ch ≤ s.now) then
    s.seqCut 0x04 ch
  else s

/-- PG_TIMEOUT (R388). -/
def execPgTimeout (t : Nat) (ch : Fin 8) (s : State) : Host.Outcome State Fault Refusal := act t s (fun s => whenAon s (fun s => s.pgLate ch))

/-- A low level of `width` ns is recognised: never below `lo`, always from `hi` on, and between them as the part does. -/
def State.recognised (s : State) (width lo hi : Nat) : Bool := decide (hi ≤ width) || (decide (lo ≤ width) && Config.freeBool s.free)

/-- SEQ_PG_FALL (R393). -/
def execSeqPgFall (t : Nat) (ch : Fin 8) (width : Nat) (s : State) : Host.Outcome State Fault Refusal :=
  act t s (fun s => whenAon s (fun s => if s.recognised width 1800 2000 then s.fresh.pgFall ch else s.fresh))

/-- A write of 0x005A in MAINT starts the ordered power-down (R396); outside MAINT a write is refused under RWM (R465). -/
def State.shdnWrite (s : State) (value : Word) : State :=
  if s.clk.rs != .maint then (s.frameBit 4).alert 11 else if s.seq.phase == .running && value == 0x005A then s.startDown else s

/-- SHDN (R396, R397). -/
def execShdn (t : Nat) (value : Word) (s : State) : Host.Outcome State Fault Refusal := act t s (fun s => s.shdnWrite value)

/-- DSC_TIMEOUT (R397 step 5). COLL runs on the core rail, channel 2 (DEDUCED, notes/assumptions/14.md). -/
def State.dscLate (s : State) (ch : Nat) : State :=
  if s.seq.wait == .discharge && s.seq.chan = ch && decide (s.seq.waitAt + nth 0 s.seq.dscto ch * ms ≤ s.now) then
    let s := ({ s with seq := { s.seq with dscLast := setAt s.seq.dscLast ch 0xFFFF } }).snap 0x09 ch
    let r := if 2 ≤ ch then s.err .seqSlow ch else s
    if r.clk.rs == .cut then r else r.nextDown s.seq.todo
  else s

def execDscTimeout (t : Nat) (ch : Fin 8) (s : State) : Host.Outcome State Fault Refusal := act t s (fun s => whenAon s (fun s => s.dscLate ch))

/-- VIN_WARN (R400): every fall below the warning level that the comparator recognises. -/
def State.warn (s : State) : State :=
  let s := { s with seq := { s.seq with belowWarn := true, holdup := true, vinWarns := sat8 s.seq.vinWarns, vinLow := s.now } }
  ((s.holdLine .seqVin true).err .seqVin 0x0001).snap 0x0B 0xFF

def execVinWarn (t : Nat) (s : State) : Host.Outcome State Fault Refusal := act t s (fun s => whenAon s State.warn)

/-- VIN_OK (R400): VIN_SNS has been above 1.220 V for 10 ms. -/
def State.vinBack (s : State) : State :=
  if s.seq.holdup && decide (s.seq.vinLow + 10 * ms ≤ s.now) then
    (({ s with seq := { s.seq with holdup := false, belowWarn := false } }).line .seqVin false 0).snap 0x0C 0xFF
  else s

def execVinOk (t : Nat) (s : State) : Host.Outcome State Fault Refusal := act t s (fun s => whenAon s State.vinBack)

/-- A snapshot write in progress is aborted before its commit word (R401, R409). -/
def State.tearSnap (s : State) : State :=
  match s.seq.snapQ with
  | e :: q =>
    let no := s.seq.snapNo + 1
    ({ s with seq := { s.seq with snapQ := q, snapAborted := sat8 s.seq.snapAborted } }).mramWrite
      (snapAddr (snapSlotOf no)) (s.tornBytes (e.body no))
  | [] => s

/-- A fault record write in progress is aborted, over whatever its slot held; the record waits for log writes to be allowed
again (R348, R401). -/
def State.tearRec (s : State) : State :=
  match s.flt.due with
  | (r, first) :: q =>
    let s' := (({ s with flt := { s.flt with due := q, blocked := holdRec s.flt.blocked (r, first), wrAband := sat8 s.flt.wrAband } }).mramWrite
      (faultAddr (faultSlotOf r.recno)) (s.tornBytes r.body)).alert 6
    if s.overwrites r.recno then s'.alert 5 else s'
  | [] => s

/-- VIN_ABANDON (R401). -/
def State.abandon (s : State) (snapWriting recWriting : Bool) : State :=
  if s.seq.belowAbandon then s
  else
    let s := if snapWriting then s.tearSnap.fresh else s
    let s := if recWriting then s.tearRec.fresh else s
    let s := { s with seq := { s.seq with belowAbandon := true, vinAbandons := sat8 s.seq.vinAbandons } }
    s.err .seqVin 0x0002

def execVinAbandon (t : Nat) (snapWriting recWriting : Bool) (s : State) : Host.Outcome State Fault Refusal :=
  act t s (fun s => whenAon s (fun s => s.abandon snapWriting recWriting))

/-- VIN_ABANDON_END (R401): log writes are allowed again; records follow at the next cycle end (R348). -/
def execVinAbandonEnd (t : Nat) (s : State) : Host.Outcome State Fault Refusal :=
  act t s (fun s => whenAon s (fun s => { s with seq := { s.seq with belowAbandon := false } }))

/-- SNAPSHOT_WRITE (R405 to R407): the oldest queued event is written with the next SNAPNO, COMMIT last. -/
def State.snapWrite (s : State) : State :=
  match s.seq.snapQ with
  | e :: q =>
    if s.seq.belowAbandon then s
    else
      let no := s.seq.snapNo + 1
      ({ s with seq := { s.seq with snapQ := q, snapNo := no, snapTop := no, upStartNo := if e.cause = 0x01 then no else s.seq.upStartNo } }).mramWrite
        (snapAddr (snapSlotOf no)) (e.bytes no)
  | [] => s

def execSnapshotWrite (t : Nat) (s : State) : Host.Outcome State Fault Refusal := act t s (fun s => whenAon s State.snapWrite)

/-- RESET_N is honoured as a warm restart (R421): in MAINT during an ordered power-down too, which the sequencer in AON goes on
with (DEDUCED, notes/assumptions/15.md). -/
def State.resetHonoured (s : State) : Bool :=
  match s.clk.rs with
  | .boot => !s.clk.held
  | .selftest => !s.clk.held
  | .load => !s.clk.held
  | .armed => !s.clk.held
  | .run => true
  | .maint => true
  | _ => false

/-- RESET_N is recognised low (R421, R422): every island except AON is held in reset. Where it is not honoured it is
counted. -/
def State.resetLow (s : State) : State :=
  if s.seq.por then s
  else if s.resetHonoured then
    let s := s.warmReset
    { s with clk := { s.clk with rstLow := true, warm := true } }
  else if s.clk.rs == .off then { s with clk := { s.clk with rstLow := true } }
  else { s with clk := { s.clk with rstLow := true, rstign := sat8 s.clk.rstign } }

/-- RESET_N_ASSERT (R421). -/
def execResetNAssert (t : Nat) (width : Nat) (s : State) : Host.Outcome State Fault Refusal :=
  act t s (fun s => if s.recognised width 1000 10000 then s.fresh.resetLow else s.fresh)

/-- RESET_N_RELEASE (R422, R398): BOOT after a warm restart, a new up-sequence after DOWN_DONE. -/
def State.resetHigh (s : State) : State :=
  if s.clk.rstLow then
    let s := { s with clk := { s.clk with rstLow := false } }
    if s.clk.warm then
      ({ s with clk := { s.clk with warm := false, start := s.now }
                seq := { s.seq with rstcause := 2, warmcnt := sat16 s.seq.warmcnt } }).boot
    else if s.seq.downDone then
      ({ s with clk := { s.clk with start := s.now }, seq := { s.seq with rstcause := 4 } }).powerUp.startUp.coreDone
    else s
  else s

def execResetNRelease (t : Nat) (s : State) : Host.Outcome State Fault Refusal := act t s State.resetHigh

/-- YARD_TICK (R305, R404): yard time has come to another multiple of 125,000 ns than at the last tick, and AON receives it. -/
def State.yardTicks (s : State) : State :=
  let tick := s.ytime / 125000 * 125000
  if s.yard.runs && s.live && s.seq.ytick != tick then { s with seq := { s.seq with ytick := tick, ytickAt := some (s.now - (s.ytime - tick)) } } else s

def execYardTick (t : Nat) (s : State) : Host.Outcome State Fault Refusal := act t s State.yardTicks

/-- VIN_SAMPLE (R399): the converter's code. Above 1.220 V the warning comparator has come back; VIN_ABANDON_END says so of the
other one, above 1.020 V. -/
def State.sampleVin (s : State) (uv : Nat) : State :=
  let code := Nat.min (uv * 4096 / 2400000) 0x0FFF
  let low := decide (uv ≤ 1220000)
  let s := { s with seq := { s.seq with
      vin := code, vinMin := Nat.min s.seq.vinMin code, belowWarn := s.seq.belowWarn && low, vinLow := if low then s.now else s.seq.vinLow } }
  if low then s else s.line .seqVin false 0

def execVinSample (t : Nat) (microvolts : Nat) (s : State) : Host.Outcome State Fault Refusal :=
  act t s (fun s => whenAon s (fun s => s.sampleVin microvolts))

end Sys2Proof.Machine
end

