-- ==== Sys2Proof/Machine/Outputs.lean ====
section
/-!
DEFINITION. Safe outputs, the muzzle pin, BARK supervision and the launch unit (04; R320 to R322): readback checks, the
force-off gates, switch-on windows, dark tests, launches, and the output table.
-/
namespace Sys2Proof.Machine

/-! ## The readback checks (R99 to R107, R561) -/

/-- Fields of the output record in ns (R100). -/
def OutSt.offdlyNs (o : OutSt) : Nat := o.offdly * 10 * us
def OutSt.swblankNs (o : OutSt) : Nat := o.swblank * 100 * us
def OutSt.ocfiltNs (o : OutSt) : Nat := o.ocfilt * 10 * us
def OutSt.darkperNs (o : OutSt) : Nat := o.darkper * 1000 * ms
def OutSt.darkwNs (o : OutSt) : Nat := o.darkw * 10 * us

/-- The readback checks, the force-off gate and the dark tests apply to an output (R561). -/
def State.checked (s : State) (n : Nat) : Bool := s.live && s.sout.checks && (s.out n).used

/-- A switch-on window runs (R106). -/
def OutSt.inWindow (now : Nat) (o : OutSt) : Bool :=
  match o.win with
  | some e => decide (now < e)
  | none => false

/-- The other leg. -/
def otherLeg : Leg → Leg
  | .p => .m
  | .m => .p

/-- SOUT_RB on an output: the force-off gate closes; raised once until R105 clears it (R102, R104, R109). -/
def State.soutRb (s : State) (n : Nat) : State :=
  let raised := (s.out n).rbFlt
  let s := s.modOut n (fun o => { o with force := true, rbFlt := true })
  if raised then s else s.err .soutRb n

/-- SOUT_OC on an output (R104, R107, R124). -/
def State.soutOc (s : State) (n : Nat) : State :=
  let raised := (s.out n).ocFlt
  let s := s.modOut n (fun o => { o with force := true, ocFlt := true, ocs := if raised then o.ocs else sat8 o.ocs })
  if raised then s else s.err .soutOc n

/-- SOUT_SHORT on an output: latched until power-up (R103). -/
def State.soutShort (s : State) (n : Nat) : State :=
  let raised := (s.out n).latch
  let s := s.modOut n (fun o => { o with force := true, latch := true })
  if raised then s else s.err .soutShort n

/-- An RB sample of a leg: the readback times, an episode inside the window (R106), and the leg's dark test (R109). -/
def LegSt.readback (now : Nat) (v : Bool) (l : LegSt) : LegSt :=
  if l.rb == v then l
  else { l with
    rb := v, live := if v && !l.pad then some now else none, oc := if !v && l.pad then some now else none
    conducted := l.conducted || (v && l.pad) }

/-- The readback of a dark test in progress on that leg (R109). -/
def DarkTest.readback (now : Nat) (n : Nat) (l : Leg) (v : Bool) (t : DarkTest) : DarkTest :=
  if t.out = n && t.leg = l then
    if v then { t with zero := none } else { t with zero := some (t.zero.getD now), first := some (t.first.getD now) }
  else t

def State.rbChange (s : State) (n : Nat) (l : Leg) (v : Bool) : State :=
  let o := s.out n
  let g := o.leg l
  let episode := s.checked n && o.inWindow s.now && g.rb && !v && g.pad && g.conducted
  let s := s.modOut n (fun o =>
    { o.modLeg l (fun g => g.readback s.now v) with episodes := if episode then sat8 o.episodes else o.episodes })
  { s with sout := { s.sout with test := s.sout.test.map (DarkTest.readback s.now n l v) } }

/-- READBACK_CHANGE (R99, R106). -/
def execReadbackChange (t : Nat) (out : Fin 16) (leg : Leg) (level : Bool) (s : State) : Host.Outcome State Fault Refusal :=
  act t s (fun s => s.rbChange out leg level)

/-- The window of an output ends: a leg that is driven high and still reads 0 is SOUT_OC at that instant (R107). -/
def State.windowEnd (s : State) (n : Nat) : State :=
  let o := s.out n
  match o.win with
  | some e =>
    if e ≤ s.now then
      let s := s.modOut n (fun o => { o with win := none })
      if s.checked n && ((o.p.pad && !o.p.rb) || (o.m.pad && !o.m.rb)) then s.soutOc n else s
    else s
  | none => s

def execSwitchOnWindowEnd (t : Nat) (out : Fin 16) (s : State) : Host.Outcome State Fault Refusal := act t s (fun s => s.windowEnd out)

/-- A driven-high leg has read 0 for longer than OCFILT, outside the window, time in a suspension not counted (R107,
R110). -/
def State.ocLate (s : State) (n : Nat) (l : Leg) : State :=
  let o := s.out n
  match (o.leg l).oc with
  | some a =>
    if s.checked n && !o.inWindow s.now && decide (Nat.max a (o.leg l).susp + o.ocfiltNs < s.now) then s.soutOc n else s
  | none => s

def execOcfiltExpiry (t : Nat) (out : Fin 16) (leg : Leg) (s : State) : Host.Outcome State Fault Refusal :=
  act t s (fun s => s.ocLate out leg)

/-- A leg has been live for longer than OFFDLY with its drive low. -/
def OutSt.liveLate (now : Nat) (o : OutSt) (l : Leg) : Bool :=
  match (o.leg l).live with
  | some a => decide (a + o.offdlyNs < now)
  | none => false

/-- OFFDLY_EXPIRY (R102, R103): SOUT_RB; with both legs live so long, SOUT_SHORT. -/
def State.offLate (s : State) (n : Nat) (l : Leg) : State :=
  let o := s.out n
  if s.checked n && o.liveLate s.now l then
    let s := s.soutRb n
    if o.liveLate s.now (otherLeg l) then s.soutShort n else s
  else s

def execOffdlyExpiry (t : Nat) (out : Fin 16) (leg : Leg) (s : State) : Host.Outcome State Fault Refusal :=
  act t s (fun s => s.offLate out leg)

/-- The LOCAL is that of an output. -/
def causeOut (n : Nat) (c : LocalCause) : Bool :=
  match c with
  | .output k _ => k == n
  | _ => false

/-- The records of one channel whose LOCAL is that of an output wait for the next MRESET pulse, whatever their SRC1 (R105). -/
def awaitSt (n : Nat) (com : List InstCom) (l : List InstSt) : List InstSt :=
  mapIdx (fun i st => if (nth {} com i).locals.any (fun e => causeOut n e.cause) then { st with need := true } else st) l
def State.awaitPulse (s : State) (n : Nat) : State :=
  let one := fun (h : Sheet) => { h with a := awaitSt n h.com h.a, b := awaitSt n h.com h.b }
  { s with sh0 := one s.sh0, sh1 := one s.sh1 }

/-- An OUTGROUP at the LOCAL of an error in kennel RAM leaves it as R105 has it (R172): all its outputs have been off for 100 ms of it,
and its b0 waits for the next MRESET pulse. -/
def State.groupClear (s : State) (n : Nat) : State :=
  let lasted := fun (a : Option Nat) => a.any (fun a => decide (a + 100 * ms ≤ s.now))
  let due := fun (r : List Byte) (c : InstCom) => rIs .outgroup r && bit (rOutmask r) n && lasted c.motSince &&
    (List.range 16).all (fun k => !bit (rOutmask r) k || lasted (s.out k).idle)
  let gone := fun (c : InstCom) => { c with locals := c.locals.filter (fun e => match e.cause with
    | .group _ => false
    | _ => true) }
  let one := fun (h : Sheet) =>
    let wait := fun (l : List InstSt) => mapIdx (fun i (st : InstSt) => if due (nth [] h.recs i) (nth {} h.com i) then { st with need := true } else st) l
    { h with com := mapIdx (fun i c => if due (nth [] h.recs i) c then gone c else c) h.com, a := wait h.a, b := wait h.b }
  { s with sh0 := one s.sh0, sh1 := one s.sh1 }

/-- The fault of one output clears (R105): a latched gate stays closed. -/
def State.outClear (s : State) (n : Nat) : State :=
  let o := s.out n
  match o.off with
  | some a =>
    if (o.rbFlt || o.ocFlt) && decide (a + 100 * ms ≤ s.now) then
      ((s.modOut n (fun o => { o with rbFlt := false, ocFlt := false, force := o.latch })).awaitPulse n).clearLocals (fun _ _ c => causeOut n c)
    else s
  | none => s

/-- OUTPUT_FAULT_CLEAR (R105, R172). -/
def execOutputFaultClear (t : Nat) (out : Fin 16) (s : State) : Host.Outcome State Fault Refusal := act t s (fun s => (s.outClear out).groupClear out)

/-! ## Dark tests (R108 to R112, R125) -/

/-- The instant at which the next test of a leg falls due (R108). -/
def OutSt.darkDue (o : OutSt) (l : Leg) : Option Nat :=
  o.sched.map (fun a => match l with
    | .p => a + o.darkperNs * (o.p.dueCnt + 1)
    | .m => a + o.darkperNs / 2 + o.darkperNs * o.m.dueCnt)

/-- A deferred test starts once R111 lets it: the leg goes low, and the other leg's overcurrent check is suspended
(R110). -/
def State.darkBegin (s : State) (n : Nat) (l : Leg) : State :=
  let o := s.out n
  let apart := match s.sout.testEnd with
    | some e => decide (e + ms ≤ s.now)
    | none => true
  if (o.leg l).deferred && s.checked n && s.energised n o && s.sout.test.isNone && apart && !o.inWindow s.now then
    let zero : Option Nat := if (o.leg l).rb then none else some s.now
    let s := s.modOut n (fun o =>
      (o.modLeg l (fun g => { g with deferred := false })).modLeg (otherLeg l) (fun g => { g with susp := s.now + o.darkwNs + o.offdlyNs }))
    { s with sout := { s.sout with test := some { out := n, leg := l, start := s.now, zero := zero, first := zero } } }
  else s

/-! ## What the SIO takes from the kennel (R417, FIFO 1) -/

/-- The run states in which BARK toggles and is supervised (R118, R121). -/
def State.barks (s : State) : Bool :=
  (s.clk.rs == .armed && !s.clk.held) || s.clk.rs == .run || s.clk.rs == .maint

/-- One datum of FIFO 1 acts: the commands of one sheet, to the P-legs in arrangement P and to both legs of the outputs it owns in
S (R11, R98); a level change of BARK_A (R118); a dark-test request. -/
def State.sioTakes (s : State) (d : Datum) : State :=
  match d with
  | .commands k m => s.mapOuts (fun n o =>
      if !s.pair.split then { o with p := { o.p with cmd := bit m n } }
      else if s.owner n = k then { o with p := { o.p with cmd := bit m n }, m := { o.m with cmd := bit m n } }
      else o)
  | .bark => if s.barks && !s.sout.barkHold then { s with sout := { s.sout with barkA := !s.sout.barkA, barkAat := s.now } } else s
  | .dark n => s.darkBegin n .p
  | _ => s

/-- The SIO takes all of FIFO 1. -/
def State.drainSio (s : State) : State := (s.fifo 1).q.foldl State.sioTakes (s.fifoTake 1)

/-- Channel A requests the P-leg tests of the SIO, channel B runs the M-leg tests (R108). -/
def State.darkStartTest (s : State) (n : Nat) (l : Leg) : State :=
  match l with
  | .p => if (s.out n).p.deferred && !(s.fifo 1).held.any (· == .dark n) then (s.fifoPush 1 (.dark n)).drainSio else s
  | .m => s.darkBegin n .m

/-! ## FIFO_TRANSFER (R417) -/

/-- The held datum enters, and its receiver takes it where it waits for nothing. -/
def State.fifoMove (s : State) (n : Nat) : State :=
  let s := s.fifoFree n
  match n with
  | 1 => s.drainSio
  | 2 => s.drainRadio
  | 3 => s.modFifo 3 (fun f => { f with q := f.q.map (fun d => match d with
      | .port p => if (s.fifo 3).q.getLast? == some d then .port { p with del := Nat.max p.del s.ytime } else d
      | d => d) })
  | 5 => s.drainTx 5
  | 6 => s.drainMgmt
  | 7 => s.mbxUnknown
  | 8 => s.drainTx 8
  | 9 => s.drainHeads
  | _ => s

def execFifoTransfer (t : Nat) (fifo : Fin 10) (s : State) : Host.Outcome State Fault Refusal :=
  act t s (fun s => whenLive s (fun s => s.fifoMove fifo))

/-! ## Dark tests fall due and end (R108, R109, R111) -/

/-- DARK_TEST_DUE (R108, R111): a test of an output that is not energised is skipped. -/
def State.darkFallsDue (s : State) (n : Nat) (l : Leg) : State :=
  match (s.out n).darkDue l with
  | some d =>
    if s.checked n && decide (d ≤ s.now) then
      let on := s.energised n (s.out n)
      (s.modLeg n l (fun g => { g with dueCnt := g.dueCnt + 1, deferred := g.deferred || on })).darkStartTest n l
    else s
  | none => s

def execDarkTestDue (t : Nat) (out : Fin 16) (leg : Leg) (s : State) : Host.Outcome State Fault Refusal :=
  act t s (fun s => s.darkFallsDue out leg)

def execDarkTestStart (t : Nat) (out : Fin 16) (leg : Leg) (s : State) : Host.Outcome State Fault Refusal :=
  act t s (fun s => s.darkStartTest out leg)

/-- A test ends with a verdict (R109, R124). -/
def State.darkVerdict (s : State) (t : DarkTest) (pass : Bool) : State :=
  let time := match t.first with
    | some f => Nat.min ((f - t.start) / us) 0xFFFE
    | none => 0xFFFF
  ({ s with sout := { s.sout with test := none, testEnd := some s.now } }).modLeg t.out t.leg
    (fun g => { g with pass := pass, dtime := time })

/-- The 10 µs without interruption are complete within DARKW (R109). -/
def DarkTest.done (t : DarkTest) (darkw : Nat) : Option Nat :=
  match t.zero with
  | some z => if z + 10 * us ≤ t.start + darkw then some (z + 10 * us) else none
  | none => none

/-- DARK_TEST_PASS (R109). -/
def State.darkPassed (s : State) : State :=
  match s.sout.test with
  | some t =>
    match t.done (s.out t.out).darkwNs with
    | some e => if e ≤ s.now then s.darkVerdict t true else s
    | none => s
  | none => s

def execDarkTestPass (t : Nat) (s : State) : Host.Outcome State Fault Refusal := act t s State.darkPassed

/-- DARK_TEST_TIMEOUT (R109). -/
def State.darkFailed (s : State) : State :=
  match s.sout.test with
  | some t =>
    let w := (s.out t.out).darkwNs
    if (t.done w).isNone && decide (t.start + w ≤ s.now) then (s.darkVerdict t false).soutRb t.out else s
  | none => s

def execDarkTestTimeout (t : Nat) (s : State) : Host.Outcome State Fault Refusal := act t s State.darkFailed

/-! ## The muzzle pin and BARK (R115, R121) -/

/-- MUZZLE_N is recognised low (R114, R115); before BOOT it raises nothing (R534). -/
def State.muzzleLow (s : State) : State :=
  let s := { s with sout := { s.sout with ext := true } }
  if s.live then (s.trigger trigExt).line .muzzleExt true 0 else s

/-- MUZZLE_N_LOW (R115): a pulse of 50 ns to 100 ns may or may not be recognised. -/
def execMuzzleNLow (t : Nat) (width : Nat) (s : State) : Host.Outcome State Fault Refusal :=
  act t s (fun s => if s.recognised width 50 100 then s.fresh.muzzleLow else s.fresh)

/-- MUZZLE_N_HIGH (R354). -/
def execMuzzleNHigh (t : Nat) (s : State) : Host.Outcome State Fault Refusal :=
  act t s (fun s => ({ s with sout := { s.sout with ext := false } }).line .muzzleExt false 0)

/-- BARK_MON (R121): no level change for longer than 1.5 t_cyc. -/
def State.barkLook (s : State) (pin : Chan) : State :=
  let last := match pin with
    | .a => s.sout.barkAat
    | .b => s.sout.barkBat
  if s.barks && decide (last + 3 * s.tcyc / 2 < s.now) then
    match pin with
    | .a => ({ s with sout := { s.sout with monA := true } }).err .barkMon 1
    | .b => ({ s with sout := { s.sout with monB := true } }).err .barkMon 2
  else s

def execBarkMon (t : Nat) (pin : Chan) (s : State) : Host.Outcome State Fault Refusal := act t s (fun s => s.barkLook pin)

/-! ## The launch unit (R14, R106, R126, R282, R283, R320 to R322, R560) -/

/-- The record indexes reachable through RESULT references from some indexes, among records below `n` (R32 orders
them). -/
def reachable (recs : List (List Byte)) : Nat → List Nat → List Nat
  | 0, l => l
  | n + 1, l => if l.any (· == n) then reachable recs n (l ++ rResults (nth [] recs n)) else reachable recs n l

/-- The records that feed an OUTGROUP: those reachable from its SRC0 (R282). -/
def feeders (recs : List (List Byte)) (i : Nat) : List (List Byte) :=
  let src := rSrc (nth [] recs i) 0
  if srcKind src = 2 then
    let l := reachable recs recs.length [srcIdx src]
    ((indexed recs).filter (fun e => l.any (· == e.1))).map (·.2)
  else []

/-- A collar that feeds the group fails R283. -/
def State.collarBlocks (s : State) (n : Nat) : Bool :=
  let sl := s.slot n
  sl.a.ds != .live || decide (sl.a.at_ * us + sl.maxage * ms < s.ytime) || sl.a.unsync

/-- A consume connection that feeds the group fails R321. -/
def State.connBlocks (s : State) (i : Nat) : Bool :=
  let c := s.conn i
  c.a.ds != .live || decide (c.a.ts + c.maxage * us < s.ytime) || c.a.unsync

/-- A whistle stop for a group is in force. -/
def State.whistled (s : State) (k g : Nat) : Bool :=
  s.yard.wforce.isSome && bit (if k = 0 then s.yard.wstop0 else s.yard.wstop1) g

/-- The first condition of R321 that holds for a group now, as its cause code. -/
def State.launchBlocked (s : State) (k g : Nat) : Option Nat :=
  let recs := (s.sheet k).recs
  let fs := feeders recs (nth 512 (ogRecs recs) g)
  if fs.any (fun r => rSlot r != 0 && s.collarBlocks (rSlot r)) then some 1
  else if fs.any (fun r => rIs .yardin r && match s.consumeIdx (rConnid r) with
    | some i => s.connBlocks i
    | none => true) then some 2
  else if s.yard.sync == .unlocked || s.yard.sync == .syncLost then some 3
  else if s.whistled k g then some 4
  else none

/-- A launch is cancelled by the launch unit: LCANCEL, LAUNCH, and the group at LOCAL (R322). -/
def State.launchCancel (s : State) (k g cause : Nat) : State :=
  let s := (s.cancelLaunch k g)
  ({ s with yard := { s.yard with lcancel := w16 (g % 16 + 16 * k + 32 * cause + 0x8000) } }).err .launch (g % 16 + 16 * k)

/-- A release at one output (R14, R106, R108, R126, R560): the gates of the legs that are commanded 1 open unless the
muzzle is open, the switch-on window starts, and the first energising release starts the dark-test schedule. A leg whose RB
reads 1 while it is driven high conducts, whether RB rose before its drive or after it. -/
def State.releaseOut (s : State) (n : Nat) : State :=
  let isOpen := s.sout.open_
  let s := s.modOut n (fun o => { o with
    p := { o.p with gate := o.p.gate || (o.p.cmd && !isOpen), conducted := o.p.pad && o.p.rb }
    m := { o.m with gate := o.m.gate || (o.m.cmd && !isOpen), conducted := o.m.pad && o.m.rb }
    win := if o.used then some (s.now + o.swblankNs) else o.win })
  if s.energised n (s.out n) then s.modOut n (fun o => { o with sched := some (o.sched.getD s.now) }) else s

/-- The launch of a group is released or cancelled (R320, R321). -/
def State.launchOne (s : State) (l : Launch) : State :=
  match s.launchBlocked l.sheet l.group with
  | some c => s.launchCancel l.sheet l.group c
  | none =>
    let s := s.cancelLaunch l.sheet l.group
    let recs := (s.sheet l.sheet).recs
    let mask := rOutmask (nth [] recs (nth 512 (ogRecs recs) l.group))
    (List.range 16).foldl (fun s n => if bit mask n then s.releaseOut n else s) s

/-- The order of R320: by launch time, then sheet, then OUTGROUP index. -/
def Launch.before (x y : Launch) : Bool :=
  decide (x.time < y.time) || (x.time == y.time && (decide (x.sheet < y.sheet) || (x.sheet == y.sheet && decide (x.group ≤ y.group))))

def launchSort (l : List Launch) : List Launch :=
  l.foldr (fun x acc => acc.takeWhile (fun y => !x.before y) ++ x :: acc.dropWhile (fun y => !x.before y)) []

/-- The boundary that ends the third paired cycle is not yet dealt with: its HANDOVER check comes first (R190). -/
def State.handoverFirst (s : State) : Bool := s.pair.howin == 1 && s.cycles && s.boundaryDue

/-- The launches whose time has come are released in order; those that fall due at the boundary of a HANDOVER check follow it. -/
def State.launchDue (s : State) : State :=
  let due := fun (l : Launch) => decide (l.time ≤ s.ytime) && !(s.handoverFirst && decide (s.boundaryYt ≤ l.time))
  (launchSort (s.yard.pend.filter due)).foldl State.launchOne s

/-- LAUNCH_RELEASE (R320). -/
def execLaunchRelease (t : Nat) (s : State) : Host.Outcome State Fault Refusal := act t s State.launchDue

/-! ## The output table (R100, R101) -/

def outRec (l : List Byte) (n : Nat) : List Byte := (l.drop (16 + 8 * n)).take 8

/-- A record is out of range, or not zero where R100 requires it. -/
def outRecBad (r : List Byte) : Bool :=
  let within := fun (v lo hi : Nat) => decide (lo ≤ v) && decide (v ≤ hi)
  match byteAt r 0 with
  | 0 => !allZero r
  | 1 => !(within (byteAt r 1) 1 50 && within (byteAt r 2) 5 200 && within (byteAt r 3) 1 100 && within (beAt r 4 2) 10 600 &&
      within (byteAt r 6) 5 50 && byteAt r 7 == 0)
  | _ => true

/-- The checks of R101: 0x3, 0x1, 0x2. -/
def outputErr (recs : List (List Byte)) (l : List Byte) : Option (Nat × Nat) :=
  let outs := List.range 16
  firstBad (
    [(3, 0x1F, beAt l 0 2 != 1 || !zeroIn l 4 15 || outs.any (fun n => bit (beAt l 2 2) n != (byteAt (outRec l n) 0 == 1)))] ++
    outs.map (fun n => (1, n, outRecBad (outRec l n))) ++
    outs.map (fun n => (2, n, byteAt (outRec l n) 0 == 0 && recs.any (fun r => rIs .outgroup r && bit (rOutmask r) n))))

/-- CFGERR with a five-bit ITEM. -/
def cfgWord5 (e : Nat × Nat) : Word := w16 (e.2 % 32 + 4096 * e.1 + 0x8000)

/-- The committed output table; readbacks and latches stay. -/
def State.loadOutputs (s : State) (l : List Byte) : State :=
  s.mapOuts (fun n o =>
    let r := outRec l n
    { o with used := byteAt r 0 == 1, offdly := byteAt r 1, swblank := byteAt r 2, ocfilt := byteAt r 3
             darkper := beAt r 4 2, darkw := byteAt r 6 })

/-- Entry into ARMED from LOAD: the readback checks start (R561). -/
def State.armOutputs (s : State) : State :=
  let leg := fun (g : LegSt) => { g with live := if g.rb && !g.pad then some s.now else none, oc := none }
  { (s.mapOuts (fun _ o => { o with p := leg o.p, m := leg o.m })) with
    sout := { (s.mapOuts (fun _ o => { o with p := leg o.p, m := leg o.m })).sout with checks := true } }

end Sys2Proof.Machine
end

