-- ==== Sys2Proof/Machine/Sheets.lean ====
section
/-!
DEFINITION. The reset pins (R40, R41), the expiries of channel B's timers (R36, R38, R43, R52), and the sheet section: its
load checks (R28 to R34, R39, R46 to R50, R61, R62, R557) and what it loads.
-/
namespace Sys2Proof.Machine

/-! ## ACKA and ACKB (R40, R41, R354, R433) -/

/-- The MRESET record of a sheet (R39). -/
def Sheet.mreset (h : Sheet) : List Byte := (h.recs.find? (rIs .mreset)).getD []

/-- PMIN and PMAX in ns. -/
def Sheet.pminNs (h : Sheet) : Nat := rW h.mreset 8 * ms
def Sheet.pmaxNs (h : Sheet) : Nat := rW h.mreset 10 * ms

/-- ACKA and ACKB in their actuated states. -/
def SheetPage.actA (p : SheetPage) : Bool := p.ackA
def SheetPage.actB (p : SheetPage) : Bool := !p.ackB

/-- Two instants are both known and within 20 ms of each other. -/
def near20 (x y : Option Nat) : Bool :=
  match x, y with
  | some a, some b => decide (a ≤ b + 20 * ms) && decide (b ≤ a + 20 * ms)
  | _, _ => false

/-- The present state of the pins has lasted too long for a sheet's MRESET (R41). -/
def State.ackOver (s : State) (h : Sheet) : Bool :=
  if s.sp.actA != s.sp.actB then decide (s.sp.ackSince + 20 * ms < s.now)
  else s.sp.actA && decide (s.sp.ackSince + h.pmaxNs < s.now)

/-- The actuation in progress is discarded by every sheet's MRESET for which it has lasted too long. -/
def State.ackJudge (s : State) : State :=
  let one := fun (h : Sheet) => { h with ackBad := h.ackBad || (s.sp.ackFirst.isSome && s.ackOver h) }
  { s with sh0 := one s.sh0, sh1 := one s.sh1 }

/-- The actuation that has just returned is a pulse for a sheet (R40). The actuated state lasts while both pins are in it
(DEDUCED, notes/assumptions/23.md). -/
def SheetPage.valid (p : SheetPage) (h : Sheet) : Bool :=
  let on := Nat.max (p.ackOnA.getD 0) (p.ackOnB.getD 0)
  let off := Nat.min (p.ackOffA.getD 0) (p.ackOffB.getD 0)
  near20 p.ackOnA p.ackOnB && near20 p.ackOffA p.ackOffB && decide (on + h.pminNs ≤ off) && decide (off ≤ on + h.pmaxNs) && !h.ackBad

/-- A first edge starts an actuation; a sheet that has discarded the last one takes it up once the pins have rested for
PMIN (R41). -/
def State.ackBegin (s : State) : State :=
  let one := fun (h : Sheet) => { h with ackBad := h.ackBad && !decide (s.sp.ackSince + h.pminNs ≤ s.now) }
  { s with sh0 := one s.sh0, sh1 := one s.sh1
           sp := { s.sp with ackFirst := some s.now, ackOnA := none, ackOnB := none, ackOffA := none, ackOffB := none } }

/-- The pins have come back to rest: a valid actuation is presented in the next cycle (R40). -/
def State.ackReturn (s : State) : State :=
  let one := fun (h : Sheet) =>
    if h.loaded && s.sp.valid h then { h with pulseIn := true, from_ := s.sp.ackFirst.getD 0 } else h
  { s with sh0 := one s.sh0, sh1 := one s.sh1, sp := { s.sp with ackFirst := none } }

/-- A level of a reset pin, with the instants of its edges. -/
def SheetPage.setAck (p : SheetPage) (now : Nat) (pin : Chan) (v : Bool) : SheetPage :=
  match pin with
  | .a => { p with ackA := v, ackSince := now, ackOnA := if v then some now else p.ackOnA, ackOffA := if v then p.ackOffA else some now }
  | .b => { p with ackB := v, ackSince := now, ackOnB := if v then p.ackOnB else some now, ackOffB := if v then some now else p.ackOffB }

/-- An edge on ACKA or ACKB (R40, R41). -/
def State.ackEdge (s : State) (pin : Chan) (v : Bool) : State :=
  let same := match pin with
    | .a => s.sp.ackA == v
    | .b => s.sp.ackB == v
  if same then s
  else if !s.sampling then { s with sp := s.sp.setAck s.now pin v }
  else
    let s := s.ackJudge
    let s := if s.sp.ackFirst.isNone then s.ackBegin else s
    let s := { s with sp := s.sp.setAck s.now pin v }
    if !s.sp.actA && !s.sp.actB then s.ackReturn else s

/-- ACK_ACTUATION (R40). -/
def execAckActuation (t : Nat) (pin : Chan) (level : Bool) (s : State) : Host.Outcome State Fault Refusal :=
  act t s (fun s => s.ackEdge pin level)

/-- ACK_ACTUATION_DISCARD (R41). -/
def execAckActuationDiscard (t : Nat) (s : State) : Host.Outcome State Fault Refusal := act t s State.ackJudge

/-- Entry into ARMED: an actuation in progress is discarded (R433), and no pulse is on its way. -/
def State.armAck (s : State) : State :=
  let s := { s with sh0 := { s.sh0 with pulseIn := false, pulse := false }, sh1 := { s.sh1 with pulseIn := false, pulse := false } }
  if s.sp.actA || s.sp.actB then ({ s with sp := { s.sp with ackFirst := some (s.sp.ackFirst.getD s.now) } }).discardAck else s

/-! ## Channel B's timers -/

/-- A record of channel B changes when it is of a function and its timer has run for some time: strictly longer, or at
least as long. -/
def State.timerB (s : State) (k i : Nat) (f : Fn) (strict : Bool) (len : List Byte → Nat) : Bool :=
  let st := nth {} s.sh0.b i
  k == 0 && s.chanB && s.sh0.loaded && rIs f (s.recAt 0 i) && !st.fired &&
  match st.since with
  | some a => if strict then decide (a + len (s.recAt 0 i) < s.now) else decide (a + len (s.recAt 0 i) ≤ s.now)
  | none => false

def State.fireB (s : State) (i : Nat) : State := { s with sh0 := { s.sh0 with b := updAt (fun st => { st with fired := true }) s.sh0.b i } }

/-- SWITCHT_EXPIRY (R38). -/
def State.switchtEnd (s : State) (k i : Nat) : State :=
  if s.timerB k i .modesel true (fun r => rW r 10 * ms) then
    let up := (s.com 0 i).locals.any (fun x => x.cause == LocalCause.catalogue Src.sinDisc)
    let s := s.fireB i
    if up then s else s.err .sinDisc (0x8000 + instDetail 0 i)
  else s

def execSwitchtExpiry (t : Nat) (sheet : Fin 2) (idx : Fin 512) (s : State) : Host.Outcome State Fault Refusal :=
  act t s (fun s => s.switchtEnd sheet idx)

/-- DON_EXPIRY (R34, R36). -/
def execDonExpiry (t : Nat) (sheet : Fin 2) (idx : Fin 512) (s : State) : Host.Outcome State Fault Refusal :=
  act t s (fun s => if s.timerB sheet idx .delay false (fun r => rW r 8 * ms) then s.fireB idx else s)

/-- CAT1_DELAY_EXPIRY (R52). -/
def execCat1DelayExpiry (t : Nat) (sheet : Fin 2) (idx : Fin 512) (s : State) : Host.Outcome State Fault Refusal :=
  act t s (fun s => if s.timerB sheet idx .outgroup false rDelayNs then s.fireB idx else s)

/-- MAXT_EXPIRY (R43). -/
def execMaxtExpiry (t : Nat) (sheet : Fin 2) (idx : Fin 512) (s : State) : Host.Outcome State Fault Refusal :=
  act t s (fun s => if s.timerB sheet idx .mute false (fun r => rB r 15 * 100 * ms) then s.fireB idx else s)

/-! ## The sheet section (R28, R61, R62) -/

/-- The records of a sheet section. -/
def sheetRecs (l : List Byte) : List (List Byte) := (chunks 16 (beAt l 4 2) (l.drop 16)).map (padTo 16)

def sheetCrc (recs : List (List Byte)) : Nat := (crc32c recs.flatten).toNat

/-- What a source field must be (R34). -/
inductive SrcRule where
  | absent | input | inputOpt | result | resultOpt | curtain | mresetOpt
  deriving DecidableEq, Repr

/-- The rules of a function's sources, in the order of `fnSrcs`. -/
def srcRules : Fn → List SrcRule
  | .estop => [.input, .absent, .absent]
  | .guard => [.input, .inputOpt, .absent]
  | .curtain => [.input, .absent, .absent]
  | .twohand => [.input, .input, .absent]
  | .enable => [.input, .absent, .absent]
  | .modesel => [.input, .input, .input, .inputOpt]
  | .mreset => [.absent, .absent, .absent]
  | .mute => [.curtain, .resultOpt, .absent]
  | .sls => [.resultOpt, .absent, .absent]
  | .slp => [.resultOpt, .absent, .absent]
  | .sdi => [.resultOpt, .absent, .absent]
  | .sstill => [.absent, .absent, .absent]
  | .andF => List.replicate 7 .resultOpt
  | .orF => List.replicate 7 .resultOpt
  | .notToSafe => [.result, .result, .absent]
  | .delay => [.result, .absent, .absent]
  | .collarin => [.absent, .absent, .absent]
  | .yardin => [.absent, .absent, .absent]
  | .yardout => [.resultOpt, .resultOpt, .resultOpt]
  | .outgroup => [.result, .mresetOpt, .absent]

/-- The PARAM bytes that a function uses; the others are reserved (R34). -/
def fnUsed : Fn → List Nat
  | .modesel => [8, 9, 10, 11]
  | .mreset => [8, 9, 10, 11]
  | .mute => [8, 10, 11, 12, 13, 14, 15]
  | .sls => [8, 10, 11, 12]
  | .slp => [8, 10, 11, 12, 13]
  | .sdi => [8, 9, 10]
  | .sstill => [8, 10, 11, 12, 13]
  | .andF => [8, 9, 10, 11, 12, 13, 14, 15]
  | .orF => [8, 9, 10, 11, 12, 13, 14, 15]
  | .delay => [8, 9]
  | .collarin => [8, 9, 10, 11, 12, 13]
  | .yardin => [8, 9, 10, 11]
  | .yardout => [8, 9, 10, 11]
  | .outgroup => [8, 9, 10, 12, 13, 14]
  | _ => []

/-- A source field obeys R31, R32 and its rule in the catalogue. -/
def srcOk (recs : List (List Byte)) (i v : Nat) (rule : SrcRule) : Bool :=
  let low := v % 4096
  let target := nth [] recs (srcIdx v)
  let resultOk := decide (srcIdx v < i) && match rFn target with
    | some f => decide (srcBit v < fnBits f)
    | none => false
  match srcKind v with
  | 0 => low == 0 && match rule with
    | .absent => true
    | .inputOpt => true
    | .resultOpt => true
    | .mresetOpt => true
    | _ => false
  | 1 => decide (low < 32) && match rule with
    | .input => true
    | .inputOpt => true
    | _ => false
  | 2 => resultOk && match rule with
    | .result => true
    | .resultOpt => true
    | .curtain => rIs .curtain target && srcBit v == 0
    | .mresetOpt => rIs .mreset target && srcBit v == 0
    | _ => false
  | _ => false

/-- The companion tables as the sheet check needs them: wheel, collar and yard sections. -/
structure Tables where
  wheel : List Byte
  collar : List Byte
  yard : List Byte

def Tables.wheelUsed (t : Tables) (w : Nat) : Bool := decide (w < 2) && byteAt (wheelRec t.wheel w) 0 == 1
def Tables.teeth (t : Tables) (w : Nat) : Nat := beAt (wheelRec t.wheel w) 2 2
def Tables.slot (t : Tables) (n : Nat) : Bool := n != 0 && decide (n < 64) && collarBound t.collar n
/-- LEN of the connection record of a MODE with a CONNID. -/
def Tables.conn (t : Tables) (mode id : Nat) : Option Nat :=
  ((List.range 64).find? (fun i => byteAt (connRec t.yard i) 0 == mode && beAt (connRec t.yard i) 2 2 == id)).map
    (fun i => byteAt (connRec t.yard i) 1)

/-- What the check has met so far: pairs, payload bits and outputs in use over all sheets, and the OUTGROUPs, cross-check
points and MRESETs of this sheet. -/
structure SheetAcc where
  pairs : List Nat := []
  bits : List (Nat × Nat) := []
  outs : Nat := 0
  og : Nat := 0
  chk : Nat := 0
  mr : Nat := 0

/-- The payload bits that a YARDOUT writes (R46). -/
def yardoutBits (r : List Byte) : List (Nat × Nat) :=
  if rIs .yardout r then ([0, 1, 2].filter (fun k => srcKind (rSrc r k) != 0)).map (fun k => (rConnid r, rW r 10 + k)) else []

/-- PARAM in range (R34, R50, R557, and the tooth values of 05). -/
def paramOk (t : Tables) (r : List Byte) : Bool :=
  let within := fun (v lo hi : Nat) => decide (lo ≤ v) && decide (v ≤ hi)
  let tooth := fun (v : Nat) => !t.wheelUsed (rB r 8) || decide (v < t.teeth (rB r 8))
  let present := (rRefs r).filter (fun v => srcKind v != 0)
  match rFn r with
  | some .modesel => decide (rW r 10 ≤ 2000)
  | some .mreset => within (rW r 8) 50 500 && within (rW r 10) 200 5000 && decide (rW r 8 < rW r 10)
  | some .mute => decide (rB r 8 ≤ 1) && tooth (rW r 10) && tooth (rW r 12) && decide (rB r 14 ≤ 16) && decide (1 ≤ rB r 15)
  | some .sls => decide (1 ≤ rW r 10) && decide (rB r 12 ≤ 63)
  | some .slp => tooth (rW r 10) && tooth (rW r 12)
  | some .sdi => decide (rB r 9 ≤ 1) && decide (rB r 10 ≤ 4)
  | some .sstill => decide (1 ≤ rW r 10) && within (rW r 12) 10 10000
  | some .andF => decide (2 ≤ present.length)
  | some .orF => decide (2 ≤ present.length)
  | some .delay => decide (rW r 8 ≤ 60000)
  | some .collarin => within (rB r 8) 1 63 && decide (rB r 10 ≤ 2) && decide (rB r 9 ≤ (if rB r 10 = 0 then 63 else 6))
  | some .yardin => decide (rW r 10 ≤ 511) && match t.conn 1 (rConnid r) with
    | some n => decide (rW r 10 < 8 * n)
    | none => true
  | some .yardout => decide (rW r 10 ≤ 509) && match t.conn 2 (rConnid r) with
    | some n => (yardoutBits r).all (fun e => decide (e.2 < 8 * n))
    | none => true
  | some .outgroup => decide (rB r 10 ≤ 1) && decide (rW r 12 ≤ 30000) && decide (1 ≤ rB r 14) && (rB r 10 != 0 || rW r 12 == 0)
  | _ => true

/-- SLOT, CONNID and WHEEL are in their companion tables (ERRCODE 0xA). -/
def tablesOk (t : Tables) (r : List Byte) : Bool :=
  (!rMotion r || t.wheelUsed (rB r 8)) &&
  match rFn r with
  | some .collarin => t.slot (rB r 8)
  | some .sls => rXslot r == 0 || t.slot (rXslot r)
  | some .yardin => (t.conn 1 (rConnid r)).isSome
  | some .yardout => (t.conn 2 (rConnid r)).isSome
  | _ => true

/-- The lowest ERRCODE that fails at a record, 0 for none (R62). A source that is a valid reference but of the wrong kind, or
that stands where the catalogue has none, is ERRCODE 0x3 (DESIGN CHOICE, notes/assumptions/104.md). -/
def recErr (t : Tables) (recs : List (List Byte)) (a : SheetAcc) (i : Nat) (r : List Byte) : Nat :=
  match rFn r with
  | none => 1
  | some f =>
    let og := f == .outgroup
    let codes : List (Nat × Bool) :=
      [(1, rStartup r && !(f == .guard || f == .curtain)),
       (2, field (byteAt r 1) 5 0 != 0 || [8, 9, 10, 11, 12, 13, 14, 15].any (fun j => !(fnUsed f).any (· == j) && byteAt r j != 0)),
       (3, (List.zip ((List.range 7).map (rSrc r)) (srcRules f)).any (fun e => !srcOk recs i e.1 e.2)),
       (4, (og && decide (16 ≤ a.og)) || (rCheck r && decide (64 ≤ a.chk))),
       (5, (rPairs r).any (fun p => a.pairs.any (· == p)) || (yardoutBits r).any (fun b => a.bits.any (· == b)) ||
           (og && (rOutmask r &&& a.outs) != 0)),
       (6, f == .mreset && decide (1 ≤ a.mr)),
       (7, !paramOk t r),
       (9, og && !rCheck r),
       (10, !tablesOk t r)]
    match codes.find? (·.2) with
    | some e => e.1
    | none => 0

/-- The accumulation after a record that passes. -/
def SheetAcc.take (a : SheetAcc) (r : List Byte) : SheetAcc :=
  { pairs := rPairs r ++ a.pairs, bits := yardoutBits r ++ a.bits, outs := if rIs .outgroup r then a.outs ||| rOutmask r else a.outs
    og := a.og + flag (rIs .outgroup r), chk := a.chk + flag (rCheck r), mr := a.mr + flag (rIs .mreset r) }

/-- SHEET.ERR of a failure (R63). -/
def sheetErrWord (code idx k : Nat) (header : Bool) : Nat := idx % 512 + 512 * code + 8192 * k + flag header 14 + 0x8000

/-- Step 2 of R62: the records in index order. -/
def recsErr (t : Tables) (recs : List (List Byte)) (k : Nat) : SheetAcc → Nat → List (List Byte) → SheetAcc × Nat
  | a, _, [] => (a, 0)
  | a, i, r :: rs =>
    let e := recErr t recs a i r
    if e = 0 then recsErr t recs k (a.take r) (i + 1) rs else (a, sheetErrWord e i k false)

/-- Step 1 of R62: the lowest ERRCODE of the header, 0 for none. -/
def headErr (arrS : Bool) (k cycle0 : Nat) (l : List Byte) : Nat :=
  if beAt l 6 2 != 0 || beAt l 12 4 != 0 then 2
  else if decide ((if arrS then 256 else 512) < beAt l 4 2) then 4
  else if beAt l 0 2 != 1 || byteAt l 2 != k || decide (3 < byteAt l 3) || (k == 1 && byteAt l 3 != cycle0) then 7
  else 0

/-- The checks of R62 on one sheet section: the accumulation over the sheets, and SHEET.ERR of the first failure or 0. -/
def sheetErr (t : Tables) (arrS : Bool) (k cycle0 : Nat) (a : SheetAcc) (l : List Byte) : SheetAcc × Nat :=
  let h := headErr arrS k cycle0 l
  if h != 0 then (a, sheetErrWord h 0x1FF k true)
  else
    let recs := sheetRecs l
    let out := recsErr t recs k { a with og := 0, chk := 0, mr := 0 } 0 recs
    if out.2 != 0 then out
    else if out.1.mr = 0 then (out.1, sheetErrWord 6 0x1FF k true)
    else if sheetCrc recs != beAt l 8 4 then (out.1, sheetErrWord 8 0x1FF k true)
    else (out.1, 0)

/-- The sheet a section loads: every record's state at its initial values (R172). -/
def sheetOf (l : List Byte) : Sheet :=
  let recs := sheetRecs l
  { loaded := true, cycle := byteAt l 3, recs := recs, crc := BitVec.ofNat 32 (beAt l 8 4)
    com := recs.map (fun r => { stPend := rStartup r }), a := recs.map (fun _ => {}), b := recs.map (fun _ => {}) }

/-- Every start-up test is pending, and the start hold is 1 (R55, R57). -/
def State.pendTests (s : State) : State :=
  let one := fun (h : Sheet) => { h with com := List.zipWith (fun (c : InstCom) r => { c with stPend := rStartup r, stOpen := false }) h.com h.recs }
  { s with sh0 := one s.sh0, sh1 := one s.sh1, sp := { s.sp with hold := true } }

end Sys2Proof.Machine
end

