-- ==== Sys2Proof/Machine/Cycle.lean ====
section
/-!
DEFINITION. The safety cycle (R305): channel A's evaluation and command write at its end, the cross-check, launches,
whistles and frames handed over, the transitions of RUNSTATE at a cycle end, BARK, the next input read, and the cycle end
of the fault records (R348).
-/
namespace Sys2Proof.Machine

/-! ## The cycle end of the records (R348, R349) -/

/-- What waited because a write was aborted or blocked joins what is due. A record that is due already is written once. -/
def resumeDue (due held : List (FRec × Bool)) (now : FRec × Bool → FRec × Bool) : List (FRec × Bool) :=
  due.map (fun d => (d.1, d.2 || held.any (fun e => e.1.recno == d.1.recno && e.2))) ++
    (held.filter (fun e => !due.any (fun d => d.1.recno == e.1.recno))).map now

/-- The record of a YARD_LINK stays open for the YARD_WDOG of the same link fault (R332): while a consume connection that is LIVE
has its producer beyond a port that is down (DEDUCED, notes/assumptions/108.md). -/
def State.linkOpen (s : State) (o : OpenRec) : Bool :=
  bit o.r.srcmap Src.yardLink.bit && s.yard.conns.any (fun c =>
    c.mode == 1 && (c.a.ds == .live || c.b.ds == .live) && !(s.yport (s.portOf c.peer)).up)

/-- What waits because a write was aborted or blocked is written with its content at this instant; a merge is rewritten;
a NOTE record that has been written closes. -/
def State.recordEnd (s : State) : State :=
  let held := if s.seq.belowAbandon then [] else s.flt.blocked
  let now := fun (e : FRec × Bool) => match s.flt.rec? with
    | some o => if o.r.recno = e.1.recno then (o.r, e.2) else e
    | none => e
  let late := fun (n : Nat) => held.any (fun e => e.1.recno == n) && !s.flt.due.any (fun d => d.1.recno == n)
  let s := if s.seq.belowAbandon then s else { s with flt := { s.flt with due := resumeDue s.flt.due held now, blocked := [] } }
  match s.flt.rec? with
  | some o =>
    if o.r.cls == .note && o.written && !s.linkOpen o then s.closeRecord
    else if o.dirty && !s.seq.belowAbandon then
      { s with flt := { s.flt with
          rec? := some { o with dirty := false }
          due := if late o.r.recno then s.flt.due else s.flt.due ++ [(o.r, false)] } }
    else s
  | none => s

/-- A 1,000 µs interval since COLL's release has ended: the cycle end of the states in which the kennel runs no cycle. -/
def State.collInterval (s : State) : State :=
  let n := (s.now - s.flt.onAt) / ms
  if s.live && s.flt.on && decide (s.flt.coll < n) then
    let s := { s with flt := { s.flt with coll := n } }
    if s.cycles then s else s.recordEnd
  else s

/-- COLL_INTERVAL (R348). -/
def execCollInterval (t : Nat) (s : State) : Host.Outcome State Fault Refusal := act t s State.collInterval

/-! ## Channel A (R34, R189) -/

/-- What channel A, or core k in arrangement S, sees when it evaluates its sheet at the cycle end. -/
def State.envA (s : State) (k : Nat) : Env :=
  { isA := true, sheet := k, now := s.now, readAt := s.sp.rdAt, readYt := s.sp.rdYt, endYt := s.boundaryYt, pairs := s.sp.rdPairs
    held := if k = 0 then s.sp.rdLoc0 else s.sp.rdLoc1, pulse := (s.sheet k).pulse, rise := true
    gate := k == 0 && s.pair.howin == 3 && !s.sp.rdSolo }

/-- The energises that R189 refuses in this evaluation, by index. -/
def State.refused (s : State) (e : Env) (new : List InstSt) : List Nat :=
  let h := s.sh0
  if e.gate then
    (mapIdx (fun i r => (i, r)) h.recs).filterMap (fun x =>
      let c := nth {} h.com x.1
      let old := nth {} h.a x.1
      let raw := (evalFn e s false (new.take x.1) x.1 x.2 c old).1
      if rCheck x.2 && raw.b0 && !old.b0 && !c.soloVal && !nth false e.held x.1 && !c.forced then some x.1 else none)
  else []

/-- The last index of a list is shown in HODIAG as refused. -/
def State.showRefused (s : State) (l : List Nat) : State :=
  match l.getLast? with
  | some i => { s with pair := { s.pair with hodiag := w16 (i + 512 + flag (bit s.pair.hodiag.toNat 10) 10 + 0x8000) } }
  | none => s

/-- What the state of a refused energise becomes in channel B, which took the same pulse up at the start of the cycle: the pulse is
gone for it too (R208; DEDUCED, notes/assumptions/111.md). -/
def dropRefused (refused : List Nat) (recs : List (List Byte)) (old b : List InstSt) : List InstSt :=
  mapIdx (fun i st => if refused.any (· == i) then refuseSt (nth [] recs i) (nth {} old i) st else st) b

/-- One evaluation of sheet k: its results, and the errors it finds. State words whose write is discarded keep their contents
(R169). -/
def State.evalA (s : State) (k : Nat) (lost : List (Fin 512)) : State × List (Src × Nat) :=
  if (s.sheet k).loaded then
    let e := s.envA k
    let out := evalSheet e s
    let refused := if k = 0 then s.refused e out.1 else []
    let old := (s.sheet k).a
    let a := if lost.isEmpty then out.1 else mapIdx (fun i st => if lost.any (fun m => m.val == i) then nth {} old i else st) out.1
    ((s.showRefused refused).modSheet k (fun h => { h with a := a, b := if refused.isEmpty then h.b else dropRefused refused h.recs old h.b }), out.2)
  else (s, [])

/-- The OUTGROUPs of a sheet whose b0 has risen. -/
def risen (recs : List (List Byte)) (old new : List InstSt) : List Nat :=
  (mapIdx (fun g i => (g, i)) (ogRecs recs)).filterMap (fun e =>
    if !(nth {} old e.2).b0 && (nth {} new e.2).b0 then some e.1 else none)

/-! ## What the kennel writes at the cycle end -/

/-- An energise launch is handed to the launch unit (R56); one whose time has passed is cancelled at once (R321). -/
def State.handOver (s : State) (k g : Nat) : State :=
  let lofs := rLofs (s.recAt k (nth 512 (ogRecs (s.sheet k).recs) g))
  let time := s.boundaryYt + lofs * s.tcyc
  if time < s.ytime then s.launchCancel k g 5
  else { s with yard := { s.yard with pend := s.yard.pend ++ [{ sheet := k, group := g, time := time }] } }

/-- The commands of one sheet (R11, R12, R16, R56, R98, R323): falls cancel launches, rises hand them over. In arrangement
P channel A commands the P-legs, in S the owning core commands both legs. -/
def State.command (s : State) (k : Nat) (old : List InstSt) : State :=
  let h := s.sheet k
  let falls := fallen h.recs old h.a
  let s := falls.foldl (fun s g => s.cancelLaunch k g) s
  let s := (s.fifoPush 1 (.commands k (bitmap ((List.range 16).map (groupCmd h.recs h.a))))).drainSio
  (risen h.recs old h.a).foldl (fun s g => s.handOver k g) s

/-- A group in WORIG has fallen. -/
def State.originates (s : State) (k : Nat) (old : List InstSt) : Bool :=
  (fallen (s.sheet k).recs old (s.sheet k).a).any (fun g => bit (if k = 0 then s.yard.worig0 else s.yard.worig1) g)

/-- The payload bits that one YARDOUT writes, as sent (R312, R563). -/
def State.yardoutBit (s : State) (k i j : Nat) : Bool :=
  let h := s.sheet k
  let c := nth {} h.com i
  let r := nth [] h.recs i
  let v := refOr false h.a (rSrc r j)
  let confirmed := s.pair.split || !rCheck r || j != 0 || c.cap
  v && (j != 0 || (nth {} h.a i).b0) && !c.atLocal && s.clk.rs != .safe && confirmed

/-- The payload of a produce connection. -/
def State.payloadOf (s : State) (c : Conn) : List Byte :=
  (s.insts (fun _ _ r => rIs .yardout r && rConnid r == c.id)).foldl (fun l e =>
    let r := s.recAt e.1 e.2
    [0, 1, 2].foldl (fun l j => if srcKind (rSrc r j) = 2 then setPayBit l (rW r 10 + j) (s.yardoutBit e.1 e.2 j) else l) l)
    (List.replicate c.len 0)

/-- One DATA frame (R312, R317). -/
def State.produce (s : State) (i : Nat) : State :=
  let c := s.conn i
  if c.mode != 2 then s
  else
    let data := s.payloadOf c
    let echo := c.echoes.headD (0, 0)
    let seq := (c.pseq + 1) % 65536
    let s := s.modConn i (fun c => { c with pseq := seq, payload := data, echoes := c.echoes.tail })
    s.sendOwn 5 (s.ownFrame typSafety c.peer c.bcast
      (safetyPayload kindData s.sflags s.yard.node c.peer c.id seq echo.1 echo.2 s.sp.rdYt c.ctag data))

/-- The cross-check of R15: two differing comparisons in a row are FAB_CHAN, and the point is held at 0. -/
def State.compare (s : State) : State × List (Src × Nat) :=
  if s.pair.split then (s, [])
  else
    let h := s.sh0
    let one := fun (r : List Byte) (st : InstSt) (c : InstCom) =>
      if rCheck r && c.capOk then
        let d := c.cap != st.b0
        ({ c with capOk := false, diff := d, forced := c.forced || (d && c.diff) }, d && c.diff && !c.forced)
      else ({ c with capOk := false }, false)
    let outs := (List.zip h.recs (List.zip h.a h.com)).map (fun e => one e.1 e.2.1 e.2.2)
    let errs := (idxsWhere (fun (o : InstCom × Bool) => o.2) outs 0).map (fun i => (Src.fabChan, instDetail 0 i))
    ({ s with sh0 := { h with com := outs.map (·.1) } }, errs)

/-- The hand-over window (R189 to R191): the values of the last solo cycle, and the comparison after the third paired
cycle, which launches that are due await (R190). -/
def State.handoverWindow (s : State) : State :=
  if s.sp.rdSolo then
    { s with sh0 := { s.sh0 with com := List.zipWith (fun (c : InstCom) (st : InstSt) => { c with soloVal := st.b0 }) s.sh0.com s.sh0.a } }
  else if s.pair.howin = 0 then s
  else
    let com := List.zipWith (fun (c : InstCom) (st : InstSt) => if st.b0 != c.soloVal then { c with hoDiff := c.hoDiff + 1 } else c) s.sh0.com s.sh0.a
    let last := s.pair.howin == 1
    let s := { s with sh0 := { s.sh0 with com := com }, pair := { s.pair with howin := s.pair.howin - 1 } }
    let bad := (idxsWhere (fun (e : List Byte × InstCom) => rCheck e.1 && e.2.hoDiff == 3) (List.zip s.sh0.recs com) 0).head?
    let s := match bad with
      | some i =>
        if last && !s.pair.hoInput then
          ({ s with pair := { s.pair with hodiag := w16 (s.pair.hodiag.toNat % 1024 + 1024 + 0x8000) } }).err .handover (instDetail 0 i)
        else s
      | none => s
    if last then s.launchDue else s

/-! ## What the hardware observed in the cycle (R162, R169, R170, R174, R177, R185) -/

/-- The comparator compares, its muzzle trigger armed: in paired operation once CMPINJ has passed (R161, R167, R173, R184). -/
def State.comparing (s : State) : Bool := !s.pair.split && !s.sp.rdSolo && s.pair.cmpArmed

def State.observe (s : State) (o : CycleObs) : State :=
  let s := match o.mismatch with
    | some d => if s.comparing then s.cmp d.1 d.2 cmpLockstep else s
    | none => s
  let s := if o.soloFail && (s.pair.split || s.sp.rdSolo) then s.cmp 0 0 cmpSolo else s
  let s := if o.partition && s.pair.split then s.cmp 0 0 cmpPartition else s
  s.eccAll o.ecc

/-! ## Arrangement S at a boundary (R119, R175, R224, R225) -/

/-- The S monitor gates come back where all conditions hold and the command is off; a gate that is 0 under a command that
is on for the second boundary in a row is FAB_CHAN. -/
def State.monitorBoundary (s : State) : State :=
  if !s.pair.split then s
  else
    let gate := mapIdx (fun n g => g || (s.monitorOk n (s.out n) && !(s.out n).p.cmd)) s.fab.gate
    let dis := mapIdx (fun n d => if !nth false gate n && (s.out n).p.cmd then satAdd d 1 3 else 0) s.fab.disagree
    let s := { s with fab := { s.fab with gate := gate, disagree := dis } }
    (idxsWhere (fun d => d == 2) dis 0).foldl (fun s n => s.err .fabChan (0x0400 + n)) s

/-- COMMAND_DEADLINE (R175): core k has written its commands, or its watchdog is missed. -/
def State.deadlineCheck (s : State) (k : Nat) : State :=
  if s.pair.split && s.cycles && decide (s.sp.rdAt + 20 * us ≤ s.now) then
    let ok := nth true s.fab.wrote k
    let s := { s with fab := { s.fab with wd := setAt s.fab.wd k ok } }
    if ok then s else s.err .fabChan 0x03FF
  else s

def execCommandDeadline (t : Nat) (core : Fin 2) (s : State) : Host.Outcome State Fault Refusal :=
  act t s (fun s => s.deadlineCheck core)

/-! ## Transitions of RUNSTATE at a cycle end (R354, R355, R434 to R436) -/

/-- The loaded sheets meet a test, and there is one at least. -/
def State.allSheets (s : State) (p : Sheet → Bool) : Bool := s.sh0.loaded && p s.sh0 && (!s.sh1.loaded || p s.sh1)

/-- Entry into ARMED from any state: BARK starts again (R121), and an actuation in progress is discarded (R433). -/
def State.enterArmed (s : State) : State :=
  ({ s with clk := { s.clk with rs := .armed }
            sout := { s.sout with barkHold := false, barkAat := s.now, barkBat := s.now } }).armAck

/-- Item 2 and item 3 of R354: the pulse of this cycle belongs to an actuation that began after item 1 held. -/
def State.freshPulse (s : State) : Bool :=
  s.item1Now && match s.flt.item1 with
  | some a => s.allSheets (fun h => h.pulse && decide (a < h.from_))
  | none => false

/-- The cross-check points held under R15 are computed afresh. -/
def State.releasePoints (s : State) : State :=
  let one := fun (h : Sheet) => { h with com := h.com.map (fun c => { c with forced := false, diff := false }) }
  { s with sh0 := one s.sh0, sh1 := one s.sh1 }

/-- SAFE is left (R355). -/
def State.recover (s : State) : State :=
  let s := s.closeRecord.enterArmed.pendTests.releasePoints
  { s with pair := { s.pair with restart := s.pair.restart || s.pair.cmpSafe, cmpSafe := false } }

/-- Every OUTGROUP b0 is 0 in both channels. -/
def State.groupsOff (s : State) : Bool :=
  s.sheets.all (fun k => (ogRecs (s.sheet k).recs).all (fun i =>
    !(nth {} (s.sheet k).a i).b0 && (s.pair.split || !(nth {} (s.sheet k).b i).b0)))

/-- MAINT may be entered (R435). -/
def State.maintAllowed (s : State) : Bool :=
  (s.clk.rs == .armed && !s.clk.held) || (s.clk.rs == .run && s.groupsOff && s.yard.pend.isEmpty)

/-- Entry into MAINT: the start hold is set to 1 (R55, R435). -/
def State.enterMaint (s : State) : State := { s with clk := { s.clk with rs := .maint }, sp := { s.sp with hold := true } }

/-- The mailbox command behind a request ends with its RESULT, where it still runs (R472, R474). -/
def State.maintResult (s : State) (enter ok : Bool) : State :=
  match s.cp.mbx with
  | some m => if m.code = (if enter then 0x10 else 0x11) then s.mbxEnd (if ok then 0 else 3) else s
  | none => s

/-- The request that the kennel has accepted takes effect at the cycle end, or is refused (R435, R436). -/
def State.maintEnd (s : State) : State :=
  let s' := { s with cp := { s.cp with maint := none } }
  match s.cp.maint with
  | some true => if s.maintAllowed then s'.enterMaint.maintResult true true else s'.maintResult true false
  | some false => if s.clk.rs == .maint then s'.enterArmed.maintResult false true else s'.maintResult false false
  | none => s

/-- The pulse of the cycle: SIN_STARTUP (R58), recovery (R355), or the move to RUN (R434). -/
def State.pulseEnd (s : State) : State :=
  let pulse := s.sheets.any (fun k => (s.sheet k).pulse)
  let pending := s.sheets.any (fun k => (s.sheet k).com.any (·.stPend))
  let s := if pulse && pending then s.err .sinStartup 0 else s
  if s.clk.rs == .safe then (if s.freshPulse then s.recover else s)
  else if s.clk.rs == .armed && s.sp.hold && s.allSheets (·.pulse) then
    { s with clk := { s.clk with rs := .run }, sp := { s.sp with hold := false } }
  else s

/-! ## BARK (R118 to R121, R227) -/

/-- BARK_A changes level when the commands are written; `was`: the run state of the cycle that ends barks. -/
def State.barkA (s : State) (was : Bool) : State :=
  if was && s.barks && !s.sout.barkHold && (!s.pair.split || s.fab.wrote.all id) then (s.fifoPush 1 .bark).drainSio else s

/-- BARK_B changes level at the cycle-start tick; in S while every timing watchdog holds. A multiplexer without a source holds it
low (R221). -/
def State.barkB (s : State) : State :=
  if s.barks && !s.sout.barkHold then
    if s.routedBark && (!s.pair.split || s.fab.wd.all id) then { s with sout := { s.sout with barkB := !s.sout.barkB, barkBat := s.now } }
    else { s with sout := { s.sout with barkB := false } }
  else s

/-! ## The input read (R134, R191, R322, R379) -/

/-- An input of R191 has changed against the last solo cycle's read. -/
def State.soloChanged (s : State) : Bool :=
  s.sp.rdPairs != s.sp.soloPairs || s.mot.wheels.map (fun w => w.a.cnt) != s.sp.soloCnts ||
    s.col.slots.map (fun x => (x.a.dataA, x.a.dataB)) != s.sp.soloColl || s.yard.conns.map (fun c => c.a.data) != s.sp.soloYard ||
    s.sh0.pulse != s.sp.soloPulse

/-- The inputs of R191 as the read leaves them. A solo read, which a rejoin at the same boundary makes the first paired
one, keeps its comparison with the solo read before it. -/
def State.handoverInputs (s : State) : State :=
  if s.pair.solo then ({ s with pair := { s.pair with hoInput := s.soloChanged } }).soloRead
  else if s.pair.howin = 0 then s
  else { s with pair := { s.pair with hoInput := s.pair.hoInput || s.soloChanged } }

/-- A LAUNCH LOCAL clears at a read that finds none of the conditions of R321 holding (R322). -/
def State.launchReads (s : State) : State :=
  s.clearLocals (fun k i c => c == LocalCause.launch && (s.launchBlocked k (ogIndex (s.sheet k).recs i)).isNone)

/-- The validated value of a pair as the kennel has it after taking FIFO 0: the present one, but where a datum of the pair still waits
the last one taken, else the value of the read before (R417). -/
def State.readPair (s : State) (q : List Datum) (late : Datum → Bool) (n : Nat) : Bool :=
  let mine := fun (d : Datum) => match d with
    | .input m _ _ => m == n
    | _ => false
  if (q.filter late ++ (s.fifo 0).held).any mine then
    match (q.filter (fun d => mine d && !late d)).getLast? with
    | some (.input _ v _) => v
    | _ => nth false s.sp.rdPairs n
  else (s.inPair n).va.value

/-- The kennel reads its inputs; a datum in `missed`, validated within 25 µs before, misses the read (R379). A LOCAL whose
reset condition the read itself meets is gone in the cycle that it begins (R35, R276). -/
def State.readInputs (s : State) (missed : List (Fin 32)) : State :=
  let pairs := (List.range 32).map (s.readPair (s.fifo 0).q (s.missesRead missed))
  let s := ((s.kennelEdges missed).compareCounts 0).compareCounts 1
  let s := ((s.connReads.slotReads).thirdSource).launchReads
  let pulse := fun (h : Sheet) => { h with pulse := h.pulseIn, pulseIn := false }
  let s := { s with
    sh0 := pulse s.sh0, sh1 := pulse s.sh1
    sp := { s.sp with rdPairs := pairs, rdAt := s.now, rdYt := s.ytime, rdSolo := s.pair.solo } }
  let s := s.openings
  ({ s with sp := { s.sp with rdLoc0 := s.sh0.holds, rdLoc1 := s.sh1.holds } }).handoverInputs

/-! ## The boundary -/

/-- Entry into ARMED from LOAD at the first boundary (R94, R424, R432, R561): TP schedules and validators start, every
start-up test is pending, and standstill is judged from here. -/
def State.armFromLoad (s : State) : State :=
  let s := (s.enterArmed.armInputs.armOutputs).pendTests
  let ch := fun (at_ : Nat) (w : WheelCh) => { w with last := at_ }
  let s := { s with
    cp := { s.cp with cycle := 0 }
    clk := { s.clk with loadStep := 0, armedOnce := true, tarmed := s.stage }
    mot := { s.mot with wheels := s.mot.wheels.map (fun (w : Wheel) => { w with a := ch s.ytime w.a, b := ch s.now w.b }) } }
  (s.readInputs []).barkB

/-- A kennel RAM reload (R203): the sheet records and channel A's state words come anew from the running bank, and nothing else of
kennel RAM is known. -/
def State.reloadRam (s : State) : State :=
  let l := s.running_
  let one := fun (n : Nat) (h : Sheet) => if h.loaded then
    { h with recs := (sheetOf (section_ l n)).recs, a := h.a.map (fun _ => {}), com := List.zipWith (fun (c : InstCom) (r : List Byte) =>
        { c with stPend := c.stPend || rStartup r, stOpen := false }) h.com h.recs } else h
  { s.kramAnew with sh0 := one 1 s.sh0, sh1 := one 2 s.sh1 }

/-- A cycle-entry restart that is due takes place, with the reload that goes with it (R164, R203, R204). -/
def State.restartDue (s : State) : State :=
  if s.pair.restart then
    let s := if s.pair.ramReload then s.reloadRam else s
    { s.cycleEntry with pair := { s.cycleEntry.pair with resyncPend := false, ramReload := false } }
  else s

/-- The first part of a cycle end: what the hardware observed, the evaluation, the commands, the comparisons and the errors
found. -/
def State.cycleWrite (s : State) (o : CycleObs) : State :=
  let old0 := s.sh0.a
  let old1 := s.sh1.a
  let lost := if o.mismatch.isSome && s.comparing then o.lost else []
  let s := s.restartDue.observe o
  let s := { s with fab := { s.fab with wrote := if s.pair.split then [!o.late0, !o.late1] else [true, true] } }
  let r0 := if s.pair.split && o.late0 then (s, []) else s.evalA 0 lost
  let r1 := if s.pair.split && o.late1 then (r0.1, []) else r0.1.evalA 1 []
  let s := if s.pair.split then (r1.1.command 0 old0).command 1 old1 else r1.1.command 0 old0
  let s := if s.yard.committed && (s.originates 0 old0 || (s.pair.split && s.originates 1 old1)) then s.whistleOut s.boundaryYt else s
  let x := s.compare
  (((x.1.raiseAll r0.2).raiseAll r1.2).raiseAll x.2).handoverWindow.monitorBoundary

/-- The rest of a cycle end and the start of the next cycle; `barked`: the cycle was one in which BARK toggles. -/
def State.cycleNext (s : State) (o : CycleObs) (barked : Bool) : State :=
  let s := (List.range 64).foldl State.produce s.grants
  let s := (s.pulseEnd.maintEnd).recordEnd
  let s := { s with cp := { s.cp with cycle := (s.cp.cycle + 1) % 65536 } }
  ((s.barkA barked).readInputs o.missed).barkB

/-- The kennel takes up its schedule after a halt: the commands of the cycle that ended late are discarded (R194, R200, R204). -/
def State.takeUp (s : State) (o : CycleObs) : State :=
  let com := fun (h : Sheet) => { h with com := h.com.map (fun (c : InstCom) => { c with capOk := false }) }
  let s := s.restartDue.observe o
  if s.live then
    let s := ({ s with pair := { s.pair with lateCyc := false }, sh0 := com s.sh0, sh1 := com s.sh1 } : State).recordEnd
    (({ s with cp := { s.cp with cycle := (s.cp.cycle + 1) % 65536 } } : State).readInputs o.missed).barkB
  else s

/-- The end of a cycle and the start of the next. -/
def State.cycleEnd (s : State) (o : CycleObs) : State :=
  if s.pair.lateCyc then s.takeUp o
  else
  let w := s.cycleWrite o
  if w.live then w.cycleNext o s.barks else w

/-- CYCLE_BOUNDARY: a cycle ends and the next begins, or LOAD ends in ARMED at its first boundary. The comparator is on in LOAD too
(R167). -/
def State.boundary (s : State) (o : CycleObs) : State :=
  if s.clk.rs == .load then
    let s := s.observe o
    if s.clk.rs == .load && !s.clk.held && s.clk.loadStep = 9 && s.boundaryDue then s.armFromLoad else s
  else if s.cycles && s.boundaryDue then s.cycleEnd o
  else s

def execCycleBoundary (t : Nat) (obs : CycleObs) (s : State) : Host.Outcome State Fault Refusal :=
  actAt true t s (fun s => s.boundary obs)

/-! ## The capture (R15) -/

/-- Channel B is captured at every cross-check point, 12 µs after the read, once a cycle, through the capture
multiplexers (R235); an upset shows the other value. -/
def State.capture (s : State) (upsets : List (Fin 2 × Fin 512)) : State :=
  if s.pair.split || !s.cycles || s.sh0.com.any (·.capOk) || s.now < s.sp.rdAt + 12 * us then s
  else
    let h := s.sh0
    let point := fun (i : Nat) => ((h.recs.take i).filter rCheck).length
    let one := fun (i : Nat) (e : List Byte × InstCom × InstSt) =>
      if rCheck e.1 then
        { e.2.1 with cap := (e.2.2.b0 && s.routedPoint (point i)) != upsets.any (fun u => u.1.val == 0 && u.2.val == i), capOk := true }
      else e.2.1
    { s with sh0 := { h with com := mapIdx one (List.zip h.recs (List.zip h.com h.b)) } }

def execCrossCheckCapture (t : Nat) (upsets : List (Fin 2 × Fin 512)) (s : State) : Host.Outcome State Fault Refusal :=
  act t s (fun s => s.capture upsets)

end Sys2Proof.Machine
end

