-- ==== Sys2Proof/Machine/Faults.lean ====
section
/-!
DEFINITION. Fault records in the ring, acknowledgements, FSTAT, alerts, and the clearing of LOCALs by time (10), with the
class map (R337, R338).
-/
namespace Sys2Proof.Machine

/-! ## The ring (R345 to R348, R359) -/

/-- The next content that is due is written, COMMIT last; while log writes are blocked it waits (R348, R401). -/
def State.recordWrite (s : State) : State :=
  match s.flt.due with
  | (r, first) :: q =>
    if !s.live || !s.flt.on then s
    else if s.seq.belowAbandon then
      ({ s with flt := { s.flt with due := q, blocked := holdRec s.flt.blocked (r, first), wrAband := sat8 s.flt.wrAband } }).alert 6
    else
      let first := first || s.flt.blocked.any (fun e => e.1.recno == r.recno && e.2)
      let lost := first && s.overwrites r.recno
      let mark := fun (o : OpenRec) => if o.r.recno = r.recno then { o with written := true } else o
      let s := (s.mramWrite (faultAddr (faultSlotOf r.recno)) r.bytes)
      let s := { s with flt := { s.flt with
        due := q, rec? := s.flt.rec?.map mark, head := if first then r.recno else s.flt.head
        blocked := s.flt.blocked.filter (fun e => e.1.recno != r.recno) } }
      if lost then s.alert 5 else s
  | [] => s

/-- FAULT_RECORD_WRITE (R347, R348). -/
def execFaultRecordWrite (t : Nat) (s : State) : Host.Outcome State Fault Refusal := act t s State.recordWrite

/-- LOCAL_REACTION_TIMEOUT (R341): the class of the record rises to STOP, and the device enters SAFE. -/
def State.localLate (s : State) : State :=
  match s.flt.rec? with
  | some o =>
    if o.r.cls == .loc && decide (o.locAt + 100 * ms ≤ s.now) && !s.localDone o.r.recno then
      ({ s with flt := { s.flt with rec? := some { o with r := { o.r with cls := .stop }, dirty := true } } }).stop
    else s
  | none => s

def execLocalReactionTimeout (t : Nat) (s : State) : Host.Outcome State Fault Refusal := act t s State.localLate

/-! ## LOCALs that clear by time (R339, R558) -/

/-- DEVICE_LOCAL_CLEAR (R339). -/
def State.deviceClear (s : State) (src : Src) : State :=
  if deviceScope src && s.quiet src then s.clearLocals (fun _ _ c => c == LocalCause.device src) else s

def execDeviceLocalClear (t : Nat) (src : Src) (s : State) : Host.Outcome State Fault Refusal := act t s (fun s => s.deviceClear src)

/-- The catalogue's reset condition of an instance whose LOCAL R558 clears: that of R151 for the motion limits. -/
def State.resetMet (s : State) (k i : Nat) : Bool :=
  let r := s.recAt k i
  let c := s.com k i
  if rMotion r && !rIs .mute r then
    match c.motSince with
    | some a => decide (a + 1000 * ms ≤ s.now)
    | none => false
  else s.catalogueMet r c

/-- SOURCE_LOCAL_CLEAR (R558). -/
def State.sourceClear (s : State) (src : Src) : State :=
  if s.quiet src then s.clearLocals (fun k i c => c == LocalCause.mapped src && s.resetMet k i) else s

def execSourceLocalClear (t : Nat) (src : Src) (s : State) : Host.Outcome State Fault Refusal := act t s (fun s => s.sourceClear src)

/-! ## Register writes of the host (R335, R350, R360, R409, R469) -/

/-- A write to a register takes effect while the control port answers. -/
def State.onPort (s : State) (f : State → State) : State := if s.cp.on then f s else s

/-- The FSTAT bits that stay set whatever is written: an active line, or a part of the open record. -/
def State.fstatHeld (s : State) : Nat :=
  bitmap ((List.range 41).map s.active) ||| (match s.flt.rec? with
    | some o => o.r.srcmap
    | none => 0)

/-- A write to FSTATr (R335). -/
def State.fstatWrite (s : State) (r : Nat) (v : Word) : State :=
  let ones := v.toNat * 2 ^ (16 * r)
  { s with flt := { s.flt with fstat := s.flt.fstat - (s.flt.fstat &&& ones &&& (2 ^ 64 - 1 - s.fstatHeld % 2 ^ 64)) } }

def execFstatClear (t : Nat) (reg : Fin 4) (value : Word) (s : State) : Host.Outcome State Fault Refusal :=
  act t s (fun s => s.onPort (fun s => s.fstatWrite reg value))

/-- A write to FAULT.ACK (R350): closes the record only. -/
def State.ackWrite (s : State) (v : Word) : State :=
  match s.flt.rec? with
  | some o =>
    let done := match o.r.cls with
      | .note => o.written
      | .loc => s.localDone o.r.recno
      | _ => false
    if done && v.toNat == o.r.recno % 65536 then s.closeRecord else s
  | none => s

def execFaultAck (t : Nat) (value : Word) (s : State) : Host.Outcome State Fault Refusal :=
  act t s (fun s => s.onPort (fun s => s.ackWrite value))

/-- A write to FAULT.RIDX latches the slot's 32 bytes (R360). -/
def State.ridxWrite (s : State) (v : Word) : State :=
  let i := v.toNat % 4096
  { s with flt := { s.flt with ridx := i, buf := s.faultSlot i } }

def execRidx (t : Nat) (value : Word) (s : State) : Host.Outcome State Fault Refusal :=
  act t s (fun s => s.onPort (fun s => s.ridxWrite value))

/-- A write to SEQ.SIDX latches the slot's 64 bytes (R409). -/
def State.sidxWrite (s : State) (v : Word) : State :=
  let i := v.toNat % 256
  { s with seq := { s.seq with sidx := i, snapBuf := s.snapSlot i } }

def execSidx (t : Nat) (value : Word) (s : State) : Host.Outcome State Fault Refusal :=
  act t s (fun s => s.onPort (fun s => s.sidxWrite value))

/-- A write to ALERT_SRC: a bit that an event sets at the same instant stays set (R469). -/
def State.alertWrite (s : State) (v : Word) : State :=
  let now := if s.cp.alertAt = s.now then s.cp.alertNow else 0
  { s with cp := { s.cp with alertSrc := s.cp.alertSrc - (s.cp.alertSrc &&& v.toNat &&& (0xFFFF - now % 0x10000)) } }

def execAlertSrcClear (t : Nat) (value : Word) (s : State) : Host.Outcome State Fault Refusal :=
  act t s (fun s => s.onPort (fun s => s.alertWrite value))

/-! ## The class map (R337, R338) -/

/-- The entry of FSTAT bit b in a class map. -/
def mapClass (l : List Byte) (b : Nat) : Nat := field (byteAt l (b / 4)) (2 * (b % 4) + 1) (2 * (b % 4))

/-- The lowest source bit whose entry fails R338. -/
def classMapErr (l : List Byte) : Option Nat :=
  (List.range 64).find? (fun b => match Src.all[b]? with
    | some src => decide (mapClass l b < (minClass src).code)
    | none => mapClass l b != 0)

def State.loadMap (s : State) (l : List Byte) : State := { s with flt := { s.flt with map := padTo 16 l } }

end Sys2Proof.Machine
end

