-- ==== Sys2Proof/Machine/Fabric.lean ====
section
/-!
DEFINITION. The Wiltex fabric (07): the fabric section and its checks, load and commit, the scrubber, and the probes.
-/
namespace Sys2Proof.Machine

/-! ## The checks (R240) -/

/-- CODE 0x1: a reserved bit or byte of a frame is not 0. -/
def frameReserved (i : Nat) (f : List Byte) : Bool :=
  let sels := fun (lo n : Nat) => (List.range n).all (fun k => selOk f (lo + 2 * k))
  if i < 1152 then
    match i % 12 with
    | 0 => (List.range 16).all (fun m => (mcWord f m &&& 0xFF000008) == 0) &&
        (if i = 0 then zeroIn f 66 67 && zeroIn f 78 127 else zeroIn f 66 127)
    | 1 => sels 0 54 && zeroIn f 108 127
    | _ => (List.range 8).all (fun k => decide (byteAt f (14 * k + 13) < 16)) && zeroIn f 112 127
  else
    match i - 1152 with
    | 0 => sels 2 2 && decide (byteAt f 6 < 4) && zeroIn f 7 127
    | 1 => sels 0 33 && zeroIn f 66 127
    | 2 => sels 0 64
    | 9 => (List.range 8).all (fun p => (beAt f (4 * p) 4 &&& 0x7E03F800) == 0) && zeroIn f 32 127
    | _ => (List.range 16).all (fun k => selOk f (8 * k) && selOk f (8 * k + 2) && selOk f (8 * k + 4) &&
        decide (byteAt f (8 * k + 6) < 128) && decide (byteAt f (8 * k + 7) < 2))

/-- CODE 0x3: every selector lies in its destination's range (R220). -/
def frameRanges (i : Nat) (f : List Byte) : Bool :=
  if i < 1152 then
    if i % 12 = 1 then (List.range 54).all (fun k =>
      let v := sel f (2 * k)
      if i < 576 then srcIn 0 0x2FF v || srcIn 0xA00 0xBFF v else srcIn 0x300 0x95F v)
    else true
  else
    match i - 1152 with
    | 0 => srcIn 0x300 0x65F (sel f 2) && srcIn 0x300 0x65F (sel f 4)
    | 1 => (List.range 33).all (fun k => srcIn 0 0x2FF (sel f (2 * k)))
    | 2 => (List.range 64).all (fun k => srcIn 0 0x2FF (sel f (2 * k)))
    | 9 => (List.range 8).all (fun p => decide (field (beAt f (4 * p) 4) 10 0 ≤ 0x5FF))
    | _ => (List.range 16).all (fun k =>
        let o := sel f (8 * k)
        let top := o + 2 ^ (byteAt f (8 * k + 6) / 16 % 4) - 1
        (o == 0xFFF || srcIn 0x300 0x5FF o && decide (top ≤ 0x5FF)) && srcIn 0x300 0x5FF (sel f (8 * k + 2)) &&
          srcIn 0x300 0x5FF (sel f (8 * k + 4)))

/-- A reserved index of the source map (R219). -/
def srcReserved (v : Nat) : Bool :=
  decide (0x960 ≤ v) && decide (v < 0xA00) || decide (0xA2B ≤ v) && decide (v < 0xA40) || decide (0xA78 ≤ v) && decide (v < 0xA80) ||
  decide (0xAB0 ≤ v) && decide (v < 0xAC0) || decide (0xAC2 ≤ v) && decide (v < 0xB00) || decide (0xC00 ≤ v) && decide (v < 0xFFF)

/-- The macrocell words of a pen keep R213, R215 and the CESEL rule, and use no reserved encoding. CIN 0b00 at position 0 of a column
is invalid but in the word of all zeros, which R214 gives to an unused macrocell. -/
def penOk (i : Nat) (f : List Byte) : Bool :=
  let ws := (List.range 16).map (mcWord f)
  let dest := mapIdx (fun m w => steerTo m (mcSteer w)) ws
  let legal := mapIdx (fun m w =>
    (mcSteer w == 7 || match steerTo m (mcSteer w) with
      | some d => decide (d < 16)
      | none => false) &&
    decide (mcCarry w ≤ 1) && mcCin w != 3 && mcCesel w != 3 && (mcCesel w != 1 || mcSteer w == 0) &&
    (mcCesel w != 2 || decide (mcCein w ≤ 53)) &&
    !(i / 12 % 4 == 0 && m == 0 && w != 0 && mcCin w == 0)) ws
  let borrowed := (List.range 16).all (fun m => decide (((mapIdx (fun k d => d == some m && k != m) dest).filter id).length ≤ 3))
  legal.all id && borrowed && decide (byteAt f 65 ≤ 1)

/-- CODE 0x4 (DEDUCED, notes/assumptions/26.md: the reserved encodings are those of R214, R219, R233 and R235). -/
def frameEncodings (i : Nat) (f : List Byte) : Bool :=
  if i < 1152 then
    match i % 12 with
    | 0 => penOk i f
    | 1 => (List.range 54).all (fun k => !srcReserved (sel f (2 * k)))
    | _ => true
  else if 1155 ≤ i && i < 1161 then (List.range 16).all (fun k => decide (byteAt f (8 * k + 6) % 8 ≤ 3))
  else true

/-- CODE 0x5: R218, the tree sources, and clock FIOs in input mode with direct transfer. -/
def frameTrees (frames : List (List Byte)) (i : Nat) (f : List Byte) : Bool :=
  if i < 576 && i % 12 = 0 then (List.range 16).all (fun m => decide (mcClk (mcWord f m) ≤ 1) && !mcSr1 (mcWord f m))
  else if i = 1152 then
    [byteAt f 0, byteAt f 1].all (fun v => gclkOk v && match gclkFio v with
      | some n => byteAt (fioRec frames n) 6 % 64 == 1
      | none => true)
  else true

/-- The parallel clock of an FIO record in MHz, none where an FIO gives the clock. -/
def parMhz (frames : List (List Byte)) (r : List Byte) : Option Nat :=
  match byteAt (nth [] frames 1152) (if bit (byteAt r 6) 6 then 1 else 0) with
  | 0 => some 0
  | 1 => some 200
  | 2 => some 100
  | 3 => some 50
  | 4 => some 25
  | _ => none

/-- CODE 0x6: R228, R229, and a probe that names an FIO in use. -/
def frameFio (bank0 bank1 : Bool) (frames : List (List Byte)) (i : Nat) (f : List Byte) : Bool :=
  if i = 1152 then bit (byteAt f 6) 0 == bank0 && bit (byteAt f 6) 1 == bank1
  else if 1155 ≤ i && i < 1161 then
    (List.range 16).all (fun k =>
      let r := (f.drop (8 * k)).take 8
      fioRatio r == 1 || match parMhz frames r with
        | some m => decide (fioRatio r * m ≤ 400)
        | none => true)
  else if i = 1161 then
    (List.range 8).all (fun p =>
      let v := probeOf (beAt f (4 * p) 4)
      !v.on || (decide (v.fio < 96) && fioMode (fioRec frames v.fio) == 0))
  else true

/-- What the image says beside the fabric section: arrangement, the CYCLE code, the outputs that sheets own, and the
cross-check points of sheet 0. -/
structure FabCtx where
  arrS : Bool
  cycle : Nat
  owned : Nat
  points : Nat

/-- CODE 0x7 (R226, R233, R235). -/
def frameLayout (c : FabCtx) (i : Nat) (f : List Byte) : Bool :=
  if i < 1152 then
    match i % 12 with
    | 0 => byteAt f 64 == i / 12 && (i != 0 || (byteAt f 76 == c.cycle && byteAt f 77 == flag c.arrS))
    | 1 => c.arrS || decide (576 ≤ i) || (List.range 54).all (fun k =>
        let v := sel f (2 * k)
        !(decide (0xAA0 ≤ v) && decide (v ≤ 0xAAF)) && v != 0xAC0 && v != 0xAC1)
    | _ => true
  else if i = 1153 then
    if c.arrS then (List.range 16).all (fun n => sel f (2 * n) == 0xFFF && (bit c.owned n || sel f (34 + 2 * n) == 0xFFF))
    else (List.range 16).all (fun n => sel f (34 + 2 * n) == 0xFFF)
  else if i = 1154 then (List.range 64).all (fun k => (sel f (2 * k) == 0xFFF) == (c.arrS || decide (c.points ≤ k)))
  else true

/-- FAB.CFGERR (R251). -/
def fabErrWord (code item : Nat) : Nat := item % 2048 + 2048 * code + 0x8000

/-- The first frame, in index order, that fails a test. -/
def firstFrame (p : Nat → List Byte → Bool) (frames : List (List Byte)) : Option Nat := (mapIdx (fun i f => (i, p i f)) frames).findSome? (fun e =>
  if e.2 then none else some (frameAddr e.1))

/-- The checks of R240 in code order: FAB.CFGERR, 0 when the section passes. -/
def fabErr (bank0 bank1 : Bool) (c : FabCtx) (l : List Byte) : Nat :=
  let frames := fabFrames l
  let crcs := fabCrcs l
  if beAt l 0 2 != 1 || beAt l 2 2 != 0x048A || beAt l 4 2 != 0x0080 || decide (2 ≤ byteAt l 8) || !zeroIn l 9 31 then fabErrWord 1 0x7FF
  else
    let tests : List (Nat × (Nat → List Byte → Bool)) :=
      [(1, frameReserved), (2, fun i f => (crc32c f).toNat == nth 0 crcs i), (3, frameRanges), (4, frameEncodings),
       (5, frameTrees frames), (6, frameFio bank0 bank1 frames), (7, frameLayout c)]
    match tests.findSome? (fun e => (firstFrame e.2 frames).map (fun a => (e.1, a))) with
    | some e => fabErrWord e.1 e.2
    | none => if 1100 < beAt l 6 2 then fabErrWord 8 0x7FF else 0

/-! ## Load and commit (R237 to R242, R249) -/

/-- The fabric is empty (R237): what a load starts from, and what FABCFG and FABLOGIC leave. The counts since power-up and
the selectors stay. -/
def Fab.emptied (f : Fab) : Fab :=
  { scrubcnt := f.scrubcnt, scruberr := f.scruberr, lastfrm := f.lastfrm, errs := f.errs, passtime := f.passtime
    bankNow0 := f.bankNow0, bankNow1 := f.bankNow1, feed0 := f.feed0, feed1 := f.feed1, fsel := f.fsel, fwsel := f.fwsel, prbsel := f.prbsel, prberr := f.prberr
    gate := f.gate, wd := f.wd, rbSince := f.rbSince, wrote := f.wrote, disagree := f.disagree }

def State.emptyFabric (s : State) : State := { s with fab := s.fab.emptied, logic := { fio := s.logic.fio } }

/-- The image records of the probes as the life cycle has them take effect (R249). -/
def Fab.imageProbes (f : Fab) (field : Bool) : Fab :=
  { f with probes := (List.range 8).map (fun p =>
      let v := probeOf (probeRec f.cells p)
      { v with on := v.on && (!field || f.probeField) }) }

/-- The values that the macrocells take while set/reset is asserted (R214). -/
def srValues (frames : List (List Byte)) : List Bool :=
  (List.range 96).flatMap (fun p => (List.range 16).map (fun m => mcSrval (mcWord (nth [] frames (12 * p)) m)))

/-- What the part has of a section before it loads it (R228, R251): CHBDEPTH and BANKV of the image, and the supplies as sensed. -/
def State.fabHeader (s : State) (l : List Byte) (now0 now1 : Bool) : State :=
  let b := byteAt (nth [] (fabFrames l) 1152) 6
  { s with fab := { s.fab with
      chbdepth := beAt l 6 2, bankImg0 := bit b 0, bankImg1 := bit b 1, bankNow0 := now0, bankNow1 := now1
      feed0 := now0, feed1 := now1 } }

/-- Every frame is written, in index order (R238): the load is under way until the commit (DEDUCED, notes/assumptions/112.md). -/
def State.fabWrite (s : State) (l : List Byte) : State :=
  { s with fab := { s.fab with loading := true, cells := fabFrames l } }

/-- The commit of what has been written and read back (R241). -/
def State.fabCommit (s : State) (l : List Byte) : State :=
  let f : Fab := { s.fab with
    loading := false, committed := true, gsr := false, probeField := bit (byteAt l 8) 0, refs := fabCrcs l
    commitAt := s.now, passAt := s.now + 371 * us }
  { s with fab := f.imageProbes s.field, logic := { fio := s.logic.fio, regs := srValues f.cells } }

/-- SHEET_CRC of a sheet as read back from the identification frame (R59, R233). -/
def State.idCrc (s : State) (k : Nat) : Nat := beAt (nth [] s.fab.cells 0) (68 + 4 * k) 4

/-! ## Scrubbing (R244 to R248) -/

/-- A cell of a frame flips. -/
def flipCell (l : List Byte) (b : Nat) : List Byte := updAt (fun x => x ^^^ BitVec.ofNat 8 (2 ^ (b % 8))) l (b / 8)

/-- Detections of a frame in error within the last 60 min (R247). -/
def State.frameErrs (s : State) (i : Nat) : Nat :=
  (s.fab.errs.filter (fun e => e.1 == i && decide (s.now < e.2 + 3600 * 1000 * ms))).length

/-- A frame is found in error (R245, R247, R251). -/
def State.frameError (s : State) (i : Nat) : State :=
  let s := { s with fab := { s.fab with
    scruberr := sat16 s.fab.scruberr, lastfrm := w16 (frameAddr i + 0x8000)
    errs := (i, s.now) :: s.fab.errs.filter (fun e => decide (s.now < e.2 + 3600 * 1000 * ms))
    reload := if s.fab.reload.any (· == i) then s.fab.reload else s.fab.reload ++ [i] } }
  s.raise .fabScrub (frameAddr i) (if 4 ≤ s.frameErrs i then .stop else .note)

/-- SCRUB_PASS: the pass that ends at its due time. PASSTIME: 371.84 µs to 400 µs (R244). A reference error names no
frame (R248): its DETAIL is a free value. -/
def State.scrub (s : State) (upsets : List (Fin 1162 × Fin 1024)) (refError : Bool) : State :=
  if s.live && s.fab.committed && decide (s.fab.passAt ≤ s.now) then
    let cells := upsets.foldl (fun c u => updAt (fun f => flipCell f u.2) c u.1) s.fab.cells
    let bad := idxsWhere (fun (e : List Byte × Nat) => (crc32c e.1).toNat != e.2) (List.zip cells s.fab.refs) 0
    let s := { s with fab := { s.fab with
      cells := cells, scrubcnt := (s.fab.scrubcnt + 1) % 65536, passtime := 371 + Config.freeNat s.free % 30
      passAt := s.fab.passAt + 2000 * us } }.fresh
    let s := bad.foldl State.frameError s
    if refError then (s.raise .fabScrub (frameAddr (Config.freeNat s.free % 1162)) .stop).fresh else s
  else s

def execScrubPass (t : Nat) (upsets : List (Fin 1162 × Fin 1024)) (refError : Bool) (s : State) :
    Host.Outcome State Fault Refusal := act t s (fun s => s.scrub upsets refError)

/-- The frame of the running bank (R245, R489). -/
def State.bankFrame (s : State) (i : Nat) : List Byte := ((section_ s.running_ 10).drop (32 + 128 * i)).take 128

/-- The 1 µs before a capture instant, in which no frame of a safety pen and no frame 0x600 to 0x602 is written (R246). -/
def State.captureNear (s : State) : Bool :=
  s.cycles && !s.pair.split && decide (s.sp.rdAt + 11 * us ≤ s.now) && decide (s.now < s.sp.rdAt + 12 * us)

/-- SCRUB_RELOAD (R245, R246, R248). -/
def State.reloadFrame (s : State) (i : Nat) : State :=
  let guarded := decide (i < 576) || (decide (1152 ≤ i) && decide (i ≤ 1154))
  if s.live && s.fab.committed && s.fab.reload.any (· == i) && !(guarded && s.captureNear) then
    let f := s.bankFrame i
    let s := { s with fab := { s.fab with reload := s.fab.reload.filter (· != i) } }
    if (crc32c f).toNat = nth 0 s.fab.refs i then { s with fab := { s.fab with cells := setAt s.fab.cells i f } }
    else s.err .image 0
  else s

def execScrubReload (t : Nat) (frame : Fin 1162) (s : State) : Host.Outcome State Fault Refusal :=
  act t s (fun s => s.reloadFrame frame)

/-! ## Probes (R249, R250) -/

/-- A live write is ignored and recorded in PRBERR. -/
def State.probeErr (s : State) (p cause : Nat) : State :=
  { s with fab := { s.fab with prberr := w16 (p + 8 * cause + 0x8000) } }

/-- The first fault of a set of probes, as (probe, cause), where the probes named change. -/
def probesBad (frames : List (List Byte)) (ps : List Probe) (which : List Nat) : Option (Nat × Nat) :=
  which.findSome? (fun n =>
    let p := nth ({} : Probe) ps n
    let taken := (mapIdx (fun k (q : Probe) => k != n && q.on && q.fio == p.fio) ps).any id
    if 96 ≤ p.fio || fioMode (fioRec frames p.fio) != 0 then some (n, 1)
    else if taken then some (n, 2)
    else if 0x5FF < p.src then some (n, 3)
    else none)

/-- A write of PRBCTL (0x8E), PRBSRC (0x90) or PRBFIO (0x91); LK in FIELD. No probe is on before the commit (R237). -/
def State.probeWr (s : State) (addr : Nat) (value : Word) : State :=
  let v := value.toNat
  let n := s.fab.prbsel
  let put := fun (ps : List Probe) (which : List Nat) =>
    match probesBad s.fab.cells ps which with
    | some e => s.probeErr e.1 e.2
    | none => { s with fab := { s.fab with probes := ps } }
  if addr = 0x8E || addr = 0x90 || addr = 0x91 then
    if s.field then s.lkRefused addr
    else if addr = 0x8E then
      if !s.fab.committed then s else put (mapIdx (fun k (p : Probe) => { p with on := bit v k }) s.fab.probes) ((List.range 8).filter (fun k => bit v k))
    else if addr = 0x90 then
      if 0x5FF < v % 2048 then s.probeErr n 3
      else { s with fab := { s.fab with probes := updAt (fun (p : Probe) => { p with src := v % 2048 }) s.fab.probes n } }
    else
      put (updAt (fun (p : Probe) => { p with fio := v % 128 }) s.fab.probes n) [n]
  else s

def execProbeWrite (t : Nat) (addr : Byte) (value : Word) (s : State) : Host.Outcome State Fault Refusal :=
  act t s (fun s => whenLive s (fun s => s.probeWr addr.toNat value))

end Sys2Proof.Machine
end

