-- ==== Sys2Proof/Machine/Farrier.lean ====
section
/-!
DEFINITION. The farrier (14): the tests, the start-up set, the rotation set, host runs, CMPINJ (R165 to R167), and what
follows a failed test.
-/
namespace Sys2Proof.Machine

/-! ## The tests (R440) -/

/-- Duration of a test in µs. -/
def farrUs : Nat → Nat
  | 1 => 3200
  | 2 => 3200
  | 3 => 2600
  | 4 => 1900
  | 5 => 12000
  | 6 => 1100
  | 7 => 40000
  | 8 => 22
  | 12 => 200
  | 13 => 500
  | _ => 300

/-- Extra current of a test in mA. -/
def farrMa : Nat → Nat
  | 1 => 450
  | 2 => 450
  | 3 => 300
  | 4 => 60
  | 5 => 90
  | 6 => 80
  | 7 => 350
  | 8 => 5
  | 12 => 5
  | 13 => 2
  | _ => 40

/-- The start-up set (R440). -/
def farrStartup : List Nat := [1, 2, 3, 4, 5, 6, 9, 10, 11, 12, 13]

/-! ## Failure (R449) -/

/-- FIRSTFAIL (R450). -/
def State.firstFail (s : State) (code : Nat) : State :=
  { s with farr := { s.farr with firstFail := if s.farr.firstFail = 0 then w16 (code + 0x8000) else s.farr.firstFail } }

/-- A failed test or check of R440: no further test runs, and FARRIER's line stays active until power-up. -/
def State.farrFail (s : State) (code : Nat) : State :=
  let s := s.firstFail code
  ({ s with farr := { s.farr with todo := [], busy := false, failHold := true } }).line .farrier true code

/-! ## The end of a set (R443, R447, R452) -/

/-- The set in hand ends: nothing of it is left to run. A set that a fault has stopped is not complete (R452). -/
def State.setEnd (s : State) : State :=
  if s.farr.stopped then
    let s' : State := { s with farr := { s.farr with busy := false } }
    if s.farr.origin == .host then s'.hostRestore else s'
  else if s.farr.todo.isEmpty then
    match s.farr.origin with
    | .startup =>
      { s with farr := { s.farr with busy := false, setOk := true, setdur := Nat.min ((s.now - s.farr.setAt) / (10 * us)) 0xFFFF }
               pair := { s.pair with rotFrom := some s.now } }
    | .rotation => { s with farr := { s.farr with busy := false } }
    | .host => ({ s with farr := { s.farr with busy := false, hostcnt := sat16 s.farr.hostcnt } }).hostRestore
    | .none => s
  else s

/-- A failed test under the origin of its set (R449, R188). -/
def State.testFailed (s : State) (code : Nat) : State :=
  match s.farr.origin with
  | .rotation => (s.farrFail code).coreOut 2 code
  | .host => s.hostRestore.farrFail code
  | _ => s.farrFail code

/-! ## Tests start and end (R441, R448, R450) -/

/-- A test's block is taken over: the groom core stops, the fabric is emptied, a looped port leaves its link. -/
def State.testTakes (s : State) (code : Nat) : State :=
  match code with
  | 3 => s.loftStop
  | 5 => s.loftStop
  | 6 => s.emptyFabric
  | 7 => s.emptyFabric
  | 9 => s.modYport 0 YPort.drop
  | 10 => s.modYport 1 YPort.drop
  | 11 => s.modYport 2 YPort.drop
  | _ => s

/-- FARRIER_TEST_START. -/
def State.testStart (s : State) : State :=
  match s.farr.todo with
  | code :: rest =>
    if s.live && s.farr.cur = 0 && decide (s.farr.endAt + 100 * us ≤ s.now) && decide (farrMa code ≤ 10 * s.farr.budget) then
      ({ s with farr := { s.farr with cur := code, startAt := s.now, todo := rest } }).testTakes code
    else s
  | [] => s

def execFarrierTestStart (t : Nat) (s : State) : Host.Outcome State Fault Refusal := act t s State.testStart

/-- The result registers of the running test, which ends. RESH and RESL show a signature for codes 1 to 3, and for codes
4 and 5 an address, all ones when no word failed (R450). -/
def State.testResult (s : State) (pass : Bool) (result : BitVec 32) : State :=
  let c := s.farr.cur
  let b := 2 ^ (c - 1)
  { s with farr := { s.farr with
    cur := 0, endAt := s.now, ran := s.farr.ran ++ [c]
    pass := if pass then s.farr.pass ||| b else s.farr.pass &&& (0x1FFF - b)
    fail := if pass then s.farr.fail else s.farr.fail ||| b
    results := setAt s.farr.results (c - 1) (if c ≤ 3 then result else if 5 < c then 0 else if pass then 0xFFFFFFFF else result)
    durs := setAt s.farr.durs (c - 1) (Nat.min ((s.now - s.farr.startAt) / us) 0xFFFF) } }

/-- The running test has lasted its time. -/
def State.testDue (s : State) : Bool := s.live && s.farr.cur != 0 && decide (s.farr.startAt + farrUs s.farr.cur * us ≤ s.now)

/-- FARRIER_TEST_END. -/
def State.testEnd (s : State) (pass : Bool) (result : BitVec 32) : State :=
  if s.testDue && s.farr.cur != 8 then
    let c := s.farr.cur
    let s := s.testResult pass result
    if pass then s.setEnd else s.testFailed c
  else s

def execFarrierTestEnd (t : Nat) (pass : Bool) (result : BitVec 32) (s : State) : Host.Outcome State Fault Refusal :=
  act t s (fun s => s.testEnd pass result)

/-! ## CMPINJ (R165 to R167, R186, R205) -/

/-- INJSTAT and INJMISS: how many injections were caught when one was not is a free value. -/
def State.injResult (s : State) (uncaught : Option (Fin 264)) (falseFlag : Bool) : State :=
  match uncaught with
  | some i =>
    { s with pair := { s.pair with injstat := w16 (Config.freeNat s.free % 264 + flag falseFlag 10), injmiss := w16 (i.val + 0x8000) } }.fresh
  | none => { s with pair := { s.pair with injstat := w16 (264 + flag (!falseFlag) 9 + flag falseFlag 10), injmiss := 0 } }

/-- What follows a passed CMPINJ: the comparator's trigger is re-armed, and the start-up set is handed over (R167, R443);
the tested core is ready to rejoin (R186, R187); or the host run goes on. -/
def State.injPassed (s : State) : State :=
  match s.farr.origin with
  | .startup =>
    let s := { s with pair := { s.pair with cmpArmed := true } }
    if s.farr.stopped then s.setEnd else { s with farr := { s.farr with todo := farrStartup, setAt := s.now } }
  | .rotation => ({ s with pair := { s.pair with ready := true } }).setEnd
  | _ => s.setEnd

/-- CMPINJ_END. A halt that waited for it outside a solo window takes effect (R205). -/
def State.injEnd (s : State) (uncaught : Option (Fin 264)) (falseFlag : Bool) : State :=
  if s.testDue && s.farr.cur = 8 then
    let pass := uncaught.isNone && !falseFlag
    let s := (s.injResult uncaught falseFlag).testResult pass 0
    let s := if pass then s.injPassed else s.testFailed 8
    if s.pair.solo then s else s.haltPending
  else s

def execCmpinjEnd (t : Nat) (uncaught : Option (Fin 264)) (falseFlag : Bool) (s : State) : Host.Outcome State Fault Refusal :=
  act t s (fun s => s.injEnd uncaught falseFlag)

/-! ## GO (R445, R446) -/

/-- The codes of a selection, rising. -/
def selCodes (sel : Nat) : List Nat := ((List.range 13).filter (fun k => bit sel k)).map (· + 1)

/-- The cause for which a host run is refused, 0 when it is accepted: the first that fails in the order of the table. -/
def State.refuseCause (s : State) : Nat :=
  let sel := selCodes s.farr.sel
  let lc := s.img.lc
  if !(lc == lcBlank || lc == lcDevelop || lc == lcReturn) then 1
  else if !(s.clk.rs == .maint || (s.clk.rs == .load && (s.governing 0).isNone)) then 2
  else if s.clk.rs == .maint && sel.any (fun c => !(c == 3 || c == 5 || decide (9 ≤ c))) then 3
  else if sel.any (· == 7) && !(lc == lcBlank || lc == lcReturn) then 4
  else if sel.any (fun c => decide (10 * s.farr.budget < farrMa c)) then 5
  else if s.farr.cur != 0 || s.farr.busy then 6
  else if sel.isEmpty then 7
  else 0

/-- A write to FARR.CTL. -/
def State.goWrite (s : State) (value : Word) : State :=
  if s.field then s.lkRefused 0x83
  else if bit value.toNat 0 then
    let c := s.refuseCause
    if c != 0 then { s with farr := { s.farr with refuse := w16 (c + 0x8000) } }
    else
      let sel := selCodes s.farr.sel
      { s with farr := { s.farr with origin := .host, busy := true, stopped := false, todo := sel, ran := [] } }
  else s

/-- GO. -/
def execGo (t : Nat) (value : Word) (s : State) : Host.Outcome State Fault Refusal :=
  act t s (fun s => whenLive s (fun s => s.goWrite value))

end Sys2Proof.Machine
end

