-- ==== Sys2Proof/Machine/Load.lean ====
section
/-!
DEFINITION. Start-up (13): the end of BOOT, the end of SELFTEST, the steps of LOAD (R426), the power plan (R390, R391), the
start of the loft (R493), and erasure (R498).
-/
namespace Sys2Proof.Machine

/-! ## The end of BOOT (R117, R299, R423, R427) -/

/-- BOOT_COMPLETE: the islands have left reset, ARR_STRAP is latched (an arrangement once agreed stands until the next power-up,
R21), yard time starts, the muzzle gates are tested for 5 µs, and CMPINJ follows. The operands say too which rail feeds each FIO bank. -/
def State.bootDone (s : State) (strap gateFail bank0 bank1 : Bool) : State :=
  if s.clk.rs == .boot && !s.clk.held && s.clk.rcOk then
    let s := s.releaseIslands
    let s := { s with
      clk := { s.clk with rs := .selftest, strap := if s.clk.fixed then s.clk.strap else strap, tself := s.stage }
      yard := { s.yard with runs := true, base := 0, baseAt := s.now }
      seq := { s.seq with ytick := 0, ytickAt := some s.now }
      fab := { s.fab with feed0 := bank0, feed1 := bank1 }
      sout := { s.sout with gateOk := !gateFail, gateTill := s.now + 5 * us } }
    if gateFail then (s.firstFail 0x10).err .farrier 0x10
    else { s with farr := { s.farr with origin := .startup, busy := true, stopped := false, cur := 8, startAt := s.now + 5 * us } }
  else s

def execBootComplete (t : Nat) (strap gateFail bank0 bank1 : Bool) (s : State) : Host.Outcome State Fault Refusal :=
  act t s (fun s => s.bootDone strap gateFail bank0 bank1)

/-! ## The power plan (R390, R391) -/

def planRec (l : List Byte) (ch : Nat) : List Byte := (l.drop (24 + 8 * (ch - 5))).take 8
def planMode (l : List Byte) (ch : Nat) : Nat := byteAt (planRec l ch) 0
def planStep (l : List Byte) (ch : Nat) : Nat := byteAt (planRec l ch) 1

/-- A board channel record has a field out of range. -/
def planRecBad (l : List Byte) (ch : Nat) : Bool :=
  let r := planRec l ch
  let n := ([5, 6, 7].filter (fun c => planMode l c == 1)).length
  let tmo := decide (1 ≤ beAt r 2 2) && decide (beAt r 2 2 ≤ 500)
  match byteAt r 0 with
  | 0 => !zeroIn r 1 5
  | 1 => !(decide (1 ≤ byteAt r 1) && decide (byteAt r 1 ≤ n) && tmo && decide (beAt r 4 2 ≤ 1000))
  | 2 => !(byteAt r 1 == 0 && tmo && beAt r 4 2 == 0)
  | _ => true

/-- DSCTO of a channel breaks its rule. -/
def planDscBad (l : List Byte) (ch : Nat) : Bool :=
  let d := beAt l (8 + 2 * ch) 2
  if ch < 5 || planMode l ch == 1 then decide (d < 1) || decide (500 < d) else d != 0

/-- The checks of R391 in code order. -/
def planErr (l : List Byte) : Option (Nat × Nat) :=
  let board := [5, 6, 7]
  firstBad (
    [(1, 7, beAt l 0 2 != 1 || !zeroIn l 2 7 || board.any (fun c => !zeroIn (planRec l c) 6 7))] ++
    board.map (fun c => (2, c, planRecBad l c)) ++
    board.map (fun c => (3, c, planMode l c == 1 && board.any (fun d => decide (d < c) && planMode l d == 1 && planStep l d == planStep l c))) ++
    (List.range 8).map (fun c => (4, c, planDscBad l c)))

/-- The plan comes into force (R389). -/
def State.usePlan (s : State) (l : List Byte) : State :=
  let board := fun (f : List Byte → Nat) => List.replicate 5 0 ++ [5, 6, 7].map (fun c => f (planRec l c))
  { s with seq := { s.seq with
    mode := board (fun r => byteAt r 0), step := board (fun r => byteAt r 1), pgto := board (fun r => beAt r 2 2)
    settle := board (fun r => beAt r 4 2), dscto := (List.range 8).map (fun c => beAt l (8 + 2 * c) 2), planOk := true } }

/-! ## The steps of LOAD (R426) -/

/-- A failed check of LOAD: IMAGE, and LOAD goes no further (R343); the error lasts until a new load (R562). -/
def State.imageBad (s : State) : State := s.line .image true 0

/-- The records of every sheet of an image. -/
def imgRecs (l : List Byte) : List (List Byte) := sheetRecs (section_ l 1) ++ sheetRecs (section_ l 2)

/-- Step 4, the companion tables in TYPE order: the first failure recorded, or none. -/
def State.tablesBad (s : State) (l : List Byte) : Option State :=
  let recs := imgRecs l
  let wheels := section_ l 5
  match inputErr recs (section_ l 3) with
  | some e => some { s with sin := { s.sin with cfgerr := cfgWord6 e } }
  | none =>
  match outputErr recs (section_ l 4) with
  | some e => some { s with sout := { s.sout with cfgerr := cfgWord5 e } }
  | none =>
  match wheelErr (fun n => pairMode (section_ l 3) n == 1) recs wheels with
  | some e => some { s with mot := { s.mot with cfgerr := w16 (e.2 % 4 + 4096 * e.1 + 0x8000) } }
  | none =>
  match collarErr (fun w => byteAt (wheelRec wheels w) 12) recs (section_ l 6) with
  | some e => some { s with col := { s.col with cfgerr := cfgWord e } }
  | none =>
  match yardErr recs (section_ l 7) with
  | some e => some { s with yard := { s.yard with cfgerr := cfgWord e } }
  | none => (classMapErr (section_ l 9)).map (fun b => { s with flt := { s.flt with cfgerr := w16 (b + 0x8000) } })

/-- Step 4, the sheets: SHEET.ERR of the first failure, or 0. -/
def sheetsErr (l : List Byte) : Nat :=
  let tabs : Tables := { wheel := section_ l 5, collar := section_ l 6, yard := section_ l 7 }
  let arrS := imgArrange l == 1
  let c0 := byteAt (section_ l 1) 3
  let e := sheetErr tabs arrS 0 c0 {} (section_ l 1)
  if e.2 != 0 || !arrS then e.2 else (sheetErr tabs arrS 1 c0 e.1 (section_ l 2)).2

/-- A SHEET failure (R62). -/
def State.sheetBad (s : State) (e : Nat) : State := ({ s with sp := { s.sp with err := w16 e } }).line .sheet true e

/-- The sheet and the tables that the sheet needs are loaded. -/
def State.takeTables (s : State) (l : List Byte) : State :=
  let s := ((s.loadInputs (section_ l 3)).loadOutputs (section_ l 4)).loadWheels (section_ l 5)
  { (s.loadMap (section_ l 9)) with
    sh0 := sheetOf (section_ l 1)
    sh1 := if imgArrange l = 1 then sheetOf (section_ l 2) else {} }

/-- What the fabric checks need of the image. -/
def fabCtx (l : List Byte) : FabCtx :=
  { arrS := imgArrange l == 1, cycle := byteAt (section_ l 1) 3
    owned := ((imgRecs l).filter (rIs .outgroup)).foldl (fun m r => m ||| rOutmask r) 0
    points := ((sheetRecs (section_ l 1)).filter rCheck).length }

/-- The fabric's SHEET_CRC of a loaded sheet differs (R59): SHEET.ERR, or 0. -/
def State.crcBad (s : State) : Nat :=
  let bad := fun (k : Nat) => (s.sheet k).loaded && s.idCrc k != (s.sheet k).crc.toNat
  if bad 0 then sheetErrWord 8 0x1FF 0 true else if bad 1 then sheetErrWord 8 0x1FF 1 true else 0

/-- Steps 8 and 9: the pair is split in arrangement S (R173), and the next boundary enters ARMED. -/
def State.loadEnd (s : State) : State :=
  let s := if s.img.imgArr then { s.cycleEntry with pair := { s.cycleEntry.pair with split := true } } else s
  { s with clk := { s.clk with loadStep := 9 }, sp := { s.sp with rdYt := s.ytime } }

/-- Step 7 is over: the node is the root or LOCKED (R304). -/
def State.yardReady (s : State) : State :=
  if s.clk.rs == .load && !s.clk.held && s.clk.loadStep = 7 && s.yard.sync == .locked then s.loadEnd else s

/-- Steps 6 and 7: the collar table and the yard table commit, and the wait for the yard begins. -/
def State.loadNet (s : State) (l : List Byte) : State :=
  let s := (s.commitCollars (section_ l 6)).commitYard (section_ l 7)
  ({ s with clk := { s.clk with loadStep := 7, lockAt := s.now } }).yardReady

/-- The sheets are not loaded after all: a later check of the load has failed (R63). -/
def State.dropSheets (s : State) : State := { s with sh0 := {}, sh1 := {} }

/-- Step 5 (R228, R238 to R241, R59): the section is checked with the bank supplies sensed, every frame is written and read back,
and the fabric commits. A frame that reads back wrong twice is FARRIER 0x11. -/
def State.loadFabric (s : State) (l : List Byte) (obs : LoadObs) : State :=
  let f := section_ l 10
  let e := fabErr obs.bank0 obs.bank1 (fabCtx l) f
  let s := s.fabHeader f obs.bank0 obs.bank1
  if e != 0 then ({ s.dropSheets with fab := { s.fab with cfgerr := w16 e } }).imageBad
  else match obs.badFrame with
    | some _ => ((s.fabWrite f).dropSheets.firstFail 0x11).err .farrier 0x11
    | none =>
      let s := (s.fabWrite f).fabCommit f
      if s.crcBad != 0 then s.dropSheets.sheetBad s.crcBad else s.loadNet l

/-- Step 4 and what follows it. -/
def State.loadTables (s : State) (obs : LoadObs) : State :=
  let l := s.running_
  match s.tablesBad l with
  | some s' => s'.imageBad
  | none =>
    let e := sheetsErr l
    if e != 0 then s.sheetBad e else (s.takeTables l).loadFabric l obs

/-- The board phase has ended: LOAD goes on (R426 step 3). -/
def State.afterBoard (s : State) (obs : LoadObs) : State :=
  let s := s.boardEnd
  if s.clk.rs == .load && !s.clk.held && s.clk.loadStep = 3 && s.seq.boardDone then
    ({ s with clk := { s.clk with loadStep := 4 } }).loadTables obs
  else s

/-- Step 3: once in a power-up (R389). -/
def State.loadBoard (s : State) (obs : LoadObs) : State :=
  let s := { s with clk := { s.clk with loadStep := 3 } }
  if s.seq.boardDone || s.seq.phase == .board then s.afterBoard obs
  else
    let l := section_ s.running_ 8
    match planErr l with
    | some e => ({ s with seq := { s.seq with planOk := false, cfgerr := w16 (e.2 % 8 + 4096 * e.1 + 0x8000) } }).imageBad
    | none => (s.usePlan l).startBoard.afterBoard obs

/-- Step 2: the arrangement check. On disagreement ARMED is entered and held (R21, R427). -/
def State.loadArrange (s : State) (obs : LoadObs) : State :=
  if s.clk.strap == s.img.imgArr then
    ({ s with img := { s.img with agreed := true }, pair := { s.pair with arr := s.clk.strap }, clk := { s.clk with fixed := true } }).loadBoard obs
  else ({ s with clk := { s.clk with rs := .armed, mismatch := true, armedOnce := true, tarmed := s.stage } }).imageBad

/-- What a new LOAD forgets: the fabric is emptied (R242, R244), and no earlier result of LOAD stands. The record of a state held
under R343 closes with it (R349). -/
def State.loadClear (s : State) : State :=
  let s := ((s.closeStop.line .image false 0).line .sheet false 0).emptyFabric
  { s with
    clk := { s.clk with rs := .load, held := false, mismatch := false, loadStep := 0, tload := s.stage }
    sh0 := {}, sh1 := {}, sp := { s.sp with err := 0 }
    pair := { s.pair with split := false, rotint := 0 }
    sin := { s.sin with cfgerr := 0 }, sout := { s.sout with cfgerr := 0 }, mot := { s.mot with cfgerr := 0 }
    col := { s.col with cfgerr := 0 }, yard := { s.yard with cfgerr := 0 }, flt := { s.flt with cfgerr := 0 }
    seq := { s.seq with cfgerr := 0 }
    img := { s.img with running := false, agreed := false, cfgerr := 0, pending := false } }

/-- LOAD from step 1 (R426, R429, R492): the governing configuration bank is verified; without one the part stays. -/
def State.load (s : State) (obs : LoadObs) : State :=
  let s := s.loadClear
  match s.governing 0 with
  | none => s
  | some (_, r) =>
    let bank := cBank r
    let l := s.imageAt 0 bank
    let code := s.imgCode 0 (some r) l
    if code != 0 then ({ s with img := { s.img with cfgerr := codeWord code } }).imageBad
    else
      ({ s with
        img := { s.img with running := true, cfgAct := bank, cfgver := imgVer l, imgArr := imgArrange l == 1 }
        pair := { s.pair with rotint := imgRotint l } }).loadArrange obs

/-! ## Erasure (R498) -/

/-- Both configuration banks, both configuration commit slots and the logs are erased, in VOID the parameters too; ERASED is
written last. -/
def State.eraseNow (s : State) : State :=
  let m := ((s.mram.erase 0x000000 0x300000).erase 0x600000 0x600040).erase logsBase logsEnd
  let void := bit s.img.lcBits 4
  let m := if void then m.erase paramBase paramEnd else m
  { s with
    mram := m.write lcRecord 1, flt := { s.flt with head := 0 }, seq := { s.seq with snapTop := 0 }
    img := { s.img with erased := true, erasing := false, keyEnr := if void then none else s.img.keyEnr } }

/-- RETURN or VOID with ERASED not set. -/
def State.eraseOwed (s : State) : Bool := (s.img.lc == lcReturn || s.img.lc == 0) && !s.img.erased

/-- ERASURE_COMPLETE: HOSTRESP is set, and 1 ms later the part restarts. -/
def State.erasureDone (s : State) : State :=
  if s.live && s.img.erasing then
    let s := s.eraseNow
    ({ s with img := { s.img with erasedAt := some s.now } }).mbxEnd 0
  else s

def execErasureComplete (t : Nat) (s : State) : Host.Outcome State Fault Refusal := act t s State.erasureDone

/-- ERASURE_RESTART: a warm restart (R422). -/
def State.erasureRestarts (s : State) : State :=
  match s.img.erasedAt with
  | some a =>
    if s.live && decide (a + ms ≤ s.now) then
      let s := s.warmReset
      ({ s with clk := { s.clk with start := s.now }
                seq := { s.seq with rstcause := 2, warmcnt := sat16 s.seq.warmcnt } }).boot
    else s
  | none => s

def execErasureRestart (t : Nat) (s : State) : Host.Outcome State Fault Refusal := act t s State.erasureRestarts

/-! ## The end of SELFTEST (R352, R408, R443) -/

/-- The last snapshot record before the present power-up (R408). -/
def State.lastSnap (s : State) : Option (List Byte) :=
  let top := if s.seq.upStartNo = 0 then s.seq.snapNo + 1 else s.seq.upStartNo
  let l := s.snapRecs.filter (fun r => decide (beAt r 0 4 < top))
  recNo (topNo l) l

/-- The CUT record that a snapshot asks for (R352). -/
def cutRec (recno : Nat) (n : List Byte) : FRec :=
  let pg := decide (byteAt n 12 < 7)
  let first := if pg then Src.seqPg.bit else byteAt n 13
  { recno := recno, ytime := beAt n 4 8, srcmap := beAt n 40 4 ||| 2 ^ first, first := first, cls := .cut, closed := true
    fromSnap := true, solo := false, perturbed := bit (byteAt n 45) 3, syncLost := bit (byteAt n 45) 2, merges := 0
    detail := if pg then byteAt n 13 else 0, rstate := byteAt n 44 % 16, dur := 0 }

/-- A fault record of the ring holds that cut already. -/
def State.cutHeld (s : State) (r : FRec) : Bool :=
  s.faultRecs.any (fun b => bit (byteAt b 21) 3 && beAt b 4 8 == r.ytime && byteAt b 20 % 64 == r.first && beAt b 24 2 == r.detail)

/-- The kennel writes the record of a cut of the last power-up. -/
def State.cutRecord (s : State) : State :=
  match s.lastSnap with
  | some n =>
    let r := cutRec (s.flt.recno + 1) n
    if 4 ≤ byteAt n 12 && byteAt n 12 ≤ 7 && !s.cutHeld r then
      ({ s with flt := { s.flt with recno := s.flt.recno + 1, due := s.flt.due ++ [(r, true)], cutprev := true } }).alert 0
    else s
  | none => s

/-- SELFTEST_END: the kennel has initialised kennel RAM (R443), and LOAD begins. -/
def State.selftestDone (s : State) (obs : LoadObs) : State :=
  if s.clk.rs == .selftest && !s.clk.held && s.farr.setOk && s.sout.gateOk && s.pair.cmpArmed then
    let s := { s with clk := { s.clk with rs := .load } }
    let s := if s.eraseOwed then s.eraseNow else s
    s.kramAnew.cutRecord.load obs
  else s

def execSelftestEnd (t : Nat) (obs : LoadObs) (s : State) : Host.Outcome State Fault Refusal :=
  act t s (fun s => s.selftestDone obs)

/-! ## The sequencer's steps that LOAD waits for (R386, R387) -/

/-- SEQ_PG_RISE. -/
def execSeqPgRise (t : Nat) (ch : Fin 8) (obs : LoadObs) (s : State) : Host.Outcome State Fault Refusal :=
  act t s (fun s => whenAon s (fun s => (s.pgRise ch).coreDone.afterBoard obs))

/-- SETTLE_EXPIRY. -/
def execSettleExpiry (t : Nat) (ch : Fin 8) (obs : LoadObs) (s : State) : Host.Outcome State Fault Refusal :=
  act t s (fun s => whenAon s (fun s => (s.settled ch).coreDone.afterBoard obs))

/-! ## The yard wait (R304) -/

/-- LOCKWAIT_EXPIRY. -/
def State.lockLate (s : State) : State :=
  if s.clk.rs == .load && !s.clk.held && s.clk.loadStep = 7 && decide (s.clk.lockAt + s.yard.lockwait * ms ≤ s.now) then s.loadEnd
  else s

def execLockwaitExpiry (t : Nat) (s : State) : Host.Outcome State Fault Refusal := act t s State.lockLate

/-- DRESP (R300 to R302, R304). -/
def execDresp (t : Nat) (frame : List Byte) (s : State) : Host.Outcome State Fault Refusal :=
  act t s (fun s => (s.drespIn frame).yardReady)

/-! ## The loft (R493, R494) -/

/-- The groom core is free to start: it does not run, and no test has it. -/
def State.groomFree (s : State) : Bool :=
  s.live && !s.img.loft && !s.img.noLoft && s.clk.rs != .boot && s.clk.rs != .selftest &&
    !(s.farr.busy && s.farr.origin == .host && s.farr.ran.any (fun c => c == 3 || c == 5))

/-- A loft bank starts. -/
def State.loftRuns (s : State) (bank : Nat) (fallback : Bool) : State :=
  { s with img := { s.img with loft := true, loftAct := bank, loftFb := fallback, loftVer := imgVer (s.imageAt 1 bank) } }

/-- LOFT_START: the bank of the governing record, else the other; without a record bank A, then bank B. -/
def State.loftStarts (s : State) : State :=
  if s.groomFree then
    let ok := fun (b : Nat) => s.imgCheck 1 b none == 0
    match s.govBank 1 with
    | some b =>
      if ok b then s.loftRuns b false
      else
        let s := s.err .loftAuth b
        if !s.live then s else if ok (1 - b) then s.loftRuns (1 - b) true else { s with img := { s.img with noLoft := true, loftFb := false } }
    | none =>
      if ok 0 then s.loftRuns 0 false else if ok 1 then s.loftRuns 1 false
      else { s with img := { s.img with noLoft := true, loftFb := false } }
  else s

def execLoftStart (t : Nat) (s : State) : Host.Outcome State Fault Refusal := act t s (fun s => s.loftStarts.mbxUnknown)

end Sys2Proof.Machine
end

