-- ==== Sys2Proof/Machine/Spook.lean ====
section
/-!
DEFINITION. Spook controls (17): the writes of the SPOOK page and EN. Where the controls act stands with what they act on.
-/
namespace Sys2Proof.Machine

/-- The life-cycle state admits writes (R510, R515). -/
def State.spookPermit (s : State) : Bool := s.lcDebug

/-- EN changes (R511, R512): the SPOOK line is active while it is 1. -/
def State.setSpook (s : State) (on : Bool) : State := ({ s with spook := { s.spook with en := on } }).line .spook on 0

/-- The page is cleared, as on entry into FIELD (R500). -/
def State.spookClear (s : State) : State := { (s.setSpook false) with spook := {} }

/-- The run states in which a write of 1 to EN takes effect (R511). -/
def State.spookState (s : State) : Bool :=
  s.clk.rs == .armed || s.clk.rs == .run || s.clk.rs == .maint || s.clk.rs == .safe

/-- A value is stored in a control of the page: `none` where it is out of range (R505, R515). -/
def Spook.store (p : Spook) (addr v : Nat) : Option Spook :=
  match addr with
  | 0x82 => if v % 16 ≤ 10 then some { p with hssel := v % 16 } else none
  | 0x83 => some { p with hs := setAt p.hs p.hssel (v % 256) }
  | 0x84 => if v % 16 ≤ 9 then some { p with fifosel := v % 16 } else none
  | 0x85 => if v % 256 ≤ v / 256 then some { p with bp := setAt p.bp p.fifosel v } else none
  | 0x86 => if v % 4 ≤ 2 then some { p with ypsel := v % 4 } else none
  | 0x87 => some { p with ydly := setAt p.ydly p.ypsel (v % 8192) }
  | 0x88 => some { p with ydrop := setAt p.ydrop p.ypsel (v % 4096 + flag (bit v 15) 15) }
  | 0x89 => some { p with ycorr := setAt p.ycorr p.ypsel (v % 8192) }
  | 0x8A => some { p with rpsel := v % 2 }
  | 0x8B => some { p with rdrop := setAt p.rdrop p.rpsel (v % 16384) }
  | 0x8C => some { p with bdly := setAt p.bdly p.rpsel (v % 256) }
  | 0x8D => if v % 8 ≤ 5 then some { p with cksel := v % 8 } else none
  | 0x8E => some { p with ckdev := setAt p.ckdev p.cksel (v % 128) }
  | _ => none

/-- An address of the page holds a writable field (R515). -/
def spookWritable (addr : Nat) : Bool := addr == 0x80 || (decide (0x82 ≤ addr) && decide (addr ≤ 0x8E))

/-- A write to the SPOOK page outside FIELD: in BLANK and VOID it is ignored without report (R510). -/
def State.spookPut (s : State) (addr v : Nat) : State :=
  if !s.spookPermit then s
  else if addr = 0x80 then
    if bit v 0 then (if s.spookState then s.setSpook true else s) else s.setSpook false
  else match s.spook.store addr v with
    | some p => { s with spook := p }
    | none => s

/-- A write of CTL: its fields are LK in FIELD (R510). -/
def State.spookCtl (s : State) (value : Word) : State := if s.field then s.lkRefused 0x80 else s.spookPut 0x80 value.toNat

/-- SPOOK_EN. -/
def execSpookEn (t : Nat) (value : Word) (s : State) : Host.Outcome State Fault Refusal :=
  act t s (fun s => whenLive s (fun s => s.spookCtl value))

end Sys2Proof.Machine
end

