-- ==== Sys2Proof/Machine/Mailbox.lean ====
section
/-!
DEFINITION. The mailbox commands (R475): what the loft, the boot ROM or the kennel does when it serves the command that
HOSTCMD has started.
-/
namespace Sys2Proof.Machine

/-! ## ECHO and DEVUID -/

/-- ECHO (R475). -/
def State.echoes (m : Mbx) (s : State) : State :=
  ({ s with cp := { s.cp with mbuf := toBytes 2 m.arg0.toNat ++ toBytes 2 m.arg1.toNat ++ s.cp.mbuf.drop 4 } }).mbxEnd 0

def execEcho (t : Nat) (s : State) : Host.Outcome State Fault Refusal := act t s (fun s => s.serve 0x01 true State.echoes)

/-- DEVUID (R501). -/
def State.tellUid (_m : Mbx) (s : State) : State := ({ s with cp := { s.cp with mbuf := padTo 128 uidBytes } }).mbxEnd 0

def execDevuid (t : Nat) (s : State) : Host.Outcome State Fault Refusal := act t s (fun s => s.serve 0x02 true State.tellUid)

/-! ## MAINT (R435, R436) -/

/-- The kennel takes a request, which the end of the cycle decides; outside its run states it is refused. -/
def State.maintAsk (s : State) (ok enter : Bool) : State :=
  if ok then { s with cp := { s.cp with maint := some enter } } else s.mbxEnd 3

/-- MAINT_ENTER. -/
def execMaintEnter (t : Nat) (s : State) : Host.Outcome State Fault Refusal :=
  act t s (fun s => s.serve 0x10 false (fun _ s => s.maintAsk ((s.clk.rs == .armed && !s.clk.held) || s.clk.rs == .run) true))

/-- MAINT_LEAVE; not while a power-down is under way (DESIGN CHOICE, notes/assumptions/28.md). -/
def execMaintLeave (t : Nat) (s : State) : Host.Outcome State Fault Refusal :=
  act t s (fun s => s.serve 0x11 false (fun _ s => s.maintAsk (s.clk.rs == .maint && s.seq.phase != .down) false))

/-! ## Image commands (R484 to R491, R499) -/

/-- MAINT, LOAD with no committed image, or a state held there (R429, R475, R491). -/
def State.imgState (s : State) : Bool :=
  s.clk.rs == .maint || (s.clk.rs == .load && (s.clk.held || (s.governing 0).isNone)) || (s.clk.rs == .armed && s.clk.mismatch)

/-- IMG_BEGIN: kind 0 is configuration, kind 1 the loft. -/
def State.imgBegins (m : Mbx) (s : State) : State :=
  let kind := m.arg0.toNat % 2
  if !s.imgState || (kind = 0 && !s.img.loft) then s.mbxEnd 3
  else if kind = 0 && s.img.lc = 0 then s.mbxEnd 4
  else if kind = 0 && s.img.pending then s.mbxEnd 3
  else ({ s with img := { s.img with seqOpen := some kind, verified := false, wblocks := 0 } }).mbxEnd 0

def execImgBegin (t : Nat) (s : State) : Host.Outcome State Fault Refusal := act t s (fun s => s.serve 0x20 true State.imgBegins)

/-- A command of a sequence without an open one has no effect; its RESULT is one of 0x03 to 0x06, which the manual does not
choose. -/
def State.noSequence (s : State) : State := (s.mbxEnd (3 + Config.freeNat s.free % 4)).fresh

/-- An image command in its run state, with the open sequence: the boot ROM serves the loft kind alone (R494). -/
def State.inSequence (s : State) (f : Nat → State → State) : State :=
  if !s.imgState then s.mbxEnd 3
  else match s.img.seqOpen with
  | some kind => if kind = 0 && !s.img.loft then s.mbxEnd 3 else f kind s
  | none => s.noSequence

/-- IMG_WRITE. -/
def State.imgWrites (m : Mbx) (s : State) : State :=
  s.inSequence (fun kind s =>
    let n := m.arg1.toNat % 256
    let ofs := m.arg0.toNat * 128
    if n = 0 || 128 < n || bankSize kind < ofs + n then s.mbxEnd 5
    else
      let s := s.mramWrite (bankBase kind (s.openBank kind) + ofs) (m.buf.take n)
      ({ s with img := { s.img with verified := false, wblocks := sat16 s.img.wblocks } }).mbxEnd 0)

def execImgWrite (t : Nat) (s : State) : Host.Outcome State Fault Refusal := act t s (fun s => s.serve 0x21 true State.imgWrites)

/-- A check code in HOSTARG0 and IMG.VERR. -/
def State.showCode (s : State) (code : Nat) : State := { (s.setArg0 code) with img := { s.img with verr := codeWord code } }

/-- IMG_VERIFY. -/
def State.imgVerifies (_m : Mbx) (s : State) : State :=
  s.inSequence (fun kind s =>
    let code := s.imgCheck kind (s.openBank kind) none
    let s := s.showCode code
    ({ s with img := { s.img with verified := code == 0 } }).mbxEnd (if code = 0 then 0 else 6))

def execImgVerify (t : Nat) (s : State) : Host.Outcome State Fault Refusal := act t s (fun s => s.serve 0x22 true State.imgVerifies)

/-- The commit record of the open bank is written into the slot that does not govern (R488). -/
def State.commitBank (s : State) (kind : Nat) : State :=
  let bank := s.openBank kind
  let l := s.imageAt kind bank
  let slot := match s.governing kind with
    | some e => 1 - e.1
    | none => 0
  let gen := match s.governing kind with
    | some e => (cGen e.2 + 1) % 4294967296
    | none => 1
  s.mramWrite (commitSlot kind slot) (commitRecBytes kind bank gen (imgLen l) (imgDigest l))

/-- IMG_COMMIT (R483, R486, R490, R491, R504): in MAINT a configuration commit waits for the next LOAD, elsewhere LOAD starts
again. In DEVELOP it enrols the key. -/
def State.imgCommits (obs : LoadObs) (_m : Mbx) (s : State) : State :=
  if !s.imgState then s.mbxEnd 3
  else match s.img.seqOpen with
  | some kind =>
    if kind = 0 && !s.img.loft then s.mbxEnd 3
    else if !s.img.verified then (s.showCode 9).mbxEnd 6
    else
      let key := keyHash (s.imageAt kind (s.openBank kind))
      let s := s.commitBank kind
      let s := { s with img := { s.img with seqOpen := none, verified := false, verr := codeWord 0 } }
      if kind = 0 then
        let s := if s.img.lc = lcDevelop then { s with img := { s.img with keyEnr := some key } } else s
        if s.clk.rs == .maint then ({ s with img := { s.img with pending := true } }).mbxEnd 0
        else (s.mbxEnd 0).load obs
      else s.mbxEnd 0
  | none => (s.showCode 9).mbxEnd 6

def execImgCommit (t : Nat) (obs : LoadObs) (s : State) : Host.Outcome State Fault Refusal :=
  act t s (fun s => s.serve 0x23 true (State.imgCommits obs))

/-! ## Yard management frames (R476) -/

/-- YARD_MSEND. -/
def State.msend (m : Mbx) (s : State) : State :=
  let n := m.arg1.toNat % 256
  let bcast := bit m.arg1.toNat 8
  if !s.yard.committed then s.mbxEnd 3
  else if n = 0 || 128 < n then s.mbxEnd 5
  else if (s.ports bcast m.arg0.toNat none).isEmpty then s.mbxEnd 6
  else (s.sendOwn 8 (s.ownFrame typMgmt m.arg0.toNat bcast (m.buf.take n))).mbxEnd 0

def execYardMsend (t : Nat) (s : State) : Host.Outcome State Fault Refusal := act t s (fun s => s.serve 0x30 false State.msend)

/-- YARD_MRECV: the oldest held frame. -/
def State.mrecvs (_m : Mbx) (s : State) : State :=
  if !s.yard.committed then s.mbxEnd 3
  else match s.yard.mrecv with
  | (src, l) :: rest =>
    let s := (s.setArg0 src).setArg1 (l.length + flag s.yard.mlost 15)
    ({ s with yard := { s.yard with mrecv := rest, mlost := false }
              cp := { s.cp with mbuf := l.take 128 ++ s.cp.mbuf.drop l.length } }).mbxEnd 0
  | [] => s.mbxEnd 7

def execYardMrecv (t : Nat) (s : State) : Host.Outcome State Fault Refusal := act t s (fun s => s.serve 0x31 false State.mrecvs)

/-! ## LC_ADVANCE (R495 to R503) -/

/-- A life-cycle bit is burnt: its three antifuses. -/
def State.burn (s : State) (n : Nat) : State := { s with img := { s.img with fuses := setAt s.img.fuses n [true, true, true] } }

/-- A return token is valid (R497). -/
def tokenOk (l : List Byte) : Bool :=
  beAt l 0 2 == 1 && zeroIn l 2 3 && (l.drop 4).take 16 == uidBytes && zeroIn l 24 63 &&
    ecdsaOk Config.returnKey (sha256 (l.take 64)) (beAt l 64 32) (beAt l 96 32)

/-- The key antifuses can take the enrolled hash (R496, R503). Without an enrolled hash nothing is burnt (DESIGN CHOICE,
notes/assumptions/29.md). -/
def State.keyBurnable (s : State) : Bool :=
  (s.governing 0).isSome && !s.img.pending && s.img.keyEnr.isSome && (s.img.keyFuse.isNone || s.img.keyFuse == s.img.keyEnr)

/-- Entry into FIELD (R483, R500). -/
def State.enterField (s : State) : State :=
  let s := ({ s with img := { s.img with keyFuse := s.img.keyEnr } }).burn 2
  let s := s.spookClear
  { s with
    fab := if s.fab.committed then s.fab.imageProbes true else s.fab
    pair := { s.pair with tap := if s.pair.tap == .extest || s.pair.tap == .dbgAccess then .bypass else s.pair.tap } }

/-- LCLAST (R502). -/
def State.lcResult (s : State) (code result : Nat) : State :=
  { s with img := { s.img with lclast := w16 (code + 16 * result + 0x8000) } }

/-- A request that ends now. -/
def State.lcEnd (s : State) (code result : Nat) : State := (s.lcResult code result).mbxEnd result

/-- A transition that erases: HOSTRESP is set when the erasure is complete (R498). -/
def State.lcErase (s : State) (code n : Nat) : State :=
  ({ (s.burn n) with img := { (s.burn n).img with erasing := true } }).lcResult code 0

/-- LC_ADVANCE: LIFECYCLE is raised with the requested code, whether or not the transition is made (R475). -/
def State.advance (m : Mbx) (s : State) : State :=
  let code := m.arg0.toNat % 16
  if s.clk.rs != .maint then s.mbxEnd 3
  else
    let s := s.err .lifecycle code
    let lc := s.img.lc
    if lc = lcBlank && code = lcDevelop then (s.burn 1).lcEnd code 0
    else if lc = lcDevelop && code = lcField then
      (if s.keyBurnable then s.enterField.lcEnd code 0 else s.lcEnd code 6)
    else if lc = lcField && code = lcReturn then
      (if tokenOk m.buf then s.lcErase code 3 else s.lcEnd code 6)
    else if code = 0 && lc != 0 then s.lcErase code 4
    else s.lcEnd code 5

def execLcAdvance (t : Nat) (s : State) : Host.Outcome State Fault Refusal :=
  act t s (fun s => if s.img.erasing then s else s.serve 0x40 false State.advance)

end Sys2Proof.Machine
end

