-- ==== Sys2Proof/Machine/Flags.lean ====
section
/-!
DEFINITION. What a read of every register gives (the global registers of R467 and the pages of R471), with the status
flags they are made of, and the side effects of the reads that have one. Reserved addresses and write-only fields read 0.
-/
namespace Sys2Proof.Machine

/-- Words of a wider value, most significant first: word k of n. -/
def wordOf (n k v : Nat) : Nat := v / 65536 ^ (n - 1 - k) % 65536

/-- Sixteen flags of a list given by a test, from an index (R284, R330). -/
def flags16 {α : Type} (p : α → Bool) (l : List α) (i : Nat) : Nat := bitmap16 (l.map p) i

/-! ## Global registers (R467) -/

/-- FREC_OPEN (R359). -/
def State.frecOpen (s : State) : Nat :=
  match s.flt.rec? with
  | some o => 1 + 2 * o.r.cls.code
  | none => 0

/-- A BARK pin is changing: its last level change is not older than 1.5 t_cyc (R121, R124; DESIGN CHOICE,
notes/assumptions/106.md). -/
def State.barkChanging (s : State) (last : Nat) : Bool :=
  s.cycles && !s.sout.barkHold && decide (2 * s.now ≤ 2 * last + 3 * s.tcyc)

/-- BARK_STAT. -/
def State.barkStat (s : State) : Nat :=
  flag s.sout.barkA + flag s.sout.barkB 1 + flag (s.barkChanging s.sout.barkAat) 2 + flag (s.barkChanging s.sout.barkBat) 3

def State.globalReg (s : State) (a : Nat) : Nat :=
  if 0x20 ≤ a ∧ a ≤ 0x5F then beAt s.cp.mbuf (2 * (a - 0x20)) 2
  else match a with
  | 0x00 => flag Config.gradeXB
  | 0x01 => 0x0064
  | 0x02 => 0x000B
  | 0x03 => s.img.lc
  | 0x04 => flag s.pair.arr + flag s.img.agreed 1 + flag s.clk.strap 2 + flag s.img.imgArr 3 + flag s.clk.mismatch 4
  | 0x05 => s.runstate
  | 0x06 => 0x0B03
  | 0x07 => if s.img.loft then s.img.loftVer else 0
  | 0x08 => wordOf 4 3 s.flt.fstat
  | 0x09 => wordOf 4 2 s.flt.fstat
  | 0x0A => wordOf 4 1 s.flt.fstat
  | 0x0B => wordOf 4 0 s.flt.fstat
  | 0x0C => s.flt.head % 65536
  | 0x0D => s.frecOpen
  | 0x0E => s.cp.alertEn
  | 0x0F => s.cp.alertSrc
  | 0x10 => wordOf 4 0 s.ytime
  | 0x11 => wordOf 4 1 s.cp.ylatch
  | 0x12 => wordOf 4 2 s.cp.ylatch
  | 0x13 => wordOf 4 3 s.cp.ylatch
  | 0x14 => if s.yard.committed then s.yard.node else 0
  | 0x15 => s.cp.cycle
  | 0x16 => s.barkStat
  | 0x17 => s.cp.hostcmd.toNat
  | 0x18 => s.cp.arg0.toNat
  | 0x19 => s.cp.arg1.toNat
  | 0x1A => s.cp.resp.toNat
  | 0x1B => s.cp.crcErr + 256 * s.cp.frmErr
  | 0x7F => s.cp.page
  | _ => 0

/-! ## Page 0: SEQ (R409) -/

def State.seqReg (s : State) (a : Nat) : Nat :=
  let q := s.seq
  let fixed := decide (q.chsel < 5)
  match a with
  | 0x80 => q.phase.code + flag q.holdup 3 + flag q.belowWarn 4 + flag q.belowAbandon 5 + flag q.planOk 6
  | 0x81 => bitmap q.en + 256 * bitmap q.pg
  | 0x82 => bitmap q.run
  | 0x83 => q.chsel
  | 0x84 => nth 0 q.ramp q.chsel
  | 0x85 => if fixed then 1 else nth 0 q.mode q.chsel + 4 * nth 0 q.step q.chsel
  | 0x86 => if fixed then 50 else nth 0 q.pgto q.chsel
  | 0x87 => if fixed then 10 else nth 0 q.settle q.chsel
  | 0x88 => nth 0 q.dscto q.chsel
  | 0x89 => nth 0 q.dscLast q.chsel
  | 0x8A => q.vin
  | 0x8B => q.vinMin
  | 0x8C => q.vinWarns + 256 * q.vinAbandons
  | 0x8D => wordOf 2 0 q.snapTop
  | 0x8E => wordOf 2 1 q.snapTop
  | 0x8F => q.sidx
  | 0x90 => q.swsel
  | 0x91 => beAt q.snapBuf (2 * q.swsel) 2
  | 0x92 => flag (commitOk q.snapBuf)
  | 0x93 => q.snapLost + 256 * q.snapBlocked
  | 0x94 => q.snapInv + 256 * q.snapAborted
  | 0x95 => q.cfgerr.toNat
  | _ => 0

/-! ## Page 1: CLK (R438) -/

def State.clkReg (s : State) (a : Nat) : Nat :=
  let c := s.clk
  match a with
  | 0x80 => flag (c.xtal && !nth false c.bad 0) + flag (s.locked 1) 1 + flag (s.locked 2) 2 + flag (s.locked 3) 3 + flag (s.locked 4) 4 +
      flag c.rcOk 5 + flag c.mon 6 + flag c.strap 7 + flag (Config.strapPin s.now) 8 + flag c.rcstop 9
  | 0x81 => c.cmdiag.toNat
  | 0x82 => c.csel
  | 0x83 => twos16 (nth 0 c.dev c.csel) 32767
  | 0x84 => nth 0 c.devMax c.csel
  | 0x85 => c.rccal
  | 0x86 => s.seq.rstcause
  | 0x87 => s.seq.warmcnt
  | 0x88 => c.rstign
  | 0x89 => c.hsdiag.toNat
  | 0x8A => c.tboot
  | 0x8B => c.tself
  | 0x8C => c.tload
  | 0x8D => c.tboard
  | 0x8E => c.tarmed
  | 0x8F => if c.held then c.rs.code + 16 else 0
  | _ => 0

/-! ## Page 2: PAIR (R206) -/

/-- Minutes until the next rotation falls due. -/
def State.rotMinutes (s : State) : Nat :=
  if s.pair.rotint = 0 || s.pair.due.isSome then 0
  else match s.pair.rotFrom with
  | some a => (a + s.pair.rotint * 3600 * 1000 * ms - s.now) / (60 * 1000 * ms)
  | none => 0

def State.pairReg (s : State) (a : Nat) : Nat :=
  let p := s.pair
  match a with
  | 0x80 => flag p.arr + 2 * p.lead + flag p.solo 2 + 8 * p.soloCore + flag (p.howin != 0) 4 + flag p.out0 5 + flag p.out1 6 +
      256 * p.dbg.code
  | 0x81 => p.cmpdiag.toNat
  | 0x82 => p.cmpcnt
  | 0x83 => p.injstat.toNat
  | 0x84 => p.injmiss.toNat
  | 0x85 => p.rotint
  | 0x87 => flag p.due.isSome + flag p.late 1 + 4 * p.lastRes + 16 * p.lastCore
  | 0x88 => p.rotcnt
  | 0x89 => s.rotMinutes
  | 0x8A => p.soloLast
  | 0x8B => p.soloMax
  | 0x8C => s.defCause
  | 0x8D => p.hodiag.toNat
  | 0x8E => p.ecc0 + 256 * p.ecc1
  | 0x8F => p.kramcnt
  | 0x90 => p.kramAdr / 65536 % 4 + flag p.kramRom 15
  | 0x91 => p.kramAdr % 65536
  | 0x92 => p.dbgstat (s.clk.rs == .halted)
  | _ => 0

/-! ## Page 3: FAB (R251) -/

def State.fabReg (s : State) (a : Nat) : Nat :=
  let f := s.fab
  let ref := match frameIndex f.fsel with
    | some i => nth 0 f.refs i
    | none => 0
  match a with
  | 0x80 => flag f.committed + flag f.loading 1 + flag f.committed 2 + flag f.gsr 3 + flag s.gsr1 4 + flag s.goeOn 5 + flag f.probeField 6
  | 0x81 => f.cfgerr.toNat
  | 0x82 => f.scrubcnt
  | 0x83 => f.scruberr
  | 0x84 => f.lastfrm.toNat
  | 0x85 =>
    match frameIndex (f.lastfrm.toNat % 2048) with
    | some i => if bit f.lastfrm.toNat 15 then Nat.min (s.frameErrs i) 7 else 0
    | none => 0
  | 0x86 => f.passtime
  | 0x87 => f.chbdepth
  | 0x88 => flag f.bankImg0 + flag f.bankImg1 1 + flag f.bankNow0 2 + flag f.bankNow1 3
  | 0x89 => f.fsel
  | 0x8A => f.fwsel
  | 0x8B =>
    match frameIndex f.fsel with
    | some i => beAt (nth [] f.cells i) (2 * f.fwsel) 2
    | none => 0
  | 0x8C => wordOf 2 0 ref
  | 0x8D => wordOf 2 1 ref
  | 0x8E => bitmap (f.probes.map (·.on))
  | 0x8F => f.prbsel
  | 0x90 => (nth {} f.probes f.prbsel).src
  | 0x91 => (nth {} f.probes f.prbsel).fio
  | 0x92 => f.prberr.toNat
  | _ => 0

/-! ## Page 4: SHEET (R63) -/

/-- A flag of every OUTGROUP of a sheet, by OUTGROUP index. -/
def Sheet.ogFlags (h : Sheet) (p : Nat → List Byte → Bool) : Nat :=
  if h.loaded then bitmap ((ogRecs h.recs).map (fun i => p i (nth [] h.recs i))) else 0

/-- An OUTGROUP waits for a reset pulse: b0 is 0, its permit is 1, and it has an MRESET or left an output fault (R105). -/
def Sheet.rstWait (h : Sheet) (i : Nat) (r : List Byte) : Bool :=
  (srcKind (rSrc r 1) == 2 || (nth {} h.a i).need) && !(nth {} h.a i).b0 && refOr false h.a (rSrc r 0)

/-- Channel B's b0 as last captured. -/
def Sheet.capB0 (h : Sheet) (i : Nat) : Bool := (nth {} h.com i).cap

/-- A start-up test is pending on a pair (R57). -/
def State.startPend (s : State) (n : Nat) : Bool :=
  s.sheets.any (fun k => (List.zip (s.sheet k).recs (s.sheet k).com).any (fun e => e.2.stPend && rDoor e.1 == n))

/-- The record word that INST_SEL selects, and channel A's result with channel B's captured b0. -/
def State.instRec (s : State) : Nat :=
  let v := s.sp.isel
  beAt (nth [] (s.sheet (v / 512 % 2)).recs (v % 512)) (2 * (v / 1024 % 8)) 2
def State.instRes (s : State) : Nat :=
  let v := s.sp.isel
  let h := s.sheet (v / 512 % 2)
  let r := nth [] h.recs (v % 512)
  (nth {} h.a (v % 512)).res.toNat + flag (rCheck r && h.capB0 (v % 512)) 8

def State.sheetReg (s : State) (a : Nat) : Nat :=
  let count := fun (h : Sheet) => if h.loaded then h.recs.length else 0
  let crc := fun (h : Sheet) => if h.loaded then h.crc.toNat else 0
  let timer := fun (h : Sheet) => h.ogFlags (fun i _ => (nth {} h.a i).since.isSome)
  match a with
  | 0x80 => s.sh0.cycle + flag s.sh0.loaded 2 + flag s.sh1.loaded 3 + flag ((List.range 32).any s.startPend) 4 +
      flag (s.sh0.ogFlags s.sh0.rstWait != 0 || s.sh1.ogFlags s.sh1.rstWait != 0) 5
  | 0x81 => count s.sh0
  | 0x82 => count s.sh1
  | 0x83 => wordOf 2 0 (crc s.sh0)
  | 0x84 => wordOf 2 1 (crc s.sh0)
  | 0x85 => wordOf 2 0 (crc s.sh1)
  | 0x86 => wordOf 2 1 (crc s.sh1)
  | 0x87 => s.sp.err.toNat
  | 0x88 => s.sh0.ogFlags (fun i _ => (nth {} s.sh0.a i).b0)
  | 0x89 => s.sh0.ogFlags (fun i _ => s.sh0.capB0 i)
  | 0x8A => timer s.sh0
  | 0x8B => s.sh0.ogFlags s.sh0.rstWait
  | 0x8C => s.sh1.ogFlags (fun i _ => (nth {} s.sh1.a i).b0)
  | 0x8D => s.sh1.ogFlags (fun i _ => s.sh1.capB0 i)
  | 0x8E => timer s.sh1
  | 0x8F => s.sh1.ogFlags s.sh1.rstWait
  | 0x90 => bitmap ((List.range 16).map s.startPend)
  | 0x91 => bitmap ((List.range 16).map (fun n => s.startPend (n + 16)))
  | 0x92 => s.sp.isel
  | 0x93 => s.instRec
  | 0x94 => s.instRes
  | _ => 0

/-! ## Page 5: SIN (R90) -/

def State.sinReg (s : State) (a : Nat) : Nat :=
  let p := s.inPair s.sin.psel
  let l := s.tp s.sin.tsel
  let blank := fun (c : ChanV) => match c.blank with
    | some e => decide (s.now < e)
    | none => false
  match a with
  | 0x80 => bitmap16 s.sp.rdPairs 0
  | 0x81 => bitmap16 s.sp.rdPairs 16
  | 0x82 => if s.sampling then flags16 InPair.rawA s.sin.pairs 0 else 0
  | 0x83 => if s.sampling then flags16 InPair.rawA s.sin.pairs 16 else 0
  | 0x84 => if s.sampling then flags16 InPair.rawB s.sin.pairs 0 else 0
  | 0x85 => if s.sampling then flags16 InPair.rawB s.sin.pairs 16 else 0
  | 0x86 => flags16 (fun (q : InPair) => q.va.fault || q.vb.fault) s.sin.pairs 0
  | 0x87 => flags16 (fun (q : InPair) => q.va.fault || q.vb.fault) s.sin.pairs 16
  | 0x88 => bitmap ((List.range 8).map s.tpPad) + 256 * bitmap (s.sin.tp.map (·.on))
  | 0x89 => s.sin.cfgerr.toNat
  | 0x8A => s.sin.psel
  | 0x8B => p.mode + 16 * p.srcA + 256 * p.srcB
  | 0x8C => p.filt + 256 * p.settle
  | 0x8D => p.ossdtol + 256 * p.ossdchk
  | 0x8E => p.disc
  | 0x8F => p.va.cause + flag (p.va.disc.isSome && !p.va.fired) 3 + flag (blank p.va.a) 4 + flag (blank p.va.b) 5
  | 0x90 => p.missA + 256 * p.missB
  | 0x91 => s.sin.tsel
  | 0x92 => l.width
  | 0x93 => l.period
  | 0x94 => wordOf 2 0 l.phase
  | 0x95 => wordOf 2 1 l.phase
  | 0x96 => l.cnt
  | _ => 0

/-! ## Page 6: SOUT (R124) -/

def State.soutReg (s : State) (a : Nat) : Nat :=
  let o := s.out s.sout.osel
  let all := fun (p : OutSt → Bool) => bitmap (s.sout.outs.map p)
  match a with
  | 0x80 => all (fun o => o.p.pad)
  | 0x81 => all (fun o => o.m.pad)
  | 0x82 => all (fun o => o.p.rb)
  | 0x83 => all (fun o => o.m.rb)
  | 0x84 => all (fun o => o.rbFlt || o.ocFlt)
  | 0x85 => all (·.latch)
  | 0x86 => all (·.force)
  | 0x87 => flag s.sout.open_ + 2 * (s.sout.trig % 64) + flag s.sout.gateOk 7 + flag s.sout.ext 8
  | 0x88 => s.sout.cfgerr.toNat
  | 0x89 => s.sout.osel
  | 0x8A => o.offdly + 256 * o.swblank
  | 0x8B => o.ocfilt
  | 0x8C => o.darkper + 1024 * o.darkw
  | 0x8D => o.episodes + 256 * o.ocs
  | 0x8E => flag o.p.pass + flag o.m.pass 1 + flag o.p.deferred 2 + flag o.m.deferred 3
  | 0x8F => o.p.dtime
  | 0x90 => o.m.dtime
  | 0x91 => flag (s.barkChanging s.sout.barkAat) + flag (s.barkChanging s.sout.barkBat) 1 + flag s.sout.monA 2 + flag s.sout.monB 3
  | _ => 0

/-! ## Page 7: MOT (R156) -/

/-- A motion record of the wheel is at LOCAL for MOT_DISC. -/
def State.motLocal (s : State) (w : Nat) : Bool :=
  s.sheets.any (fun k => (List.zip (s.sheet k).recs (s.sheet k).com).any (fun e =>
    rMotion e.1 && rWheel e.1 == w && e.2.locals.any (fun x => x.cause == LocalCause.motion .motDisc)))

def State.mstat (s : State) (n : Nat) : Nat :=
  let w := s.wheel n
  if w.used then 1 + flag w.a.spdOk 1 + flag w.a.posOk 2 + flag w.a.down 3 + flag (s.motLocal n) 4 else 0

/-- Channel A's speed in 0.01 rpm. -/
def Wheel.speed (w : Wheel) : Nat :=
  match w.a.norm with
  | some p => Nat.min (6000000000 / (w.teeth * p)) 0xFFFF
  | none => 0

def State.motReg (s : State) (a : Nat) : Nat :=
  let w := s.wheel s.mot.wsel
  match a with
  | 0x80 => s.mstat 0 + 256 * s.mstat 1
  | 0x81 => s.mot.wsel
  | 0x82 => w.a.cnt
  | 0x83 => w.cntB
  | 0x84 => w.speed
  | 0x85 => wordOf 2 0 w.a.per
  | 0x86 => wordOf 2 1 w.a.per
  | 0x87 => w.discarded + 256 * w.inferred
  | 0x88 => w.diag + flag w.diff 3
  | 0x89 => w.teeth
  | 0x8A => w.minw + 4096 * w.tolt
  | 0x8B => w.refpair
  | 0x8C => w.reftooth
  | 0x8D => w.chkspd
  | 0x8E => w.xofs + 256 * w.xtola
  | 0x8F => w.xtols
  | 0x90 => s.mot.cfgerr.toNat
  | 0x91 => s.mot.sched.toNat
  | _ => 0

/-! ## Page 8: COL (R284) -/

/-- The sixteen slots from an index for which a test holds. -/
def State.slots16 (s : State) (p : Slot → Bool) (k : Nat) : Nat := flags16 p s.col.slots (16 * k)

def State.colReg (s : State) (a : Nat) : Nat :=
  let c := s.slot s.col.csel
  let p0 := s.radio 0
  let p1 := s.radio 1
  let live := fun (c : SlotCh) => c.ds == .live
  if 0x81 ≤ a ∧ a ≤ 0x84 then s.slots16 (·.bound) (a - 0x81)
  else if 0x85 ≤ a ∧ a ≤ 0x88 then s.slots16 (fun c => live c.a) (a - 0x85)
  else if 0x89 ≤ a ∧ a ≤ 0x8C then s.slots16 (fun c => live c.b) (a - 0x89)
  else if 0x8D ≤ a ∧ a ≤ 0x90 then s.slots16 (fun c => c.ms == .live) (a - 0x8D)
  else match a with
  | 0x80 => flag p0.on + flag p1.on 1 + flag p0.answering 2 + flag p1.answering 3 + 16 * s.col.sampofs
  | 0x91 => s.col.csel
  | 0x92 => c.a.ds.code + 16 * c.ms.code + flag (c.a.got && c.a.unsync) 7 + 256 * Nat.min c.a.misses 15
  | 0x93 => c.a.seq
  | 0x94 => c.age
  | 0x95 => c.crcerr
  | 0x96 => c.miss
  | 0x97 => c.losts + 256 * c.quars
  | 0x98 => c.a.diag.toNat
  | 0x9A => s.col.cfgerr.toNat
  | 0x9B => p0.err + 256 * p1.err
  | 0x9C => p0.bmiss + 256 * p1.bmiss
  | 0x9D => s.col.lastdrop.toNat
  | _ => 0

/-! ## Page 9: YARD (R330) -/

/-- ms since entry into HOLDOVER, while the node is in HOLDOVER or SYNC_LOST. -/
def State.holdTime (s : State) : Nat :=
  if s.yard.sync == .holdover || s.yard.sync == .syncLost then Nat.min ((s.now - s.yard.holdAt) / ms) 0xFFFF else 0

def State.conns16 (s : State) (p : Conn → Bool) (k : Nat) : Nat := flags16 p s.yard.conns (16 * k)

def State.yardReg (s : State) (a : Nat) : Nat :=
  let y := s.yard
  let p := s.yport y.psel
  let c := s.conn y.csel
  let live := fun (c : ConnCh) => c.ds == .live
  if 0x9B ≤ a ∧ a ≤ 0x9E then s.conns16 (fun c => live c.a) (a - 0x9B)
  else if 0x9F ≤ a ∧ a ≤ 0xA2 then s.conns16 (fun c => live c.b) (a - 0x9F)
  else match a with
  | 0x80 => y.sync.code + flag y.root 2 + 8 * bitmap (y.ports.map (·.up)) + 64 * y.depth + flag y.upPert 10
  | 0x81 => twos16 y.offset 32767
  | 0x82 => Nat.min y.delay 0xFFFF
  | 0x83 => wordOf 2 0 (twos32 y.rate)
  | 0x84 => wordOf 2 1 (twos32 y.rate)
  | 0x85 => s.holdTime
  | 0x86 => y.upSeen
  | 0x87 => y.psel
  | 0x88 => flag p.up + flag p.bad 1 + 256 * p.downs
  | 0x89 => p.retry
  | 0x8A => p.err
  | 0x8B => y.csel
  | 0x8C => c.a.ds.code + 16 * c.ms.code + flag (c.a.got && c.a.unsync) 7 + 256 * Nat.min c.a.reads 0x3F
  | 0x8D => c.a.seq0
  | 0x8E => c.age
  | 0x8F => c.crcerr
  | 0x90 => c.losts + 256 * c.quars
  | 0x92 => y.cfgerr.toNat
  | 0x93 => y.pend.length
  | 0x94 => y.lcancel.toNat
  | 0x95 => flag y.wpend.isSome + flag y.wforce.isSome 1 + 256 * y.wcnt
  | 0x96 => y.worigin
  | 0x97 => wordOf 4 0 y.wltime
  | 0x98 => wordOf 4 1 y.wlatch
  | 0x99 => wordOf 4 2 y.wlatch
  | 0x9A => wordOf 4 3 y.wlatch
  | _ => 0

/-! ## Page 10: FAULT (R360) -/

/-- CCLASS of the selected source. -/
def State.cclass (s : State) : Nat :=
  mapClass s.flt.map s.flt.csel + 4 * (match Src.all[s.flt.csel]? with
    | some src => (minClass src).code
    | none => 0)

def State.fltReg (s : State) (a : Nat) : Nat :=
  let newest := match s.flt.rec? with
    | some o => o.r.recno
    | none => s.flt.recno
  let active := bitmap ((List.range 41).map s.active)
  match a with
  | 0x80 => s.frecOpen + flag (s.stopActive || s.stopSample) 3 + flag (s.flt.on && s.item1Now && !s.stopSample) 4 + flag s.flt.cutprev 5
  | 0x81 => wordOf 2 0 newest
  | 0x82 => wordOf 2 1 newest
  | 0x83 => s.faultRecs.length
  | 0x84 => s.flt.ridx
  | 0x85 => s.flt.rwsel
  | 0x86 => beAt s.flt.buf (2 * s.flt.rwsel) 2
  | 0x87 => flag (commitOk s.flt.buf)
  | 0x88 => wordOf 4 3 active
  | 0x89 => wordOf 4 2 active
  | 0x8A => wordOf 4 1 active
  | 0x8B => wordOf 4 0 active
  | 0x8C => s.flt.csel
  | 0x8D => if s.flt.on then s.cclass else 0
  | 0x8F => s.flt.notesupNow
  | 0x90 => if s.sh0.loaded then bitmap s.sh0.localGroups else 0
  | 0x91 => if s.sh1.loaded then bitmap s.sh1.localGroups else 0
  | 0x92 => s.flt.wrAband + 256 * s.flt.wrBad
  | 0x93 => s.flt.cfgerr.toNat
  | _ => 0

/-! ## Page 11: FARR (R450) -/

/-- The result of the selected test, 0 for a code that is no test. -/
def Farr.result (f : Farr) : Nat := if f.rsel = 0 then 0 else (nth 0 f.results (f.rsel - 1)).toNat

def State.farrReg (s : State) (a : Nat) : Nat :=
  let f := s.farr
  match a with
  | 0x80 => f.origin.code + flag f.busy 2 + flag f.failHold 3
  | 0x81 => f.cur
  | 0x82 => f.sel
  | 0x84 => f.budget
  | 0x85 => f.pass
  | 0x86 => f.fail
  | 0x87 => f.refuse.toNat
  | 0x88 => f.firstFail.toNat
  | 0x89 => f.rsel
  | 0x8A => wordOf 2 0 f.result
  | 0x8B => wordOf 2 1 f.result
  | 0x8C => if f.rsel = 0 then 0 else nth 0 f.durs (f.rsel - 1)
  | 0x8D => f.setdur
  | 0x8E => f.hostcnt
  | _ => 0

/-! ## Page 12: IMG (R502) -/

/-- GEN of the governing record of a kind, 0 where none governs. -/
def State.govGen (s : State) (kind : Nat) : Nat :=
  match s.governing kind with
  | some e => cGen e.2
  | none => 0

/-- XDATA: words of the enrolled key hash and of the UID. -/
def State.xdata (s : State) : Nat :=
  let n := s.img.xsel
  if n < 16 then beAt (s.img.keyEnr.getD []) (2 * n) 2 else if n < 24 then beAt uidBytes (2 * (n - 16)) 2 else 0

def State.imgReg (s : State) (a : Nat) : Nat :=
  let i := s.img
  match a with
  | 0x80 => i.cfgAct + 2 * (s.govBank 0).getD 0 + flag (s.governing 0).isSome 2 + flag i.pending 3 + 16 * i.loftAct +
      32 * (s.govBank 1).getD 0 + flag i.loftFb 6 + flag i.noLoft 7 + flag i.keyEnr.isSome 8 + flag i.keyFuse.isSome 9 +
      flag i.seqOpen.isSome 10 + 2048 * i.seqOpen.getD 0 + flag i.verified 12 + flag i.erased 13
  | 0x81 => i.cfgver
  | 0x82 => wordOf 2 0 (s.govGen 0)
  | 0x83 => wordOf 2 1 (s.govGen 0)
  | 0x84 => wordOf 2 0 (s.govGen 1)
  | 0x85 => wordOf 2 1 (s.govGen 1)
  | 0x86 => i.cfgerr.toNat
  | 0x87 => i.verr.toNat
  | 0x88 => i.wblocks
  | 0x89 => i.xsel
  | 0x8A => s.xdata
  | 0x8B => i.lclast.toNat
  | _ => 0

/-! ## Page 13: SPOOK (R510, R515) -/

def State.spookReg (s : State) (a : Nat) : Nat :=
  let p := s.spook
  if s.img.lc == lcBlank || s.img.lc == 0 then 0
  else match a with
  | 0x80 => flag p.en
  | 0x81 => flag p.en + flag s.spookPermit 1
  | 0x82 => p.hssel
  | 0x83 => nth 0 p.hs p.hssel
  | 0x84 => p.fifosel
  | 0x85 => nth 0 p.bp p.fifosel
  | 0x86 => p.ypsel
  | 0x87 => nth 0 p.ydly p.ypsel
  | 0x88 => nth 0 p.ydrop p.ypsel
  | 0x89 => nth 0 p.ycorr p.ypsel
  | 0x8A => p.rpsel
  | 0x8B => nth 0 p.rdrop p.rpsel
  | 0x8C => nth 0 p.bdly p.rpsel
  | 0x8D => p.cksel
  | 0x8E => nth 0 p.ckdev p.cksel
  | 0x8F => p.dropped + 256 * p.corrupted
  | 0x90 => nth 0 p.rcnt 0 + 256 * nth 0 p.rcnt 1
  | _ => 0

/-! ## A read -/

/-- A register of the window on a page (R471). -/
def State.pageReg (s : State) (page a : Nat) : Nat :=
  match page with
  | 0 => s.seqReg a
  | 1 => s.clkReg a
  | 2 => s.pairReg a
  | 3 => s.fabReg a
  | 4 => s.sheetReg a
  | 5 => s.sinReg a
  | 6 => s.soutReg a
  | 7 => s.motReg a
  | 8 => s.colReg a
  | 9 => s.yardReg a
  | 10 => s.fltReg a
  | 11 => s.farrReg a
  | 12 => s.imgReg a
  | 13 => s.spookReg a
  | _ => 0

/-- What a read of an address gives. -/
def State.regGet (s : State) (a : Nat) : Word := w16 (if a < 0x80 then s.globalReg a else s.pageReg s.cp.page a)

/-- What a read of an address does: YTIME0 latches YTIME1 to YTIME3 (R467), WLTIME3 latches WLTIME2 to WLTIME0 (R330). -/
def State.readEffect (s : State) (a : Nat) : State :=
  if a = 0x10 then { s with cp := { s.cp with ylatch := s.ytime } }
  else if a = 0x97 ∧ s.cp.page = 9 then { s with yard := { s.yard with wlatch := s.yard.wltime } }
  else s

/-- The words of a read frame in word order, each with the side effect of the reads before it (R464). -/
def State.readWords (s : State) : List Nat → State × List Word
  | [] => (s, [])
  | a :: as =>
    let out := (s.readEffect a).readWords as
    (out.1, s.regGet a :: out.2)

end Sys2Proof.Machine
end

