-- ==== Sys2Proof/Machine/ControlPort.lean ====
section
/-!
DEFINITION. The control port (15): writes of registers with their access codes (R5, R465), write frames and read frames
with their checks (R456 to R464), and the status byte (R457).
-/
namespace Sys2Proof.Machine

/-! ## Writes of the mailbox (R472, R473) -/

/-- A write to HOSTCMD: ignored while a command runs, else HOSTRESP becomes BUSY and the command reads its arguments. -/
def State.hostcmdWrite (s : State) (v : Word) : State :=
  if s.cp.mbx.isSome then s
  else
    let code := v.toNat % 256
    let tag := v.toNat / 256
    let s := { s with cp := { s.cp with
      hostcmd := v, resp := w16 (256 * tag + 1)
      mbx := some { code := code, tag := tag, arg0 := s.cp.arg0, arg1 := s.cp.arg1, buf := s.cp.mbuf } } }
    (s.fifoPush 7 (.request code)).mbxUnknown

/-- A write to MBUFw. -/
def State.mbufWrite (s : State) (w : Nat) (v : Word) : State :=
  let m := setAt s.cp.mbuf (2 * w) (BitVec.ofNat 8 (v.toNat / 256))
  { s with cp := { s.cp with mbuf := setAt m (2 * w + 1) (BitVec.ofNat 8 v.toNat) } }

/-! ## Writes of registers (R465, R467, R471) -/

/-- A write to a global register. -/
def State.globalPut (s : State) (a : Nat) (v : Word) : State :=
  if 0x20 ≤ a ∧ a ≤ 0x5F then s.mbufWrite (a - 0x20) v
  else match a with
  | 0x08 => s.fstatWrite 0 v
  | 0x09 => s.fstatWrite 1 v
  | 0x0A => s.fstatWrite 2 v
  | 0x0B => s.fstatWrite 3 v
  | 0x0E => { s with cp := { s.cp with alertEn := v.toNat } }
  | 0x0F => s.alertWrite v
  | 0x17 => s.hostcmdWrite v
  | 0x18 => { s with cp := { s.cp with arg0 := v } }
  | 0x19 => { s with cp := { s.cp with arg1 := v } }
  | 0x7F => { s with cp := { s.cp with page := v.toNat % 16 } }
  | _ => s

/-- A write to BUDGET: a value above 0x2D is ignored (R442). -/
def State.budgetWrite (s : State) (v : Nat) : State :=
  if v % 64 ≤ 0x2D then { s with farr := { s.farr with budget := v % 64 } } else s

/-- A write to a register of a page. Read-only fields, reserved fields and reserved addresses ignore it. -/
def State.pagePut (s : State) (page a : Nat) (v : Word) : State :=
  let n := v.toNat
  match page, a with
  | 0, 0x83 => { s with seq := { s.seq with chsel := n % 8 } }
  | 0, 0x8F => s.sidxWrite v
  | 0, 0x90 => { s with seq := { s.seq with swsel := n % 32 } }
  | 0, 0x96 => s.shdnWrite v
  | 1, 0x82 => { s with clk := { s.clk with csel := n % 8 } }
  | 2, 0x86 => s.rotctlWrite v
  | 3, 0x89 => { s with fab := { s.fab with fsel := n % 2048 } }
  | 3, 0x8A => { s with fab := { s.fab with fwsel := n % 64 } }
  | 3, 0x8F => { s with fab := { s.fab with prbsel := n % 8 } }
  | 3, a => s.probeWr a v
  | 4, 0x92 => { s with sp := { s.sp with isel := n % 8192 } }
  | 5, 0x8A => { s with sin := { s.sin with psel := n % 32 } }
  | 5, 0x91 => { s with sin := { s.sin with tsel := n % 8 } }
  | 6, 0x89 => { s with sout := { s.sout with osel := n % 16 } }
  | 7, 0x81 => { s with mot := { s.mot with wsel := n % 2 } }
  | 8, 0x91 => { s with col := { s.col with csel := n % 64 } }
  | 8, 0x99 => s.colQrel v
  | 9, 0x87 => { s with yard := { s.yard with psel := n % 4 } }
  | 9, 0x8B => { s with yard := { s.yard with csel := n % 64 } }
  | 9, 0x91 => s.yardQrel v
  | 10, 0x84 => s.ridxWrite v
  | 10, 0x85 => { s with flt := { s.flt with rwsel := n % 16 } }
  | 10, 0x8C => { s with flt := { s.flt with csel := n % 64 } }
  | 10, 0x8E => s.ackWrite v
  | 11, 0x82 => { s with farr := { s.farr with sel := n % 8192 } }
  | 11, 0x83 => s.goWrite v
  | 11, 0x84 => s.budgetWrite n
  | 11, 0x89 => { s with farr := { s.farr with rsel := n % 32 } }
  | 12, 0x89 => { s with img := { s.img with xsel := n % 32 } }
  | 13, a => s.spookPut a n
  | _, _ => s

/-- A write to a register. -/
def State.regPut (s : State) (a : Nat) (v : Word) : State := if a < 0x80 then s.globalPut a v else s.pagePut s.cp.page a v

/-- The address holds a field with access code LK (R182, R249, R446, R510). -/
def lkReg (page a : Nat) : Bool :=
  match page with
  | 2 => a == 0x86
  | 3 => a == 0x8E || a == 0x90 || a == 0x91
  | 11 => a == 0x82 || a == 0x83 || a == 0x84
  | 13 => spookWritable a
  | _ => false

/-- The address holds a field with access code RWM (R396, R442). -/
def rwmReg (page a : Nat) : Bool := (page == 0 && a == 0x96) || (page == 11 && a == 0x84)

/-- One word of a write: LK is judged first in FIELD, then RWM outside MAINT; CP_PROTO is raised once per frame (R465). -/
def State.wordWrite (s : State) (a : Nat) (v : Word) : State :=
  if 0x80 ≤ a && s.field && lkReg s.cp.page a then
    if bit s.cp.st 3 then s.alert 11 else s.lkRefused a
  else if 0x80 ≤ a && s.clk.rs != .maint && rwmReg s.cp.page a then (s.frameBit 4).alert 11
  else s.regPut a v

/-- The words of a write frame, in word order: a word written to PAGE acts on the later words (R463). -/
def State.wordsWrite (s : State) : List (Nat × Word) → State
  | [] => s
  | (a, v) :: ws => (s.wordWrite a v).wordsWrite ws

/-- REGISTER_WRITE: one word, as a frame of its own (R465). -/
def execRegisterWrite (t : Nat) (addr : Byte) (value : Word) (s : State) : Host.Outcome State Fault Refusal :=
  act t s (fun s => s.onPort (fun s => ({ s with cp := { s.cp with st := 1 } }).wordWrite addr.toNat value))

/-! ## Frames (R456 to R461) -/

/-- N of a CMD byte, RD and AI. -/
def frameN (cmd : Nat) : Nat := cmd % 64 + 1
def frameRd (cmd : Nat) : Bool := bit cmd 7
def frameAi (cmd : Nat) : Bool := bit cmd 6

/-- The addresses of a frame's words. -/
def frameAddrs (cmd addr : Nat) : List Nat :=
  (List.range (frameN cmd)).map (fun k => if frameAi cmd then addr + k else addr)

/-- The last address exceeds 0xFF. -/
def frameOver (cmd addr : Nat) : Bool := frameAi cmd && decide (0xFF < addr + (frameN cmd - 1))

/-- The status byte (R457). -/
def State.statusByte (s : State) : Byte :=
  BitVec.ofNat 8 (s.cp.st % 32 + flag s.cp.mbx.isSome 5 + flag s.cp.alertN 6 +
    flag (!(s.clk.rs == .armed || s.clk.rs == .run || s.clk.rs == .maint)) 7)

/-- CP_CS_N fell before t_WR had passed after a write frame (R454, R459). -/
def State.frameEarly (s : State) (csFall : Nat) : Bool :=
  match s.cp.wrEnd with
  | some e => decide (csFall < e.1 + 200 + 50 * e.2)
  | none => false

/-- A frame is discarded (R459, R461). -/
def State.frameBad (s : State) (crc : Bool) (addr : Nat) : State :=
  let cp := if crc then { s.cp with crcErr := sat8 s.cp.crcErr, st := 2 } else { s.cp with frmErr := sat8 s.cp.frmErr, st := 4 }
  (({ s with cp := cp }).err .cpProto addr).alert 10

/-- The data words of a write frame. -/
def frameWords : List Nat → List Byte → List (Nat × Word)
  | a :: as, h :: l :: rest => (a, w16 (256 * h.toNat + l.toNat)) :: frameWords as rest
  | _, _ => []

/-- A write frame ends. What it discards for its length is a frame error whatever its last byte; then the CRC is judged, and
then the other frame errors (DEDUCED, notes/assumptions/31.md). -/
def State.writeEnd (s : State) (csFall : Nat) (bytes : List Byte) (extraBits : Nat) : State :=
  let cmd := byteAt bytes 0
  let addr := byteAt bytes 1
  let early := s.frameEarly csFall
  let s := { s with cp := { s.cp with
    sdo := if bytes.isEmpty then [] else s.statusByte :: List.replicate (bytes.length - 1) 0
    wrEnd := if bytes.isEmpty then s.cp.wrEnd else some (s.now, frameN cmd) } }
  if frameRd cmd || bytes.length != 3 + 2 * frameN cmd || extraBits != 0 then s.frameBad false addr
  else if bytes.getLast? != some (crc8 (bytes.take (bytes.length - 1))) then s.frameBad true addr
  else if frameOver cmd addr || early then s.frameBad false addr
  else ({ s with cp := { s.cp with st := 1 } }).wordsWrite (frameWords (frameAddrs cmd addr) (bytes.drop 2))

/-- WRITE_FRAME. -/
def execWriteFrame (t : Nat) (csFall : Nat) (bytes : List Byte) (extraBits : Nat) (s : State) : Host.Outcome State Fault Refusal :=
  act t s (fun s => s.onPort (fun s => s.writeEnd csFall bytes extraBits))

/-- What CP_SDO carries in a read frame, CRC_D complemented after a short turnaround (R457, R458, R460). -/
def readReply (cmd addr : Nat) (status : Byte) (data : List Byte) (short : Bool) : List Byte :=
  let c := crc8 ([BitVec.ofNat 8 cmd, BitVec.ofNat 8 addr, status] ++ data)
  [status, 0, 0] ++ data ++ [if short then ~~~ c else c]

/-- A read frame ends. The data that a frame discarded before its turnaround carries are free (notes/assumptions/31.md). -/
def State.readEnd (s : State) (csFall : Nat) (bytes : List Byte) (turn bits : Nat) : State :=
  let cmd := byteAt bytes 0
  let addr := byteAt bytes 1
  let n := frameN cmd
  let early := s.frameEarly csFall
  let st := s.statusByte
  let reply := fun (s : State) (l : List Byte) => { s with cp := { s.cp with sdo := l.take (bits / 8) } }
  if bytes.length != 3 || !frameRd cmd then
    (reply s (if bytes.isEmpty then [] else st :: List.replicate (bytes.length - 1) 0)).frameBad false addr
  else if bytes.getLast? != some (crc8 (bytes.take 2)) then
    (reply s.fresh ([st, 0, 0] ++ toBytes (2 * n + 1) (Config.freeNat s.free))).frameBad true addr
  else if frameOver cmd addr || early then
    (reply s.fresh ([st, 0, 0] ++ toBytes (2 * n + 1) (Config.freeNat s.free))).frameBad false addr
  else if turn < 1000 + 50 * n then
    (reply s (readReply cmd addr st (List.replicate (2 * n) 0) true)).frameBad false addr
  else
    let out := s.readWords (frameAddrs cmd addr)
    let data := out.2.flatMap (fun v => toBytes 2 v.toNat)
    if bits != 8 * (4 + 2 * n) then (reply s (readReply cmd addr st data false)).frameBad false addr
    else
      let s := reply out.1 (readReply cmd addr st data false)
      { s with cp := { s.cp with st := 1 } }

/-- READ_FRAME. -/
def execReadFrame (t : Nat) (csFall : Nat) (bytes : List Byte) (turn bits : Nat) (s : State) : Host.Outcome State Fault Refusal :=
  act t s (fun s => s.onPort (fun s => s.readEnd csFall bytes turn bits))

end Sys2Proof.Machine
end

