-- ==== Sys2Proof/Machine/Dispatch.lean ====
section
/-!
DEFINITION. The dispatcher: one arm per command of the table, each one direct call of the command's meaning.
-/
namespace Sys2Proof.Machine

def exec (i : Instr) (s : State) : Host.Outcome State Fault Refusal :=
  match i with
  | .powerOnResetRelease t => Sys2Proof.Machine.execPowerOnResetRelease t s
  | .powerOnResetAssert t => Sys2Proof.Machine.execPowerOnResetAssert t s
  | .upSequenceStart t => Sys2Proof.Machine.execUpSequenceStart t s
  | .seqPgRise t ch obs => Sys2Proof.Machine.execSeqPgRise t ch obs s
  | .settleExpiry t ch obs => Sys2Proof.Machine.execSettleExpiry t ch obs s
  | .pgTimeout t ch => Sys2Proof.Machine.execPgTimeout t ch s
  | .seqPgFall t ch width => Sys2Proof.Machine.execSeqPgFall t ch width s
  | .shdn t value => Sys2Proof.Machine.execShdn t value s
  | .dscTimeout t ch => Sys2Proof.Machine.execDscTimeout t ch s
  | .vinWarn t => Sys2Proof.Machine.execVinWarn t s
  | .vinOk t => Sys2Proof.Machine.execVinOk t s
  | .vinAbandon t snapWriting recWriting => Sys2Proof.Machine.execVinAbandon t snapWriting recWriting s
  | .vinAbandonEnd t => Sys2Proof.Machine.execVinAbandonEnd t s
  | .snapshotWrite t => Sys2Proof.Machine.execSnapshotWrite t s
  | .resetNAssert t width => Sys2Proof.Machine.execResetNAssert t width s
  | .resetNRelease t => Sys2Proof.Machine.execResetNRelease t s
  | .crystalStartTimeout t => Sys2Proof.Machine.execCrystalStartTimeout t s
  | .rcCalibration t khz => Sys2Proof.Machine.execRcCalibration t khz s
  | .bootComplete t strap gateFail bank0 bank1 => Sys2Proof.Machine.execBootComplete t strap gateFail bank0 bank1 s
  | .cmpinjEnd t uncaught falseFlag => Sys2Proof.Machine.execCmpinjEnd t uncaught falseFlag s
  | .farrierTestStart t => Sys2Proof.Machine.execFarrierTestStart t s
  | .farrierTestEnd t pass result => Sys2Proof.Machine.execFarrierTestEnd t pass result s
  | .selftestEnd t obs => Sys2Proof.Machine.execSelftestEnd t obs s
  | .loftStart t => Sys2Proof.Machine.execLoftStart t s
  | .lockwaitExpiry t => Sys2Proof.Machine.execLockwaitExpiry t s
  | .pllLossDetect t idx dev => Sys2Proof.Machine.execPllLossDetect t idx dev s
  | .clockEdgeMissing t idx => Sys2Proof.Machine.execClockEdgeMissing t idx s
  | .rcstop t => Sys2Proof.Machine.execRcstop t s
  | .handshakeTimeout t island waiter => Sys2Proof.Machine.execHandshakeTimeout t island waiter s
  | .fifoTransfer t fifo => Sys2Proof.Machine.execFifoTransfer t fifo s
  | .cycleBoundary t obs => Sys2Proof.Machine.execCycleBoundary t obs s
  | .crossCheckCapture t upsets => Sys2Proof.Machine.execCrossCheckCapture t upsets s
  | .commandDeadline t core => Sys2Proof.Machine.execCommandDeadline t core s
  | .darkPulseStart t line => Sys2Proof.Machine.execDarkPulseStart t line s
  | .checkSample t line => Sys2Proof.Machine.execCheckSample t line s
  | .darkPulseEnd t line => Sys2Proof.Machine.execDarkPulseEnd t line s
  | .blankingEnd t pair ch => Sys2Proof.Machine.execBlankingEnd t pair ch s
  | .filterExpiry t pair ch => Sys2Proof.Machine.execFilterExpiry t pair ch s
  | .discrepancyExpiry t pair => Sys2Proof.Machine.execDiscrepancyExpiry t pair s
  | .ossdtolExpiry t pair ch => Sys2Proof.Machine.execOssdtolExpiry t pair ch s
  | .ossdchkExpiry t pair ch => Sys2Proof.Machine.execOssdchkExpiry t pair ch s
  | .ackActuation t pin level => Sys2Proof.Machine.execAckActuation t pin level s
  | .ackActuationDiscard t => Sys2Proof.Machine.execAckActuationDiscard t s
  | .switchtExpiry t sheet idx => Sys2Proof.Machine.execSwitchtExpiry t sheet idx s
  | .donExpiry t sheet idx => Sys2Proof.Machine.execDonExpiry t sheet idx s
  | .cat1DelayExpiry t sheet idx => Sys2Proof.Machine.execCat1DelayExpiry t sheet idx s
  | .maxtExpiry t sheet idx => Sys2Proof.Machine.execMaxtExpiry t sheet idx s
  | .toothEdge t wheel pin level => Sys2Proof.Machine.execToothEdge t wheel pin level s
  | .standstillConfirm t sheet idx => Sys2Proof.Machine.execStandstillConfirm t sheet idx s
  | .motionLocalReset t sheet idx => Sys2Proof.Machine.execMotionLocalReset t sheet idx s
  | .launchRelease t => Sys2Proof.Machine.execLaunchRelease t s
  | .readbackChange t out leg level => Sys2Proof.Machine.execReadbackChange t out leg level s
  | .switchOnWindowEnd t out => Sys2Proof.Machine.execSwitchOnWindowEnd t out s
  | .ocfiltExpiry t out leg => Sys2Proof.Machine.execOcfiltExpiry t out leg s
  | .offdlyExpiry t out leg => Sys2Proof.Machine.execOffdlyExpiry t out leg s
  | .outputFaultClear t out => Sys2Proof.Machine.execOutputFaultClear t out s
  | .darkTestDue t out leg => Sys2Proof.Machine.execDarkTestDue t out leg s
  | .darkTestStart t out leg => Sys2Proof.Machine.execDarkTestStart t out leg s
  | .darkTestPass t => Sys2Proof.Machine.execDarkTestPass t s
  | .darkTestTimeout t => Sys2Proof.Machine.execDarkTestTimeout t s
  | .muzzleNLow t width => Sys2Proof.Machine.execMuzzleNLow t width s
  | .muzzleNHigh t => Sys2Proof.Machine.execMuzzleNHigh t s
  | .barkMon t pin => Sys2Proof.Machine.execBarkMon t pin s
  | .kramPatrol t errs => Sys2Proof.Machine.execKramPatrol t errs s
  | .rotationDue t => Sys2Proof.Machine.execRotationDue t s
  | .rotationSplit t => Sys2Proof.Machine.execRotationSplit t s
  | .rotationLate t => Sys2Proof.Machine.execRotationLate t s
  | .rotationRejoin t => Sys2Proof.Machine.execRotationRejoin t s
  | .soloTimeout t => Sys2Proof.Machine.execSoloTimeout t s
  | .rotctlNow t value => Sys2Proof.Machine.execRotctlNow t value s
  | .scrubPass t upsets refError => Sys2Proof.Machine.execScrubPass t upsets refError s
  | .scrubReload t frame => Sys2Proof.Machine.execScrubReload t frame s
  | .probeWrite t addr value => Sys2Proof.Machine.execProbeWrite t addr value s
  | .radioTransfer t port irqLow => Sys2Proof.Machine.execRadioTransfer t port irqLow s
  | .radioPoll t port => Sys2Proof.Machine.execRadioPoll t port s
  | .beaconRequest t port => Sys2Proof.Machine.execBeaconRequest t port s
  | .pdu t port frame => Sys2Proof.Machine.execPdu t port frame s
  | .beaconReport t port frame => Sys2Proof.Machine.execBeaconReport t port frame s
  | .headStatus t port frame => Sys2Proof.Machine.execHeadStatus t port frame s
  | .portManagementFrame t port frame => Sys2Proof.Machine.execPortManagementFrame t port frame s
  | .refreshMissed t slot => Sys2Proof.Machine.execRefreshMissed t slot s
  | .maxageExpiry t conn idx => Sys2Proof.Machine.execMaxageExpiry t conn idx s
  | .colQrel t value => Sys2Proof.Machine.execColQrel t value s
  | .helloSend t port => Sys2Proof.Machine.execHelloSend t port s
  | .hello t port frame => Sys2Proof.Machine.execHello t port frame s
  | .linkFrameSend t port => Sys2Proof.Machine.execLinkFrameSend t port s
  | .ackOrderedSet t port seq compl => Sys2Proof.Machine.execAckOrderedSet t port seq compl s
  | .ackTimeout t port => Sys2Proof.Machine.execAckTimeout t port s
  | .safetyDataFrame t port frame => Sys2Proof.Machine.execSafetyDataFrame t port frame s
  | .safetyOpenFrame t port frame => Sys2Proof.Machine.execSafetyOpenFrame t port frame s
  | .managementFrame t port frame => Sys2Proof.Machine.execManagementFrame t port frame s
  | .connectionFrameTake t conn => Sys2Proof.Machine.execConnectionFrameTake t conn s
  | .openSend t conn => Sys2Proof.Machine.execOpenSend t conn s
  | .yardQrel t value => Sys2Proof.Machine.execYardQrel t value s
  | .timeExchangeStart t port => Sys2Proof.Machine.execTimeExchangeStart t port s
  | .sync t frame => Sys2Proof.Machine.execSync t frame s
  | .dreq t port frame => Sys2Proof.Machine.execDreq t port frame s
  | .dresp t frame => Sys2Proof.Machine.execDresp t frame s
  | .holdover t => Sys2Proof.Machine.execHoldover t s
  | .syncLost t => Sys2Proof.Machine.execSyncLost t s
  | .whistle t port frame aborted => Sys2Proof.Machine.execWhistle t port frame aborted s
  | .whistleStop t => Sys2Proof.Machine.execWhistleStop t s
  | .whistleClear t => Sys2Proof.Machine.execWhistleClear t s
  | .faultRecordWrite t => Sys2Proof.Machine.execFaultRecordWrite t s
  | .collInterval t => Sys2Proof.Machine.execCollInterval t s
  | .localReactionTimeout t => Sys2Proof.Machine.execLocalReactionTimeout t s
  | .deviceLocalClear t src => Sys2Proof.Machine.execDeviceLocalClear t src s
  | .sourceLocalClear t src => Sys2Proof.Machine.execSourceLocalClear t src s
  | .fstatClear t reg value => Sys2Proof.Machine.execFstatClear t reg value s
  | .faultAck t value => Sys2Proof.Machine.execFaultAck t value s
  | .ridx t value => Sys2Proof.Machine.execRidx t value s
  | .sidx t value => Sys2Proof.Machine.execSidx t value s
  | .alertSrcClear t value => Sys2Proof.Machine.execAlertSrcClear t value s
  | .tempReading t t0 t1 t2 => Sys2Proof.Machine.execTempReading t t0 t1 t2 s
  | .groomWdog t => Sys2Proof.Machine.execGroomWdog t s
  | .writeFrame t csFall bytes extraBits => Sys2Proof.Machine.execWriteFrame t csFall bytes extraBits s
  | .readFrame t csFall bytes turn bits => Sys2Proof.Machine.execReadFrame t csFall bytes turn bits s
  | .registerWrite t addr value => Sys2Proof.Machine.execRegisterWrite t addr value s
  | .echo t => Sys2Proof.Machine.execEcho t s
  | .devuid t => Sys2Proof.Machine.execDevuid t s
  | .maintEnter t => Sys2Proof.Machine.execMaintEnter t s
  | .maintLeave t => Sys2Proof.Machine.execMaintLeave t s
  | .imgBegin t => Sys2Proof.Machine.execImgBegin t s
  | .imgWrite t => Sys2Proof.Machine.execImgWrite t s
  | .imgVerify t => Sys2Proof.Machine.execImgVerify t s
  | .imgCommit t obs => Sys2Proof.Machine.execImgCommit t obs s
  | .yardMsend t => Sys2Proof.Machine.execYardMsend t s
  | .yardMrecv t => Sys2Proof.Machine.execYardMrecv t s
  | .lcAdvance t => Sys2Proof.Machine.execLcAdvance t s
  | .erasureComplete t => Sys2Proof.Machine.execErasureComplete t s
  | .erasureRestart t => Sys2Proof.Machine.execErasureRestart t s
  | .go t value => Sys2Proof.Machine.execGo t value s
  | .spookEn t value => Sys2Proof.Machine.execSpookEn t value s
  | .extest t obs => Sys2Proof.Machine.execExtest t obs s
  | .idcode t => Sys2Proof.Machine.execIdcode t s
  | .samplePreload t cells => Sys2Proof.Machine.execSamplePreload t cells s
  | .bypass t code => Sys2Proof.Machine.execBypass t code s
  | .pairHalt t digestDiffer => Sys2Proof.Machine.execPairHalt t digestDiffer s
  | .leadInspect t => Sys2Proof.Machine.execLeadInspect t s
  | .resync t => Sys2Proof.Machine.execResync t s
  | .tapReset t => Sys2Proof.Machine.execTapReset t s
  | .status t => Sys2Proof.Machine.execStatus t s
  | .readWord t addr => Sys2Proof.Machine.execReadWord t addr s
  | .writeWord t addr data => Sys2Proof.Machine.execWriteWord t addr data s
  | .readCoreRegister t reg core => Sys2Proof.Machine.execReadCoreRegister t reg core s
  | .writeCoreRegister t reg core data => Sys2Proof.Machine.execWriteCoreRegister t reg core data s
  | .step t obs => Sys2Proof.Machine.execStep t obs s
  | .resume t replayBad digestDiffer => Sys2Proof.Machine.execResume t replayBad digestDiffer s
  | .siPinChange t pair ch level => Sys2Proof.Machine.execSiPinChange t pair ch level s
  | .crystalRunning t => Sys2Proof.Machine.execCrystalRunning t s
  | .pllLock t => Sys2Proof.Machine.execPllLock t s
  | .linkError t port => Sys2Proof.Machine.execLinkError t port s
  | .yardTick t => Sys2Proof.Machine.execYardTick t s
  | .vinSample t microvolts => Sys2Proof.Machine.execVinSample t microvolts s

end Sys2Proof.Machine
end

