-- ==== Sys2Proof/Machine/Pins.lean ====
section
/-!
DEFINITION. The states of the output pins, stage by stage (R430, R534): what a pad drives, or what holds its level where it drives
nothing. The levels themselves are those of the chapters; under EXTEST the cells of the boundary scan register drive every pin but
the safe-output drives, which they drive in RETURN alone (R195).
-/
namespace Sys2Proof.Machine

/-- The state of a pad. -/
inductive PadState where
  /-- Its supply is not good, or has gone: the board's pull-down sets the level. -/
  | unpowered
  | highZ
  /-- High-impedance with the internal weak pull-down on. -/
  | pulledDown
  | low
  | high
  /-- A clock that runs, or a line that carries code groups. -/
  | running
  /-- Driven at differential 0. -/
  | differential0
  deriving DecidableEq, Repr

def PadState.level (v : Bool) : PadState := if v then .high else .low

/-- VIO33 and VIO18 are good: channels 0 and 1 of the sequencer (R383, R386). -/
def State.vio33 (s : State) : Bool := nth false s.seq.pg 0
def State.vio18 (s : State) : Bool := nth false s.seq.pg 1

/-- A pin over the stages of R430: unpowered without its supply; with it, high-impedance in OFF, one state in CUT, and from BOOT on its
own state. -/
def State.staged (s : State) (rail : Bool) (cut on : PadState) : PadState :=
  match s.clk.rs with
  | .off => if rail then .highZ else .unpowered
  | .cut => if rail then cut else .unpowered
  | _ => on

/-- The boundary scan register drives the pins (R195). -/
def State.extestOn (s : State) : Bool := s.pair.tap == .extest && s.live

/-- SOnP_DRV and SOnM_DRV (R95, R430): high-impedance in the gate test. -/
def State.drvPin (s : State) (n : Nat) (l : Leg) : PadState :=
  s.staged s.vio33 .low (if s.clk.rs == .selftest && decide (s.now < s.sout.gateTill) then .highZ else .level ((s.out n).leg l).pad)

/-- TP0 to TP7 (R74). -/
def State.tpPin (s : State) (n : Nat) : PadState :=
  s.staged s.vio33 .low (.level (if s.extestOn then s.pair.cells.tp.getLsbD n else s.tpPad n))

/-- BARK_A and BARK_B (R118). -/
def State.barkPin (s : State) (pin : Chan) : PadState :=
  let v := match pin with
    | .a => if s.extestOn then s.pair.cells.bark.getLsbD 0 else s.barks && s.sout.barkA
    | .b => if s.extestOn then s.pair.cells.bark.getLsbD 1 else s.barks && s.sout.barkB
  s.staged s.vio33 .low (.level v)

/-- The supply of an FIO bank, which the board takes from VIO33 or VIO18 (R533): as it is known last (notes/assumptions/113.md). -/
def State.bankGood (s : State) (n : Nat) : Bool :=
  if (if n < 48 then s.fab.feed0 else s.fab.feed1) then s.vio18 else s.vio33

/-- FIO0 to FIO95 (R237, R250, R430). -/
def State.fioPin (s : State) (n : Nat) : PadState :=
  let idle : PadState := if s.fioPull n then .pulledDown else .highZ
  let o := nth (false, false) s.logic.fioOut n
  match s.clk.rs with
  | .off => if s.bankGood n then .pulledDown else .unpowered
  | .cut => .unpowered
  | _ =>
    if s.extestOn then (if s.pair.cells.fioEn.getLsbD n then .level (s.pair.cells.fio.getLsbD n) else idle)
    else if s.fab.committed && o.1 then .level o.2 else idle

/-- RPn_SCK, RPn_DO and RPn_FRM (R255, R256). -/
def State.sckPin (s : State) (p : Nat) : PadState :=
  s.staged s.vio33 .unpowered (if s.extestOn then .level (s.pair.cells.rp.getLsbD (3 * p)) else if (s.radio p).sck then .running else .low)
def State.doPin (s : State) (p : Nat) : PadState :=
  s.staged s.vio33 .unpowered (.level (if s.extestOn then s.pair.cells.rp.getLsbD (3 * p + 1) else (s.radio p).doNow s.now))
def State.frmPin (s : State) (p : Nat) : PadState :=
  s.staged s.vio33 .unpowered (.level (if s.extestOn then s.pair.cells.rp.getLsbD (3 * p + 2) else (s.radio p).frmNow s.now))

/-- YPn_TXP/TXN: differential 0 until the yard table commits, at a port that is not enabled, and in its SERLOOP test (R430, R440). -/
def State.txPin (s : State) (p : Nat) : PadState :=
  s.staged s.vio18 .unpowered (if s.portOn p then .running else .differential0)

/-- CP_ALERT_N, open drain (R470, R534): low, or released. -/
def State.alertPad (s : State) : PadState :=
  s.staged s.vio33 .unpowered (if (if s.extestOn then s.pair.cells.alertN else s.cp.alertN) then .low else .highZ)

end Sys2Proof.Machine
end

