-- ==== Sys2Proof/Safety.lean ====
section
/-!
DEFINITION. What counts as a safe state of the part, in the terms that claims use: the muzzle and the pads of the safe
outputs follow the rules that hold them, and the MRAM keeps its canonical form.
-/
namespace Sys2Proof

/-- The instant of a command. -/
def Instr.time : Instr → Nat
  | .powerOnResetRelease t => t
  | .powerOnResetAssert t => t
  | .upSequenceStart t => t
  | .seqPgRise t _ _ => t
  | .settleExpiry t _ _ => t
  | .pgTimeout t _ => t
  | .seqPgFall t _ _ => t
  | .shdn t _ => t
  | .dscTimeout t _ => t
  | .vinWarn t => t
  | .vinOk t => t
  | .vinAbandon t _ _ => t
  | .vinAbandonEnd t => t
  | .snapshotWrite t => t
  | .resetNAssert t _ => t
  | .resetNRelease t => t
  | .crystalStartTimeout t => t
  | .rcCalibration t _ => t
  | .bootComplete t _ _ _ _ => t
  | .cmpinjEnd t _ _ => t
  | .farrierTestStart t => t
  | .farrierTestEnd t _ _ => t
  | .selftestEnd t _ => t
  | .loftStart t => t
  | .lockwaitExpiry t => t
  | .pllLossDetect t _ _ => t
  | .clockEdgeMissing t _ => t
  | .rcstop t => t
  | .handshakeTimeout t _ _ => t
  | .fifoTransfer t _ => t
  | .cycleBoundary t _ => t
  | .crossCheckCapture t _ => t
  | .commandDeadline t _ => t
  | .darkPulseStart t _ => t
  | .checkSample t _ => t
  | .darkPulseEnd t _ => t
  | .blankingEnd t _ _ => t
  | .filterExpiry t _ _ => t
  | .discrepancyExpiry t _ => t
  | .ossdtolExpiry t _ _ => t
  | .ossdchkExpiry t _ _ => t
  | .ackActuation t _ _ => t
  | .ackActuationDiscard t => t
  | .switchtExpiry t _ _ => t
  | .donExpiry t _ _ => t
  | .cat1DelayExpiry t _ _ => t
  | .maxtExpiry t _ _ => t
  | .toothEdge t _ _ _ => t
  | .standstillConfirm t _ _ => t
  | .motionLocalReset t _ _ => t
  | .launchRelease t => t
  | .readbackChange t _ _ _ => t
  | .switchOnWindowEnd t _ => t
  | .ocfiltExpiry t _ _ => t
  | .offdlyExpiry t _ _ => t
  | .outputFaultClear t _ => t
  | .darkTestDue t _ _ => t
  | .darkTestStart t _ _ => t
  | .darkTestPass t => t
  | .darkTestTimeout t => t
  | .muzzleNLow t _ => t
  | .muzzleNHigh t => t
  | .barkMon t _ => t
  | .kramPatrol t _ => t
  | .rotationDue t => t
  | .rotationSplit t => t
  | .rotationLate t => t
  | .rotationRejoin t => t
  | .soloTimeout t => t
  | .rotctlNow t _ => t
  | .scrubPass t _ _ => t
  | .scrubReload t _ => t
  | .probeWrite t _ _ => t
  | .radioTransfer t _ _ => t
  | .radioPoll t _ => t
  | .beaconRequest t _ => t
  | .pdu t _ _ => t
  | .beaconReport t _ _ => t
  | .headStatus t _ _ => t
  | .portManagementFrame t _ _ => t
  | .refreshMissed t _ => t
  | .maxageExpiry t _ _ => t
  | .colQrel t _ => t
  | .helloSend t _ => t
  | .hello t _ _ => t
  | .linkFrameSend t _ => t
  | .ackOrderedSet t _ _ _ => t
  | .ackTimeout t _ => t
  | .safetyDataFrame t _ _ => t
  | .safetyOpenFrame t _ _ => t
  | .managementFrame t _ _ => t
  | .connectionFrameTake t _ => t
  | .openSend t _ => t
  | .yardQrel t _ => t
  | .timeExchangeStart t _ => t
  | .sync t _ => t
  | .dreq t _ _ => t
  | .dresp t _ => t
  | .holdover t => t
  | .syncLost t => t
  | .whistle t _ _ _ => t
  | .whistleStop t => t
  | .whistleClear t => t
  | .faultRecordWrite t => t
  | .collInterval t => t
  | .localReactionTimeout t => t
  | .deviceLocalClear t _ => t
  | .sourceLocalClear t _ => t
  | .fstatClear t _ _ => t
  | .faultAck t _ => t
  | .ridx t _ => t
  | .sidx t _ => t
  | .alertSrcClear t _ => t
  | .tempReading t _ _ _ => t
  | .groomWdog t => t
  | .writeFrame t _ _ _ => t
  | .readFrame t _ _ _ _ => t
  | .registerWrite t _ _ => t
  | .echo t => t
  | .devuid t => t
  | .maintEnter t => t
  | .maintLeave t => t
  | .imgBegin t => t
  | .imgWrite t => t
  | .imgVerify t => t
  | .imgCommit t _ => t
  | .yardMsend t => t
  | .yardMrecv t => t
  | .lcAdvance t => t
  | .erasureComplete t => t
  | .erasureRestart t => t
  | .go t _ => t
  | .spookEn t _ => t
  | .extest t _ => t
  | .idcode t => t
  | .samplePreload t _ => t
  | .bypass t _ => t
  | .pairHalt t _ => t
  | .leadInspect t => t
  | .resync t => t
  | .tapReset t => t
  | .status t => t
  | .readWord t _ => t
  | .writeWord t _ _ => t
  | .readCoreRegister t _ _ => t
  | .writeCoreRegister t _ _ _ => t
  | .step t _ => t
  | .resume t _ _ => t
  | .siPinChange t _ _ _ => t
  | .crystalRunning t => t
  | .pllLock t => t
  | .linkError t _ => t
  | .yardTick t => t
  | .vinSample t _ => t

/-- The commands that may write the MRAM: log writes, aborted log writes, image writes and commits, and erasures. -/
def Instr.writesMram : Instr → Bool
  | .snapshotWrite _ => true
  | .vinAbandon _ _ _ => true
  | .faultRecordWrite _ => true
  | .selftestEnd _ _ => true
  | .imgWrite _ => true
  | .imgCommit _ _ => true
  | .erasureComplete _ => true
  | _ => false

/-- The commands that the host and a debugger send: registers, frames, mailbox commands and the TAP. -/
def Instr.fromOutside : Instr → Bool
  | .shdn _ _ => true
  | .rotctlNow _ _ => true
  | .probeWrite _ _ _ => true
  | .colQrel _ _ => true
  | .yardQrel _ _ => true
  | .fstatClear _ _ _ => true
  | .faultAck _ _ => true
  | .ridx _ _ => true
  | .sidx _ _ => true
  | .alertSrcClear _ _ => true
  | .writeFrame _ _ _ _ => true
  | .readFrame _ _ _ _ _ => true
  | .registerWrite _ _ _ => true
  | .echo _ => true
  | .devuid _ => true
  | .maintEnter _ => true
  | .maintLeave _ => true
  | .imgBegin _ => true
  | .imgWrite _ => true
  | .imgVerify _ => true
  | .imgCommit _ _ => true
  | .yardMsend _ => true
  | .yardMrecv _ => true
  | .lcAdvance _ => true
  | .go _ _ => true
  | .spookEn _ _ => true
  | .extest _ _ => true
  | .idcode _ => true
  | .samplePreload _ _ => true
  | .bypass _ _ => true
  | .pairHalt _ _ => true
  | .leadInspect _ => true
  | .resync _ => true
  | .tapReset _ => true
  | .status _ => true
  | .readWord _ _ => true
  | .writeWord _ _ _ => true
  | .readCoreRegister _ _ _ => true
  | .writeCoreRegister _ _ _ _ => true
  | .step _ _ => true
  | .resume _ _ _ => true
  | _ => false

end Sys2Proof

namespace Sys2Proof.Machine

/-- The muzzle is open exactly when the manual has it open (R114, R116): in every run state but ARMED, RUN and MAINT, in a held
state, while a trigger source lasts, and in an ordered power-down. -/
def State.MuzzleFollows (s : State) : Prop := s.sout.open_ = s.muzzleOpen

/-- Every pad is at the level the manual gives it (R95, R98, R107, R195). -/
def State.PadsFollow (s : State) : Prop :=
  ∀ n l, n < s.sout.outs.length → ((s.out n).leg l).pad = s.padLevel n (s.out n) l

/-- The muzzle and the pads follow their rules. -/
def State.OutputsSafe (s : State) : Prop := s.MuzzleFollows ∧ s.PadsFollow

/-- The conditions under which a pad may be high (R95, R98): RUN, the muzzle closed, the output in use and neither forced off
nor latched off, and both the command and the launch gate of its leg at 1; or EXTEST in RETURN (R195). -/
def State.MayDrive (s : State) (n : Nat) (l : Leg) : Prop :=
  (s.clk.rs = .run ∧ s.sout.open_ = false ∧ (s.out n).used = true ∧ (s.out n).force = false ∧ (s.out n).latch = false ∧
    ((s.out n).leg l).cmd = true ∧ ((s.out n).leg l).gate = true) ∨
  (s.pair.tap = .extest ∧ s.img.lc = lcReturn)

/-- A leg without what settling changes. -/
def LegSt.keep (l : LegSt) : LegSt :=
  { l with cmd := false, gate := false, pad := false, lowAt := 0, live := none, oc := none, deferred := false, kept := false, conducted := false }

/-- An output without what settling changes. -/
def OutSt.keep (o : OutSt) : OutSt := { o with p := o.p.keep, m := o.m.keep, off := none, idle := none }

/-- A wheel without the reference edge that settling takes up. -/
def Wheel.keep (w : Wheel) : Wheel :=
  { w with a := { w.a with refVal := false, refAt := none }, b := { w.b with refVal := false, refAt := none } }

/-- A sheet without its LOCALs, channel B's results and the discard flag. -/
def Sheet.keep (h : Sheet) : Sheet := { h with com := [], b := [], ackBad := false }

/-- A sheet's frame but for the marks of R105: which groups wait for a new pulse after an output's fault was cleared. -/
def Sheet.markless (h : Sheet) : Sheet := { h.keep with a := h.a.map (fun st => { st with need := false }) }

/-- The state without every field that an error's reaction, channel B's evaluation or the alerts may change after any command: the run
state, the rails, channel B's results and LOCALs, the pads, the fault records and the alert bits, what a farrier run stopped by a fault
restores of the pair (R447), and the fabric's logic, which moves with time. What is left is what a frame speaks of. -/
def State.keep (s : State) : State :=
  { s with
    seq := { s.seq with en := [], run := [], phase := .off, wait := .idle, todo := [], snapQ := [], snapLost := 0, snapBlocked := 0 }
    clk := { s.clk with rs := .off, held := false, warm := false }
    free := 0, logic := {}
    pair := { s.pair with kram := [], kgen := 0, regs0 := [], regs1 := [], restart := false }
    fab := { s.fab with rbSince := [], gate := [] }
    sh0 := s.sh0.keep, sh1 := s.sh1.keep
    sout := { s.sout with outs := s.sout.outs.map OutSt.keep, open_ := true, trig := 0, barkHold := false, barkA := false, barkB := false, test := none, testEnd := none }
    mot := { s.mot with wheels := s.mot.wheels.map Wheel.keep }
    yard := { s.yard with pend := [] }
    flt := { s.flt with
      fstat := 0, line := 0, occ := [], rec? := none, recno := 0, due := [], opened := [], supNow := [], supAt := 0, supAlert := false, notesup := 0, item1 := none, smp := 0, smpStop := 0, smpAt := 0 }
    farr := { s.farr with stopped := false, todo := [], busy := false }
    cp := { s.cp with on := false, alertSrc := 0, alertNow := 0, alertAt := 0, alertN := false }
    img := { s.img with loft := false } }

/-- The validator copy of a pair that reports to channel A, or to channel B (R77). -/
def InPair.copy (p : InPair) (isA : Bool) : PairV := if isA then p.va else p.vb

/-- The PDU that a port frame carries (R256, R267). -/
def portPdu (l : List Byte) : List Byte := (l.drop 4).take 32

/-- The sample time of the PDU of a port frame that arrives now, in µs of yard time (R268). -/
def State.sampleTime (s : State) (l : List Byte) : Nat :=
  let raw := nearTime (s.ytime / us) (beAt (portPdu l) 4 4)
  if bit (byteAt (portPdu l) 0) 3 then Nat.min raw (s.ytime / us - 1500) else raw

/-- The ordered power-down has gone on in the order given (R397): the first channel that still reads power-good is waited for, it and
every channel before it off; with none left the part is in OFF with DOWN_DONE. A cut may have come between. -/
def State.WentDown (order : List Nat) (pg : List Bool) (s' : State) : Prop :=
  s'.clk.rs = .cut ∨
    match order.dropWhile (fun ch => !nth false pg ch) with
    | c :: rest => s'.seq.wait = .discharge ∧ s'.seq.chan = c ∧ s'.seq.todo = rest ∧ s'.seq.waitAt = s'.now ∧
        ∀ x ∈ c :: order.takeWhile (fun ch => !nth false pg ch), nth false s'.seq.en x = false
    | [] => s'.seq.downDone = true ∧ s'.clk.rs = .off

/-- The mailbox command of a code is the one in hand, the loft runs, and its request has reached the loft. -/
def State.inHand (s : State) (code : Nat) (m : Mbx) : Prop :=
  s.live = true ∧ s.cp.mbx = some m ∧ m.code = code ∧ s.img.loft = true ∧ (s.fifo 7).held = []

/-- Every antifuse that reads 1 in one list reads 1 in the other. -/
def fusesIn (l m : List (List Bool)) : Prop := ∀ i j, nth false (nth [] l i) j = true → nth false (nth [] m i) j = true

/-- No row of antifuses holds more than three (R495). -/
def rowsOfThree (l : List (List Bool)) : Prop := ∀ i, (nth [] l i).length ≤ 3

end Sys2Proof.Machine
end

