-- ==== Sys2Proof/Certificates/Slice0/Obligations.lean ====
section
/-!
DEFINITION. The obligations: what the manual says of the H64, command by command and over the whole machine.
-/
open Sys2Proof.Machine Sys2Proof

/-- The release of power-on reset starts the power-up's records and continues SNAPNO from the ring; its assertion clears every AON
state and leaves MRAM and antifuses alone. RESET_N honoured holds every island but AON in reset; its release restarts at BOOT.
After R382, R406, R421, R422. When RESET_N is honoured during a power-down is the model's choice (log entry 15). -/
def Obligations.PowerAndPinReset : Prop :=
  (∀ (t : Nat) (s : State), s.seq.por = true →
    ∃ s', exec (.powerOnResetRelease t) s = .next s' ∧ s'.seq.por = false ∧ s'.seq.porAt = s'.now ∧
      s'.seq.rstcause = 1 ∧ s'.seq.warmcnt = 0 ∧ s'.seq.snapNo = topNo s.snapRecs ∧ s'.seq.vinWarns = 0 ∧ s'.mram = s.mram) ∧
  (∀ (t : Nat) (s : State),
    ∃ s', exec (.powerOnResetAssert t) s = .next s' ∧ s'.seq.por = true ∧ s'.seq.en = List.replicate 8 false ∧
      s'.seq.snapQ = [] ∧ s'.seq.warmcnt = 0 ∧ s'.clk.rs = .off ∧ s'.sout.open_ = true ∧ s'.flt.fstat = 0 ∧ s'.mram = s.mram ∧
      s'.img.fuses = s.img.fuses) ∧
  (∀ (t width : Nat) (s : State), s.seq.por = false → 10000 ≤ width → s.resetHonoured = true →
    ∃ s', exec (.resetNAssert t width) s = .next s' ∧ s'.clk.rs = .off ∧ s'.clk.rstLow = true ∧ s'.clk.warm = true ∧
      s'.clk.out = List.replicate 11 false ∧ s'.sout.open_ = true ∧ s'.flt.fstat = 0 ∧ s'.seq.en = s.seq.en ∧ s'.mram = s.mram) ∧
  (∀ (t : Nat) (s : State), s.clk.rstLow = true → s.clk.warm = true → s.sout.ext = false ∨ s.srcClass .muzzleExt = .stop →
    ∃ s', exec (.resetNRelease t) s = .next s' ∧ s'.clk.rs = .boot ∧ s'.seq.rstcause = 2 ∧
      s'.seq.warmcnt = sat16 s.seq.warmcnt ∧ s'.clk.warm = false ∧ s'.flt.on = true)

/-- The up-sequence enables channel 0; a power-good of the channel in hand records its ramp time and starts its settle time; the end of
the settle time enables the next channel, whose power-good must read low, waits for a monitor-only channel, or ends the core phase
with BOOT. After R386 to R388. -/
def Obligations.UpSequence : Prop :=
  (∀ (t : Nat) (s : State), s.seq.por = false → s.clk.rcstop = false → s.seq.phase = .off → s.clk.rs = .off →
      s.seq.downDone = false → s.clk.warm = false → s.seq.porAt + 950 * us ≤ t → nth false s.seq.pg 0 = false →
    ∃ s', exec (.upSequenceStart t) s = .next s' ∧ s'.seq.phase = .core ∧ s'.seq.en = setAt s.seq.en 0 true ∧
      s'.seq.wait = .pgHigh ∧ s'.seq.chan = 0 ∧ s'.seq.waitAt = s'.now ∧ s'.seq.todo = [1, 2, 3, 4]) ∧
  (∀ (t : Nat) (ch : Fin 8) (b : LoadObs) (s : State), s.seq.por = false → s.clk.rcstop = false →
      s.clk.rs = .off ∨ s.clk.rs = .load → s.seq.boardDone = false → s.seq.wait = .pgHigh → s.seq.chan = ch →
    ∃ s', exec (.seqPgRise t ch b) s = .next s' ∧ s'.seq.pg = setAt s.seq.pg ch true ∧ s'.seq.run = setAt s.seq.run ch true ∧
      s'.seq.ramp = setAt s.seq.ramp ch (Nat.min ((s'.now - s.seq.waitAt) / us) 0xFFFF) ∧
      s'.seq.wait = .settling ∧ s'.seq.chan = ch ∧ s'.seq.waitAt = s'.now ∧ s'.seq.en = s.seq.en) ∧
  (∀ (t : Nat) (ch : Fin 8) (b : LoadObs) (next : Nat) (rest : List Nat) (s : State), s.seq.por = false → s.clk.rcstop = false →
      s.clk.rs = .off ∨ s.clk.rs = .load → s.seq.boardDone = false → s.seq.wait = .settling → s.seq.chan = ch →
      s.seq.waitAt + s.settleNs ch ≤ t → s.seq.todo = next :: rest → s.chMode next ≠ 2 → nth false s.seq.pg next = false →
    ∃ s', exec (.settleExpiry t ch b) s = .next s' ∧ s'.seq.en = setAt s.seq.en next true ∧ s'.seq.wait = .pgHigh ∧
      s'.seq.chan = next ∧ s'.seq.waitAt = s'.now ∧ s'.seq.todo = rest) ∧
  (∀ (t : Nat) (ch : Fin 8) (b : LoadObs) (next : Nat) (rest : List Nat) (s : State), s.seq.por = false → s.clk.rcstop = false →
      s.clk.rs = .off ∨ s.clk.rs = .load → s.seq.boardDone = false → s.seq.wait = .settling → s.seq.chan = ch →
      s.seq.waitAt + s.settleNs ch ≤ t → s.seq.todo = next :: rest → nth false s.seq.pg next = (s.chMode next != 2) →
    ∃ s', exec (.settleExpiry t ch b) s = .next s' ∧
      if s.chMode next = 2 then s'.seq.wait = .monitorHigh ∧ s'.seq.chan = next ∧ s'.seq.waitAt = s'.now ∧ s'.seq.todo = rest
      else s'.clk.rs = .cut ∧ s'.seq.en = List.replicate 8 false) ∧
  (∀ (t : Nat) (ch : Fin 8) (b : LoadObs) (s : State), s.seq.por = false → s.clk.rcstop = false → s.clk.rs = .off →
      s.seq.phase = .core → s.seq.wait = .settling → s.seq.chan = ch → s.seq.waitAt + s.settleNs ch ≤ t → s.seq.todo = [] →
      s.sout.ext = false ∨ s.srcClass .muzzleExt = .stop →
    ∃ s', exec (.settleExpiry t ch b) s = .next s' ∧ s'.clk.rs = .boot ∧ s'.seq.phase = .waitPlan ∧ s'.seq.wait = .idle ∧
      s'.clk.bootAt = s'.now ∧ s'.flt.on = true)

/-- A power-good that comes too late, or that falls on a running rail, is the cut: every SEQ_EN low together, the muzzle open and both
BARK pins held low, in CUT, and the control port no longer answers. After R388, R393, R394. -/
def Obligations.SequencerCut : Prop :=
  (∀ (t : Nat) (ch : Fin 8) (s : State), s.seq.por = false → s.clk.rcstop = false → s.seq.wait = .pgHigh ∨ s.seq.wait = .monitorHigh →
      s.seq.chan = ch → s.seq.waitAt + s.pgtoNs ch ≤ t →
    ∃ s', exec (.pgTimeout t ch) s = .next s' ∧ s'.clk.rs = .cut ∧ s'.seq.en = List.replicate 8 false ∧
      s'.sout.open_ = true ∧ s'.sout.barkHold = true ∧ s'.cp.on = false) ∧
  (∀ (t : Nat) (ch : Fin 8) (width : Nat) (s : State), s.seq.por = false → s.clk.rcstop = false → 2000 ≤ width →
      nth false s.seq.run ch = true →
    ∃ s', exec (.seqPgFall t ch width) s = .next s' ∧ s'.clk.rs = .cut ∧ s'.seq.pg = setAt s.seq.pg ch false ∧
      s'.seq.en = List.replicate 8 false ∧ s'.sout.open_ = true ∧ s'.sout.barkHold = true ∧ s'.cp.on = false)

/-- SEQ.SHDN with its key in MAINT starts the ordered power-down: the muzzle opens and the channels are taken in their order. The
discharge of the channel in hand, or its timeout, which DSCLAST shows as 0xFFFF, takes the next one; after the last channel the part
is in OFF with DOWN_DONE. Any other write to SHDN changes nothing of the sequencer. After R396, R397. -/
def Obligations.PowerDown : Prop :=
  (∀ (t : Nat) (s : State), s.clk.rs = .maint → s.seq.phase = .running →
    ∃ s', exec (.shdn t 0x005A) s = .next s' ∧ s'.sout.open_ = true ∧ s'.WentDown s.downOrder s.seq.pg) ∧
  (∀ (t : Nat) (v : Word) (s : State), s.clk.rs ≠ .maint ∨ v ≠ 0x005A ∨ s.seq.phase ≠ .running →
    ∃ s', exec (.shdn t v) s = .next s' ∧ s'.keep.seq = s.keep.seq) ∧
  (∀ (t : Nat) (ch : Fin 8) (s : State), s.seq.por = false → s.clk.rcstop = false → s.seq.wait = .discharge → s.seq.chan = ch →
      s.seq.waitAt + nth 0 s.seq.dscto ch * ms ≤ t →
    ∃ s', exec (.dscTimeout t ch) s = .next s' ∧ s'.WentDown s.seq.todo s.seq.pg ∧
      (ch.val < s.seq.dscLast.length → ch.val ∉ s.seq.todo → nth 0 s'.seq.dscLast ch = 0xFFFF)) ∧
  (∀ (t width : Nat) (ch : Fin 8) (s : State), s.seq.por = false → s.clk.rcstop = false → 2000 ≤ width →
      nth false s.seq.run ch = false → s.seq.wait = .discharge → s.seq.chan = ch →
    ∃ s', exec (.seqPgFall t ch width) s = .next s' ∧ nth false s'.seq.pg ch = false ∧
      s'.WentDown s.seq.todo (setAt s.seq.pg ch false))

/-- VIN supervision: the warning and its count, the end of HOLDUP after 10 ms, the abandon level and its end, and the converter's code
and minimum. The oldest queued snapshot goes into the slot of the next SNAPNO with its COMMIT, and every other byte of the MRAM
stays. AON takes up yard time, a multiple of 125,000 ns, at a tick. After R399 to R401 and R404 to R407. A snapshot's slot in the
ring is the model's choice (log entry 13). -/
def Obligations.SupplySupervision : Prop :=
  (∀ (t : Nat) (s : State), s.seq.por = false → s.clk.rcstop = false →
    ∃ s', exec (.vinWarn t) s = .next s' ∧ s'.seq.holdup = true ∧ s'.seq.belowWarn = true ∧
      s'.seq.vinWarns = sat8 s.seq.vinWarns) ∧
  (∀ (t : Nat) (s : State), s.seq.por = false → s.clk.rcstop = false → s.seq.holdup = true → s.seq.vinLow + 10 * ms ≤ t →
    ∃ s', exec (.vinOk t) s = .next s' ∧ s'.seq.holdup = false ∧ s'.seq.belowWarn = false) ∧
  (∀ (t : Nat) (a b : Bool) (s : State), s.seq.por = false → s.clk.rcstop = false → s.seq.belowAbandon = false →
    ∃ s', exec (.vinAbandon t a b) s = .next s' ∧ s'.seq.belowAbandon = true ∧ s'.seq.vinAbandons = sat8 s.seq.vinAbandons) ∧
  (∀ (t : Nat) (s : State), s.seq.por = false → s.clk.rcstop = false →
    ∃ s', exec (.vinAbandonEnd t) s = .next s' ∧ s'.seq.belowAbandon = false) ∧
  (∀ (t uv : Nat) (s : State), s.seq.por = false → s.clk.rcstop = false →
    ∃ s', exec (.vinSample t uv) s = .next s' ∧ s'.seq.vin = Nat.min (uv * 4096 / 2400000) 0x0FFF ∧
      s'.seq.vinMin = Nat.min s.seq.vinMin s'.seq.vin ∧ s'.seq.holdup = s.seq.holdup) ∧
  (∀ (t : Nat) (e : Snap) (q : List Snap) (s : State), s.seq.por = false → s.clk.rcstop = false → s.mram.wf = true →
      s.seq.snapQ = e :: q → s.seq.belowAbandon = false →
    ∃ s', exec (.snapshotWrite t) s = .next s' ∧ s'.seq.snapNo = s.seq.snapNo + 1 ∧ s'.seq.snapTop = s.seq.snapNo + 1 ∧
      s'.snapSlot (snapSlotOf (s.seq.snapNo + 1)) = e.bytes (s.seq.snapNo + 1) ∧
      (∀ a, ¬ (snapAddr (snapSlotOf (s.seq.snapNo + 1)) ≤ a ∧ a < snapAddr (snapSlotOf (s.seq.snapNo + 1)) + 64) →
        s'.mram.read a = s.mram.read a)) ∧
  (∀ (t : Nat) (s : State), s.yard.runs = true → s.live = true → s.seq.ytick ≠ (s.upTo t).ytime / 125000 * 125000 →
    ∃ s', exec (.yardTick t) s = .next s' ∧ s'.seq.ytick = (s.upTo t).ytime / 125000 * 125000 ∧
      s'.seq.ytickAt = some (s'.now - (s.upTo t).ytime % 125000))

/-- The start of the clocks in BOOT: the crystal, the four PLLs together, and the RC calibration, 1 ms after the lock, which arms the
clock monitor; a crystal that has not started after 10 ms is CLK_MON, and the muzzle is open. After R412 to R414, R418. That CMDIAG
reads 0x8000 for a late crystal is the model's choice (log entry 47). -/
def Obligations.ClockStart : Prop :=
  (∀ (t : Nat) (s : State), s.live = true →
    ∃ s', exec (.crystalRunning t) s = .next s' ∧ s'.clk.xtal = true ∧ s'.clk.pll = s.clk.pll) ∧
  (∀ (t : Nat) (s : State), s.clk.rs = .boot → s.clk.xtal = true → s.clk.pll = false →
    ∃ s', exec (.pllLock t) s = .next s' ∧ s'.clk.pll = true ∧ s'.clk.pllAt = s'.now) ∧
  (∀ (t : Nat) (s : State), s.clk.rs = .boot → s.clk.xtal = false → s.clk.bootAt + 10 * ms ≤ t → nth false s.clk.bad 0 = false →
    ∃ s', exec (.crystalStartTimeout t) s = .next s' ∧ s'.clk.bad = setAt s.clk.bad 0 true ∧ s'.clk.cmdiag = 0x8000 ∧
      s'.sout.open_ = true ∧ (s.flt.on = true → bit s'.flt.fstat Src.clkMon.bit = true)) ∧
  (∀ (t khz : Nat) (s : State), s.clk.rs = .boot → s.clk.pll = true → s.clk.rcOk = false → s.clk.pllAt + ms ≤ t →
    ∃ s', exec (.rcCalibration t khz) s = .next s' ∧ s'.clk.rcOk = true ∧ s'.clk.rccal = Nat.min khz 0xFFFF ∧
      s'.clk.mon = true)

/-- The clock monitor keeps the deviation of every window, never finds a clock bad at 2 % or less, always above 3 %, and always at a
missing edge; CMDIAG names the clock. The handshake watchdog names its islands in HSDIAG. While COLL is out of reset each find is
CLK_MON. After R416, R418, R438. -/
def Obligations.ClockMonitor : Prop :=
  (∀ (t : Nat) (i : Fin 6) (d : Int) (s : State), s.live = true → s.clk.mon = true → s.spook.en = false → d.natAbs ≤ 200 →
    ∃ s', exec (.pllLossDetect t i d) s = .next s' ∧ s'.clk.dev = setAt s.clk.dev i d ∧
      s'.clk.bad = setAt s.clk.bad i false ∧ s'.clk.cmdiag = s.clk.cmdiag) ∧
  (∀ (t : Nat) (i : Fin 6) (d : Int) (s : State), s.live = true → s.clk.mon = true → s.spook.en = false → 300 < d.natAbs →
      nth false s.clk.bad i = false →
    ∃ s', exec (.pllLossDetect t i d) s = .next s' ∧ s'.clk.dev = setAt s.clk.dev i d ∧
      s'.clk.bad = setAt s.clk.bad i true ∧ s'.clk.cmdiag = w16 (i + 0x40 + 0x8000) ∧
      (s.flt.on = true → bit s'.flt.fstat Src.clkMon.bit = true)) ∧
  (∀ (t : Nat) (i : Fin 6) (s : State), s.live = true → s.clk.mon = true → nth false s.clk.bad i = false →
    ∃ s', exec (.clockEdgeMissing t i) s = .next s' ∧ s'.clk.bad = setAt s.clk.bad i true ∧
      s'.clk.cmdiag = w16 (i + 0x20 + 0x8000) ∧ (s.flt.on = true → bit s'.flt.fstat Src.clkMon.bit = true)) ∧
  (∀ (t : Nat) (i w : Fin 11) (s : State), s.live = true →
    ∃ s', exec (.handshakeTimeout t i w) s = .next s' ∧ s'.clk.hsdiag = w16 (i + 16 * w + 0x8000) ∧
      s'.clk.cmdiag = w16 (0x10 + i + 0x8000) ∧ (s.flt.on = true → bit s'.flt.fstat Src.clkMon.bit = true))

/-- A stopped RC oscillator opens the muzzle, holds BARK, takes RUN to SAFE and stops COLL; the latest die temperatures are kept for the
registers and for AON; the loft's watchdog stops the loft, and a mailbox command in hand ends ABORTED with its TAG. After R19,
R419, R474, R543. The instant at which the command ends is the model's choice (log entry 63). -/
def Obligations.SupervisionEvents : Prop :=
  (∀ (t : Nat) (s : State), s.live = true → s.clk.pll = true → s.clk.rcstop = false →
    ∃ s', exec (.rcstop t) s = .next s' ∧ s'.clk.rcstop = true ∧ s'.sout.open_ = true ∧ s'.sout.barkHold = true ∧
      s'.flt.on = false ∧ (s.clk.rs = .run → s'.clk.rs = .safe)) ∧
  (∀ (t : Nat) (a b c : Int) (s : State), s.live = true →
    ∃ s', exec (.tempReading t a b c) s = .next s' ∧ s'.clk.temps = [a, b, c] ∧ s'.seq.temps = [a, b, c]) ∧
  (∀ (t : Nat) (s : State), s.img.loft = true →
    ∃ s', exec (.groomWdog t) s = .next s' ∧ s'.img.loft = false ∧ s'.cp.mbx = none ∧
      s'.cp.resp = match s.cp.mbx with
        | some m => w16 (m.tag % 256 * 256 + 8)
        | none => s.cp.resp)

/-- BOOT ends in SELFTEST: the strap is latched unless an agreed arrangement stands, yard time starts from 0, the gate test's verdict is
kept, the rails of the FIO banks are noted, and CMPINJ begins after the 5 µs of that test; where a gate output read 1, FIRSTFAIL names the gate test and no farrier
test begins. After R21, R117, R299, R423, R427. -/
def Obligations.BootEnds : Prop :=
  (∀ (t : Nat) (strap b0 b1 : Bool) (s : State), s.clk.rs = .boot → s.clk.held = false → s.clk.rcOk = true →
    ∃ s', exec (.bootComplete t strap false b0 b1) s = .next s' ∧ s'.clk.rs = .selftest ∧
      s'.clk.strap = (if s.clk.fixed then s.clk.strap else strap) ∧ s'.yard.runs = true ∧ s'.ytime = 0 ∧ s'.sout.gateOk = true ∧
      s'.fab.feed0 = b0 ∧ s'.fab.feed1 = b1 ∧ s'.farr.cur = 8 ∧ s'.farr.origin = .startup ∧ s'.farr.startAt = s'.now + 5 * us) ∧
  (∀ (t : Nat) (strap b0 b1 : Bool) (s : State), s.clk.rs = .boot → s.clk.held = false → s.clk.rcOk = true → s.farr.firstFail = 0 →
    ∃ s', exec (.bootComplete t strap true b0 b1) s = .next s' ∧ s'.sout.gateOk = false ∧ s'.farr.firstFail = 0x8010 ∧
      s'.farr.cur = s.farr.cur ∧ s'.sout.open_ = true)

/-- SELFTEST ends in LOAD: without a governing configuration record no image runs, no sheet is loaded and the fabric is empty. LOCKWAIT
ends the wait for the yard. The loft starts from the governing bank where that verifies, else from the other; without a record from
the first bank that verifies; where none does, the boot ROM waits. After R304, R426, R492, R493. -/
def Obligations.Loading : Prop :=
  (∀ (t : Nat) (b : LoadObs) (s : State), s.clk.rs = .selftest → s.clk.held = false → s.farr.setOk = true →
       s.sout.gateOk = true → s.pair.cmpArmed = true → s.eraseOwed = false → s.governing 0 = none →
     ∃ s', exec (.selftestEnd t b) s = .next s' ∧ s'.clk.rs = .load ∧ s'.clk.loadStep = 0 ∧ s'.img.running = false ∧
       s'.sh0.loaded = false ∧ s'.sh1.loaded = false ∧ s'.fab.committed = false ∧ s'.sout.open_ = true) ∧
  (∀ (t : Nat) (s : State), s.clk.rs = .load → s.clk.held = false → s.clk.loadStep = 7 →
      s.clk.lockAt + s.yard.lockwait * ms ≤ t →
    ∃ s', exec (.lockwaitExpiry t) s = .next s' ∧ s'.clk.loadStep = 9 ∧ s'.clk.rs = .load ∧ s'.pair.split = (s.img.imgArr || s.pair.split)) ∧
  (∀ (t b : Nat) (s : State), s.groomFree = true → s.govBank 1 = some b →
    ∃ s', exec (.loftStart t) s = .next s' ∧ (s'.clk.rs = .cut ∨
      if s.imgCheck 1 b none = 0 then
        s'.img.loft = true ∧ s'.img.loftAct = b ∧ s'.img.loftFb = false ∧ s'.img.loftVer = imgVer (s.imageAt 1 b)
      else if s.imgCheck 1 (1 - b) none = 0 then
        s'.img.loft = true ∧ s'.img.loftAct = 1 - b ∧ s'.img.loftFb = true ∧ s'.img.loftVer = imgVer (s.imageAt 1 (1 - b))
      else s'.img.loft = false ∧ s'.img.noLoft = true)) ∧
  (∀ (t : Nat) (s : State), s.groomFree = true → s.govBank 1 = none →
    ∃ s', exec (.loftStart t) s = .next s' ∧ (s'.clk.rs = .cut ∨
      if s.imgCheck 1 0 none = 0 then s'.img.loft = true ∧ s'.img.loftAct = 0
      else if s.imgCheck 1 1 none = 0 then s'.img.loft = true ∧ s'.img.loftAct = 1
      else s'.img.loft = false ∧ s'.img.noLoft = true))

/-- Erasure leaves both configuration banks, their commit slots and the logs at 0, sets ERASED and no other byte of the loft banks; 1 ms
later the part restarts at BOOT. After R422, R498. RSTCAUSE 2 for this warm restart is the model's choice (log entry 70). -/
def Obligations.Erasure : Prop :=
  (∀ (t : Nat) (s : State), s.mram.wf = true → s.live = true → s.img.erasing = true →
    ∃ s', exec (.erasureComplete t) s = .next s' ∧ s'.img.erased = true ∧ s'.img.erasing = false ∧ s'.cp.mbx = none ∧
      s'.img.erasedAt = some s'.now ∧
      (∀ a, a < 0x300000 ∨ (0x500000 ≤ a ∧ a < 0x600000) ∨ (0x600000 ≤ a ∧ a < 0x600040) → s'.mram.read a = 0) ∧
      (∀ a, 0x300000 ≤ a ∧ a < 0x500000 → s'.mram.read a = s.mram.read a)) ∧
  (∀ (t a : Nat) (s : State), s.img.erasedAt = some a → s.live = true → a + ms ≤ t →
      s.sout.ext = false ∨ s.srcClass .muzzleExt = .stop →
    ∃ s', exec (.erasureRestart t) s = .next s' ∧ s'.clk.rs = .boot ∧ s'.seq.rstcause = 2 ∧
      s'.seq.warmcnt = sat16 s.seq.warmcnt ∧ s'.mram = s.mram)

/-- The farrier starts the next test of its set 100 µs after the last one and within the budget, and takes the test's block over. A
test's end records its verdict, its duration and its result; a failure stops the set. CMPINJ without an uncaught injection arms the
comparator's trigger and hands over to the start-up set; an injection that is not caught, or a flag without an injection, fails it. GO starts an accepted host run, and
names the cause of a refused one; in FIELD it is locked. After R166, R167, R440, R441, R443, R445, R446, R448 to R450. How many injections were caught when one was
not is a free value (log entry 2). -/
def Obligations.FarrierTests : Prop :=
  (∀ (t code : Nat) (rest : List Nat) (s : State), s.farr.todo = code :: rest → s.live = true → s.farr.cur = 0 →
      s.farr.endAt + 100 * us ≤ t → farrMa code ≤ 10 * s.farr.budget →
    ∃ s', exec (.farrierTestStart t) s = .next s' ∧ s'.farr.cur = code ∧ s'.farr.startAt = s'.now ∧
      (code = 6 ∨ code = 7 → s'.fab.committed = false) ∧ (code = 3 ∨ code = 5 → s'.img.loft = false)) ∧
  (∀ (t : Nat) (r : BitVec 32) (s : State), s.live = true → s.farr.cur ≠ 0 → s.farr.cur ≠ 8 →
      s.farr.startAt + farrUs s.farr.cur * us ≤ t →
    ∃ s', exec (.farrierTestEnd t true r) s = .next s' ∧ s'.farr.cur = 0 ∧ s'.farr.endAt = s'.now ∧
      s'.farr.pass = s.farr.pass ||| 2 ^ (s.farr.cur - 1) ∧ s'.farr.fail = s.farr.fail ∧
      s'.farr.durs = setAt s.farr.durs (s.farr.cur - 1) (Nat.min ((s'.now - s.farr.startAt) / us) 0xFFFF) ∧
      s'.farr.results = setAt s.farr.results (s.farr.cur - 1)
        (if s.farr.cur ≤ 3 then r else if 5 < s.farr.cur then 0 else 0xFFFFFFFF)) ∧
  (∀ (t : Nat) (r : BitVec 32) (s : State), s.live = true → s.farr.cur ≠ 0 → s.farr.cur ≠ 8 →
      s.farr.startAt + farrUs s.farr.cur * us ≤ t →
    ∃ s', exec (.farrierTestEnd t false r) s = .next s' ∧ s'.farr.cur = 0 ∧ s'.farr.endAt = s'.now ∧
      s'.farr.fail = s.farr.fail ||| 2 ^ (s.farr.cur - 1) ∧ s'.farr.todo = [] ∧ s'.farr.failHold = true ∧
      s'.farr.durs = setAt s.farr.durs (s.farr.cur - 1) (Nat.min ((s'.now - s.farr.startAt) / us) 0xFFFF) ∧
      s'.farr.results = setAt s.farr.results (s.farr.cur - 1) (if s.farr.cur ≤ 5 then r else 0)) ∧
  (∀ (t : Nat) (s : State), s.live = true → s.farr.cur = 8 → s.farr.startAt + 22 * us ≤ t →
    ∃ s', exec (.cmpinjEnd t none false) s = .next s' ∧ s'.farr.cur = 0 ∧ s'.farr.endAt = s'.now ∧
      s'.farr.pass = s.farr.pass ||| 2 ^ 7 ∧ s'.pair.injstat = w16 (264 + 512) ∧ s'.pair.injmiss = 0 ∧
      (s.farr.origin = .startup → s'.pair.cmpArmed = true)) ∧
  (∀ (t : Nat) (f : Bool) (i : Fin 264) (s : State), s.live = true → s.farr.cur = 8 → s.farr.startAt + 22 * us ≤ t →
    ∃ s', exec (.cmpinjEnd t (some i) f) s = .next s' ∧ s'.farr.cur = 0 ∧ s'.farr.fail = s.farr.fail ||| 2 ^ 7 ∧
      s'.pair.injmiss = w16 (i + 0x8000) ∧ s'.farr.failHold = true) ∧
  (∀ (t : Nat) (s : State), s.live = true → s.farr.cur = 8 → s.farr.startAt + 22 * us ≤ t →
    ∃ s', exec (.cmpinjEnd t none true) s = .next s' ∧ s'.farr.cur = 0 ∧ s'.farr.fail = s.farr.fail ||| 2 ^ 7 ∧
      s'.pair.injmiss = 0 ∧ s'.farr.failHold = true) ∧
  (∀ (t : Nat) (v : Word) (s : State), s.live = true → s.field = false → bit v.toNat 0 = true →
    ∃ s', exec (.go t v) s = .next s' ∧
      if s.refuseCause = 0 then s'.farr.origin = .host ∧ s'.farr.refuse = s.farr.refuse ∧ s'.farr.ran = []
      else s'.farr.refuse = w16 (s.refuseCause + 0x8000) ∧ s'.farr.origin = s.farr.origin ∧ s'.farr.ran = s.farr.ran) ∧
  (∀ (t : Nat) (v : Word) (s : State), s.live = true → s.field = true →
    ∃ s', exec (.go t v) s = .next s' ∧ s'.farr.origin = s.farr.origin ∧ s'.farr.sel = s.farr.sel ∧ bit s'.cp.st 3 = true)

/-- A corrected word of kennel RAM is counted; an uncorrectable one is named by its address and raises KRAM_ECC as a STOP, as does one
of kennel ROM. An error in a record's words sends that instance alone to LOCAL, with its state words at their initial values. After
R170 to R172, R206. That the kennel's sweep runs while the kennel does is deduced (R443). -/
def Obligations.KennelRamErrors : Prop :=
  (∀ (t : Nat) (a : Fin 262144) (s : State), s.kennelRuns = true →
    ∃ s', exec (.kramPatrol t [{ place := .kram a, corrected := true }]) s = .next s' ∧
      s'.pair.kramcnt = sat16 s.pair.kramcnt ∧ s'.pair.kramAdr = s.pair.kramAdr ∧
      (s.flt.on = true → bit s'.flt.fstat Src.kramEcc.bit = true)) ∧
  (∀ (t : Nat) (a : Fin 262144) (s : State), s.kennelRuns = true →
    ∃ s', exec (.kramPatrol t [{ place := .kram a, corrected := false }]) s = .next s' ∧ s'.pair.kramAdr = a ∧
      s'.pair.kramRom = false ∧ s'.pair.kramcnt = s.pair.kramcnt ∧
      (s.flt.on = true → bit s'.flt.fstat Src.kramEcc.bit = true ∧ s'.sout.open_ = true ∧ s'.clk.rs ≠ .run)) ∧
  (∀ (t : Nat) (a : Fin 65536) (s : State), s.kennelRuns = true →
    ∃ s', exec (.kramPatrol t [{ place := .krom a, corrected := false }]) s = .next s' ∧ s'.pair.kramAdr = a ∧
      s'.pair.kramRom = true ∧ (s.flt.on = true → bit s'.flt.fstat Src.kramEcc.bit = true ∧ s'.sout.open_ = true)) ∧
  (∀ (t : Nat) (k : Fin 2) (i : Fin 512) (s : State), s.kennelRuns = true → s.flt.on = true → s.srcClass .kramEcc = .note →
      i.val < (s.sheet k).com.length →
    ∃ s', exec (.kramPatrol t [{ place := .record k i, corrected := false }]) s = .next s' ∧
      bit s'.flt.fstat Src.kramEcc.bit = true ∧ nth {} (s'.sheet k).a i = {} ∧
      (s'.com k i).locals.any (fun x => x.cause == localCause .kramEcc (instDetail k i) (s.recAt k i)) = true ∧
      ∀ j, j ≠ i.val → (s'.com k j).locals.any (fun x => x.cause == .mapped .kramEcc) = true →
        (s.com k j).locals.any (fun x => x.cause == .mapped .kramEcc) = true)

/-- A rotation falls due after its interval, or at a write of 1 to ROTCTL; is late an hour later; splits the pair at a boundary with no
deferral condition that ends a cycle whose comparisons agree, the tested core going to the farrier; rejoins with the solo core as lead and a hand-over window of three cycles;
and 40 ms after the split isolates the tested core. In FIELD a write to ROTCTL is locked. After R178 to R184,
R187 to R189. -/
def Obligations.Rotation : Prop :=
  (∀ (t a : Nat) (s : State), s.pair.rotFrom = some a → s.live = true → s.pair.arr = false → s.pair.rotint ≠ 0 →
      s.pair.due = none → s.pair.solo = false → a + s.pair.rotint * 3600 * 1000 * ms ≤ t →
    ∃ s', exec (.rotationDue t) s = .next s' ∧ s'.pair = { s.pair with due := some s'.now }) ∧
  (∀ (t : Nat) (v : Word) (s : State), s.live = true → s.img.lc = lcDevelop ∨ s.img.lc = lcReturn → bit v.toNat 0 = true →
      s.pair.rotint ≠ 0 → s.pair.due = none → s.pair.arr = false →
    ∃ s', exec (.rotctlNow t v) s = .next s' ∧ s'.pair = { s.pair with due := some s'.now }) ∧
  (∀ (t : Nat) (v : Word) (s : State), s.live = true → s.field = true →
    ∃ s', exec (.rotctlNow t v) s = .next s' ∧ s'.pair = s.pair ∧ bit s'.cp.st 3 = true) ∧
  (∀ (t : Nat) (s : State), (s.upTo t).atBoundary = true → s.pair.due.isSome = true → (s.upTo t).defCause = 0 →
      s.pair.solo = false → s.pair.arr = false → s.sh0.com.any (·.diff) = false →
    ∃ s', exec (.rotationSplit t) s = .next s' ∧ s'.pair.solo = true ∧
      s'.pair.soloCore = 1 - rotTested (s.pair.rotk + 1) ∧ s'.pair.rotk = s.pair.rotk + 1 ∧ s'.pair.due = none ∧
      s'.pair.splitAt = s'.now ∧ s'.farr.origin = .rotation) ∧
  (∀ (t a : Nat) (s : State), s.pair.due = some a → a + 3600 * 1000 * ms < t →
    ∃ s', exec (.rotationLate t) s = .next s' ∧ s'.pair = { s.pair with late := true }) ∧
  (∀ (t : Nat) (s : State), (s.upTo t).atBoundary = true → s.pair.solo = true → s.pair.ready = true → t ≤ s.pair.splitAt + 40 * ms →
      s.now ≤ s.pair.splitAt + 40 * ms →
    ∃ s', exec (.rotationRejoin t) s = .next s' ∧ s'.pair.solo = false ∧ s'.pair.lead = s.pair.soloCore ∧ s'.pair.howin = 3 ∧
      s'.pair.lastRes = 1 ∧ s'.pair.lastCore = 1 - s.pair.soloCore ∧ s'.pair.rotcnt = (s.pair.rotcnt + 1) % 65536 ∧
      s'.pair.late = false ∧ s'.pair.rotFrom = some s'.now) ∧
  (∀ (t : Nat) (s : State), s.pair.solo = true → s.pair.out0 = false → s.pair.out1 = false → s.pair.splitAt + 40 * ms < t →
    ∃ s', exec (.soloTimeout t) s = .next s' ∧ s'.pair.lastRes = 3 ∧
      s'.pair.out0 = (1 - s.pair.soloCore == 0) ∧ s'.pair.out1 = (1 - s.pair.soloCore == 1) ∧ s'.flt.lasting = true ∧
      (s.flt.on = true → bit s'.flt.fstat Src.farrier.bit = true))

/-- The TAP: IDCODE and its register value, BYPASS and its 0 for every unlisted code, IDCODE after a reset of the TAP, the capture of
SAMPLE/PRELOAD and, outside FIELD, its update stage; EXTEST in a halted pair. In FIELD and VOID the TAP refuses EXTEST and the debug
instructions, and in VOID SAMPLE/PRELOAD: each acts as BYPASS and is counted in REFCNT, and nothing else of the pair changes. After
R192, R193, R195, R209, R500. -/
def Obligations.TapInstructions : Prop :=
  (∀ (t : Nat) (s : State), s.live = true →
    ∃ s', exec (.idcode t) s = .next s' ∧ s'.pair = { s.pair with tap := .idcode, dr := 0xB006434F }) ∧
  (∀ (t : Nat) (c : BitVec 5) (s : State), s.live = true → tapListed c.toNat = false →
    ∃ s', exec (.bypass t c) s = .next s' ∧ s'.pair = { s.pair with tap := .bypass, dr := 0 }) ∧
  (∀ (t : Nat) (s : State), s.live = true →
    ∃ s', exec (.tapReset t) s = .next s' ∧ s'.pair = { s.pair with tap := .idcode, dr := 0xB006434F }) ∧
  (∀ (t : Nat) (c : Cells) (s : State), s.live = true → s.img.lc ≠ 0 →
    ∃ s', exec (.samplePreload t c) s = .next s' ∧
      s'.pair = { s.pair with tap := .sample, scan := (s.upTo t).pinScan, cells := if s.img.lc = lcField then s.pair.cells else c }) ∧
  (∀ (t : Nat) (c : Cells) (d : Bool) (s : State), s.clk.rs = .halted → s.img.lc ≠ lcField → s.img.lc ≠ 0 →
    ∃ s', exec (.extest t ⟨c, d⟩) s = .next s' ∧
      s'.pair = { s.pair with tap := .extest, scan := (s.upTo t).pinScan, cells := c }) ∧
  (∀ (t : Nat) (c : Cells) (d : Bool) (s : State), s.lcDebug = true → s.haltable = true → s.pair.solo = false → s.farr.cur ≠ 8 →
      s.srcClass .debugHalt = .stop →
    ∃ s', exec (.extest t ⟨c, d⟩) s = .next s' ∧ s'.pair.dbg = .pairHalt ∧ s'.clk.rs = .halted ∧ s'.pair.tap = .extest ∧
      s'.pair.cells = c) ∧
  (∀ (t : Nat) (c : Cells) (d : Bool) (s : State), s.live = true → s.img.lc = lcField ∨ s.img.lc = 0 →
     ∀ i ∈ [Instr.extest t ⟨c, d⟩, .pairHalt t d, .leadInspect t, .resync t, .status t],
       ∃ s', exec i s = .next s' ∧ s'.pair = { s.pair with tap := .bypass, dr := 0, refcnt := satAdd s.pair.refcnt 1 0xF }) ∧
  (∀ (t : Nat) (c : Cells) (s : State), s.live = true → s.img.lc = 0 →
    ∃ s', exec (.samplePreload t c) s = .next s' ∧
      s'.pair = { s.pair with tap := .bypass, dr := 0, refcnt := satAdd s.pair.refcnt 1 0xF })

/-- PAIR_HALT and LEAD_INSPECT raise DEBUG_HALT and halt the pair with the muzzle open, at once, or, during a rotation, after the rejoin;
a halt digest that differs under PAIR_HALT in arrangement P is CMP. RESYNC ends a halt in SAFE, discards the journal, and makes a
cycle-entry restart due. After R194, R196, R199, R201, R204, R205. -/
def Obligations.Halting : Prop :=
  (∀ (t : Nat) (s : State), s.lcDebug = true → s.haltable = true → s.pair.solo = false → s.farr.cur ≠ 8 →
      s.srcClass .debugHalt = .stop →
    ∃ s', exec (.pairHalt t false) s = .next s' ∧ s'.clk.rs = .halted ∧ s'.pair.dbg = .pairHalt ∧ s'.pair.journal = [] ∧
      s'.sout.open_ = true ∧ (s'.pair.regs0 = s'.pair.regs1 ∨ s.pair.split = true) ∧
      (s.flt.on = true → bit s'.flt.fstat Src.debugHalt.bit = true)) ∧
  (∀ (t : Nat) (s : State), s.lcDebug = true → s.haltable = true → s.pair.solo = false → s.farr.cur ≠ 8 →
      s.srcClass .debugHalt = .stop → s.srcClass .cmp = .stop → s.pair.split = false →
    ∃ s', exec (.pairHalt t true) s = .next s' ∧ s'.clk.rs = .halted ∧ s'.pair.dbg = .pairHalt ∧ s'.sout.open_ = true ∧
      (s.flt.on = true → bit s'.flt.fstat Src.debugHalt.bit = true ∧ bit s'.flt.fstat Src.cmp.bit = true)) ∧
  (∀ (t : Nat) (s : State), s.lcDebug = true → s.haltable = true → s.pair.solo = false → s.farr.cur ≠ 8 →
      s.srcClass .debugHalt = .stop → s.pair.arr = false →
    ∃ s', exec (.leadInspect t) s = .next s' ∧ s'.clk.rs = .halted ∧ s'.pair.dbg = .leadInspect ∧ s'.pair.journal = [] ∧
      s'.sout.open_ = true ∧ (s.flt.on = true → bit s'.flt.fstat Src.debugHalt.bit = true)) ∧
  (∀ (t : Nat) (s : State), s.lcDebug = true → s.haltable = true → s.pair.solo = true → s.srcClass .debugHalt = .stop →
    ∃ s', exec (.pairHalt t false) s = .next s' ∧ s'.pair.pendHalt = .pairHalt ∧ s'.pair.dbg = s.pair.dbg ∧
      (s.flt.on = true → s'.sout.open_ = true)) ∧
  (∀ (t : Nat) (s : State), s.lcDebug = true → s.live = true → s.pair.arr = false →
    ∃ s', exec (.resync t) s = .next s' ∧ s'.pair.dbg = .none ∧ s'.pair.resyncPend = true ∧ s'.pair.restart = true ∧
      s'.pair.journal = [] ∧ s'.clk.rs ≠ .halted ∧ (s.clk.rs = .halted → s'.clk.rs = .safe ∨ s'.clk.rs = .cut) ∧
      (s.flt.on = true → bit s'.flt.fstat Src.debugHalt.bit = true))

/-- The access register: STATUS at any time; on a halted pair a word of kennel ROM, of kennel RAM under its held stores, and a core
register are read; under PAIR_HALT a write goes to kennel RAM, or to the register of both cores, and a step leaves both cores alike
unless the comparator finds a difference, which is CMP; under LEAD_INSPECT every write and step is one journal entry; RESUME leaves
HALTED for SAFE, under LEAD_INSPECT with the entries before the first differing one replayed and their stores committed. A pair that
is not halted answers RESULT 1, a bad address RESULT 2. After R194, R197 to R203. What a step computes is free (log entry 2). -/
def Obligations.AccessRegister : Prop :=
  (∀ (t : Nat) (s : State), s.lcDebug = true → s.live = true →
    ∃ s', exec (.status t) s = .next s' ∧ s'.pair.dbgResult = 0 ∧
      s'.pair.dbgData = BitVec.ofNat 32 (s.pair.dbgstat (s.clk.rs == .halted))) ∧
  (∀ (t : Nat) (a : BitVec 28) (v : BitVec 32) (r : CoreReg) (c : Fin 2) (n : Word) (m : Option (Fin 8 × Fin 70)) (b : Option (Fin 64))
     (d : Bool) (s : State), s.lcDebug = true → s.live = true → s.clk.rs ≠ .halted →
     ∀ i ∈ [Instr.readWord t a, .writeWord t a v, .readCoreRegister t r c, .writeCoreRegister t r c v, .step t ⟨n, m⟩, .resume t b d],
       ∃ s', exec i s = .next s' ∧ s'.pair = { s.pair with tap := .dbgAccess, dbgResult := 1, dbgData := 0 }) ∧
  (∀ (t : Nat) (a : BitVec 28) (v : BitVec 32) (s : State), s.lcDebug = true → s.clk.rs = .halted → a.toNat % 4 ≠ 0 →
     ∀ i ∈ [Instr.readWord t a, .writeWord t a v],
       ∃ s', exec i s = .next s' ∧ s'.pair = { s.pair with tap := .dbgAccess, dbgResult := 2, dbgData := 0 }) ∧
  (∀ (t : Nat) (a : BitVec 28) (s : State), s.lcDebug = true → s.clk.rs = .halted → a.toNat % 4 = 0 →
      a.toNat < 0x10000 ∨ (kramBase ≤ a.toNat ∧ a.toNat < kramTop) →
    ∃ s', exec (.readWord t a) s = .next s' ∧ s'.pair.dbgResult = 0 ∧ s'.pair.dbgData =
      if a.toNat < 0x10000 then Config.kennelRom (a.toNat / 4) else s.pair.ramView ((a.toNat - kramBase) / 4)) ∧
  (∀ (t : Nat) (a : BitVec 28) (v : BitVec 32) (s : State), s.lcDebug = true → s.clk.rs = .halted → a.toNat % 4 = 0 →
      kramBase ≤ a.toNat → a.toNat < kramTop → s.pair.dbg ≠ .leadInspect →
    ∃ s', exec (.writeWord t a v) s = .next s' ∧ s'.pair.dbgResult = 0 ∧ s'.pair.journal = s.pair.journal ∧
      s'.pair.ram ((a.toNat - kramBase) / 4) = v) ∧
  (∀ (t : Nat) (a : BitVec 28) (v : BitVec 32) (s : State), s.lcDebug = true → s.clk.rs = .halted → a.toNat % 4 = 0 →
      kramBase ≤ a.toNat → a.toNat < kramTop → s.pair.dbg = .leadInspect → s.pair.journal.length < 64 → s.pair.jovf = false →
    ∃ s', exec (.writeWord t a v) s = .next s' ∧ s'.pair.dbgResult = 0 ∧ s'.pair.kram = s.pair.kram ∧
      s'.pair.journal = s.pair.journal ++ [.ram ((a.toNat - kramBase) / 4) v] ∧ s'.pair.ramView ((a.toNat - kramBase) / 4) = v) ∧
  (∀ (t : Nat) (r : CoreReg) (c : Fin 2) (s : State), s.lcDebug = true → s.clk.rs = .halted →
    ∃ s', exec (.readCoreRegister t r c) s = .next s' ∧ s'.pair.dbgResult = 0 ∧
      s'.pair.dbgData = nth 0 (s.pair.regsOf (s.pair.coreOf c)) r) ∧
  (∀ (t : Nat) (r : CoreReg) (v : BitVec 32) (s : State), s.lcDebug = true → s.clk.rs = .halted → s.pair.split = false →
    ∃ s', exec (.writeCoreRegister t r 0 v) s = .next s' ∧
      if s.pair.dbg = .leadInspect then
        s'.pair.journal = (if s.pair.journal.length < 64 ∧ s.pair.jovf = false then s.pair.journal ++ [.reg r v] else s.pair.journal) ∧
          s'.pair.regsOf s.pair.lead = setAt (s.pair.regsOf s.pair.lead) r v
      else s'.pair.dbgResult = 0 ∧ s'.pair.regs0 = setAt s.pair.regs0 r v ∧ s'.pair.regs1 = setAt s.pair.regs1 r v) ∧
  (∀ (t : Nat) (n : Word) (s : State), s.lcDebug = true → s.clk.rs = .halted → n ≠ 0 → s.pair.dbg ≠ .leadInspect →
      s.pair.split = false → s.pair.regs0 = s.pair.regs1 →
    ∃ s', exec (.step t ⟨n, none⟩) s = .next s' ∧ s'.pair.dbgResult = 0 ∧ s'.pair.regs0 = s'.pair.regs1) ∧
  (∀ (t : Nat) (n : Word) (m : Fin 8 × Fin 70) (s : State), s.lcDebug = true → s.clk.rs = .halted → n ≠ 0 →
      s.pair.dbg ≠ .leadInspect → s.pair.split = false → s.pair.cmpArmed = true → s.flt.on = true →
    ∃ s', exec (.step t ⟨n, some m⟩) s = .next s' ∧ bit s'.flt.fstat Src.cmp.bit = true ∧ s'.sout.open_ = true) ∧
  (∀ (t : Nat) (n : Word) (s : State), s.lcDebug = true → s.clk.rs = .halted → n ≠ 0 → s.pair.dbg = .leadInspect →
      s.pair.journal.length < 64 → s.pair.jovf = false →
    ∃ s', exec (.step t ⟨n, none⟩) s = .next s' ∧ s'.pair.dbgResult = 0 ∧ s'.pair.kram = s.pair.kram ∧
      s'.pair.journal.length = s.pair.journal.length + 1) ∧
  (∀ (t : Nat) (s : State), s.lcDebug = true → s.clk.rs = .halted → s.pair.dbg ≠ .leadInspect →
    ∃ s', exec (.resume t none false) s = .next s' ∧ s'.pair.dbg = .none ∧ s'.pair.dbgResult = 0 ∧
      (s'.clk.rs = .safe ∨ s'.clk.rs = .cut)) ∧
  (∀ (t : Nat) (b : Option (Fin 64)) (s : State), s.lcDebug = true → s.clk.rs = .halted → s.pair.dbg = .leadInspect →
      s.pair.jovf = false →
    ∃ s', exec (.resume t b false) s = .next s' ∧ s'.pair.dbg = .none ∧ s'.pair.journal = [] ∧ (s'.clk.rs = .safe ∨ s'.clk.rs = .cut) ∧
      s'.pair.kram = commitStores s.pair.kram (heldStores (match b with
        | some k => s.pair.journal.take k
        | none => s.pair.journal)) ∧
      (b.any (fun k => decide (k.val < s.pair.journal.length)) = true → s.flt.on = true → bit s'.flt.fstat Src.cmp.bit = true))

/-- A scrub pass flips the cells named, is counted, falls due 2 ms later, takes 371 to 400 µs, and puts every frame whose CRC is not
its reference on the list to reload; an error in the references is FAB_SCRUB as a STOP. A reload writes the frame of the running
bank, but not a safety pen's in the 1 µs before a capture, and a bank frame with another CRC is IMAGE. After R244 to R246, R248.
The range PASSTIME is free in is the model's choice (log entry 58). A probe takes a source, a pin or its enables; what R250
forbids changes no probe and shows in PRBERR; in FIELD no probe changes. After R249, R250. The states in which a probe write is
taken are the model's choice (log entry 60). -/
def Obligations.FabricChecks : Prop :=
  (∀ (t : Nat) (ups : List (Fin 1162 × Fin 1024)) (e : Bool) (s : State), s.live = true → s.fab.committed = true → s.fab.passAt ≤ t →
    ∃ s', exec (.scrubPass t ups e) s = .next s' ∧ s'.fab.scrubcnt = (s.fab.scrubcnt + 1) % 65536 ∧
      s'.fab.passAt = s.fab.passAt + 2000 * us ∧ 371 ≤ s'.fab.passtime ∧ s'.fab.passtime ≤ 400 ∧
      s'.fab.cells = ups.foldl (fun c u => updAt (fun f => flipCell f u.2) c u.1) s.fab.cells ∧
      (∀ i ∈ List.range (Nat.min s.fab.cells.length s.fab.refs.length), (crc32c (nth [] s'.fab.cells i)).toNat ≠ nth 0 s.fab.refs i →
        s'.fab.reload.any (· == i) = true)) ∧
  (∀ (t : Nat) (ups : List (Fin 1162 × Fin 1024)) (s : State), s.live = true → s.fab.committed = true → s.fab.passAt ≤ t →
      s.flt.on = true →
    ∃ s', exec (.scrubPass t ups true) s = .next s' ∧ bit s'.flt.fstat Src.fabScrub.bit = true ∧ s'.sout.open_ = true) ∧
  (∀ (t : Nat) (i : Fin 1162) (s : State), s.live = true → s.fab.committed = true → s.fab.reload.any (· == i.val) = true →
      (s.upTo t).captureNear = false ∨ (576 ≤ i.val ∧ (i.val < 1152 ∨ 1154 < i.val)) →
    ∃ s', exec (.scrubReload t i) s = .next s' ∧ s'.fab.reload = s.fab.reload.filter (· != i.val) ∧
      if (crc32c (s.bankFrame i)).toNat = nth 0 s.fab.refs i then s'.fab.cells = setAt s.fab.cells i (s.bankFrame i)
      else s'.fab.cells = s.fab.cells ∧ (s.flt.on = true → bit s'.flt.fstat Src.image.bit = true)) ∧
  (∀ (t : Nat) (v : Word) (s : State), s.live = true → s.field = false → v.toNat % 2048 ≤ 0x5FF →
    ∃ s', exec (.probeWrite t 0x90 v) s = .next s' ∧ s'.fab.prberr = s.fab.prberr ∧
      s'.fab.probes = updAt (fun (p : Probe) => { p with src := v.toNat % 2048 }) s.fab.probes s.fab.prbsel) ∧
  (∀ (t : Nat) (v : Word) (s : State), s.live = true → s.field = false → 0x5FF < v.toNat % 2048 →
    ∃ s', exec (.probeWrite t 0x90 v) s = .next s' ∧ s'.fab.probes = s.fab.probes ∧
      s'.fab.prberr = w16 (s.fab.prbsel + 8 * 3 + 0x8000)) ∧
  (∀ (t : Nat) (v : Word) (ps : List Probe) (s : State), s.live = true → s.field = false →
      ps = updAt (fun (p : Probe) => { p with fio := v.toNat % 128 }) s.fab.probes s.fab.prbsel →
      probesBad s.fab.cells ps [s.fab.prbsel] = none →
    ∃ s', exec (.probeWrite t 0x91 v) s = .next s' ∧ s'.fab.probes = ps ∧ s'.fab.prberr = s.fab.prberr) ∧
  (∀ (t n c : Nat) (v : Word) (s : State), s.live = true → s.field = false →
      probesBad s.fab.cells (updAt (fun (p : Probe) => { p with fio := v.toNat % 128 }) s.fab.probes s.fab.prbsel) [s.fab.prbsel] = some (n, c) →
    ∃ s', exec (.probeWrite t 0x91 v) s = .next s' ∧ s'.fab.probes = s.fab.probes ∧ s'.fab.prberr = w16 (n + 8 * c + 0x8000)) ∧
  (∀ (t : Nat) (v : Word) (s : State), s.live = true → s.field = false → s.fab.committed = true →
      probesBad s.fab.cells (mapIdx (fun k (p : Probe) => { p with on := bit v.toNat k }) s.fab.probes)
        ((List.range 8).filter (fun k => bit v.toNat k)) = none →
    ∃ s', exec (.probeWrite t 0x8E v) s = .next s' ∧
      s'.fab.probes = mapIdx (fun k (p : Probe) => { p with on := bit v.toNat k }) s.fab.probes) ∧
  (∀ (t : Nat) (v : Word) (s : State), s.live = true → s.field = true → ∀ a ∈ [(0x8E : Byte), 0x90, 0x91],
    ∃ s', exec (.probeWrite t a v) s = .next s' ∧ s'.fab.probes = s.fab.probes ∧ bit s'.cp.st 3 = true)

/-- What a radio port sends: a beacon request from its instant on, before all else; then a management frame; an idle frame for a head
that asks; and an idle poll 125 µs after the last transfer started. Each transfer brings one frame in. A beacon request is built once
per reference instant, and starts so that it ends HEADDLY before that instant. What a head sends beside PDUs: a report that its
beacon was not sent is counted. After R256, R259, R265, R505. The beacon's bytes are numbered from the frame's start, and any good
frame shows that the head answers: the model's choices (log entries 19 and 43). -/
def Obligations.RadioPorts : Prop :=
  (∀ (t : Nat) (p : Fin 2) (irq : Bool) (b : List Byte) (rest : List (List Byte)) (s : State), s.live = true →
      (s.radio p).on = true → (s.radio p).last ≤ t → (s.radio p).bhold ≤ (s.upTo t).ytime → (s.radio p).beacons = b :: rest →
    ∃ s', exec (.radioTransfer t p irq) s = .next s' ∧ s'.col.ports = updAt (fun r => { r with
        beacons := rest, sent := b,
        last := Nat.max r.last (s'.now - ((s.upTo t).ytime - r.bhold)) + transferNs,
        inAt := some (Nat.max r.last (s'.now - ((s.upTo t).ytime - r.bhold)) + frameNs) }) s.col.ports p) ∧
  (∀ (t : Nat) (p : Fin 2) (irq : Bool) (m : List Byte) (rest : List (List Byte)) (s : State), s.live = true →
      (s.radio p).on = true → (s.radio p).last ≤ t →
      (s.radio p).beacons = [] ∨ (s.upTo t).ytime + transferNs ≤ (s.radio p).bhold → (s.radio p).mgmt = m :: rest →
    ∃ s', exec (.radioTransfer t p irq) s = .next s' ∧ s'.col.ports = updAt (fun r => { r with
        mgmt := rest, sent := m, last := s'.now + transferNs, inAt := some (s'.now + frameNs) }) s.col.ports p) ∧
  (∀ (t : Nat) (p : Fin 2) (s : State), s.live = true → (s.radio p).on = true → (s.radio p).last ≤ t →
      (s.radio p).beacons = [] ∨ (s.upTo t).ytime + transferNs ≤ (s.radio p).bhold → (s.radio p).mgmt = [] →
    ∃ s', exec (.radioTransfer t p true) s = .next s' ∧ s'.col.ports = updAt (fun r => { r with
        sent := portFrame 0 0 [], last := s'.now + transferNs, inAt := some (s'.now + frameNs) }) s.col.ports p) ∧
  (∀ (t : Nat) (p : Fin 2) (s : State), s.live = true → (s.radio p).on = true →
      (s.radio p).last + (125 * us - transferNs) ≤ t → (s.radio p).beacons = [] → (s.radio p).mgmt = [] →
    ∃ s', exec (.radioPoll t p) s = .next s' ∧ s'.col.ports = updAt (fun r => { r with
        sent := portFrame 0 0 [], last := s'.now + transferNs, inAt := some (s'.now + frameNs) }) s.col.ports p) ∧
  (∀ (t : Nat) (p : Fin 2) (ref : Nat) (s : State), s.live = true → (s.radio p).on = true →
      ref = nextRef p ((s.upTo t).ytime + ((s.radio p).headdly * us + frameNs)) → (s.radio p).bref ≠ ref →
    ∃ s', exec (.beaconRequest t p) s = .next s' ∧ s'.col.ports = updAt (fun r => { r with
        beacons := r.beacons ++ [portFrame 2 0 (toBytes 8 ref ++ toBytes 1 s.col.sampofs ++ [0] ++ toBytes 2 (s.radio p).bseq)],
        bseq := ((s.radio p).bseq + 1) % 65536, bref := ref,
        bhold := ref - ((s.radio p).headdly * us + frameNs) +
          (if s.spook.en then nth 0 s.spook.bdly p * us else 0) }) s.col.ports p) ∧
  (∀ (t a : Nat) (p : Fin 2) (l : List Byte) (s : State), s.live = true → (s.radio p).on = true → (s.radio p).inAt = some a → a ≤ t →
      portOk l = true → byteAt l 0 = 3 →
    ∃ s', exec (.beaconReport t p l) s = .next s' ∧ s'.col = { s.col with ports := updAt (fun r => { r with
        inAt := none, answering := true, bmiss := if bit (byteAt l 6) 0 then r.bmiss else sat8 r.bmiss }) s.col.ports p }) ∧
  (∀ (t a : Nat) (p : Fin 2) (l : List Byte) (s : State), s.live = true → (s.radio p).on = true → (s.radio p).inAt = some a → a ≤ t →
      portOk l = true → byteAt l 0 = 5 →
    ∃ s', exec (.headStatus t p l) s = .next s' ∧
      s'.col.ports = updAt (fun r => { r with inAt := none, answering := true }) s.col.ports p) ∧
  (∀ (t a : Nat) (p : Fin 2) (l : List Byte) (s : State), s.live = true → (s.radio p).on = true → (s.radio p).inAt = some a → a ≤ t →
      portOk l = true → byteAt l 0 = 4 →
    ∃ s', exec (.portManagementFrame t p l) s = .next s' ∧
      s'.col.ports = updAt (fun r => { r with inAt := none, answering := true }) s.col.ports p)

/-- An inbound port frame that is not well formed, and a link frame whose form is wrong or whose reserved payload bits are set, is
discarded and counted, whatever its type; it changes nothing else of the collars or of the yard, and raises none of their errors.
After R258, R293, R300. -/
def Obligations.BadFramesDiscarded : Prop :=
  (∀ (t a : Nat) (p : Fin 2) (l : List Byte) (s : State), s.live = true → (s.radio p).on = true → (s.radio p).inAt = some a → a ≤ t →
     portOk l = false → ∀ i ∈ [Instr.pdu t p l, .beaconReport t p l, .headStatus t p l, .portManagementFrame t p l],
       ∃ s', exec i s = .next s' ∧
         s'.col = { s.col with ports := updAt (fun r => { r with inAt := none, err := sat8 r.err }) s.col.ports p } ∧
         ∀ src ∈ [Src.colCrc, .colLost], bit s'.flt.fstat src.bit = bit s.flt.fstat src.bit) ∧
  (∀ (t : Nat) (p : Fin 3) (l : List Byte) (s : State), s.live = true → s.portOn p = true → (parseLink l).all (·.reservedSet) = true →
     ∀ i ∈ [Instr.safetyDataFrame t p l, .safetyOpenFrame t p l, .managementFrame t p l, .hello t p l],
       ∃ s', exec i s = .next s' ∧
         s'.keep.yard = { s.keep.yard with ports := updAt (fun y => { y with err := sat16 y.err }) s.yard.ports p } ∧
         ∀ src ∈ [Src.colCrc, .yardLink, .yardWdog], bit s'.flt.fstat src.bit = bit s.flt.fstat src.bit) ∧
  (∀ (t : Nat) (l : List Byte) (s : State), s.live = true → s.portOn 0 = true → s.yard.root = false →
     (parseLink l).all (·.reservedSet) = true → ∀ i ∈ [Instr.sync t l, .dresp t l],
       ∃ s', exec i s = .next s' ∧
         s'.keep.yard = { s.keep.yard with ports := updAt (fun y => { y with err := sat16 y.err }) s.yard.ports 0 }) ∧
  (∀ (t : Nat) (p : Fin 3) (l : List Byte) (s : State), s.live = true → s.portOn p = true → p ≠ 0 →
     (parseLink l).all (·.reservedSet) = true →
       ∃ s', exec (.dreq t p l) s = .next s' ∧
         s'.keep.yard = { s.keep.yard with ports := updAt (fun y => { y with err := sat16 y.err }) s.yard.ports p })

/-- Channel B's checker of a slot accepts a sample for which checks 0 to 8 hold, whatever the slot's state, and keeps its sequence
number, its sample time and both data copies; a PDU with a wrong SCRC is COL_CRC and changes none of the data. After R267 to R270.
To which tick an UNSYNC sample belongs is the model's choice (log entry 20). -/
def Obligations.PduAccepted : Prop :=
  (∀ (t a n : Nat) (p : Fin 2) (l pdu : List Byte) (st : Nat) (s : State), s.live = true → (s.radio p).on = true →
      (s.radio p).inAt = some a → a ≤ t → portOk l = true → byteAt l 0 = 1 → (s.radioDrop p (byteAt l 1)).2 = false →
      n = byteAt l 1 → n ≠ 0 → n < s.col.slots.length → (s.slot n).bound = true → (s.slot n).head = p →
      pdu = portPdu l → st = (s.upTo t).sampleTime l → pduForm n pdu = true → pduScrcOk s.yard.node (s.slot n) pdu = true →
      (s.slot n).b.has = false ∨ (s.slot n).b.ds = .lost ∨
        (1 ≤ (beAt pdu 2 2 + 65536 - (s.slot n).b.seq0) % 65536 ∧ (beAt pdu 2 2 + 65536 - (s.slot n).b.seq0) % 65536 ≤ 16 ∧
          (bit (byteAt pdu 0) 3 = true ∨
            st = (s.slot n).b.t0 + (beAt pdu 2 2 + 65536 - (s.slot n).b.seq0) % 65536 * (s.slot n).refUs)) →
      bit (byteAt pdu 0) 3 = true ∨
        (s.col.sampofs * 125 ≤ st ∧ (st - s.col.sampofs * 125) % (s.slot n).refUs = 0 ∧ st * us ≤ (s.upTo t).ytime + 4 * us) →
      (s.slot n).b.missed.any (· == s.pduTick (s.slot n) (bit (byteAt pdu 0) 3) (nearTime ((s.upTo t).ytime / us) (beAt pdu 4 4))) = false →
      (s.upTo t).ytime ≤ st * us + (s.slot n).maxage * ms →
      byteAt pdu 25 % 4 = 0 → s.pduAgrees n (pduData pdu 8) (pduData pdu 16) = true →
    ∃ s', exec (.pdu t p l) s = .next s' ∧ (s'.slot n).b.has = true ∧ (s'.slot n).b.got = true ∧
      (s'.slot n).b.seq = beAt pdu 2 2 ∧ (s'.slot n).b.at_ = st ∧ (s'.slot n).b.dataA = pduData pdu 8 ∧
      (s'.slot n).b.dataB = pduData pdu 16) ∧
  (∀ (t a n : Nat) (p : Fin 2) (l : List Byte) (s : State), s.live = true → s.flt.on = true → (s.radio p).on = true →
      (s.radio p).inAt = some a → a ≤ t → portOk l = true → byteAt l 0 = 1 → (s.radioDrop p (byteAt l 1)).2 = false →
      n = byteAt l 1 → n ≠ 0 → (s.slot n).bound = true → (s.slot n).head = p →
      pduForm n (portPdu l) = false ∨ pduScrcOk s.yard.node (s.slot n) (portPdu l) = false →
    ∃ s', exec (.pdu t p l) s = .next s' ∧ bit s'.flt.fstat Src.colCrc.bit = true ∧
      (s'.slot n).b.dataA = (s.slot n).b.dataA ∧ (s'.slot n).b.dataB = (s.slot n).b.dataB ∧ (s'.slot n).b.at_ = (s.slot n).b.at_)

/-- A live slot that misses its K-th refresh in a row is LOST, and COL_LOST; one older than MAXAGE is STALE, as is a connection; RELEASE
takes a quarantined slot to JOINING; a datum held back by a full FIFO enters it when there is room, in order. After R271, R273, R275,
R278, R316, R417. The FIFO shown is the one whose entries wait for the kennel's read; the others' receivers take theirs at once. -/
def Obligations.SlotStates : Prop :=
  (∀ (t : Nat) (n : Fin 64) (s : State), s.live = true → n.val < s.col.slots.length → (s.slot n).bound = true →
      (s.slot n).b.ds = .live ∨ (s.slot n).b.ds = .stale → (s.slot n).b.gotTicks.any (· == (s.slot n).b.next) = false →
      (s.slot n).k ≤ (s.slot n).b.misses + 1 → ((s.slot n).b.next + 2000) * us ≤ (s.upTo t).ytime →
      (s.upTo t).ytime < ((s.slot n).b.next + 2000 + (s.slot n).refUs) * us →
    ∃ s', exec (.refreshMissed t n) s = .next s' ∧ (s'.slot n).b.ds = .lost ∧ (s'.slot n).a = (s.slot n).a ∧
      (s.flt.on = true → s.pair.split = false → bit s'.flt.fstat Src.colLost.bit = true)) ∧
  (∀ (t : Nat) (n : Fin 64) (s : State), s.live = true → n.val < s.col.slots.length → (s.slot n).b.ds = .live →
      (s.slot n).b.at_ * us + (s.slot n).maxage * ms < (s.upTo t).ytime →
    ∃ s', exec (.maxageExpiry t false n) s = .next s' ∧ (s'.slot n).b.ds = .stale ∧ (s'.slot n).a = (s.slot n).a) ∧
  (∀ (t : Nat) (n : Fin 64) (s : State), s.live = true → n.val < s.yard.conns.length → (s.conn n).b.ds = .live →
      (s.conn n).b.ts + (s.conn n).maxage * us < (s.upTo t).ytime →
    ∃ s', exec (.maxageExpiry t true n) s = .next s' ∧ (s'.conn n).b.ds = .stale ∧ (s'.conn n).a = (s.conn n).a) ∧
  (∀ (t : Nat) (v : Word) (s : State), s.live = true → bit v.toNat 6 = true → v.toNat % 64 < s.col.slots.length →
    ∃ s', exec (.colQrel t v) s = .next s' ∧
      (s'.slot (v.toNat % 64)).a.ds = (if (s.slot (v.toNat % 64)).a.ds = .quarantined then .joining else (s.slot (v.toNat % 64)).a.ds) ∧
      (s'.slot (v.toNat % 64)).b.ds = (if (s.slot (v.toNat % 64)).b.ds = .quarantined then .joining else (s.slot (v.toNat % 64)).b.ds)) ∧
  (∀ (t : Nat) (d : Datum) (rest : List Datum) (s : State), s.live = true → (s.backP 4).1 = 0 → (s.fifo 4).held = d :: rest →
      (s.fifo 4).q.length < fifoDepth 4 →
    ∃ s', exec (.fifoTransfer t 4) s = .next s' ∧
      s'.fifos = updAt (fun f => { q := f.q ++ [d], held := rest }) s.fifos 4)

/-- With the spook controls off, a port whose line is free sends first a whistle, then an acknowledgement, a time frame, and a sequenced
frame, which takes the next LSEQ; a whistle aborts the frame on the line, which is sent again from its start. Acknowledgements free the
frames they name; 12 µs after its end an unacknowledged frame goes again with those after it, and after four attempts the port goes
down, and YARD_LINK. An invalid acknowledgement and a line error are counted. After R291, R295, R296, R300. That an acknowledgement
covers every earlier frame is the model's choice (log entry 35). -/
def Obligations.LinkLayer : Prop :=
  (∀ (t : Nat) (p : Fin 3) (w : List Byte × Bool) (rest : List (List Byte × Bool)) (s : State), s.live = true →
      s.portOn p = true → s.spook.en = false → (s.yport p).qw = w :: rest → (s.yport p).lineTill ≤ t →
    ∃ s', exec (.linkFrameSend t p) s = .next s' ∧ s'.yard.ports = updAt (fun y => { y with
        qw := rest, sent := some (.whistle w.1 w.2), lineTill := s'.now + lineNs w.1.length, onLine := none }) s.yard.ports p) ∧
  (∀ (t : Nat) (p : Fin 3) (w : List Byte × Bool) (rest : List (List Byte × Bool)) (l : List Byte) (s : State), s.live = true →
      s.portOn p = true → s.spook.en = false → (s.yport p).qw = w :: rest → (s.upTo t).now < (s.yport p).lineTill →
      (s.yport p).onLine = some (true, l) →
    ∃ s', exec (.linkFrameSend t p) s = .next s' ∧ s'.yard.ports = updAt (fun y => { y with
        qw := rest, sent := some (.whistle w.1 w.2), lineTill := s'.now + lineNs w.1.length, onLine := none,
        redo := some l }) s.yard.ports p) ∧
  (∀ (t : Nat) (p : Fin 3) (a : Nat) (rest : List Nat) (s : State), s.live = true → s.portOn p = true →
      (s.yport p).qw = [] → (s.yport p).qa = a :: rest → (s.yport p).lineTill ≤ t →
    ∃ s', exec (.linkFrameSend t p) s = .next s' ∧ s'.yard.ports = updAt (fun y => { y with
        qa := rest, sent := some (.ack a), lineTill := s'.now + 120, onLine := none }) s.yard.ports p) ∧
  (∀ (t : Nat) (p : Fin 3) (f : List Byte) (rest : List (List Byte)) (s : State), s.live = true → s.portOn p = true →
      s.spook.en = false → (s.yport p).lineTill ≤ t → (s.yport p).qw = [] → (s.yport p).qa = [] → (s.yport p).qt = f :: rest →
      p.val < s.yard.ports.length →
    ∃ s', exec (.linkFrameSend t p) s = .next s' ∧ (s'.yport p).qt = rest ∧ (s'.yport p).lseq = (s.yport p).lseq ∧
      (s'.yport p).sent = some (.frame (sealFrame 0 false
        (if byteAt f 8 = 3 then f else f.take 16 ++ toBytes 8 (s.upTo t).ytime ++ f.drop 24)))) ∧
  (∀ (t : Nat) (p : Fin 3) (f : List Byte) (rest : List (List Byte)) (s : State), s.live = true → s.portOn p = true →
      s.spook.en = false → (s.yport p).lineTill ≤ t → (s.yport p).qw = [] → (s.yport p).qa = [] → (s.yport p).qt = [] →
      (s.yport p).redo = none → (s.yport p).again = [] → (s.yport p).unack.length < 8 → (s.yport p).qs = f :: rest →
      p.val < s.yard.ports.length →
    ∃ s', exec (.linkFrameSend t p) s = .next s' ∧ (s'.yport p).qs = rest ∧
      (s'.yport p).lseq = ((s.yport p).lseq + 1) % 256 ∧ (s'.yport p).sent = some (.frame (sealFrame (s.yport p).lseq false f)) ∧
      (s'.yport p).unack = (s.yport p).unack ++ [{
        bytes := sealFrame (s.yport p).lseq false f, attempts := 1,
        sentAt := s'.now + lineNs (sealFrame (s.yport p).lseq false f).length }]) ∧
  (∀ (t : Nat) (p : Fin 3) (n : Byte) (s : State), s.live = true → (s.yport p).up = true → p.val < s.yard.ports.length →
    ∃ s', exec (.ackOrderedSet t p n (~~~ n)) s = .next s' ∧ (s'.yport p).unack = ackFrames n.toNat (s.yport p).unack ∧
      (s'.yport p).err = (s.yport p).err) ∧
  (∀ (t : Nat) (p : Fin 3) (n c : Byte) (s : State), s.live = true → (s.yport p).up = true → c ≠ ~~~ n →
    ∃ s', exec (.ackOrderedSet t p n c) s = .next s' ∧
      s'.yard.ports = updAt (fun y => { y with err := sat16 y.err }) s.yard.ports p) ∧
  (∀ (t : Nat) (p : Fin 3) (u : Unack) (rest : List Unack) (s : State), s.live = true → (s.yport p).unack = u :: rest →
      (s.yport p).again = [] → u.sentAt + 12 * us ≤ t → u.attempts < 4 →
    ∃ s', exec (.ackTimeout t p) s = .next s' ∧
      s'.yard.ports = updAt (fun y => { y with again := u :: rest }) s.yard.ports p) ∧
  (∀ (t : Nat) (p : Fin 3) (u : Unack) (rest : List Unack) (s : State), s.live = true → (s.yport p).unack = u :: rest →
      (s.yport p).again = [] → u.sentAt + 12 * us ≤ t → 4 ≤ u.attempts →
    ∃ s', exec (.ackTimeout t p) s = .next s' ∧ s'.yard.ports = updAt (fun y => { y.drop with downs := sat8 y.downs }) s.yard.ports p ∧
      (s.flt.on = true → bit s'.flt.fstat Src.yardLink.bit = true)) ∧
  (∀ (t : Nat) (p : Fin 3) (s : State), s.live = true → (s.yport p).on = true →
    ∃ s', exec (.linkError t p) s = .next s' ∧
      s'.yard.ports = updAt (fun y => { y with err := sat16 y.err }) s.yard.ports p)

/-- A sequenced frame with the expected LSEQ is accepted, acknowledged, and queued on the ports that its destination names; one for this
node reaches the kennel's queue, its producer's echo list, or the loft, as does a management frame for a collar of this segment. After
R290, R295, R297, R313, R317, R476. -/
def Obligations.SequencedFrames : Prop :=
  (∀ (t : Nat) (p : Fin 3) (l : List Byte) (fr : LinkFrame) (s : State), s.live = true → s.portOn p = true →
      parseLink l = some fr → fr.typ = typSafety → byteAt fr.payload 0 ≠ kindOpen → (s.yport p).up = true →
      (s.yport p).lexp = fr.lseq → p.val < s.yard.ports.length →
    ∃ s', exec (.safetyDataFrame t p l) s = .next s' ∧ (s'.yport p).lexp = (fr.lseq + 1) % 256 ∧
      (s'.yport p).qa = (s.yport p).qa ++ [fr.lseq] ∧
      (∀ q ∈ s.ports fr.bcast fr.dst (some p), (s'.yport q).qs = (s.yport q).qs ++ [fr.bytes]) ∧
      s'.fifos = if s.forUs fr then
          ((s.upTo t).fifoPush 4 (.safety (2 * p + flag fr.bcast) fr.payload (s.upTo t).ytime)).fifos
        else s.fifos) ∧
  (∀ (t : Nat) (p : Fin 3) (l : List Byte) (fr : LinkFrame) (s : State), s.live = true → s.portOn p = true →
      parseLink l = some fr → fr.typ = typSafety → byteAt fr.payload 0 = kindOpen → (s.yport p).up = true →
      (s.yport p).lexp = fr.lseq → p.val < s.yard.ports.length →
    ∃ s', exec (.safetyOpenFrame t p l) s = .next s' ∧ (s'.yport p).lexp = (fr.lseq + 1) % 256 ∧
      (s'.yport p).qa = (s.yport p).qa ++ [fr.lseq] ∧
      (∀ q ∈ s.ports fr.bcast fr.dst (some p), (s'.yport q).qs = (s.yport q).qs ++ [fr.bytes])) ∧
  (∀ (t i : Nat) (p : Fin 3) (l : List Byte) (fr : LinkFrame) (s : State), s.live = true → s.portOn p = true →
      parseLink l = some fr → fr.typ = typSafety → byteAt fr.payload 0 = kindOpen → (s.yport p).up = true →
      (s.yport p).lexp = fr.lseq → s.forUs fr = true → s.produceIdx (pConnid fr.payload) = some i → i < s.yard.conns.length →
      fr.payload.length = 28 → byteAt fr.payload 22 = 0 → byteAt fr.payload 23 = 0 → pSflags fr.payload < 4 →
      pDst fr.payload = s.yard.node → pSeq fr.payload ≠ 0 → (s.conn i).bcast = true ∨ pSrc fr.payload = (s.conn i).peer →
      scrcOk (s.conn i).ctag fr.payload = true →
    ∃ s', exec (.safetyOpenFrame t p l) s = .next s' ∧
      (s'.conn i).echoes = (s.conn i).echoes ++ [(pSeq fr.payload, pSrc fr.payload)]) ∧
  (∀ (t : Nat) (p : Fin 3) (l : List Byte) (fr : LinkFrame) (s : State), s.live = true → s.portOn p = true →
      parseLink l = some fr → fr.typ = typMgmt → (s.yport p).up = true → (s.yport p).lexp = fr.lseq →
      p.val < s.yard.ports.length →
    ∃ s', exec (.managementFrame t p l) s = .next s' ∧ (s'.yport p).lexp = (fr.lseq + 1) % 256 ∧
      (s'.yport p).qa = (s.yport p).qa ++ [fr.lseq] ∧
      (∀ q ∈ s.ports fr.bcast fr.dst (some p), (s'.yport q).qm = (s.yport q).qm ++ [fr.bytes]) ∧
      (s.img.loft = false → s'.fifos =
        if s.forUs fr || s.forCollar fr then (s.fifoPush 6 (.mgmt fr.src fr.payload)).fifos else s.fifos)) ∧
  (∀ (t : Nat) (p : Fin 3) (l : List Byte) (fr : LinkFrame) (s : State), s.live = true → s.portOn p = true →
      parseLink l = some fr → fr.typ = typMgmt → (s.yport p).up = true → (s.yport p).lexp = fr.lseq →
      s.forUs fr = true ∨ s.forCollar fr = true → s.img.loft = true → 7 ≤ s.fifos.length → (s.fifo 6).q = [] → (s.fifo 6).held = [] →
      (s.backP 6).1 = 0 → s.yard.mrecv.length < 16 →
    ∃ s', exec (.managementFrame t p l) s = .next s' ∧ s'.yard.mrecv = s.yard.mrecv ++ [(fr.src, fr.payload)])

/-- Channel B takes the waiting frame of a connection when checks 3 to 5 hold, in JOINING only with the echo of its nonce, and turns it
away with COL_CRC otherwise. A consume connection that is JOINING sends an OPEN with a fresh nonce that is not 0x0000, no more often
than every 10 ms. RELEASE takes a quarantined connection to JOINING. After R313, R314, R317, R318. Which checks a frame meets at its
arrival and which when it is taken is the model's choice (log entry 33); the nonce is a free value (log entry 2). -/
def Obligations.Connections : Prop :=
  (∀ (t : Nat) (n : Fin 64) (f : SFrame) (s : State), s.live = true → n.val < s.yard.conns.length → (s.conn n).b.wait = [f] →
      f.due ≤ (s.upTo t).ytime → (s.conn n).b.ds ≠ .absent → (s.conn n).b.has = true ∨ f.echo = true →
      connAccepts (s.conn n) (s.conn n).b f (s.upTo t).ytime = true →
    ∃ s', exec (.connectionFrameTake t n) s = .next s' ∧ (s'.conn n).b.has = true ∧ (s'.conn n).b.seq0 = f.seq ∧
      (s'.conn n).b.ts = f.tstamp ∧ (s'.conn n).b.data = f.data ∧ (s'.conn n).b.wait = [] ∧ (s'.conn n).a = (s.conn n).a) ∧
  (∀ (t : Nat) (n : Fin 64) (f : SFrame) (s : State), s.live = true → s.flt.on = true → n.val < s.yard.conns.length →
      (s.conn n).b.wait = [f] → f.due ≤ (s.upTo t).ytime → (s.conn n).b.ds ≠ .absent →
      ((s.conn n).b.has = false ∧ f.echo = false) ∨ connAccepts (s.conn n) (s.conn n).b f (s.upTo t).ytime = false →
    ∃ s', exec (.connectionFrameTake t n) s = .next s' ∧ s'.conn n = { s.conn n with b := { (s.conn n).b with wait := [] } } ∧
      bit s'.flt.fstat Src.colCrc.bit = true) ∧
  (∀ (t : Nat) (n : Fin 64) (s : State), s.live = true → n.val < s.yard.conns.length → s.yard.committed = true →
      (s.conn n).mode = 1 → (s.conn n).a.ds = .joining ∨ (s.conn n).b.ds = .joining →
      (s.conn n).openAt.all (fun a => decide (a + 10 * ms ≤ t)) = true → (s.backP 5).1 = 0 → 5 < s.fifos.length →
      (s.fifo 5).q = [] → (s.fifo 5).held = [] →
    ∃ s', exec (.openSend t n) s = .next s' ∧ (s'.conn n).openAt = some s'.now ∧ 1 ≤ (s'.conn n).nonce ∧
      (s'.conn n).nonce ≤ 0xFFFF ∧
      (∀ q ∈ s.ports false (s.conn n).peer none,
        ((s'.yport q).qs.getLast?.map (fun l => (beAt l 16 2, byteAt l 8))) = some ((s'.conn n).nonce, kindOpen))) ∧
  (∀ (t : Nat) (v : Word) (s : State), s.live = true → bit v.toNat 6 = true → v.toNat % 64 < s.yard.conns.length →
    ∃ s', exec (.yardQrel t v) s = .next s' ∧
      (s'.conn (v.toNat % 64)).a.ds = (if (s.conn (v.toNat % 64)).a.ds = .quarantined then .joining else (s.conn (v.toNat % 64)).a.ds) ∧
      (s'.conn (v.toNat % 64)).b.ds = (if (s.conn (v.toNat % 64)).b.ds = .quarantined then .joining else (s.conn (v.toNat % 64)).b.ds))

/-- A port that is down sends a hello every 1,000 µs, with this node's ID, depth and root flag, on YP0 to the upstream node. A hello that
matches the yard table brings the port up; one that does not leaves it down, and is YARD_LINK. After R293, R294. That LSEQ starts
again from 0 when the port comes up, and that a hello's destination is not looked at, are the model's choices (log entries 36
and 40). -/
def Obligations.Hellos : Prop :=
  (∀ (t : Nat) (p : Fin 3) (s : State), s.live = true → s.portOn p = true → (s.yport p).up = false →
      (s.yport p).helloAt.all (fun a => decide (a + 1000 * us ≤ t)) = true → p.val < s.yard.ports.length →
    ∃ s', exec (.helloSend t p) s = .next s' ∧ (s'.yport p).helloAt = some s'.now ∧
      (s'.yport p).qh.dropLast = (s.yport p).qh ∧
      (s'.yport p).qh.getLast?.map (fun l => (byteAt l 0, (l.drop 8).take 4)) =
        some (typHello, helloPayload s.yard.node s.yard.depth s.yard.root) ∧
      (p = 0 → (s'.yport p).qh.getLast?.map (fun l => beAt l 2 2) = some (s.yard.upnode % 65536))) ∧
  (∀ (t : Nat) (p : Fin 3) (l : List Byte) (fr : LinkFrame) (s : State), s.live = true → s.portOn p = true →
      parseLink l = some fr → fr.typ = typHello → fr.payload.length = 4 → byteAt fr.payload 3 < 2 → (s.yport p).up = false →
      p.val < s.yard.ports.length → s.helloOk p (beAt fr.payload 0 2) (byteAt fr.payload 2) = true →
    ∃ s', exec (.hello t p l) s = .next s' ∧ (s'.yport p).up = true ∧ (s'.yport p).nbr = beAt fr.payload 0 2 ∧
      (s'.yport p).lseq = 0 ∧ (s'.yport p).lexp = 0) ∧
  (∀ (t : Nat) (p : Fin 3) (l : List Byte) (fr : LinkFrame) (s : State), s.live = true → s.portOn p = true →
      parseLink l = some fr → fr.typ = typHello → fr.payload.length = 4 → byteAt fr.payload 3 < 2 → (s.yport p).up = false →
      p.val < s.yard.ports.length → s.helloOk p (beAt fr.payload 0 2) (byteAt fr.payload 2) = false →
    ∃ s', exec (.hello t p l) s = .next s' ∧ (s'.yport p).up = false ∧ (s'.yport p).bad = true ∧
      (s'.yport p).nbr = beAt fr.payload 0 2 ∧ (s.flt.on = true → bit s'.flt.fstat Src.yardLink.bit = true))

/-- The four frames of a time exchange: the upstream node queues a SYNC every 990 µs or more; its receipt keeps t1 and t2, the arrival of
the start group, and queues a DREQ; the DREQ's receipt queues the answer with t4; and the answer completes the offset and the path
delay. The eighth good offset in a row under a LOCKED upstream node locks an UNLOCKED one. Without an exchange for 3,000 µs a LOCKED node
that is not the root is in HOLDOVER, and 500 ms later in SYNC_LOST, which is YARD_SYNC. After R300, R301. That a frame has come in whole
when its command is given is the model's reading (log entry 115). -/
def Obligations.TimeTransfer : Prop :=
  (∀ (t : Nat) (p : Fin 3) (s : State), s.live = true → p.val ≠ 0 → (s.yport p).up = true →
      (s.yport p).exchAt.all (fun a => decide (a + 990 * us ≤ t)) = true →
    ∃ s', exec (.timeExchangeStart t p) s = .next s' ∧
      s'.yard.ports = updAt (fun y => { y with
        xseq := ((s.yport p).xseq + 1) % 65536, exchAt := some s'.now,
        qt := y.qt ++ [(s.ownFrame typTime (s.yport p).nbr false
          (timePayload 1 s.yard.sync.code s.yard.depth (((s.yport p).xseq + 1) % 65536) 0)).bytes] }) s.yard.ports p) ∧
  (∀ (t : Nat) (l : List Byte) (fr : LinkFrame) (s : State), s.yard.root = false → s.live = true → s.portOn 0 = true →
      parseLink l = some fr → fr.typ = typTime → (s.yport 0).up = true → fr.payload.length = 16 → byteAt fr.payload 0 = 1 →
      byteAt fr.payload 1 < 4 → byteAt fr.payload 3 = 0 → zeroIn fr.payload 6 7 = true → 0 < s.yard.ports.length →
    ∃ s', exec (.sync t l) s = .next s' ∧
      s'.yard.xch = some (beAt fr.payload 4 2, beAt fr.payload 8 8, (s.upTo t).startGroup l, 0) ∧
      s'.yard.up = SyncState.ofCode (byteAt fr.payload 1) ∧
      (s'.yport 0).qt = (s.yport 0).qt ++ [(s.ownFrame typTime s.yard.upnode false
        (timePayload 2 s'.yard.sync.code s.yard.depth (beAt fr.payload 4 2) 0)).bytes]) ∧
  (∀ (t : Nat) (p : Fin 3) (l : List Byte) (fr : LinkFrame) (s : State), p.val ≠ 0 → s.live = true → s.portOn p = true →
      parseLink l = some fr → fr.typ = typTime → (s.yport p).up = true → fr.payload.length = 16 → byteAt fr.payload 0 = 2 →
      byteAt fr.payload 1 < 4 → byteAt fr.payload 3 = 0 → zeroIn fr.payload 6 7 = true →
    ∃ s', exec (.dreq t p l) s = .next s' ∧
      s'.yard.ports = updAt (fun y => { y with
        qt := y.qt ++ [(s.ownFrame typTime (s.yport p).nbr false
          (timePayload 3 s.yard.sync.code s.yard.depth (beAt fr.payload 4 2) ((s.upTo t).startGroup l))).bytes] }) s.yard.ports p) ∧
  (∀ (t x t1 t2 t3 : Nat) (l : List Byte) (fr : LinkFrame) (s : State), s.yard.root = false → s.live = true → s.portOn 0 = true →
      parseLink l = some fr → fr.typ = typTime → (s.yport 0).up = true → fr.payload.length = 16 → byteAt fr.payload 0 = 3 →
      byteAt fr.payload 1 < 4 → byteAt fr.payload 3 = 0 → zeroIn fr.payload 6 7 = true →
      s.yard.xch = some (x, t1, t2, t3) → x = beAt fr.payload 4 2 → t3 ≠ 0 →
    ∃ s', exec (.dresp t l) s = .next s' ∧ s'.yard.xch = none ∧ s'.yard.lastExch = s'.now ∧
      s'.yard.offset = (((t2 : Int) - t1) - ((beAt fr.payload 8 8 : Int) - t3)).tdiv 2 ∧
      s'.yard.delay = ((((t2 : Int) - t1) + ((beAt fr.payload 8 8 : Int) - t3)).tdiv 2).toNat ∧
      (s.yard.sync = .unlocked → SyncState.ofCode (byteAt fr.payload 1) = .locked → s.yard.goodRun = 7 →
        s'.yard.offset.natAbs ≤ 100 → s'.yard.sync = .locked)) ∧
  (∀ (t : Nat) (s : State), s.live = true → s.yard.sync = .locked → s.yard.root = false → s.yard.lastExch + 3000 * us ≤ t →
    ∃ s', exec (.holdover t) s = .next s' ∧ s'.yard.sync = .holdover ∧ s'.yard.holdAt = s'.now) ∧
  (∀ (t : Nat) (s : State), s.live = true → s.yard.sync = .holdover → s.yard.holdAt + 500 * ms ≤ t →
    ∃ s', exec (.syncLost t) s = .next s' ∧ s'.yard.sync = .syncLost ∧
      (s.flt.on = true → bit s'.flt.fstat Src.yardSync.bit = true))

/-- A new whistle is counted, forwarded on every other port that is up with its hop count one higher, and kept until its LTIME; one that
arrives late, or in a node without yard time, acts at once; one seen within 1,000 ms changes nothing but the time it was seen; a bad
one is counted as an error. At LTIME the launch gates of the groups in WSTOP close, and 100 ms later the stop clears. After R325 to
R328. That only the LCRC of a whistle is checked is deduced (log entry 114). -/
def Obligations.Whistles : Prop :=
  (∀ (t : Nat) (p : Fin 3) (l : List Byte) (s : State), s.live = true → s.yard.committed = true → (s.yport p).up = true →
      whistleOk l = true →
      s.yard.seen.all (fun e => !(e.1 == beAt l 2 2 && e.2.1 == beAt l 4 2) || decide (e.2.2 + 1000 * ms ≤ t)) = true →
      s.yard.wpend = none → s.yard.sync = .locked ∨ s.yard.sync = .holdover → (s.upTo t).ytime < beAt l 6 8 →
    ∃ s', exec (.whistle t p l false) s = .next s' ∧ s'.yard.wpend = some (beAt l 6 8, beAt l 2 2) ∧
      s'.yard.wcnt = sat8 s.yard.wcnt ∧ s'.yard.seen.head? = some (beAt l 2 2, beAt l 4 2, s'.now) ∧ s'.yard.wforce = s.yard.wforce ∧
      (∀ q ∈ (List.range 3).filter (fun q => q != p.val && (s.yport q).up && decide (byteAt l 1 < 24)), (s'.yport q).qw =
        (s.yport q).qw ++ [(whistleBytes (byteAt l 1 + 1) (beAt l 2 2) (beAt l 4 2) (beAt l 6 8), false)])) ∧
  (∀ (t : Nat) (p : Fin 3) (l : List Byte) (s : State), s.live = true → s.yard.committed = true → (s.yport p).up = true →
      whistleOk l = true →
      s.yard.seen.all (fun e => !(e.1 == beAt l 2 2 && e.2.1 == beAt l 4 2) || decide (e.2.2 + 1000 * ms ≤ t)) = true →
      s.yard.wpend = none → s.yard.sync = .unlocked ∨ s.yard.sync = .syncLost ∨ beAt l 6 8 ≤ (s.upTo t).ytime →
    ∃ s', exec (.whistle t p l false) s = .next s' ∧ s'.yard.wpend = none ∧ s'.yard.wforce = some s'.now ∧
      s'.yard.worigin = beAt l 2 2 ∧ s'.yard.wltime = beAt l 6 8 ∧ s'.yard.wcnt = sat8 s.yard.wcnt) ∧
  (∀ (t : Nat) (p : Fin 3) (l : List Byte) (s : State), s.live = true → s.yard.committed = true → (s.yport p).up = true →
      whistleOk l = true →
      s.yard.seen.any (fun e => e.1 == beAt l 2 2 && e.2.1 == beAt l 4 2 && decide (Nat.max s.now t < e.2.2 + 1000 * ms)) = true →
    ∃ s', exec (.whistle t p l false) s = .next s' ∧ s'.yard.ports = s.yard.ports ∧ s'.yard.wpend = s.yard.wpend ∧
      s'.yard.wcnt = s.yard.wcnt ∧ s'.yard.wforce = s.yard.wforce ∧
      s'.yard.seen.head? = some (beAt l 2 2, beAt l 4 2, s'.now)) ∧
  (∀ (t : Nat) (p : Fin 3) (l : List Byte) (a : Bool) (s : State), s.live = true → s.yard.committed = true → (s.yport p).up = true →
      p.val < s.yard.ports.length → a = true ∨ whistleOk l = false →
    ∃ s', exec (.whistle t p l a) s = .next s' ∧ (s'.yport p).err = sat16 (s.yport p).err ∧ s'.yard.wpend = s.yard.wpend ∧
      s'.yard.wcnt = s.yard.wcnt ∧ s'.yard.wforce = s.yard.wforce) ∧
  (∀ (t ltime origin : Nat) (s : State), s.yard.wpend = some (ltime, origin) → s.live = true → ltime ≤ (s.upTo t).ytime →
    ∃ s', exec (.whistleStop t) s = .next s' ∧ s'.yard.wpend = none ∧ s'.yard.wforce = some s'.now ∧
      s'.yard.wclear = false ∧ s'.yard.worigin = origin ∧ s'.yard.wltime = ltime ∧
      (∀ n ∈ List.range s.sout.outs.length, s.wstopOut n = true → (s'.out n).p.gate = false ∧ (s'.out n).m.gate = false) ∧
      (s.flt.on = true → s.scope .whistle 0 ≠ [] → bit s'.flt.fstat Src.whistle.bit = true)) ∧
  (∀ (t a : Nat) (s : State), s.yard.wforce = some a → a + 100 * ms ≤ t → s.yard.wpend = none →
    ∃ s', exec (.whistleClear t) s = .next s' ∧ s'.yard.wforce = none ∧ s'.yard.wclear = true)

/-- At a boundary of the run states a cycle ends and the next begins: unless the part cuts its rails, the cycle is counted, and the
kennel reads the validated inputs at that instant. The first boundary after LOAD enters ARMED. 12 µs after the read channel B is
captured at every cross-check point. In arrangement S a core that has written its commands holds its timing watchdog, and one that has
not loses it, which is FAB_CHAN. After R15, R34, R175, R305, R424. -/
def Obligations.Cycle : Prop :=
  (∀ (t : Nat) (o : CycleObs) (s : State), s.cycles = true → (s.upTo t).boundaryDue = true →
    ∃ s', exec (.cycleBoundary t o) s = .next s' ∧ (s'.clk.rs = .cut ∨
      (s'.cp.cycle = (s.cp.cycle + 1) % 65536 ∧ s'.sp.rdAt = s'.now ∧ s'.sp.rdYt = (s.upTo t).ytime))) ∧
  (∀ (t : Nat) (s : State), s.cycles = true → (s.upTo t).boundaryDue = true → (s.fifo 0).q = [] → (s.fifo 0).held = [] →
    ∃ s', exec (.cycleBoundary t {}) s = .next s' ∧ (s'.clk.rs = .cut ∨
      s'.sp.rdPairs = (List.range 32).map (fun n => (s.inPair n).va.value))) ∧
  (∀ (t : Nat) (o : CycleObs) (s : State), s.clk.rs = .load → s.clk.held = false → s.clk.loadStep = 9 →
      (s.upTo t).boundaryDue = true → o.mismatch = none → o.soloFail = false → o.partition = false → o.ecc = [] →
    ∃ s', exec (.cycleBoundary t o) s = .next s' ∧ s'.clk.armedOnce = true ∧ s'.clk.loadStep = 0 ∧ s'.cp.cycle = 0 ∧
      s'.sp.rdAt = s'.now ∧ (s'.clk.rs = .armed ∨ s'.clk.rs = .safe ∨ s'.clk.rs = .cut)) ∧
  (∀ (t i : Nat) (ups : List (Fin 2 × Fin 512)) (s : State), s.pair.split = false → s.cycles = true →
      s.sh0.com.any (·.capOk) = false → s.sp.rdAt + 12 * us ≤ t → i < s.sh0.recs.length → i < s.sh0.com.length →
      i < s.sh0.b.length → rCheck (nth [] s.sh0.recs i) = true →
    ∃ s', exec (.crossCheckCapture t ups) s = .next s' ∧ (s'.com 0 i).capOk = true ∧
      (s'.com 0 i).cap = (((nth {} s.sh0.b i).b0 && s.routedPoint ((s.sh0.recs.take i).filter rCheck).length) !=
        ups.any (fun u => u.1.val == 0 && u.2.val == i))) ∧
  (∀ (t : Nat) (k : Fin 2) (s : State), s.pair.split = true → s.cycles = true → s.sp.rdAt + 20 * us ≤ t →
    ∃ s', exec (.commandDeadline t k) s = .next s' ∧ s'.fab.wd = setAt s.fab.wd k (nth true s.fab.wrote k) ∧
      (nth true s.fab.wrote k = false → s.flt.on = true → bit s'.flt.fstat Src.fabChan.bit = true))

/-- The readback checks: a readback is taken as it comes; a leg live for longer than OFFDLY while its drive is low is SOUT_RB, both legs
SOUT_SHORT; a leg that reads 0 for longer than OCFILT outside the window, or at the end of the switch-on window, is SOUT_OC; each
closes the force-off gate, and the gate opens again after 100 ms fully off, unless it is latched. After R99, R102 to R107. -/
def Obligations.OutputChecks : Prop :=
  (∀ (t : Nat) (n : Fin 16) (l : Leg) (v : Bool) (s : State), n.val < s.sout.outs.length →
    ∃ s', exec (.readbackChange t n l v) s = .next s' ∧ ((s'.out n).leg l).rb = v ∧
      ((s'.out n).leg (otherLeg l)).rb = ((s.out n).leg (otherLeg l)).rb) ∧
  (∀ (t a : Nat) (n : Fin 16) (l : Leg) (s : State), n.val < s.sout.outs.length → s.checked n = true →
      ((s.out n).leg l).live = some a → a + (s.out n).offdlyNs < t →
    ∃ s', exec (.offdlyExpiry t n l) s = .next s' ∧ (s'.out n).force = true ∧ (s'.out n).rbFlt = true ∧
      ((s.out n).liveLate s'.now (otherLeg l) = true → (s'.out n).latch = true) ∧
      (s.flt.on = true → (s.out n).rbFlt = false → bit s'.flt.fstat Src.soutRb.bit = true)) ∧
  (∀ (t a : Nat) (n : Fin 16) (l : Leg) (s : State), n.val < s.sout.outs.length → s.checked n = true →
      ((s.out n).leg l).oc = some a → (s.out n).inWindow (Nat.max s.now t) = false →
      Nat.max a ((s.out n).leg l).susp + (s.out n).ocfiltNs < t →
    ∃ s', exec (.ocfiltExpiry t n l) s = .next s' ∧ (s'.out n).force = true ∧ (s'.out n).ocFlt = true ∧
      (s'.out n).ocs = (if (s.out n).ocFlt then (s.out n).ocs else sat8 (s.out n).ocs) ∧
      (s.flt.on = true → (s.out n).ocFlt = false → bit s'.flt.fstat Src.soutOc.bit = true)) ∧
  (∀ (t e : Nat) (n : Fin 16) (s : State), n.val < s.sout.outs.length → (s.out n).win = some e → e ≤ t →
    ∃ s', exec (.switchOnWindowEnd t n) s = .next s' ∧ (s'.out n).win = none ∧
      (s.checked n = true →
        ((s.out n).p.pad = true ∧ (s.out n).p.rb = false) ∨ ((s.out n).m.pad = true ∧ (s.out n).m.rb = false) →
        (s'.out n).ocFlt = true ∧ (s'.out n).force = true)) ∧
  (∀ (t a : Nat) (n : Fin 16) (s : State), n.val < s.sout.outs.length → (s.out n).off = some a →
      (s.out n).rbFlt = true ∨ (s.out n).ocFlt = true → a + 100 * ms ≤ t →
    ∃ s', exec (.outputFaultClear t n) s = .next s' ∧ (s'.out n).rbFlt = false ∧ (s'.out n).ocFlt = false ∧
      (s'.out n).force = (s.out n).latch)

/-- Dark tests: a test that falls due is counted; a deferred test of an energised output starts, 1 ms or more after the last one and
outside the switch-on window, and suspends the other leg's overcurrent check; it passes once 10 µs of readback 0 are complete
within DARKW, and at DARKW fails otherwise, which closes the force-off gate and is SOUT_RB. After R108 to R111. -/
def Obligations.DarkTests : Prop :=
  (∀ (t d : Nat) (n : Fin 16) (l : Leg) (s : State), n.val < s.sout.outs.length → (s.out n).darkDue l = some d →
      s.checked n = true → d ≤ t →
    ∃ s', exec (.darkTestDue t n l) s = .next s' ∧ ((s'.out n).leg l).dueCnt = ((s.out n).leg l).dueCnt + 1) ∧
  (∀ (t : Nat) (n : Fin 16) (l : Leg) (s : State), n.val < s.sout.outs.length → ((s.out n).leg l).deferred = true →
      s.checked n = true → s.energised n (s.out n) = true → s.sout.test = none →
      s.sout.testEnd.all (fun e => decide (e + ms ≤ t)) = true → (s.out n).inWindow (Nat.max s.now t) = false →
      l = .m ∨ ((s.fifo 1).q = [] ∧ (s.fifo 1).held = [] ∧ (s.backP 1).1 = 0 ∧ 1 < s.fifos.length) →
    ∃ s', exec (.darkTestStart t n l) s = .next s' ∧
      ((s'.out n).leg (otherLeg l)).susp = s'.now + (s.out n).darkwNs + (s.out n).offdlyNs ∧
      (s'.sout.test.map (fun d => (d.out, d.leg, d.start)) = some (n.val, l, s'.now) ∨ s'.energised n (s'.out n) = false)) ∧
  (∀ (t e : Nat) (d : DarkTest) (s : State), d.out < s.sout.outs.length → s.sout.test = some d →
      d.done (s.out d.out).darkwNs = some e → e ≤ t →
    ∃ s', exec (.darkTestPass t) s = .next s' ∧ s'.sout.test = none ∧ ((s'.out d.out).leg d.leg).pass = true ∧
      (∀ f ∈ d.first, ((s'.out d.out).leg d.leg).dtime = Nat.min ((f - d.start) / us) 0xFFFE)) ∧
  (∀ (t : Nat) (d : DarkTest) (s : State), d.out < s.sout.outs.length → s.sout.test = some d →
      d.done (s.out d.out).darkwNs = none → d.start + (s.out d.out).darkwNs ≤ t →
    ∃ s', exec (.darkTestTimeout t) s = .next s' ∧ s'.sout.test = none ∧ ((s'.out d.out).leg d.leg).pass = false ∧
      (s'.out d.out).force = true ∧ (s'.out d.out).rbFlt = true ∧
      (s.flt.on = true → (s.out d.out).rbFlt = false → bit s'.flt.fstat Src.soutRb.bit = true))

/-- MUZZLE_N opens the muzzle while it is low, and from BOOT on is MUZZLE_EXT; a BARK pin that does not change level for longer than 1.5
cycles is BARK_MON, and opens the muzzle; a due launch starts the switch-on window of its outputs, or is cancelled with the first
condition that blocks it, which is LAUNCH. After R114, R115, R121, R320 to R322. -/
def Obligations.MuzzleBarkLaunch : Prop :=
  (∀ (t width : Nat) (s : State), 100 ≤ width →
    ∃ s', exec (.muzzleNLow t width) s = .next s' ∧ s'.sout.ext = true ∧ s'.sout.open_ = true ∧
      (s.live = true → s.flt.on = true → bit s.flt.line Src.muzzleExt.bit = false → bit s'.flt.fstat Src.muzzleExt.bit = true)) ∧
  (∀ (t : Nat) (s : State), ∃ s', exec (.muzzleNHigh t) s = .next s' ∧ s'.sout.ext = false) ∧
  (∀ (t : Nat) (s : State), s.barks = true → s.sout.barkAat + 3 * s.tcyc / 2 < t →
    ∃ s', exec (.barkMon t .a) s = .next s' ∧ s'.sout.monA = true ∧ s'.sout.monB = s.sout.monB ∧
      (s.flt.on = true → bit s'.flt.fstat Src.barkMon.bit = true ∧ s'.sout.open_ = true)) ∧
  (∀ (t : Nat) (s : State), s.barks = true → s.sout.barkBat + 3 * s.tcyc / 2 < t →
    ∃ s', exec (.barkMon t .b) s = .next s' ∧ s'.sout.monB = true ∧ s'.sout.monA = s.sout.monA ∧
      (s.flt.on = true → bit s'.flt.fstat Src.barkMon.bit = true ∧ s'.sout.open_ = true)) ∧
  (∀ (t : Nat) (l : Launch) (n : Fin 16) (s : State), n.val < s.sout.outs.length → s.yard.pend = [l] → l.time ≤ (s.upTo t).ytime →
      (s.upTo t).handoverFirst = false → (s.upTo t).launchBlocked l.sheet l.group = none →
      bit (rOutmask (nth [] (s.sheet l.sheet).recs (nth 512 (ogRecs (s.sheet l.sheet).recs) l.group))) n = true →
      (s.out n).used = true →
    ∃ s', exec (.launchRelease t) s = .next s' ∧ (s'.out n).win = some (s'.now + (s.out n).swblankNs) ∧ s'.yard.pend = []) ∧
  (∀ (t c : Nat) (l : Launch) (s : State), s.yard.pend = [l] → l.time ≤ (s.upTo t).ytime → (s.upTo t).handoverFirst = false →
      (s.upTo t).launchBlocked l.sheet l.group = some c →
    ∃ s', exec (.launchRelease t) s = .next s' ∧ s'.yard.pend = [] ∧
      s'.yard.lcancel = w16 (l.group % 16 + 16 * l.sheet + 32 * c + 0x8000) ∧ s'.sout.outs.map (·.win) = s.sout.outs.map (·.win) ∧
      (s.flt.on = true → bit s'.flt.fstat Src.launch.bit = true))

/-- In each validator copy: a sample is taken as it comes, at FILT 0 as the level at once; the filter's level is the one that has lasted
FILT; a discrepancy longer than DISC latches the pair fault, and is SIN_DISC; an excursion longer than OSSDTOL is a change of level; an
OSSD channel without excursion for longer than OSSDCHK latches the fault, and is SIN_STUCK. After R77, R79, R81 to R83, R85, R90. -/
def Obligations.InputValidation : Prop :=
  (∀ (t : Nat) (n : Fin 32) (ch : Chan) (v c : Bool) (s : State), n.val < s.sin.pairs.length →
    ∃ s', exec (.siPinChange t n ch v) s = .next s' ∧ (s'.inPair n).raw ch = v ∧
      (s.sampling = true → (s.inPair n).mode = modeTp → (s.inPair n).filt = 0 → (((s.inPair n).copy c).ch ch).blank = none →
        (((s'.inPair n).copy c).ch ch).lvl = some v)) ∧
  (∀ (t a : Nat) (n : Fin 32) (ch : Chan) (c : Bool) (s : State), n.val < s.sin.pairs.length → s.sampling = true →
      (s.inPair n).mode ≠ 0 → (((s.inPair n).copy c).ch ch).run = some a → (((s.inPair n).copy c).ch ch).blank = none →
      (s.inPair n).filtNs ≤ (((s.inPair n).copy c).ch ch).acc + (Nat.max s.now t - a) →
    ∃ s', exec (.filterExpiry t n ch) s = .next s' ∧
      (((s'.inPair n).copy c).ch ch).lvl = some (((s.inPair n).copy c).ch ch).cand) ∧
  (∀ (t a : Nat) (n : Fin 32) (c : Bool) (s : State), n.val < s.sin.pairs.length → s.sampling = true → (s.inPair n).mode ≠ 0 →
      ((s.inPair n).copy c).disc = some a → a + (s.inPair n).discNs < t → ((s.inPair n).copy c).fired = false →
    ∃ s', exec (.discrepancyExpiry t n) s = .next s' ∧ ((s'.inPair n).copy c).fault = true ∧
      (((s.inPair n).copy c).fault = false → ((s'.inPair n).copy c).cause = 1) ∧
      (s.flt.on = true → bit s'.flt.fstat Src.sinDisc.bit = true)) ∧
  (∀ (t a : Nat) (n : Fin 32) (ch : Chan) (c : Bool) (s : State), n.val < s.sin.pairs.length → s.sampling = true →
      (s.inPair n).mode ≠ 0 → (((s.inPair n).copy c).ch ch).low = some a → a + (s.inPair n).tolNs < t →
    ∃ s', exec (.ossdtolExpiry t n ch) s = .next s' ∧ (((s'.inPair n).copy c).ch ch).cand = false ∧
      (((s'.inPair n).copy c).ch ch).low = none ∧
      ((s.inPair n).filt = 0 → (((s'.inPair n).copy c).ch ch).lvl = some false)) ∧
  (∀ (t a : Nat) (n : Fin 32) (ch : Chan) (c : Bool) (s : State), n.val < s.sin.pairs.length → s.sampling = true →
      (s.inPair n).mode ≠ 0 → (s.inPair n).ossdchk ≠ 0 → (((s.inPair n).copy c).ch ch).high = some a →
      a + (s.inPair n).chkNs < t →
    ∃ s', exec (.ossdchkExpiry t n ch) s = .next s' ∧ ((s'.inPair n).copy c).fault = true ∧
      (((s.inPair n).copy c).fault = false → ((s'.inPair n).copy c).cause = match ch with | .a => 5 | .b => 6) ∧
      (s.flt.on = true → bit s'.flt.fstat Src.sinStuck.bit = true))

/-- A dark pulse takes the line low, counts, and starts the blanking window of every channel it feeds; 1 µs before its end each of them
is sampled; its end takes the line high again. At the end of the window a check sample of 1 is a miss: it is counted, latches the fault
of the pair, and is SIN_XSHORT, or SIN_STUCK where the other channel missed its pulse too. After R72, R78, R84, R85, R90. -/
def Obligations.DarkPulses : Prop :=
  (∀ (t : Nat) (n : Fin 8) (s : State), n.val < s.sin.tp.length → s.sampling = true → (s.tp n).on = true → (s.tp n).dark = none →
      (s.tp n).startNs (s.tp n).next ≤ (s.upTo t).ytime →
    ∃ s', exec (.darkPulseStart t n) s = .next s' ∧ (s'.tp n).level = false ∧ (s'.tp n).dark = some s'.now ∧
      (s'.tp n).next = (s.tp n).next + 1 ∧ (s'.tp n).cnt = ((s.tp n).cnt + 1) % 65536 ∧
      (∀ k ∈ List.range s.sin.pairs.length, (s.inPair k).mode = modeTp → ∀ c ∈ [true, false], ∀ ch ∈ [Chan.a, .b],
        (s.inPair k).src ch = n → (((s'.inPair k).copy c).ch ch).blank = some (s'.now + (s.tp n).widthNs + (s.inPair k).settle * 10 * us))) ∧
  (∀ (t a : Nat) (n : Fin 8) (k : Fin 32) (ch : Chan) (c : Bool) (s : State), k.val < s.sin.pairs.length → s.sampling = true →
      (s.tp n).dark = some a → a + (s.tp n).widthNs ≤ t + us → (s.inPair k).mode = modeTp → (s.inPair k).src ch = n →
    ∃ s', exec (.checkSample t n) s = .next s' ∧ (((s'.inPair k).copy c).ch ch).chk = some ((s.inPair k).raw ch)) ∧
  (∀ (t a : Nat) (n : Fin 8) (s : State), n.val < s.sin.tp.length → s.sampling = true → (s.tp n).dark = some a →
      a + (s.tp n).widthNs ≤ t →
    ∃ s', exec (.darkPulseEnd t n) s = .next s' ∧ (s'.tp n).level = true ∧ (s'.tp n).dark = none) ∧
  (∀ (t e : Nat) (n : Fin 32) (s : State), n.val < s.sin.pairs.length → s.sampling = true → (s.inPair n).mode ≠ 0 →
      (s.inPair n).va.a.blank = some e → e ≤ t → (s.inPair n).va.a.chk = some true →
    ∃ s', exec (.blankingEnd t n .a) s = .next s' ∧ (s'.inPair n).va.fault = true ∧
      (s'.inPair n).missA = sat8 (s.inPair n).missA ∧ (s'.inPair n).missB = (s.inPair n).missB ∧ (s'.inPair n).va.a.blank = none ∧
      (s.flt.on = true → bit s'.flt.fstat (if (s.inPair n).va.b.miss = some true then Src.sinStuck else .sinXshort).bit = true)) ∧
  (∀ (t e : Nat) (n : Fin 32) (s : State), n.val < s.sin.pairs.length → s.sampling = true → (s.inPair n).mode ≠ 0 →
      (s.inPair n).va.b.blank = some e → e ≤ t → (s.inPair n).va.b.chk = some true →
    ∃ s', exec (.blankingEnd t n .b) s = .next s' ∧ (s'.inPair n).va.fault = true ∧
      (s'.inPair n).missB = sat8 (s.inPair n).missB ∧ (s'.inPair n).missA = (s.inPair n).missA ∧ (s'.inPair n).va.b.blank = none ∧
      (s.flt.on = true → bit s'.flt.fstat (if (s.inPair n).va.a.miss = some true then Src.sinStuck else .sinXshort).bit = true))

/-- The reset pins' levels are taken as they come; the return of both within the limits of R40 is the pulse of the next cycle, and an
actuation that has lasted too long is discarded. A timer of channel B that has run out takes effect at once: the part settles from the
state in which it has fired, and an undecided selector is SIN_DISC. In ARMED a reset pulse in every loaded sheet, with no start-up test
pending, moves the device to RUN and releases the start hold; a cycle end leaves SAFE only for an actuation that began after item 1
held. After R34, R36, R38, R40, R41, R43, R52, R354, R355, R434. -/
def Obligations.ResetsAndTimers : Prop :=
  (∀ (t : Nat) (v : Bool) (s : State),
    ∃ s', exec (.ackActuation t .a v) s = .next s' ∧ s'.sp.ackA = v ∧ s'.sp.ackB = s.sp.ackB) ∧
  (∀ (t : Nat) (v : Bool) (s : State),
    ∃ s', exec (.ackActuation t .b v) s = .next s' ∧ s'.sp.ackB = v ∧ s'.sp.ackA = s.sp.ackA) ∧
  (∀ (t f : Nat) (s : State), s.sampling = true → s.sp.ackA = false → s.sp.ackB = false → s.sp.ackFirst = some f →
      s.sh0.loaded = true → s.sh0.ackBad = false → (s.upTo t).ackOver s.sh0 = false →
      (s.sp.setAck (Nat.max s.now t) .b true).valid s.sh0 = true →
    ∃ s', exec (.ackActuation t .b true) s = .next s' ∧ s'.sh0.pulseIn = true ∧ s'.sh0.from_ = f ∧ s'.sp.ackFirst = none) ∧
  (∀ (t : Nat) (s : State), s.sp.ackFirst.isSome = true → (s.upTo t).ackOver s.sh0 = true →
    ∃ s', exec (.ackActuationDiscard t) s = .next s' ∧ s'.sh0.ackBad = true ∧ s'.sp = s.sp) ∧
  (∀ (t a : Nat) (i : Fin 512) (s : State), s.chanB = true → s.sh0.loaded = true → rIs .modesel (s.recAt 0 i) = true →
      (nth {} s.sh0.b i).since = some a → (nth {} s.sh0.b i).fired = false → a + rW (s.recAt 0 i) 10 * ms < t →
      (s.com 0 i).locals.any (fun x => x.cause == LocalCause.catalogue Src.sinDisc) = false →
    ∃ s', exec (.switchtExpiry t 0 i) s = .next s' ∧ s' = s.watch ((((s.upTo t).fireB i).err .sinDisc (0x8000 + instDetail 0 i)).settle) ∧
      (s.flt.on = true → bit s'.flt.fstat Src.sinDisc.bit = true)) ∧
  (∀ (t a : Nat) (i : Fin 512) (s : State), s.chanB = true → s.sh0.loaded = true → rIs .delay (s.recAt 0 i) = true →
      (nth {} s.sh0.b i).since = some a → (nth {} s.sh0.b i).fired = false → a + rW (s.recAt 0 i) 8 * ms ≤ t →
    ∃ s', exec (.donExpiry t 0 i) s = .next s' ∧ s' = s.watch (((s.upTo t).fireB i).settle)) ∧
  (∀ (t a : Nat) (i : Fin 512) (s : State), s.chanB = true → s.sh0.loaded = true → rIs .outgroup (s.recAt 0 i) = true →
      (nth {} s.sh0.b i).since = some a → (nth {} s.sh0.b i).fired = false → a + rDelayNs (s.recAt 0 i) ≤ t →
    ∃ s', exec (.cat1DelayExpiry t 0 i) s = .next s' ∧ s' = s.watch (((s.upTo t).fireB i).settle)) ∧
  (∀ (t a : Nat) (i : Fin 512) (s : State), s.chanB = true → s.sh0.loaded = true → rIs .mute (s.recAt 0 i) = true →
      (nth {} s.sh0.b i).since = some a → (nth {} s.sh0.b i).fired = false → a + rB (s.recAt 0 i) 15 * 100 * ms ≤ t →
    ∃ s', exec (.maxtExpiry t 0 i) s = .next s' ∧ s' = s.watch (((s.upTo t).fireB i).settle)) ∧
  (∀ s : State, s.clk.rs = .armed → s.sp.hold = true → s.allSheets (·.pulse) = true →
      s.sheets.any (fun k => (s.sheet k).com.any (·.stPend)) = false →
    s.pulseEnd.clk.rs = .run ∧ s.pulseEnd.sp.hold = false) ∧
  (∀ s : State, s.clk.rs = .safe → s.sh0.from_ ≤ s.now → s.sh1.from_ ≤ s.now → s.pulseEnd.clk.rs ≠ .safe →
      s.pulseEnd.clk.rs ≠ .cut → s.freshPulse = true)

/-- An edge of a wheel in use reaches channel B at once, and channel A through FIFO 0 with a stamp of yard time on the 10 ns grid;
standstill is confirmed in channel B once no edge has come for long enough; the LOCAL of a motion limit ends after 1,000 ms of its
condition, where channel B does not raise it again at once. After R128, R134, R146, R151. -/
def Obligations.WheelEvents : Prop :=
  (∀ (t : Nat) (w : Fin 2) (pin : Chan) (v : Bool) (s : State), w.val < s.mot.wheels.length → s.sampling = true →
      (s.wheel w).used = true →
    ∃ s', exec (.toothEdge t w pin v) s = .next s' ∧
      (match pin with | .a => (s'.wheel w).b.lvA | .b => (s'.wheel w).b.lvB) = v ∧ (s'.wheel w).b.last = s'.now ∧
      s'.fifos = (s.fifoPush 0 (.edge { wheel := w, pin := pin, level := v, at_ := (s.upTo t).ytime / 10 * 10 })).fifos) ∧
  (∀ (t : Nat) (w : Fin 2) (pin : Chan) (v : Bool) (s : State), w.val < s.mot.wheels.length →
      s.sampling = false ∨ (s.wheel w).used = false →
    ∃ s', exec (.toothEdge t w pin v) s = .next s' ∧ s'.fifos = s.fifos ∧
      (match pin with | .a => (s'.wheel w).b.lvA | .b => (s'.wheel w).b.lvB) = v) ∧
  (∀ (t : Nat) (k : Fin 2) (i : Fin 512) (s : State), s.sampling = true → i.val < (s.sheet k).b.length →
      rIs .sstill (s.recAt k i) = true → (s.wheel (rWheel (s.recAt k i))).used = true →
      (s.wheel (rWheel (s.recAt k i))).b.last + stillNs (s.wheel (rWheel (s.recAt k i))).teeth (s.recAt k i) ≤ t →
    ∃ s', exec (.standstillConfirm t k i) s = .next s' ∧ (nth {} (s'.sheet k).b i).still = true) ∧
  (∀ (t a : Nat) (k : Fin 2) (i : Fin 512) (s : State), (s.com k i).motSince = some a → a + 1000 * ms ≤ t →
    ∃ s', exec (.motionLocalReset t k i) s = .next s' ∧
      (s.chanB = false → ∀ e ∈ (s'.com k i).locals, (match e.cause with | .motion _ => false | _ => true) = true))

/-- A record's content goes into the slot of its number with its COMMIT, and no other byte of the MRAM changes; while log writes are
blocked it waits. At each interval of COLL in a state without cycles a NOTE record that has been written closes, and its closed content
is due. LOCALs that clear by time; a LOCAL reaction that is not complete after 100 ms opens the muzzle and stops the bark. RIDX and SIDX
select a slot and fill its buffer. After R339, R341, R345, R347, R348, R360, R401, R409, R558. A record's slot in the ring is the
model's choice (log entry 13). -/
def Obligations.FaultRecords : Prop :=
  (∀ (t : Nat) (r : FRec) (b : Bool) (q : List (FRec × Bool)) (s : State), s.mram.wf = true → s.live = true → s.flt.on = true →
      s.seq.belowAbandon = false → s.flt.due = (r, b) :: q →
    ∃ s', exec (.faultRecordWrite t) s = .next s' ∧ (b = true → s'.flt.head = r.recno) ∧
      s'.faultSlot (faultSlotOf r.recno) = r.bytes ∧
      (∀ a, ¬ (faultAddr (faultSlotOf r.recno) ≤ a ∧ a < faultAddr (faultSlotOf r.recno) + 32) → s'.mram.read a = s.mram.read a)) ∧
  (∀ (t : Nat) (r : FRec) (b : Bool) (q : List (FRec × Bool)) (s : State), s.live = true → s.flt.on = true →
      s.seq.belowAbandon = true → s.flt.due = (r, b) :: q →
    ∃ s', exec (.faultRecordWrite t) s = .next s' ∧ s'.mram = s.mram ∧ s'.flt.blocked = holdRec s.flt.blocked (r, b) ∧
      s'.flt.wrAband = sat8 s.flt.wrAband) ∧
  (∀ (t : Nat) (o : OpenRec) (s : State), s.live = true → s.flt.on = true → s.cycles = false →
      s.flt.onAt + (s.flt.coll + 1) * ms ≤ t → s.flt.rec? = some o → o.r.cls = .note → o.written = true →
      s.linkOpen o = false →
    ∃ s', exec (.collInterval t) s = .next s' ∧
      s'.flt.due.any (fun e => e.1 == { o.r with closed := true, dur := Nat.min ((s'.now - o.at_) / ms) 0xFFF }) = true ∧
      (s.chanB = false → s'.flt.rec? = none)) ∧
  (∀ (t : Nat) (o : OpenRec) (s : State), s.flt.rec? = some o → o.r.cls = .loc → o.locAt + 100 * ms ≤ t →
      s.localDone o.r.recno = false →
    ∃ s', exec (.localReactionTimeout t) s = .next s' ∧ s'.sout.open_ = true ∧ s'.sout.barkHold = true ∧ s'.clk.rs ≠ .run) ∧
  (∀ (t : Nat) (src : Src) (s : State), deviceScope src = true → (s.upTo t).quiet src = true →
    ∃ s', exec (.deviceLocalClear t src) s = .next s' ∧
      (s.chanB = false → ∀ k ∈ List.range 2, ∀ i ∈ List.range 512, (s'.com k i).locals.any (fun e => e.cause == .device src) = false)) ∧
  (∀ (t : Nat) (src : Src) (s : State), (s.upTo t).quiet src = true →
    ∃ s', exec (.sourceLocalClear t src) s = .next s' ∧
      (s.chanB = false → ∀ k ∈ List.range 2, ∀ i ∈ List.range 512, (s.upTo t).resetMet k i = true →
        (s'.com k i).locals.any (fun e => e.cause == .mapped src) = false)) ∧
  (∀ (t : Nat) (v : Word) (s : State), s.cp.on = true →
    ∃ s', exec (.ridx t v) s = .next s' ∧ s'.flt.ridx = v.toNat % 4096 ∧ s'.flt.buf = s.faultSlot (v.toNat % 4096)) ∧
  (∀ (t : Nat) (v : Word) (s : State), s.cp.on = true →
    ∃ s', exec (.sidx t v) s = .next s' ∧ s'.seq.sidx = v.toNat % 256 ∧ s'.seq.snapBuf = s.snapSlot (v.toNat % 256))

/-- FSTAT is write 1 to clear: a write of 1 clears a bit only when the source's error line is inactive and the bit is no part of an open
record; otherwise the bit stays. The write itself changes nothing else: no reaction, no record and no recovery condition. After R335. -/
def Obligations.FstatClear : Prop :=
  (∀ (t : Nat) (r : Fin 4) (v : Word) (s : State), s.cp.on = true →
    ∃ s', exec (.fstatClear t r v) s = .next s' ∧ s' = s.watch (((s.upTo t).fstatWrite r v).settle)) ∧
  (∀ (b : Nat) (r : Fin 4) (v : Word) (s : State), b < 41 →
    bit (s.fstatWrite r v).flt.fstat b = (bit s.flt.fstat b && !(bit (v.toNat * 2 ^ (16 * r.val)) b && !s.active b &&
      !(match s.flt.rec? with
        | some o => bit o.r.srcmap b
        | none => false)))) ∧
  (∀ (r : Fin 4) (v : Word) (s : State), { s.fstatWrite r v with flt := { (s.fstatWrite r v).flt with fstat := s.flt.fstat } } = s) ∧
  (∀ (t b : Nat) (r : Fin 4) (v : Word) (s : State), s.cp.on = true → b < 64 →
    ∃ s', exec (.fstatClear t r v) s = .next s' ∧
      (bit s.flt.fstat b = true → bit (v.toNat * 2 ^ (16 * r.val)) b = false ∨ bit (s.upTo t).fstatHeld b = true →
        bit s'.flt.fstat b = true) ∧
      (s.chanB = false → bit s'.flt.fstat b =
        (bit s.flt.fstat b && !(bit (v.toNat * 2 ^ (16 * r.val)) b && !bit (s.upTo t).fstatHeld b))))

/-- A write of the open record's RECNO to FAULT.ACK closes a NOTE or LOCAL record whose reaction is complete, and closes the record only;
any other write changes nothing; no LOCAL clears. After R350. -/
def Obligations.FaultAck : Prop :=
  (∀ (t : Nat) (v : Word) (s : State), s.cp.on = true →
    ∃ s', exec (.faultAck t v) s = .next s' ∧ s' = s.watch (((s.upTo t).ackWrite v).settle)) ∧
  (∀ (v : Word) (o : OpenRec) (s : State), s.flt.rec? = some o →
      (o.r.cls = .note ∧ o.written = true) ∨ (o.r.cls = .loc ∧ s.localDone o.r.recno = true) → v.toNat = o.r.recno % 65536 →
    s.ackWrite v = s.closeRecord ∧ s.closeRecord.flt.rec? = none) ∧
  (∀ (v : Word) (s : State), s.flt.rec? = none → s.ackWrite v = s) ∧
  (∀ (v : Word) (o : OpenRec) (s : State), s.flt.rec? = some o →
      v.toNat ≠ o.r.recno % 65536 ∨ o.r.cls = .stop ∨ o.r.cls = .cut ∨ (o.r.cls = .note ∧ o.written = false) ∨
        (o.r.cls = .loc ∧ s.localDone o.r.recno = false) → s.ackWrite v = s) ∧
  (∀ (v : Word) (s : State), (s.ackWrite v).sh0 = s.sh0 ∧ (s.ackWrite v).sh1 = s.sh1) ∧
  (∀ (t : Nat) (v : Word) (o : OpenRec) (s : State), s.cp.on = true → s.flt.rec? = some o →
      (o.r.cls = .note ∧ o.written = true) ∨ (o.r.cls = .loc ∧ s.localDone o.r.recno = true) → v.toNat = o.r.recno % 65536 →
    ∃ s', exec (.faultAck t v) s = .next s' ∧ (s.chanB = false → s'.flt.rec? = none))

/-- A bit of ALERT_SRC that an event sets in the instant of a write of 1 stays set; every other bit written 1 clears, unless the part
sets it again at once, and no other bit changes. After R469. -/
def Obligations.AlertClear : Prop :=
  (∀ (t : Nat) (v : Word) (n : Fin 16) (s : State), s.cp.on = true → bit s.cp.alertSrc n = true →
      (s.cp.alertAt = Nat.max s.now t ∧ bit s.cp.alertNow n = true) ∨ bit v.toNat n = false →
    ∃ s', exec (.alertSrcClear t v) s = .next s' ∧ bit s'.cp.alertSrc n = true) ∧
  (∀ (t : Nat) (v : Word) (n : Fin 16) (s : State), s.cp.on = true →
    ∃ s', exec (.alertSrcClear t v) s = .next s' ∧ (s.chanB = false → s.flt.rec? = none →
      bit s'.cp.alertSrc n =
        (bit s.cp.alertSrc n && !(bit v.toNat n && !(s.cp.alertAt = Nat.max s.now t && bit s.cp.alertNow n)))))

/-- A register write takes effect and is accepted: HOSTARG, MBUF, ALERT_EN, PAGE and, while no command runs, HOSTCMD, which sets
HOSTRESP to BUSY with its TAG. A write to an LK register in FIELD sets LOCKED and alert 11 and changes none of them; a write to an RWM
register outside MAINT sets REFUSED and alert 11; on pages 14 and 15 a write is ignored. After R465, R467, R471 to R473. -/
def Obligations.RegisterWrites : Prop :=
  (∀ (t : Nat) (v : Word) (s : State), s.cp.on = true →
    ∃ s', exec (.registerWrite t 0x18 v) s = .next s' ∧ s'.cp.arg0 = v ∧ s'.cp.arg1 = s.cp.arg1 ∧ s'.cp.mbuf = s.cp.mbuf ∧ s'.cp.st = 1) ∧
  (∀ (t : Nat) (v : Word) (s : State), s.cp.on = true →
    ∃ s', exec (.registerWrite t 0x19 v) s = .next s' ∧ s'.cp.arg1 = v ∧ s'.cp.arg0 = s.cp.arg0 ∧ s'.cp.mbuf = s.cp.mbuf ∧ s'.cp.st = 1) ∧
  (∀ (t : Nat) (w : Fin 64) (v : Word) (s : State), s.cp.on = true →
    ∃ s', exec (.registerWrite t (BitVec.ofNat 8 (0x20 + w)) v) s = .next s' ∧ s'.cp.st = 1 ∧ s'.cp.arg0 = s.cp.arg0 ∧
      s'.cp.mbuf = setAt (setAt s.cp.mbuf (2 * w) (BitVec.ofNat 8 (v.toNat / 256))) (2 * w + 1) (BitVec.ofNat 8 v.toNat)) ∧
  (∀ (t : Nat) (v : Word) (s : State), s.cp.on = true →
    ∃ s', exec (.registerWrite t 0x0E v) s = .next s' ∧ s'.cp.alertEn = v.toNat ∧ s'.cp.st = 1) ∧
  (∀ (t : Nat) (v : Word) (s : State), s.cp.on = true →
    ∃ s', exec (.registerWrite t 0x7F v) s = .next s' ∧ s'.cp.page = v.toNat % 16 ∧ s'.cp.st = 1) ∧
  (∀ (t : Nat) (v : Word) (s : State), s.cp.on = true → s.cp.mbx = none → mbxCodes.any (· == v.toNat % 256) = true →
    ∃ s', exec (.registerWrite t 0x17 v) s = .next s' ∧ s'.cp.resp = w16 (256 * (v.toNat / 256) + 1) ∧ s'.cp.hostcmd = v ∧
      s'.cp.mbx = some { code := v.toNat % 256, tag := v.toNat / 256, arg0 := s.cp.arg0, arg1 := s.cp.arg1, buf := s.cp.mbuf }) ∧
  (∀ (t : Nat) (v : Word) (m : Mbx) (s : State), s.cp.on = true → s.cp.mbx = some m →
    ∃ s', exec (.registerWrite t 0x17 v) s = .next s' ∧ s'.cp.resp = s.cp.resp ∧ s'.cp.hostcmd = s.cp.hostcmd ∧ s'.cp.mbx = s.cp.mbx) ∧
  (∀ (t : Nat) (a : Byte) (v : Word) (s : State), s.cp.on = true → s.field = true → 0x80 ≤ a.toNat →
      lkReg s.cp.page a.toNat = true →
    ∃ s', exec (.registerWrite t a v) s = .next s' ∧ s'.cp.st = 9 ∧ bit s'.cp.alertSrc 11 = true ∧ s'.farr.sel = s.farr.sel ∧
      s'.farr.budget = s.farr.budget ∧ s'.pair.due = s.pair.due ∧ s'.spook = s.spook ∧ s'.fab.probes = s.fab.probes) ∧
  (∀ (t : Nat) (v : Word) (s : State), s.cp.on = true → s.cp.page = 11 → s.field = false → s.clk.rs ≠ .maint →
    ∃ s', exec (.registerWrite t 0x84 v) s = .next s' ∧ s'.cp.st = 17 ∧ bit s'.cp.alertSrc 11 = true ∧ s'.farr.budget = s.farr.budget) ∧
  (∀ (t : Nat) (v : Word) (s : State), s.cp.on = true → s.cp.page = 0 → s.clk.rs ≠ .maint →
    ∃ s', exec (.registerWrite t 0x96 v) s = .next s' ∧ s'.cp.st = 17 ∧ bit s'.cp.alertSrc 11 = true ∧
      (s.seq.phase ≠ .down → s'.seq.phase ≠ .down)) ∧
  (∀ (t : Nat) (a : Byte) (v : Word) (s : State), s.cp.on = true → 14 ≤ s.cp.page → 0x80 ≤ a.toNat →
    ∃ s', exec (.registerWrite t a v) s = .next s' ∧
      { s'.keep with now := s.now } = { s.keep with cp := { s.keep.cp with st := 1 } })

/-- A good write frame writes its words in word order, each to its own address with AI and all to one without; a write frame with a
wrong CRC, or whose length, bits or timing are in error, is discarded whole and counted; a good read frame answers the registers with
their CRC, and one with a wrong header CRC is discarded and counted. Which of several errors of one frame is counted is the
model's choice (log entry 31). After R456 to R459, R461, R463, R464. -/
def Obligations.Frames : Prop :=
  (∀ (t c : Nat) (h l h2 l2 : Byte) (s : State), s.cp.on = true → (s.upTo t).frameEarly c = false →
    ∃ s', exec (.writeFrame t c ([0x41, 0x18, h, l, h2, l2] ++ [crc8 [0x41, 0x18, h, l, h2, l2]]) 0) s = .next s' ∧
      s'.cp.arg0 = w16 (256 * h.toNat + l.toNat) ∧ s'.cp.arg1 = w16 (256 * h2.toNat + l2.toNat) ∧ s'.cp.st = 1 ∧
      s'.cp.crcErr = s.cp.crcErr ∧ s'.cp.frmErr = s.cp.frmErr ∧ s'.cp.wrEnd = some (s'.now, 2)) ∧
  (∀ (t c : Nat) (h l h2 l2 : Byte) (s : State), s.cp.on = true → (s.upTo t).frameEarly c = false →
    ∃ s', exec (.writeFrame t c ([0x01, 0x18, h, l, h2, l2] ++ [crc8 [0x01, 0x18, h, l, h2, l2]]) 0) s = .next s' ∧
      s'.cp.arg0 = w16 (256 * h2.toNat + l2.toNat) ∧ s'.cp.arg1 = s.cp.arg1 ∧ s'.cp.st = 1) ∧
  (∀ (t c : Nat) (h l k : Byte) (s : State), s.cp.on = true → k ≠ crc8 [0x00, 0x18, h, l] →
    ∃ s', exec (.writeFrame t c ([0x00, 0x18, h, l] ++ [k]) 0) s = .next s' ∧ s'.cp.arg0 = s.cp.arg0 ∧ s'.cp.st = 2 ∧
      s'.cp.crcErr = sat8 s.cp.crcErr ∧ s'.cp.frmErr = s.cp.frmErr ∧ bit s'.cp.alertSrc 10 = true) ∧
  (∀ (t c x : Nat) (bytes : List Byte) (s : State), s.cp.on = true →
      x ≠ 0 ∨ bytes.length ≠ 3 + 2 * frameN (byteAt bytes 0) ∨ frameRd (byteAt bytes 0) = true →
    ∃ s', exec (.writeFrame t c bytes x) s = .next s' ∧ s'.cp.st = 4 ∧ s'.cp.frmErr = sat8 s.cp.frmErr ∧ s'.cp.crcErr = s.cp.crcErr ∧
      bit s'.cp.alertSrc 10 = true ∧ s'.cp.arg0 = s.cp.arg0 ∧ s'.cp.arg1 = s.cp.arg1 ∧ s'.cp.mbuf = s.cp.mbuf ∧ s'.cp.page = s.cp.page) ∧
  (∀ (t c n e : Nat) (h l : Byte) (s : State), s.cp.on = true → s.cp.wrEnd = some (e, n) → c < e + 200 + 50 * n →
    ∃ s', exec (.writeFrame t c ([0x00, 0x18, h, l] ++ [crc8 [0x00, 0x18, h, l]]) 0) s = .next s' ∧ s'.cp.arg0 = s.cp.arg0 ∧
      s'.cp.st = 4 ∧ s'.cp.frmErr = sat8 s.cp.frmErr) ∧
  (∀ (t c turn : Nat) (s : State), s.cp.on = true → (s.upTo t).frameEarly c = false → 1100 ≤ turn →
    ∃ s', exec (.readFrame t c ([0xC1, 0x18] ++ [crc8 [0xC1, 0x18]]) turn 64) s = .next s' ∧ s'.cp.st = 1 ∧
      s'.cp.sdo = [(s.upTo t).statusByte, 0, 0] ++ (toBytes 2 s.cp.arg0.toNat ++ toBytes 2 s.cp.arg1.toNat) ++
        [crc8 ([0xC1, 0x18, (s.upTo t).statusByte] ++ (toBytes 2 s.cp.arg0.toNat ++ toBytes 2 s.cp.arg1.toNat))]) ∧
  (∀ (t c turn bits : Nat) (k : Byte) (s : State), s.cp.on = true → k ≠ crc8 [0x80, 0x18] →
    ∃ s', exec (.readFrame t c ([0x80, 0x18] ++ [k]) turn bits) s = .next s' ∧ s'.cp.st = 2 ∧
      s'.cp.crcErr = sat8 s.cp.crcErr ∧ s'.cp.frmErr = s.cp.frmErr ∧ bit s'.cp.alertSrc 10 = true)

/-- When a read frame's turnaround was too short, each data word is sent as 0x0000 and CRC_D as the complement of the correct one; the
frame counts as discarded. After R454, R459 to R461. -/
def Obligations.ShortTurnaround : Prop :=
  ∀ (t c turn bits cmd : Nat) (a : Byte) (s : State), s.cp.on = true → (s.upTo t).frameEarly c = false → 0x80 ≤ cmd → cmd < 0x100 →
    frameOver cmd a.toNat = false → turn < 1000 + 50 * frameN cmd →
    ∃ s', exec (.readFrame t c ([BitVec.ofNat 8 cmd, a] ++ [crc8 [BitVec.ofNat 8 cmd, a]]) turn bits) s = .next s' ∧
      s'.cp.st = 4 ∧ s'.cp.frmErr = sat8 s.cp.frmErr ∧
      s'.cp.sdo = ([(s.upTo t).statusByte, 0, 0] ++ List.replicate (2 * frameN cmd) 0 ++
        [~~~ (crc8 ([BitVec.ofNat 8 cmd, a, (s.upTo t).statusByte] ++ List.replicate (2 * frameN cmd) 0))]).take (bits / 8)

/-- The mailbox commands that the loft serves: ECHO, DEVUID, YARD_MSEND and YARD_MRECV end with their TAG and RESULT 0 and their results,
or with the RESULT of what is wrong; MAINT_ENTER and MAINT_LEAVE hand their request to the kennel in the run states of the table, where
they are decided at the end of the cycle, and end with RESULT 3 in others. That MAINT_LEAVE ends so too while an ordered power-down
is under way is the model's choice (log entry 28). After R435, R436, R472, R475, R476, R501. -/
def Obligations.MailboxCommands : Prop :=
  (∀ (t : Nat) (m : Mbx) (s : State), s.inHand 0x01 m →
    ∃ s', exec (.echo t) s = .next s' ∧ s'.cp.mbx = none ∧ s'.cp.resp = w16 (m.tag % 256 * 256) ∧
      s'.cp.mbuf = toBytes 2 m.arg0.toNat ++ toBytes 2 m.arg1.toNat ++ s.cp.mbuf.drop 4) ∧
  (∀ (t : Nat) (m : Mbx) (s : State), s.inHand 0x02 m →
    ∃ s', exec (.devuid t) s = .next s' ∧ s'.cp.mbx = none ∧ s'.cp.resp = w16 (m.tag % 256 * 256) ∧
      s'.cp.mbuf = padTo 128 uidBytes) ∧
  (∀ (t : Nat) (m : Mbx) (s : State), s.inHand 0x10 m →
    ∃ s', exec (.maintEnter t) s = .next s' ∧
      (if (s.clk.rs = .armed ∧ s.clk.held = false) ∨ s.clk.rs = .run then s'.cp.maint = some true ∧ s'.cp.mbx = some m
       else s'.cp.maint = s.cp.maint ∧ s'.cp.mbx = none ∧ s'.cp.resp = w16 (m.tag % 256 * 256 + 3))) ∧
  (∀ (t : Nat) (m : Mbx) (s : State), s.inHand 0x11 m →
    ∃ s', exec (.maintLeave t) s = .next s' ∧
      (if s.clk.rs = .maint ∧ s.seq.phase ≠ .down then s'.cp.maint = some false ∧ s'.cp.mbx = some m
       else s'.cp.maint = s.cp.maint ∧ s'.cp.mbx = none ∧ s'.cp.resp = w16 (m.tag % 256 * 256 + 3))) ∧
  (∀ (t : Nat) (m : Mbx) (s : State), s.inHand 0x30 m → s.yard.committed = true →
    ∃ s', exec (.yardMsend t) s = .next s' ∧ s'.cp.mbx = none ∧
      s'.cp.resp = w16 (m.tag % 256 * 256 + if m.arg1.toNat % 256 = 0 ∨ 128 < m.arg1.toNat % 256 then 5
        else if (s.ports (bit m.arg1.toNat 8) m.arg0.toNat none).isEmpty then 6 else 0)) ∧
  (∀ (t src : Nat) (l : List Byte) (rest : List (Nat × List Byte)) (m : Mbx) (s : State), s.inHand 0x31 m →
      s.yard.committed = true → s.yard.mrecv = (src, l) :: rest →
    ∃ s', exec (.yardMrecv t) s = .next s' ∧ s'.yard.mrecv = rest ∧ s'.yard.mlost = false ∧ s'.cp.arg0 = w16 src ∧
      s'.cp.arg1 = w16 (l.length + flag s.yard.mlost 15) ∧ s'.cp.mbx = none ∧ s'.cp.resp = w16 (m.tag % 256 * 256) ∧
      s'.cp.mbuf = l.take 128 ++ s.cp.mbuf.drop l.length) ∧
  (∀ (t : Nat) (m : Mbx) (s : State), s.inHand 0x31 m → s.yard.committed = true → s.yard.mrecv = [] →
    ∃ s', exec (.yardMrecv t) s = .next s' ∧ s'.cp.mbx = none ∧ s'.cp.resp = w16 (m.tag % 256 * 256 + 7))

/-- An image sequence: begun in MAINT, its words go into the bank that does not govern and nowhere else, its check gives the code of R485
and decides whether the bank is verified, and only a verified bank is committed: a record into the slot that does not govern, which
names it with a higher GEN. Outside their run states the commands end with RESULT 3, and a part out of range with RESULT 5, with no
effect. Which bank is open without a governing one, and that IMG_COMMIT closes the sequence, is the model's choice (log entries 24 and 65).
After R475, R484 to R488, R490. -/
def Obligations.ImageCommands : Prop :=
  (∀ (t : Nat) (m : Mbx) (s : State), s.inHand 0x20 m → s.clk.rs = .maint →
    ∃ s', exec (.imgBegin t) s = .next s' ∧ s'.cp.mbx = none ∧
      (if m.arg0.toNat % 2 = 0 ∧ s.img.lc = 0 then s'.img.seqOpen = s.img.seqOpen ∧ s'.cp.resp = w16 (m.tag % 256 * 256 + 4)
       else if m.arg0.toNat % 2 = 0 ∧ s.img.pending = true then s'.img.seqOpen = s.img.seqOpen ∧ s'.cp.resp = w16 (m.tag % 256 * 256 + 3)
       else s'.img.seqOpen = some (m.arg0.toNat % 2) ∧ s'.img.verified = false ∧ s'.img.wblocks = 0 ∧
        s'.cp.resp = w16 (m.tag % 256 * 256))) ∧
  (∀ (t kind : Nat) (m : Mbx) (s : State), s.inHand 0x21 m → s.mram.wf = true → s.clk.rs = .maint →
      s.img.seqOpen = some kind → 1 ≤ m.arg1.toNat % 256 → m.arg1.toNat % 256 ≤ 128 → m.arg1.toNat % 256 ≤ m.buf.length →
      m.arg0.toNat * 128 + m.arg1.toNat % 256 ≤ bankSize kind →
    ∃ s', exec (.imgWrite t) s = .next s' ∧ s'.img.verified = false ∧ s'.img.wblocks = sat16 s.img.wblocks ∧
      s'.cp.resp = w16 (m.tag % 256 * 256) ∧
      s'.mram.readN (bankBase kind (s.openBank kind) + m.arg0.toNat * 128) (m.arg1.toNat % 256) = m.buf.take (m.arg1.toNat % 256) ∧
      (∀ a, ¬ (bankBase kind (s.openBank kind) + m.arg0.toNat * 128 ≤ a ∧
          a < bankBase kind (s.openBank kind) + m.arg0.toNat * 128 + m.arg1.toNat % 256) → s'.mram.read a = s.mram.read a)) ∧
  (∀ (t kind : Nat) (m : Mbx) (s : State), s.inHand 0x21 m → s.clk.rs = .maint → s.img.seqOpen = some kind →
      m.arg1.toNat % 256 = 0 ∨ 128 < m.arg1.toNat % 256 ∨ bankSize kind < m.arg0.toNat * 128 + m.arg1.toNat % 256 →
    ∃ s', exec (.imgWrite t) s = .next s' ∧ s'.mram = s.mram ∧ s'.img.verified = s.img.verified ∧ s'.cp.mbx = none ∧
      s'.cp.resp = w16 (m.tag % 256 * 256 + 5)) ∧
  (∀ (t kind : Nat) (m : Mbx) (s : State), s.inHand 0x22 m → s.clk.rs = .maint → s.img.seqOpen = some kind →
    ∃ s', exec (.imgVerify t) s = .next s' ∧ s'.img.verified = (s.imgCheck kind (s.openBank kind) none == 0) ∧
      s'.img.verr = codeWord (s.imgCheck kind (s.openBank kind) none) ∧ s'.cp.arg0 = w16 (s.imgCheck kind (s.openBank kind) none) ∧
      s'.mram = s.mram ∧ s'.cp.resp = w16 (m.tag % 256 * 256 + if s.imgCheck kind (s.openBank kind) none = 0 then 0 else 6)) ∧
  (∀ (t : Nat) (kind : Fin 2) (b : LoadObs) (m : Mbx) (s : State), s.inHand 0x23 m → s.mram.wf = true → s.clk.rs = .maint →
      s.img.seqOpen = some kind.val → s.img.verified = true →
    ∃ s', exec (.imgCommit t b) s = .next s' ∧ s'.img.pending = (s.img.pending || kind.val == 0) ∧ s'.img.seqOpen = none ∧
      s'.cp.resp = w16 (m.tag % 256 * 256) ∧ s'.clk.rs ≠ .load ∧
      s'.commitRec kind (match s.governing kind with | some e => 1 - e.1 | none => 0) =
        commitRecBytes kind (s.openBank kind) (match s.governing kind with | some e => (cGen e.2 + 1) % 4294967296 | none => 1)
          (imgLen (s.imageAt kind (s.openBank kind))) (imgDigest (s.imageAt kind (s.openBank kind)))) ∧
  (∀ (t kind : Nat) (b : LoadObs) (m : Mbx) (s : State), s.inHand 0x23 m → s.clk.rs = .maint →
      s.img.seqOpen = some kind → s.img.verified = false →
    ∃ s', exec (.imgCommit t b) s = .next s' ∧ s'.mram = s.mram ∧ s'.cp.arg0 = 9 ∧ s'.cp.resp = w16 (m.tag % 256 * 256 + 6)) ∧
  (∀ (t : Nat) (m : Mbx) (s : State), s.inHand 0x20 m → s.clk.rs = .run ∨ s.clk.rs = .safe →
    ∃ s', exec (.imgBegin t) s = .next s' ∧ s'.mram = s.mram ∧ s'.img.seqOpen = s.img.seqOpen ∧ s'.cp.resp = w16 (m.tag % 256 * 256 + 3)) ∧
  (∀ (t : Nat) (m : Mbx) (s : State), s.inHand 0x21 m → s.clk.rs = .run ∨ s.clk.rs = .safe →
    ∃ s', exec (.imgWrite t) s = .next s' ∧ s'.mram = s.mram ∧ s'.img.seqOpen = s.img.seqOpen ∧ s'.cp.resp = w16 (m.tag % 256 * 256 + 3)) ∧
  (∀ (t : Nat) (m : Mbx) (s : State), s.inHand 0x22 m → s.clk.rs = .run ∨ s.clk.rs = .safe →
    ∃ s', exec (.imgVerify t) s = .next s' ∧ s'.mram = s.mram ∧ s'.img.verified = s.img.verified ∧ s'.cp.resp = w16 (m.tag % 256 * 256 + 3)) ∧
  (∀ (t : Nat) (b : LoadObs) (m : Mbx) (s : State), s.inHand 0x23 m → s.clk.rs = .run ∨ s.clk.rs = .safe →
    ∃ s', exec (.imgCommit t b) s = .next s' ∧ s'.mram = s.mram ∧ s'.img.seqOpen = s.img.seqOpen ∧ s'.cp.resp = w16 (m.tag % 256 * 256 + 3))

/-- The life cycle: LC_ADVANCE is refused with RESULT 3 outside MAINT; BLANK goes to DEVELOP; DEVELOP to FIELD where the key can be burnt,
with the key antifuses written, the spook controls cleared and EXTEST and DBG_ACCESS deselected, and RESULT 6 else; FIELD to RETURN on a
valid token, RESULT 6 else; any state but VOID to VOID; the two last erase, and any other request ends with RESULT 5. EN of the spook
controls is set in DEVELOP and RETURN in the run states of R511, cleared there at any time, and refused in FIELD. That nothing is
burnt without an enrolled key is the model's choice (log entry 29). After R475, R495 to R498, R500, R502, R503, R510, R511. -/
def Obligations.LifeCycle : Prop :=
  (∀ (t : Nat) (m : Mbx) (s : State), s.inHand 0x40 m → s.img.erasing = false → s.clk.rs = .maint →
      s.img.lc = lcBlank → m.arg0.toNat % 16 = lcDevelop →
    ∃ s', exec (.lcAdvance t) s = .next s' ∧ s'.img.fuses = setAt s.img.fuses 1 [true, true, true] ∧
      s'.img.lclast = w16 (lcDevelop + 0x8000) ∧ s'.cp.resp = w16 (m.tag % 256 * 256)) ∧
  (∀ (t : Nat) (m : Mbx) (s : State), s.inHand 0x40 m → s.img.erasing = false → s.clk.rs = .maint →
      s.img.lc = lcDevelop → m.arg0.toNat % 16 = lcField → s.keyBurnable = true →
    ∃ s', exec (.lcAdvance t) s = .next s' ∧ s'.img.fuses = setAt s.img.fuses 2 [true, true, true] ∧ s'.img.keyFuse = s.img.keyEnr ∧
      s'.img.lclast = w16 (lcField + 0x8000) ∧ s'.cp.resp = w16 (m.tag % 256 * 256) ∧ s'.spook = {} ∧
      s'.pair.tap ≠ .extest ∧ s'.pair.tap ≠ .dbgAccess) ∧
  (∀ (t : Nat) (m : Mbx) (s : State), s.inHand 0x40 m → s.img.erasing = false → s.clk.rs = .maint →
      s.img.lc = lcDevelop → m.arg0.toNat % 16 = lcField → s.keyBurnable = false →
    ∃ s', exec (.lcAdvance t) s = .next s' ∧ s'.img.fuses = s.img.fuses ∧ s'.img.keyFuse = s.img.keyFuse ∧
      s'.img.lclast = w16 (lcField + 16 * 6 + 0x8000) ∧ s'.cp.resp = w16 (m.tag % 256 * 256 + 6)) ∧
  (∀ (t : Nat) (m : Mbx) (s : State), s.inHand 0x40 m → s.img.erasing = false → s.clk.rs = .maint →
      s.img.lc = lcField → m.arg0.toNat % 16 = lcReturn →
    ∃ s', exec (.lcAdvance t) s = .next s' ∧
      (if tokenOk m.buf = true then s'.img.fuses = setAt s.img.fuses 3 [true, true, true] ∧ s'.img.erasing = true ∧ s'.cp.mbx = some m
       else s'.img.fuses = s.img.fuses ∧ s'.img.erasing = false ∧ s'.img.lclast = w16 (lcReturn + 16 * 6 + 0x8000) ∧
        s'.cp.resp = w16 (m.tag % 256 * 256 + 6))) ∧
  (∀ (t : Nat) (m : Mbx) (s : State), s.inHand 0x40 m → s.img.erasing = false → s.clk.rs = .maint → s.img.lc ≠ 0 →
      m.arg0.toNat % 16 = 0 →
    ∃ s', exec (.lcAdvance t) s = .next s' ∧ s'.img.fuses = setAt s.img.fuses 4 [true, true, true] ∧ s'.img.erasing = true ∧
      s'.cp.mbx = some m) ∧
  (∀ (t : Nat) (m : Mbx) (s : State), s.inHand 0x40 m → s.img.erasing = false → s.clk.rs = .maint → m.arg0.toNat % 16 ≠ 0 →
      ¬ (s.img.lc = lcBlank ∧ m.arg0.toNat % 16 = lcDevelop) → ¬ (s.img.lc = lcDevelop ∧ m.arg0.toNat % 16 = lcField) →
      ¬ (s.img.lc = lcField ∧ m.arg0.toNat % 16 = lcReturn) →
    ∃ s', exec (.lcAdvance t) s = .next s' ∧ s'.img.fuses = s.img.fuses ∧ s'.img.erasing = false ∧
      s'.cp.resp = w16 (m.tag % 256 * 256 + 5)) ∧
  (∀ (t : Nat) (m : Mbx) (s : State), s.inHand 0x40 m → s.img.erasing = false → s.clk.rs ≠ .maint →
    ∃ s', exec (.lcAdvance t) s = .next s' ∧ s'.img.fuses = s.img.fuses ∧ s'.img.lclast = s.img.lclast ∧
      s'.cp.resp = w16 (m.tag % 256 * 256 + 3)) ∧
  (∀ (t : Nat) (v : Word) (s : State), s.live = true → s.lcDebug = true → s.spookState = true → bit v.toNat 0 = true →
    ∃ s', exec (.spookEn t v) s = .next s' ∧ s'.spook = { s.spook with en := true } ∧ s'.perturbed = true) ∧
  (∀ (t : Nat) (v : Word) (s : State), s.live = true → s.lcDebug = true → bit v.toNat 0 = false →
    ∃ s', exec (.spookEn t v) s = .next s' ∧ s'.spook = { s.spook with en := false }) ∧
  (∀ (t : Nat) (v : Word) (s : State), s.lcDebug = false →
    ∃ s', exec (.spookEn t v) s = .next s' ∧ s'.spook = s.spook ∧ (s.live = true → s.field = true → s.cp.on = true → bit s'.cp.alertSrc 11 = true))

/-- A step takes the command at the front of the queue and runs it with the queue's rest; on an empty queue the part
idles: nothing changes. What the part does on an empty queue is the model's choice (log entry 27). -/
def Obligations.StepRunsFront : Prop :=
  (∀ (c : Instr) (rest : List Instr) (s : State), step { s with pending := c :: rest } = exec c { s with pending := rest }) ∧
  (∀ s : State, s.pending = [] → step s = .next s)

/-- The part after reset: power-on reset held, every rail off, the muzzle open and every pad low, every output pin unpowered, no error
latched, the life cycle BLANK; the MRAM lists nothing, the queue is empty. What the part holds before its first power-up (an MRAM of
zeros) and every value of the fields named here for which the manual gives none are the model's choices (log entries 3 and 5).
After R114, R382, R384, R406, R420, R430, R495. -/
def Obligations.ResetState : Prop :=
  State.reset.seq.por = true ∧ State.reset.clk.rs = .off ∧ State.reset.seq.en = List.replicate 8 false ∧
  State.reset.sout.open_ = true ∧ State.reset.OutputsSafe ∧ State.reset.flt.fstat = 0 ∧ State.reset.img.lc = lcBlank ∧
  State.reset.mram.wf = true ∧ State.reset.pending = [] ∧ rowsOfThree State.reset.img.fuses ∧
  (∀ n l, State.reset.drvPin n l = .unpowered ∧ State.reset.tpPin n = .unpowered ∧ State.reset.fioPin n = .unpowered ∧
    State.reset.sckPin n = .unpowered ∧ State.reset.doPin n = .unpowered ∧ State.reset.frmPin n = .unpowered ∧
    State.reset.txPin n = .unpowered) ∧
  (∀ pin, State.reset.barkPin pin = .unpowered) ∧ State.reset.alertPad = .unpowered

/-- Whatever the state before, after every command the muzzle is open exactly when the manual has it open, and every pad of a safe output
follows its rule; so a pad is high, and its pin with it, only in RUN with the muzzle closed, the output in use and not forced off, command
and launch gate at 1, or under EXTEST in RETURN; with VIO33 gone in OFF or CUT the pin is unpowered. After R95, R98, R114, R116, R195, R430. -/
def Obligations.OutputsAlwaysFollow : Prop :=
  ∀ (c : Instr) (s s' : State), exec c s = .next s' →
    s'.OutputsSafe ∧ (∀ (n : Nat) (l : Leg), n < s'.sout.outs.length → ((s'.out n).leg l).pad = true → s'.MayDrive n l) ∧
    (∀ (n : Nat) (l : Leg), n < s'.sout.outs.length → s'.drvPin n l = .high → s'.MayDrive n l) ∧
    (s'.clk.rs = .off ∨ s'.clk.rs = .cut → s'.vio33 = false → ∀ (n : Nat) (l : Leg), s'.drvPin n l = .unpowered)

/-- Every step keeps the MRAM's canonical form, moves time never back, takes the command at the front of the queue, if there is
one, and no other, and never unburns an antifuse. -/
def Obligations.StepKeeps : Prop :=
  ∀ s s' : State, step s = .next s' →
    s.now ≤ s'.now ∧ s'.pending = s.pending.tail ∧ (s.mram.wf = true → s'.mram.wf = true) ∧
    (rowsOfThree s.img.fuses → fusesIn s.img.fuses s'.img.fuses ∧ rowsOfThree s'.img.fuses)

/-- Every command completes, at its instant (log entry 1), and leaves the queue; a command that does not write the MRAM leaves every
byte of it, and every command but LC_ADVANCE every antifuse, as it was. -/
def Obligations.Footprint : Prop :=
  ∀ (c : Instr) (s : State), ∃ s', exec c s = .next s' ∧ s'.now = Nat.max s.now c.time ∧ s'.pending = s.pending ∧
    (c.writesMram = false → ∀ a, s'.mram.read a = s.mram.read a) ∧
    ((∀ t, c ≠ .lcAdvance t) → s'.img.fuses = s.img.fuses)

/-- Raising an error latches its bit of FSTAT, whatever its class; a class of STOP or higher opens the muzzle and
holds BARK, and moves RUN and MAINT to SAFE; LOCAL sends every
instance of its scope to LOCAL; CUT drops every rail. While COLL is in reset nothing is latched. After R334, R336, R337, R340. -/
def Obligations.Reactions : Prop :=
  ∀ (src : Src) (d : Nat) (c : Cls) (s : State),
    (s.flt.on = false → s.raise src d c = s) ∧
    (s.flt.on = true → bit (s.raise src d c).flt.fstat src.bit = true ∧
      (∀ b, bit s.flt.fstat b = true → bit (s.raise src d c).flt.fstat b = true)) ∧
    (s.flt.on = true → 2 ≤ (Cls.max (s.mapEntry src) c).code → (s.raise src d c).sout.open_ = true) ∧
    (s.flt.on = true → Cls.max (s.mapEntry src) c = .loc → ∀ e ∈ s.scope src d, e.2 < (s.sheet e.1).com.length →
      ((s.raise src d c).com e.1 e.2).atLocal = true) ∧
    (s.flt.on = true → Cls.max (s.mapEntry src) c = .stop → (s.raise src d c).sout.barkHold = true ∧
      (s.clk.rs = .run ∨ s.clk.rs = .maint → (s.raise src d c).clk.rs = .safe)) ∧
    (s.flt.on = true → Cls.max (s.mapEntry src) c = .cut → src ≠ .seqPg →
      (s.raise src d c).clk.rs = .cut ∧ (s.raise src d c).seq.en = List.replicate 8 false)

/-- No register write, frame, mailbox command or debug operation leaves SAFE, but for a halt, which returns to SAFE, and
for a CUT. After R354, R466. -/
def Obligations.SafeHolds : Prop :=
  ∀ (c : Instr) (s s' : State), c.fromOutside = true → s.clk.rs = .safe ∨ s.clk.rs = .halted → exec c s = .next s' →
    s'.clk.rs = .safe ∨ s'.clk.rs = .halted ∨ s'.clk.rs = .cut

/-- A corrected register-file error only increments ECCCNT of its core: no compared signal changes and no fault is raised. After R210. -/
def Obligations.RegfileCorrected : Prop :=
  (∀ (c : Fin 2) (s : State), s.ecc { place := .regfile c, corrected := true } =
    { s with pair := if c.val = 0 then { s.pair with ecc0 := sat8 s.pair.ecc0 } else { s.pair with ecc1 := sat8 s.pair.ecc1 } }) ∧
  (∀ (t : Nat) (c : Fin 2) (s : State), s.kennelRuns = true → s.chanB = false →
    ∃ s', exec (.kramPatrol t [{ place := .regfile c, corrected := true }]) s = .next s' ∧ s'.flt.fstat = s.flt.fstat ∧
      s'.pair = if c.val = 0 then { s.pair with ecc0 := sat8 s.pair.ecc0 } else { s.pair with ecc1 := sat8 s.pair.ecc1 })

/-- Frames: a command on an input pair or a test-pulse line changes the safe inputs and their FIFO to channel A alone, and of the inputs no
other pair or line. Here and
in the other frames `State.keep` leaves out what an error, channel B's evaluation and the alerts may change after any command. -/
def Obligations.FrameInputs : Prop :=
  (∀ (t : Nat) (n : Fin 32) (ch : Chan) (v : Bool) (s s' : State),
    ∀ i ∈ [Instr.siPinChange t n ch v, .filterExpiry t n ch, .discrepancyExpiry t n, .ossdtolExpiry t n ch, .ossdchkExpiry t n ch,
        .blankingEnd t n ch], exec i s = .next s' →
      { s'.keep with now := s.now, sin := s.sin, fifos := s.fifos } = s.keep ∧ s'.sin = { s.sin with pairs := s'.sin.pairs } ∧
      ∀ k, k ≠ n.val → s'.inPair k = s.inPair k) ∧
  (∀ (t : Nat) (n : Fin 8) (s s' : State),
    ∀ i ∈ [Instr.darkPulseStart t n, .checkSample t n, .darkPulseEnd t n], exec i s = .next s' →
      { s'.keep with now := s.now, sin := s.sin, fifos := s.fifos } = s.keep ∧ ∀ k, k ≠ n.val → s'.tp k = s.tp k)

/-- Frames: a command on a safe output, on MUZZLE_N or on BARK changes the safe outputs alone, and there no other output; the end of
an output's fault also marks the groups that wait for a new pulse (R105), and nothing else of a sheet's results; a command
on a sheet's timers or LOCALs, a power-good timeout and a write to FAULT.ACK change nothing but what a reaction and channel B's
evaluation may. -/
def Obligations.FrameOutputs : Prop :=
  (∀ (t : Nat) (n : Fin 16) (l : Leg) (v : Bool) (s s' : State),
    ∀ i ∈ [Instr.readbackChange t n l v, .switchOnWindowEnd t n, .ocfiltExpiry t n l, .offdlyExpiry t n l, .darkTestDue t n l,
        .darkTestStart t n l], exec i s = .next s' →
      { s'.keep with now := s.now, sout := s.keep.sout } = s.keep ∧ ∀ k, k ≠ n.val → (s'.out k).keep = (s.out k).keep) ∧
  (∀ (t : Nat) (n : Fin 16) (s s' : State), exec (.outputFaultClear t n) s = .next s' →
      { s'.keep with now := s.now, sout := s.keep.sout, sh0 := s.keep.sh0, sh1 := s.keep.sh1 } = s.keep ∧
      s'.sh0.markless = s.sh0.markless ∧ s'.sh1.markless = s.sh1.markless ∧
      ∀ k, k ≠ n.val → (s'.out k).keep = (s.out k).keep) ∧
  (∀ (t : Nat) (p : Chan) (s s' : State),
    ∀ i ∈ [Instr.darkTestPass t, .darkTestTimeout t, .muzzleNHigh t, .barkMon t p], exec i s = .next s' →
      { s'.keep with now := s.now, sout := s.keep.sout } = s.keep) ∧
  (∀ (t : Nat) (k : Fin 2) (i : Fin 512) (ch : Fin 8) (src : Src) (v : Word) (s s' : State),
    ∀ c ∈ [Instr.switchtExpiry t k i, .donExpiry t k i, .cat1DelayExpiry t k i, .maxtExpiry t k i, .motionLocalReset t k i,
        .deviceLocalClear t src, .sourceLocalClear t src, .pgTimeout t ch, .faultAck t v, .ackActuationDiscard t], exec c s = .next s' →
      { s'.keep with now := s.now } = s.keep)

/-- Frames: the collar's commands change the collar, its FIFOs and the free values alone; a miss of one slot no other slot. -/
def Obligations.FrameCollar : Prop :=
  (∀ (t : Nat) (p : Fin 2) (b : Bool) (l : List Byte) (n : Fin 64) (v : Word) (s s' : State),
    ∀ i ∈ [Instr.radioTransfer t p b, .radioPoll t p, .beaconRequest t p, .beaconReport t p l, .headStatus t p l,
        .portManagementFrame t p l, .refreshMissed t n, .colQrel t v], exec i s = .next s' →
      { s'.keep with now := s.now, free := s.free, col := s.col, fifos := s.fifos } = s.keep) ∧
  (∀ (t : Nat) (p : Fin 2) (b : Bool) (l : List Byte) (s s' : State),
    ∀ i ∈ [Instr.radioTransfer t p b, .radioPoll t p, .beaconRequest t p, .beaconReport t p l], exec i s = .next s' →
      s'.col.slots = s.col.slots ∧ s'.fifos = s.fifos ∧ s'.free = s.free) ∧
  (∀ (t : Nat) (n : Fin 64) (s s' : State), exec (.refreshMissed t n) s = .next s' →
      s'.col.ports = s.col.ports ∧ ∀ k, k ≠ n.val → s'.slot k = s.slot k)

/-- Frames: the yard's commands change the yard, its FIFOs, the control port's mailbox data and the free values alone; a command on
one port changes no connection. -/
def Obligations.FrameYard : Prop :=
  (∀ (t : Nat) (p : Fin 3) (l : List Byte) (a b : Byte) (n : Fin 64) (v : Word) (ab : Bool) (s s' : State),
    ∀ i ∈ [Instr.ackOrderedSet t p a b, .ackTimeout t p, .linkError t p, .connectionFrameTake t n, .openSend t n, .yardQrel t v,
        .helloSend t p, .hello t p l, .safetyDataFrame t p l, .safetyOpenFrame t p l, .managementFrame t p l, .timeExchangeStart t p,
        .sync t l, .dreq t p l, .holdover t, .syncLost t, .whistle t p l ab, .whistleStop t], exec i s = .next s' →
      { s'.keep with now := s.now, free := s.free, yard := s.keep.yard, fifos := s.fifos, cp := s.keep.cp } = s.keep) ∧
  (∀ (t : Nat) (p : Fin 3) (l : List Byte) (a b : Byte) (s s' : State),
    ∀ i ∈ [Instr.ackOrderedSet t p a b, .ackTimeout t p, .linkError t p, .helloSend t p, .hello t p l, .timeExchangeStart t p,
        .dreq t p l, .holdover t, .syncLost t], exec i s = .next s' →
      s'.yard.conns = s.yard.conns ∧ s'.fifos = s.fifos ∧ s'.cp.mbx = s.cp.mbx)

/-- Frames: the debug port's reads and the pair's own timers change the pair and the free values alone, and a write to ROTCTL the control
port's status byte beside it; the TAP's instructions that need no halt raise nothing, so that with channel B at rest the run state, the
rails and FSTAT stay too, and without a farrier run the core registers; the commands of AON change AON alone. -/
def Obligations.FramePair : Prop :=
  (∀ (t : Nat) (cells : Cells) (c : BitVec 32) (d : BitVec 5) (a : BitVec 28) (r : CoreReg) (k : Fin 2) (s s' : State),
    ∀ i ∈ [Instr.idcode t, .bypass t d, .tapReset t, .samplePreload t cells, .status t, .readWord t a, .writeWord t a c,
        .readCoreRegister t r k, .rotationDue t, .rotationLate t], exec i s = .next s' →
      { s'.keep with now := s.now, free := s.free, pair := s.keep.pair } = s.keep) ∧
  (∀ (t : Nat) (v : Word) (s s' : State), exec (.rotctlNow t v) s = .next s' →
      { s'.keep with now := s.now, pair := s.keep.pair, cp := { s'.keep.cp with st := s.cp.st } } = s.keep) ∧
  (∀ (t : Nat) (cells : Cells) (d : BitVec 5) (s s' : State), s.chanB = false →
    ∀ i ∈ [Instr.idcode t, .bypass t d, .tapReset t, .samplePreload t cells, .status t], exec i s = .next s' →
      (s.farr.busy = false → s'.pair.regs0 = s.pair.regs0 ∧ s'.pair.regs1 = s.pair.regs1) ∧
      s'.clk = s.clk ∧ s'.seq = s.seq ∧ s'.flt.fstat = s.flt.fstat ∧ s'.flt.recno = s.flt.recno) ∧
  (∀ (t uv : Nat) (v : Word) (s s' : State),
    ∀ i ∈ [Instr.vinWarn t, .vinOk t, .vinAbandonEnd t, .yardTick t, .vinSample t uv, .sidx t v], exec i s = .next s' →
      { s'.keep with now := s.now, seq := s.keep.seq } = s.keep) ∧
  (∀ (t : Nat) (a b c : Int) (s s' : State),
    ∀ i ∈ [Instr.crystalRunning t, .tempReading t a b c], exec i s = .next s' →
      { s'.keep with now := s.now, seq := s.keep.seq, clk := s.keep.clk } = s.keep)

/-- Frames: what the host's commands change: the mailbox commands of the loft change the control port and the FIFOs, those on images
also the images, those of the yard also the yard; the records' registers the records; GO the farrier; a probe or a reload the
fabric; SPOOK.EN the spook controls. A write of GO, of a probe or of EN that FIELD refuses shows LOCKED in the next status byte. -/
def Obligations.FrameHost : Prop :=
  (∀ (t : Nat) (v : Word) (s s' : State),
    ∀ i ∈ [Instr.echo t, .devuid t, .maintEnter t, .maintLeave t, .alertSrcClear t v, .loftStart t, .groomWdog t, .imgBegin t,
        .imgVerify t, .yardMsend t, .yardMrecv t], exec i s = .next s' →
      { s'.keep with now := s.now, cp := s.keep.cp, img := s.keep.img, fifos := s.fifos, free := s.free, yard := s.keep.yard } = s.keep) ∧
  (∀ (t : Nat) (s s' : State), ∀ i ∈ [Instr.echo t, .devuid t, .maintEnter t, .maintLeave t], exec i s = .next s' →
      s'.keep.img = s.keep.img ∧ s'.keep.yard = s.keep.yard ∧ s'.free = s.free) ∧
  (∀ (t : Nat) (r : Fin 4) (v : Word) (s s' : State),
    ∀ i ∈ [Instr.fstatClear t r v, .ridx t v, .collInterval t, .localReactionTimeout t], exec i s = .next s' →
      { s'.keep with now := s.now, flt := s.keep.flt } = s.keep) ∧
  (∀ (t : Nat) (v : Word) (s s' : State), exec (.go t v) s = .next s' →
      { s'.keep with now := s.now, farr := s.keep.farr, cp := { s'.keep.cp with st := s.cp.st } } = s.keep) ∧
  (∀ (t : Nat) (a : Byte) (v : Word) (s s' : State), exec (.probeWrite t a v) s = .next s' →
      { s'.keep with now := s.now, fab := s.keep.fab, cp := { s'.keep.cp with st := s.cp.st } } = s.keep) ∧
  (∀ (t : Nat) (v : Word) (s s' : State), exec (.spookEn t v) s = .next s' →
      { s'.keep with now := s.now, spook := s.spook, cp := { s'.keep.cp with st := s.cp.st } } = s.keep) ∧
  (∀ (t : Nat) (f : Fin 1162) (s s' : State), exec (.scrubReload t f) s = .next s' →
      { s'.keep with now := s.now, fab := s.keep.fab } = s.keep)
end

