-- ==== Sys2Proof/Laws/Keep.lean ====
section
/-!
SUPPORT. What a raised error and the settling of the part can never change: `State.keep` (Safety) blanks the fields they may
change, and every reaction leaves the rest as it was.
-/
namespace Sys2Proof.Machine

/-! ## Lists -/

theorem map_updAt_keep {α β : Type} (g : α → β) (f : α → α) (h : ∀ a, g (f a) = g a) :
    ∀ (l : List α) (i : Nat), (updAt f l i).map g = l.map g
  | [], _ => rfl
  | x :: xs, 0 => by simp [updAt, h]
  | x :: xs, i + 1 => by simp [updAt, map_updAt_keep g f h xs i]

theorem map_mapIdx_keep {α β : Type} (g : α → β) (f : Nat → α → α) (h : ∀ i a, g (f i a) = g a) :
    ∀ (l : List α) (i : Nat), (mapIdx f l i).map g = l.map g
  | [], _ => rfl
  | x :: xs, i => by simp [mapIdx, h, map_mapIdx_keep g f h xs (i + 1)]

theorem foldl_same {α β : Type} (g : State → β) (f : State → α → State) (h : ∀ s a, g (f s a) = g s) :
    ∀ (l : List α) (s : State), g (l.foldl f s) = g s
  | [], _ => rfl
  | x :: xs, s => by simp [foldl_same g f h xs, h]

/-! ## Reactions -/

@[simp] theorem State.alert_keep (s : State) (n : Nat) : (s.alert n).keep = s.keep := by
  unfold State.alert; split <;> rfl

@[simp] theorem State.snap_keep (s : State) (a b : Nat) : (s.snap a b).keep = s.keep := by
  unfold State.snap; (repeat' split) <;> rfl

@[simp] theorem State.cancelLaunch_keep (s : State) (k g : Nat) : (s.cancelLaunch k g).keep = s.keep := rfl
@[simp] theorem State.dropLaunches_keep (s : State) : s.dropLaunches.keep = s.keep := rfl
@[simp] theorem State.trigger_keep (s : State) (n : Nat) : (s.trigger n).keep = s.keep := rfl
@[simp] theorem State.holdBark_keep (s : State) : s.holdBark.keep = s.keep := rfl

@[simp] theorem State.cut_keep (s : State) (a b : Nat) : (s.cut a b).keep = s.keep :=
  by
  rw [← s.snap_keep a b]
  unfold State.cut
  generalize s.snap a b = x
  rfl

@[simp] theorem State.toSafe_keep (s : State) : s.toSafe.keep = s.keep := by
  unfold State.toSafe; dsimp only; (repeat' split) <;> first | rfl | (rw [State.alert_keep]; rfl)

@[simp] theorem State.stop_keep (s : State) : s.stop.keep = s.keep := by simp [State.stop]

@[simp] theorem State.modCom_keep (s : State) (k i : Nat) (f : InstCom → InstCom) : (s.modCom k i f).keep = s.keep := by
  unfold State.modCom State.modSheet; split <;> rfl

@[simp] theorem State.addLocal_keep (s : State) (src : Src) (d r : Nat) (e : Nat × Nat) :
    (s.addLocal src d r e).keep = s.keep := by
  unfold State.addLocal; dsimp only; split <;> simp

@[simp] theorem State.cancelAffected_keep (s : State) (sc : List (Nat × Nat)) : (s.cancelAffected sc).keep = s.keep := by
  unfold State.cancelAffected; refine foldl_same State.keep _ (fun _ _ => ?_) _ _
  rfl

@[simp] theorem State.localReact_keep (s : State) (src : Src) (d r : Nat) : (s.localReact src d r).keep = s.keep := by
  unfold State.localReact
  simp only [State.cancelAffected_keep]
  exact foldl_same State.keep _ (fun s e => s.addLocal_keep src d r e) _ _

@[simp] theorem State.unsup_keep (s : State) : s.unsup.keep = s.keep := rfl

@[simp] theorem State.record_keep (s : State) (b d : Nat) (c : Cls) : (s.record b d c).keep = s.keep := by
  unfold State.record State.suppress State.openRecord State.mergeRecord
  dsimp only
  (repeat' split) <;> first | rfl | (rw [State.alert_keep]; rfl)

@[simp] theorem State.hostRestore_keep (s : State) : s.hostRestore.keep = s.keep := by
  unfold State.hostRestore; split <;> rfl

@[simp] theorem State.farrStop_keep (s : State) (src : Src) : (s.farrStop src).keep = s.keep := by
  unfold State.farrStop
  (repeat' split)
  · rw [State.hostRestore_keep]; rfl
  all_goals rfl

@[simp] theorem State.raise_keep (s : State) (src : Src) (d : Nat) (c : Cls) : (s.raise src d c).keep = s.keep := by
  unfold State.raise
  dsimp only
  split
  · rfl
  · have h : ∀ x y : State, x.keep = y.keep → y.keep = s.keep → x.keep = s.keep := fun _ _ h k => h.trans k
    split
    all_goals (try split) <;> (try split)
    all_goals simp only [State.record_keep, State.localReact_keep, State.stop_keep, State.trigger_keep, State.farrStop_keep, State.cut_keep]
    all_goals rfl

@[simp] theorem State.err_keep (s : State) (src : Src) (d : Nat) : (s.err src d).keep = s.keep := s.raise_keep _ _ _

@[simp] theorem State.line_keep (s : State) (src : Src) (a : Bool) (d : Nat) : (s.line src a d).keep = s.keep := by
  unfold State.line
  dsimp only
  (repeat' split) <;> first | rfl | (rw [State.err_keep]; rfl)

@[simp] theorem State.raiseAll_keep (s : State) (l : List (Src × Nat)) : (s.raiseAll l).keep = s.keep := by
  unfold State.raiseAll
  refine foldl_same State.keep _ (fun s e => ?_) _ _
  exact s.err_keep e.1 e.2

/-! ## Settling -/

@[simp] theorem State.refs_keep (s : State) : s.refs.keep = s.keep := by
  unfold State.refs State.keep
  simp only [List.map_map]
  congr 2
  apply List.map_congr_left
  intro w _
  simp only [Function.comp, Wheel.keep]
  split
  · simp only [WheelCh.seeRef]; (repeat' split) <;> rfl
  · rfl

@[simp] theorem State.openings_keep (s : State) : s.openings.keep = s.keep := by
  unfold State.openings State.progressSheet State.keep Sheet.keep
  (repeat' split) <;> rfl

theorem State.evalB_keep (s : State) (t : Bool) : (s.evalB t).1.keep = s.keep := by
  unfold State.evalB
  split
  · dsimp only
    rw [foldl_same State.keep _ (fun _ _ => State.cancelLaunch_keep _ _ _)]
    rfl
  · rfl

@[simp] theorem State.runB_keep (s : State) (t : Bool) : (s.runB t).keep = s.keep := by
  unfold State.runB
  dsimp only
  split
  · exact s.evalB_keep t
  · rw [State.evalB_keep, State.raiseAll_keep, State.evalB_keep]

theorem State.mapOuts_keep (s : State) (f : Nat → OutSt → OutSt) (h : ∀ i o, (f i o).keep = o.keep) :
    (s.mapOuts f).keep = s.keep := by
  unfold State.mapOuts State.keep
  simp only [map_mapIdx_keep OutSt.keep f h]

theorem State.modOut_keep (s : State) (n : Nat) (f : OutSt → OutSt) (h : ∀ o, (f o).keep = o.keep) :
    (s.modOut n f).keep = s.keep := by
  unfold State.modOut State.keep
  simp only [map_updAt_keep OutSt.keep f h]

@[simp] theorem State.mCommands_keep (s : State) : s.mCommands.keep = s.keep := by
  unfold State.mCommands
  split
  · rfl
  · exact s.mapOuts_keep _ (fun _ _ => rfl)

@[simp] theorem State.monitor_keep (s : State) : s.monitor.keep = s.keep := by
  unfold State.monitor; split <;> rfl

@[simp] theorem State.holdLine_keep (s : State) (src : Src) (a : Bool) : (s.holdLine src a).keep = s.keep := by
  unfold State.holdLine; split
  · rfl
  · simp

@[simp] theorem State.shortLine_keep (s : State) : s.shortLine.keep = s.keep := by simp [State.shortLine]
@[simp] theorem State.muzzle_keep (s : State) : s.muzzle.keep = s.keep := rfl

@[simp] theorem State.darkAbort_keep (s : State) : s.darkAbort.keep = s.keep := by
  unfold State.darkAbort
  split
  · split
    · rfl
    · dsimp only
      rw [State.modLeg, State.modOut_keep]
      · rfl
      · intro o; unfold OutSt.modLeg; split <;> rfl
  · rfl

theorem LegSt.setPad_keep (now : Nat) (v : Bool) (l : LegSt) : (l.setPad now v).keep = l.keep := by
  unfold LegSt.setPad; (repeat' split) <;> rfl

theorem State.padsOf_keep (s : State) (n : Nat) (o : OutSt) : (s.padsOf n o).keep = o.keep := by
  have h := fun v (l : LegSt) => l.setPad_keep s.now v
  unfold State.padsOf OutSt.keep
  simp only [OutSt.mk.injEq, and_true, true_and]
  exact ⟨(congrArg (fun x : LegSt => { x with deferred := false }) (h _ _)), (congrArg (fun x : LegSt => { x with deferred := false }) (h _ _))⟩

@[simp] theorem State.pads_keep (s : State) : s.pads.keep = s.keep := by
  unfold State.pads
  rw [State.mapOuts_keep _ _ (fun _ _ => State.padsOf_keep _ _ _), State.darkAbort_keep]
  exact s.mapOuts_keep _ (fun _ _ => rfl)

@[simp] theorem State.closeRecord_keep (s : State) : s.closeRecord.keep = s.keep := by
  unfold State.closeRecord
  split
  · dsimp only; rw [State.alert_keep]; rfl
  · rfl

@[simp] theorem State.closing_keep (s : State) : s.closing.keep = s.keep := by
  unfold State.closing; (repeat' split) <;> simp

@[simp] theorem State.discardAck_keep (s : State) : s.discardAck.keep = s.keep := rfl

@[simp] theorem State.item1_keep (s : State) : s.item1.keep = s.keep := by
  unfold State.item1; dsimp only; split <;> split <;> rfl

@[simp] theorem State.alertPin_keep (s : State) : s.alertPin.keep = s.keep := rfl

@[simp] theorem State.settleAt_keep (s : State) (t : Bool) : (s.settleAt t).keep = s.keep := by
  simp [State.settleAt]

theorem State.alertIf_keep (s : State) (b : Bool) (n : Nat) : (if b then s.alert n else s).keep = s.keep := by
  split <;> simp

@[simp] theorem State.watch_keep (old s : State) : (State.watch old s).keep = s.keep := by
  simp only [State.watch, State.alertPin_keep, State.alertIf_keep]

@[simp] theorem State.clearLocals_keep (s : State) (p : Nat → Nat → LocalCause → Bool) : (s.clearLocals p).keep = s.keep := rfl

end Sys2Proof.Machine
end

