-- ==== Sys2Proof/Laws/Core.lean ====
section
/-!
SUPPORT. The part's time, the MRAM, the queue and the antifuses: every operation of the model that does not write them
leaves them as they were. One lemma per operation, in the order of the files.
-/
set_option linter.unusedSimpArgs false

namespace Sys2Proof.Machine

/-- The time, the MRAM, the queue and the antifuses. -/
def State.core (s : State) : Nat × Mem × List Instr × List (List Bool) := (s.now, s.mram, s.pending, s.img.fuses)

theorem core_mk (now free seq clk pair fab logic sh0 sh1 sp sin sout mot col yard flt farr cp img spook fifos mram pending) :
    State.core ⟨now, free, seq, clk, pair, fab, logic, sh0, sh1, sp, sin, sout, mot, col, yard, flt, farr, cp, img, spook, fifos, mram, pending⟩ =
      (now, mram, pending, img.fuses) := Eq.trans rfl rfl

theorem core_eta (s : State) : (s.now, s.mram, s.pending, s.img.fuses) = s.core := Eq.trans rfl rfl

theorem foldl_core {α : Type} (f : State → α → State) (h : ∀ s a, (f s a).core = s.core) (l : List α) (s : State) :
    (l.foldl f s).core = s.core := foldl_same State.core f h l s

theorem State.modSheet_core (s : State) (k : Nat) (f : Sheet → Sheet) : (State.modSheet s k f).core = s.core := by
  simp only [State.modSheet, foldl_core, apply_ite State.core, ite_self, implies_true, core_mk, core_eta]

theorem State.modCom_core (s : State) (k : Nat) (i : Nat) (f : InstCom → InstCom) : (State.modCom s k i f).core = s.core := by
  simp only [State.modCom, State.modSheet_core, foldl_core, apply_ite State.core, ite_self, implies_true, core_mk, core_eta]

theorem State.modOut_core (s : State) (n : Nat) (f : OutSt → OutSt) : (State.modOut s n f).core = s.core := by
  simp only [State.modOut, foldl_core, apply_ite State.core, ite_self, implies_true, core_mk, core_eta]

theorem State.mapOuts_core (s : State) (f : Nat → OutSt → OutSt) : (State.mapOuts s f).core = s.core := by
  simp only [State.mapOuts, foldl_core, apply_ite State.core, ite_self, implies_true, core_mk, core_eta]

theorem State.modLeg_core (s : State) (n : Nat) (l : Leg) (f : LegSt → LegSt) : (State.modLeg s n l f).core = s.core := by
  simp only [State.modLeg, State.modOut_core, foldl_core, apply_ite State.core, ite_self, implies_true, core_mk, core_eta]

theorem State.modPair_core (s : State) (n : Nat) (f : InPair → InPair) : (State.modPair s n f).core = s.core := by
  simp only [State.modPair, foldl_core, apply_ite State.core, ite_self, implies_true, core_mk, core_eta]

theorem State.mapPairs_core (s : State) (f : Nat → InPair → InPair) : (State.mapPairs s f).core = s.core := by
  simp only [State.mapPairs, foldl_core, apply_ite State.core, ite_self, implies_true, core_mk, core_eta]

theorem State.modTp_core (s : State) (n : Nat) (f : TpLine → TpLine) : (State.modTp s n f).core = s.core := by
  simp only [State.modTp, foldl_core, apply_ite State.core, ite_self, implies_true, core_mk, core_eta]

theorem State.modWheel_core (s : State) (n : Nat) (f : Wheel → Wheel) : (State.modWheel s n f).core = s.core := by
  simp only [State.modWheel, foldl_core, apply_ite State.core, ite_self, implies_true, core_mk, core_eta]

theorem State.modSlot_core (s : State) (n : Nat) (f : Slot → Slot) : (State.modSlot s n f).core = s.core := by
  simp only [State.modSlot, foldl_core, apply_ite State.core, ite_self, implies_true, core_mk, core_eta]

theorem State.modRadio_core (s : State) (n : Nat) (f : RadioPort → RadioPort) : (State.modRadio s n f).core = s.core := by
  simp only [State.modRadio, foldl_core, apply_ite State.core, ite_self, implies_true, core_mk, core_eta]

theorem State.modConn_core (s : State) (n : Nat) (f : Conn → Conn) : (State.modConn s n f).core = s.core := by
  simp only [State.modConn, foldl_core, apply_ite State.core, ite_self, implies_true, core_mk, core_eta]

theorem State.modYport_core (s : State) (n : Nat) (f : YPort → YPort) : (State.modYport s n f).core = s.core := by
  simp only [State.modYport, foldl_core, apply_ite State.core, ite_self, implies_true, core_mk, core_eta]

theorem State.modFifo_core (s : State) (n : Nat) (f : Fifo → Fifo) : (State.modFifo s n f).core = s.core := by
  simp only [State.modFifo, foldl_core, apply_ite State.core, ite_self, implies_true, core_mk, core_eta]

theorem State.fresh_core (s : State) : (State.fresh s).core = s.core := by
  simp only [State.fresh, foldl_core, apply_ite State.core, ite_self, implies_true, core_mk, core_eta]

theorem State.alert_core (s : State) (n : Nat) : (State.alert s n).core = s.core := by
  simp only [State.alert, foldl_core, apply_ite State.core, ite_self, implies_true, core_mk, core_eta]

theorem State.frameBit_core (s : State) (n : Nat) : (State.frameBit s n).core = s.core := by
  simp only [State.frameBit, foldl_core, apply_ite State.core, ite_self, implies_true, core_mk, core_eta]

theorem State.mbxEnd_core (s : State) (result : Nat) : (State.mbxEnd s result).core = s.core := by
  unfold State.mbxEnd; (try dsimp only); (repeat' split) <;> first | with_reducible rfl | simp only [State.alert_core, foldl_core, apply_ite State.core, ite_self, implies_true, core_mk, core_eta]

theorem State.loftStop_core (s : State) : (State.loftStop s).core = s.core := by
  simp only [State.loftStop, State.mbxEnd_core, foldl_core, apply_ite State.core, ite_self, implies_true, core_mk, core_eta]

theorem State.snap_core (s : State) (cause : Nat) (csrc : Nat) : (State.snap s cause csrc).core = s.core := by
  simp only [State.snap, foldl_core, apply_ite State.core, ite_self, implies_true, core_mk, core_eta]

theorem State.dropLaunches_core (s : State) : (State.dropLaunches s).core = s.core := by
  simp only [State.dropLaunches, foldl_core, apply_ite State.core, ite_self, implies_true, core_mk, core_eta]

theorem State.cancelLaunch_core (s : State) (k : Nat) (g : Nat) : (State.cancelLaunch s k g).core = s.core := by
  simp only [State.cancelLaunch, foldl_core, apply_ite State.core, ite_self, implies_true, core_mk, core_eta]

theorem State.trigger_core (s : State) (n : Nat) : (State.trigger s n).core = s.core := by
  simp only [State.trigger, foldl_core, apply_ite State.core, ite_self, implies_true, core_mk, core_eta]

theorem State.holdBark_core (s : State) : (State.holdBark s).core = s.core := by
  simp only [State.holdBark, foldl_core, apply_ite State.core, ite_self, implies_true, core_mk, core_eta]

theorem State.cut_core (s : State) (cause : Nat) (csrc : Nat) : (State.cut s cause csrc).core = s.core := by
  simp only [State.cut, State.snap_core, State.dropLaunches_core, State.trigger_core, State.holdBark_core, foldl_core, apply_ite State.core, ite_self, implies_true, core_mk, core_eta]

theorem State.toSafe_core (s : State) : (State.toSafe s).core = s.core := by
  unfold State.toSafe; (try dsimp only); (repeat' split) <;> first | with_reducible rfl | simp only [State.alert_core, State.dropLaunches_core, foldl_core, apply_ite State.core, ite_self, implies_true, core_mk, core_eta]

theorem State.stop_core (s : State) : (State.stop s).core = s.core := by
  simp only [State.stop, State.trigger_core, State.holdBark_core, State.toSafe_core, foldl_core, apply_ite State.core, ite_self, implies_true, core_mk, core_eta]

theorem State.addLocal_core (s : State) (src : Src) (detail : Nat) (recno : Nat) (e : Nat × Nat) : (State.addLocal s src detail recno e).core = s.core := by
  simp only [State.addLocal, State.modCom_core, State.alert_core, foldl_core, apply_ite State.core, ite_self, implies_true, core_mk, core_eta]

theorem State.cancelAffected_core (s : State) (sc : List (Nat × Nat)) : (State.cancelAffected s sc).core = s.core := by
  simp only [State.cancelAffected, foldl_core, apply_ite State.core, ite_self, implies_true, core_mk, core_eta]

theorem State.localReact_core (s : State) (src : Src) (detail : Nat) (recno : Nat) : (State.localReact s src detail recno).core = s.core := by
  simp only [State.localReact, State.addLocal_core, State.cancelAffected_core, foldl_core, apply_ite State.core, ite_self, implies_true, core_mk, core_eta]

theorem State.clearLocals_core (s : State) (p : Nat → Nat → LocalCause → Bool) : (State.clearLocals s p).core = s.core := by
  simp only [State.clearLocals, foldl_core, apply_ite State.core, ite_self, implies_true, core_mk, core_eta]

theorem State.unsup_core (s : State) : (State.unsup s).core = s.core := by
  simp only [State.unsup, foldl_core, apply_ite State.core, ite_self, implies_true, core_mk, core_eta]

theorem State.openRecord_core (s : State) (b : Nat) (detail : Nat) (cls : Cls) : (State.openRecord s b detail cls).core = s.core := by
  simp only [State.openRecord, State.alert_core, State.unsup_core, foldl_core, apply_ite State.core, ite_self, implies_true, core_mk, core_eta]

theorem State.mergeRecord_core (s : State) (o : OpenRec) (b : Nat) (detail : Nat) (cls : Cls) : (State.mergeRecord s o b detail cls).core = s.core := by
  simp only [State.mergeRecord, foldl_core, apply_ite State.core, ite_self, implies_true, core_mk, core_eta]

theorem State.suppress_core (s : State) (b : Nat) (detail : Nat) : (State.suppress s b detail).core = s.core := by
  simp only [State.suppress, State.alert_core, foldl_core, apply_ite State.core, ite_self, implies_true, core_mk, core_eta]

theorem State.record_core (s : State) (b : Nat) (detail : Nat) (cls : Cls) : (State.record s b detail cls).core = s.core := by
  unfold State.record; (try dsimp only); (repeat' split) <;> first | with_reducible rfl | simp only [State.cut_core, State.openRecord_core, State.mergeRecord_core, State.suppress_core, foldl_core, apply_ite State.core, ite_self, implies_true, core_mk, core_eta]

theorem State.cycleEntry_core (s : State) : (State.cycleEntry s).core = s.core := by
  simp only [State.cycleEntry, foldl_core, apply_ite State.core, ite_self, implies_true, core_mk, core_eta]

theorem State.kramAnew_core (s : State) : (State.kramAnew s).core = s.core := by
  simp only [State.kramAnew, State.fresh_core, foldl_core, apply_ite State.core, ite_self, implies_true, core_mk, core_eta]

theorem State.hostRestore_core (s : State) : (State.hostRestore s).core = s.core := by
  simp only [State.hostRestore, State.cycleEntry_core, State.kramAnew_core, foldl_core, apply_ite State.core, ite_self, implies_true, core_mk, core_eta]

theorem State.farrStop_core (s : State) (src : Src) : (State.farrStop s src).core = s.core := by
  simp only [State.farrStop, State.hostRestore_core, foldl_core, apply_ite State.core, ite_self, implies_true, core_mk, core_eta]

theorem State.raise_core (s : State) (src : Src) (detail : Nat) (rule : Cls) : (State.raise s src detail rule).core = s.core := by
  unfold State.raise; (try dsimp only); (repeat' split) <;> first | with_reducible rfl | simp only [State.trigger_core, State.cut_core, State.stop_core, State.localReact_core, State.record_core, State.farrStop_core, foldl_core, apply_ite State.core, ite_self, implies_true, core_mk, core_eta]

theorem State.err_core (s : State) (src : Src) (detail : Nat) : (State.err s src detail).core = s.core := by
  simp only [State.err, State.raise_core, foldl_core, apply_ite State.core, ite_self, implies_true, core_mk, core_eta]

theorem State.line_core (s : State) (src : Src) (active : Bool) (detail : Nat) : (State.line s src active detail).core = s.core := by
  simp only [State.line, State.err_core, foldl_core, apply_ite State.core, ite_self, implies_true, core_mk, core_eta]

theorem State.holdLine_core (s : State) (src : Src) (active : Bool) : (State.holdLine s src active).core = s.core := by
  simp only [State.holdLine, State.line_core, foldl_core, apply_ite State.core, ite_self, implies_true, core_mk, core_eta]

theorem State.raiseAll_core (s : State) (l : List (Src × Nat)) : (State.raiseAll s l).core = s.core := by
  simp only [State.raiseAll, State.err_core, foldl_core, apply_ite State.core, ite_self, implies_true, core_mk, core_eta]

theorem State.propagate_core (s : State) : (State.propagate s).core = s.core := by
  simp only [State.propagate, foldl_core, apply_ite State.core, ite_self, implies_true, core_mk, core_eta]

theorem State.clockRegs_core (s : State) : (State.clockRegs s).core = s.core := by
  simp only [State.clockRegs, foldl_core, apply_ite State.core, ite_self, implies_true, core_mk, core_eta]

theorem State.sampleFio_core (s : State) : (State.sampleFio s).core = s.core := by
  simp only [State.sampleFio, foldl_core, apply_ite State.core, ite_self, implies_true, core_mk, core_eta]

theorem State.clockTrees_core (s : State) : (State.clockTrees s).core = s.core := by
  simp only [State.clockTrees, foldl_core, apply_ite State.core, ite_self, implies_true, core_mk, core_eta]

theorem State.fioTake_core (s : State) (n : Nat) : (State.fioTake s n).core = s.core := by
  simp only [State.fioTake, foldl_core, apply_ite State.core, ite_self, implies_true, core_mk, core_eta]

theorem State.driveFio_core (s : State) : (State.driveFio s).core = s.core := by
  simp only [State.driveFio, foldl_core, apply_ite State.core, ite_self, implies_true, core_mk, core_eta]

theorem State.fabTick_core (s : State) : (State.fabTick s).core = s.core := by
  simp only [State.fabTick, State.propagate_core, State.clockRegs_core, State.sampleFio_core, State.clockTrees_core, State.fioTake_core, State.driveFio_core, foldl_core, apply_ite State.core, ite_self, implies_true, core_mk, core_eta]

theorem State.openings_core (s : State) : (State.openings s).core = s.core := by
  simp only [State.openings, foldl_core, apply_ite State.core, ite_self, implies_true, core_mk, core_eta]

theorem State.refs_core (s : State) : (State.refs s).core = s.core := by
  simp only [State.refs, foldl_core, apply_ite State.core, ite_self, implies_true, core_mk, core_eta]

theorem State.evalB_core (s : State) (tick : Bool) : (State.evalB s tick).1.core = s.core := by
  unfold State.evalB; (try dsimp only); (repeat' split) <;> first | with_reducible rfl | simp only [State.cancelLaunch_core, foldl_core, apply_ite State.core, ite_self, implies_true, core_mk, core_eta]

theorem State.runB_core (s : State) (tick : Bool) : (State.runB s tick).core = s.core := by
  simp only [State.runB, State.raiseAll_core, State.evalB_core, foldl_core, apply_ite State.core, ite_self, implies_true, core_mk, core_eta]

theorem State.mCommands_core (s : State) : (State.mCommands s).core = s.core := by
  simp only [State.mCommands, State.mapOuts_core, foldl_core, apply_ite State.core, ite_self, implies_true, core_mk, core_eta]

theorem State.monitor_core (s : State) : (State.monitor s).core = s.core := by
  simp only [State.monitor, foldl_core, apply_ite State.core, ite_self, implies_true, core_mk, core_eta]

theorem State.shortLine_core (s : State) : (State.shortLine s).core = s.core := by
  simp only [State.shortLine, State.holdLine_core, foldl_core, apply_ite State.core, ite_self, implies_true, core_mk, core_eta]

theorem State.muzzle_core (s : State) : (State.muzzle s).core = s.core := by
  simp only [State.muzzle, foldl_core, apply_ite State.core, ite_self, implies_true, core_mk, core_eta]

theorem State.darkAbort_core (s : State) : (State.darkAbort s).core = s.core := by
  unfold State.darkAbort; (try dsimp only); (repeat' split) <;> first | with_reducible rfl | simp only [State.modLeg_core, foldl_core, apply_ite State.core, ite_self, implies_true, core_mk, core_eta]

theorem State.pads_core (s : State) : (State.pads s).core = s.core := by
  simp only [State.pads, State.mapOuts_core, State.darkAbort_core, foldl_core, apply_ite State.core, ite_self, implies_true, core_mk, core_eta]

theorem State.closeRecord_core (s : State) : (State.closeRecord s).core = s.core := by
  unfold State.closeRecord; (try dsimp only); (repeat' split) <;> first | with_reducible rfl | simp only [State.alert_core, foldl_core, apply_ite State.core, ite_self, implies_true, core_mk, core_eta]

theorem State.closeStop_core (s : State) : (State.closeStop s).core = s.core := by
  unfold State.closeStop; (try dsimp only); (repeat' split) <;> first | with_reducible rfl | simp only [State.stop_core, State.closeRecord_core, foldl_core, apply_ite State.core, ite_self, implies_true, core_mk, core_eta]

theorem State.closing_core (s : State) : (State.closing s).core = s.core := by
  unfold State.closing; (try dsimp only); (repeat' split) <;> first | with_reducible rfl | simp only [State.stop_core, State.closeRecord_core, foldl_core, apply_ite State.core, ite_self, implies_true, core_mk, core_eta]

theorem State.discardAck_core (s : State) : (State.discardAck s).core = s.core := by
  simp only [State.discardAck, foldl_core, apply_ite State.core, ite_self, implies_true, core_mk, core_eta]

theorem State.item1_core (s : State) : (State.item1 s).core = s.core := by
  simp only [State.item1, State.discardAck_core, foldl_core, apply_ite State.core, ite_self, implies_true, core_mk, core_eta]

theorem State.alertPin_core (s : State) : (State.alertPin s).core = s.core := by
  simp only [State.alertPin, foldl_core, apply_ite State.core, ite_self, implies_true, core_mk, core_eta]

theorem State.settleAt_core (s : State) (tick : Bool) : (State.settleAt s tick).core = s.core := by
  simp only [State.settleAt, State.openings_core, State.refs_core, State.runB_core, State.mCommands_core, State.monitor_core, State.shortLine_core, State.muzzle_core, State.pads_core, State.closing_core, State.item1_core, foldl_core, apply_ite State.core, ite_self, implies_true, core_mk, core_eta]

theorem State.settle_core (s : State) : (State.settle s).core = s.core := by
  simp only [State.settle, State.settleAt_core, foldl_core, apply_ite State.core, ite_self, implies_true, core_mk, core_eta]

theorem State.watch_core (old : State) (s : State) : (State.watch old s).core = s.core := by
  simp only [State.watch, State.alert_core, State.cut_core, State.alertPin_core, foldl_core, apply_ite State.core, ite_self, implies_true, core_mk, core_eta]

theorem whenLive_core (s : State) (f : State → State) (hf : ∀ x0, (f x0).core = x0.core) : (whenLive s f).core = s.core := by
  simp only [whenLive, foldl_core, apply_ite State.core, ite_self, implies_true, core_mk, core_eta, *]

theorem State.pinsOf_core (s : State) (r : State) : (State.pinsOf s r).core = r.core := by
  simp only [State.pinsOf, foldl_core, apply_ite State.core, ite_self, implies_true, core_mk, core_eta]

theorem State.islandsReset_core (s : State) : s.islandsReset.core = s.core := by
  unfold State.islandsReset
  rw [State.pinsOf_core, core_mk]
  rfl

theorem State.warmReset_core (s : State) : s.warmReset.core = s.core := by
  unfold State.warmReset
  (try dsimp only)
  rw [core_mk]
  exact State.islandsReset_core s

theorem State.powerReset_core (s : State) : s.powerReset.core = s.core := by
  unfold State.powerReset
  rw [State.pinsOf_core, core_mk]
  rfl

theorem State.collStart_core (s : State) : (State.collStart s).core = s.core := by
  simp only [State.collStart, foldl_core, apply_ite State.core, ite_self, implies_true, core_mk, core_eta]

theorem State.releaseIslands_core (s : State) : (State.releaseIslands s).core = s.core := by
  simp only [State.releaseIslands, foldl_core, apply_ite State.core, ite_self, implies_true, core_mk, core_eta]

theorem State.boot_core (s : State) : (State.boot s).core = s.core := by
  simp only [State.boot, State.line_core, State.collStart_core, foldl_core, apply_ite State.core, ite_self, implies_true, core_mk, core_eta]

theorem State.seqCut_core (s : State) (cause : Nat) (ch : Nat) : (State.seqCut s cause ch).core = s.core := by
  simp only [State.seqCut, State.cut_core, State.err_core, foldl_core, apply_ite State.core, ite_self, implies_true, core_mk, core_eta]

theorem whenAon_core (s : State) (f : State → State) (hf : ∀ x0, (f x0).core = x0.core) : (whenAon s f).core = s.core := by
  simp only [whenAon, foldl_core, apply_ite State.core, ite_self, implies_true, core_mk, core_eta, *]

theorem State.powerUp_core (s : State) : (State.powerUp s).core = s.core := by
  simp only [State.powerUp, foldl_core, apply_ite State.core, ite_self, implies_true, core_mk, core_eta]

theorem State.seqWait_core (s : State) (w : SeqWait) (ch : Nat) : (State.seqWait s w ch).core = s.core := by
  simp only [State.seqWait, foldl_core, apply_ite State.core, ite_self, implies_true, core_mk, core_eta]

theorem State.enable_core (s : State) (ch : Nat) : (State.enable s ch).core = s.core := by
  simp only [State.enable, State.seqCut_core, State.seqWait_core, foldl_core, apply_ite State.core, ite_self, implies_true, core_mk, core_eta]

theorem State.running_core (s : State) (ch : Nat) : (State.running s ch).core = s.core := by
  simp only [State.running, foldl_core, apply_ite State.core, ite_self, implies_true, core_mk, core_eta]

theorem State.nextUp_core : ∀ (l : List Nat) (s : State), (s.nextUp l).core = s.core
  | [], s => by simp only [State.nextUp, core_mk, core_eta]
  | ch :: rest, s => by
    unfold State.nextUp
    (try dsimp only)
    split
    · split
      · rw [State.nextUp_core rest]
        simp only [State.running_core, core_mk, core_eta]
      · simp only [State.seqWait_core, core_mk, core_eta]
    · simp only [State.enable_core, core_mk, core_eta]

theorem State.startUp_core (s : State) : (State.startUp s).core = s.core := by
  simp only [State.startUp, State.nextUp_core, foldl_core, apply_ite State.core, ite_self, implies_true, core_mk, core_eta]

theorem State.startBoard_core (s : State) : (State.startBoard s).core = s.core := by
  simp only [State.startBoard, State.nextUp_core, foldl_core, apply_ite State.core, ite_self, implies_true, core_mk, core_eta]

theorem State.coreDone_core (s : State) : (State.coreDone s).core = s.core := by
  simp only [State.coreDone, State.snap_core, State.boot_core, foldl_core, apply_ite State.core, ite_self, implies_true, core_mk, core_eta]

theorem State.boardEnd_core (s : State) : (State.boardEnd s).core = s.core := by
  simp only [State.boardEnd, State.snap_core, State.running_core, foldl_core, apply_ite State.core, ite_self, implies_true, core_mk, core_eta]

theorem State.pgRise_core (s : State) (ch : Nat) : (State.pgRise s ch).core = s.core := by
  simp only [State.pgRise, State.seqCut_core, State.seqWait_core, State.running_core, State.nextUp_core, foldl_core, apply_ite State.core, ite_self, implies_true, core_mk, core_eta]

theorem State.settled_core (s : State) (ch : Nat) : (State.settled s ch).core = s.core := by
  simp only [State.settled, State.nextUp_core, foldl_core, apply_ite State.core, ite_self, implies_true, core_mk, core_eta]

theorem State.downEnd_core (s : State) : s.downEnd.core = s.core := by
  unfold State.downEnd
  simp only [State.snap_core, State.islandsReset_core, core_mk, core_eta]

theorem State.nextDown_core : ∀ (l : List Nat) (s : State), (s.nextDown l).core = s.core
  | [], s => State.downEnd_core s
  | ch :: rest, s => by
    unfold State.nextDown
    (try dsimp only)
    split
    · simp only [State.seqWait_core, core_mk, core_eta]
    · rw [State.nextDown_core rest]
      simp only [core_mk, core_eta]

theorem State.startDown_core (s : State) : s.startDown.core = s.core := by
  unfold State.startDown
  (try dsimp only)
  rw [State.nextDown_core]
  simp only [State.snap_core, core_mk, core_eta]

theorem State.pgFall_core (s : State) (ch : Nat) : (State.pgFall s ch).core = s.core := by
  unfold State.pgFall; (try dsimp only); (repeat' split) <;> first | with_reducible rfl | simp only [State.nextDown_core, State.seqCut_core, State.err_core, State.snap_core, State.seqWait_core, foldl_core, apply_ite State.core, ite_self, implies_true, core_mk, core_eta]

theorem State.porRelease_core (s : State) : (State.porRelease s).core = s.core := by
  simp only [State.porRelease, State.snap_core, State.powerUp_core, foldl_core, apply_ite State.core, ite_self, implies_true, core_mk, core_eta]

theorem State.upSequence_core (s : State) : (State.upSequence s).core = s.core := by
  simp only [State.upSequence, State.startUp_core, State.coreDone_core, foldl_core, apply_ite State.core, ite_self, implies_true, core_mk, core_eta]

theorem State.pgLate_core (s : State) (ch : Nat) : (State.pgLate s ch).core = s.core := by
  simp only [State.pgLate, State.seqCut_core, foldl_core, apply_ite State.core, ite_self, implies_true, core_mk, core_eta]

theorem State.shdnWrite_core (s : State) (value : Word) : (State.shdnWrite s value).core = s.core := by
  unfold State.shdnWrite; (try dsimp only); (repeat' split) <;> first | with_reducible rfl | simp only [State.startDown_core, State.alert_core, State.frameBit_core, foldl_core, apply_ite State.core, ite_self, implies_true, core_mk, core_eta]

theorem State.dscLate_core (s : State) (ch : Nat) : (State.dscLate s ch).core = s.core := by
  unfold State.dscLate; (try dsimp only); (repeat' split) <;> first | with_reducible rfl | simp only [State.nextDown_core, State.err_core, State.snap_core, foldl_core, apply_ite State.core, ite_self, implies_true, core_mk, core_eta]

theorem State.warn_core (s : State) : (State.warn s).core = s.core := by
  simp only [State.warn, State.snap_core, State.err_core, State.holdLine_core, foldl_core, apply_ite State.core, ite_self, implies_true, core_mk, core_eta]

theorem State.vinBack_core (s : State) : (State.vinBack s).core = s.core := by
  simp only [State.vinBack, State.snap_core, State.line_core, foldl_core, apply_ite State.core, ite_self, implies_true, core_mk, core_eta]

theorem State.resetLow_core (s : State) : (State.resetLow s).core = s.core := by
  unfold State.resetLow; (try dsimp only); (repeat' split) <;> first | with_reducible rfl | simp only [State.warmReset_core, foldl_core, apply_ite State.core, ite_self, implies_true, core_mk, core_eta]

theorem State.resetHigh_core (s : State) : (State.resetHigh s).core = s.core := by
  simp only [State.resetHigh, State.boot_core, State.powerUp_core, State.startUp_core, State.coreDone_core, foldl_core, apply_ite State.core, ite_self, implies_true, core_mk, core_eta]

theorem State.yardTicks_core (s : State) : (State.yardTicks s).core = s.core := by
  simp only [State.yardTicks, foldl_core, apply_ite State.core, ite_self, implies_true, core_mk, core_eta]

theorem State.sampleVin_core (s : State) (uv : Nat) : (State.sampleVin s uv).core = s.core := by
  simp only [State.sampleVin, State.line_core, foldl_core, apply_ite State.core, ite_self, implies_true, core_mk, core_eta]

theorem State.lkRefused_core (s : State) (addr : Nat) : (State.lkRefused s addr).core = s.core := by
  simp only [State.lkRefused, State.alert_core, State.frameBit_core, State.err_core, foldl_core, apply_ite State.core, ite_self, implies_true, core_mk, core_eta]

theorem State.cmp_core (s : State) (group : Nat) (bitIn : Nat) (cause : Nat) : (State.cmp s group bitIn cause).core = s.core := by
  simp only [State.cmp, State.err_core, foldl_core, apply_ite State.core, ite_self, implies_true, core_mk, core_eta]

theorem State.resetInst_core (s : State) (k : Nat) (i : Nat) : (State.resetInst s k i).core = s.core := by
  simp only [State.resetInst, State.modSheet_core, State.modCom_core, foldl_core, apply_ite State.core, ite_self, implies_true, core_mk, core_eta]

theorem State.ecc_core (s : State) (e : EccEvent) : (State.ecc s e).core = s.core := by
  unfold State.ecc; (try dsimp only); (repeat' split) <;> first | with_reducible rfl | simp only [State.fresh_core, State.stop_core, State.record_core, State.raise_core, State.err_core, State.resetInst_core, foldl_core, apply_ite State.core, ite_self, implies_true, core_mk, core_eta]

theorem State.eccAll_core (s : State) (l : List EccEvent) : (State.eccAll s l).core = s.core := by
  simp only [State.eccAll, State.ecc_core, foldl_core, apply_ite State.core, ite_self, implies_true, core_mk, core_eta]

theorem State.rotDue_core (s : State) : (State.rotDue s).core = s.core := by
  unfold State.rotDue; (try dsimp only); (repeat' split) <;> first | with_reducible rfl | simp only [foldl_core, apply_ite State.core, ite_self, implies_true, core_mk, core_eta]

theorem State.rotctlWrite_core (s : State) (v : Word) : (State.rotctlWrite s v).core = s.core := by
  simp only [State.rotctlWrite, State.lkRefused_core, foldl_core, apply_ite State.core, ite_self, implies_true, core_mk, core_eta]

theorem State.soloRead_core (s : State) : (State.soloRead s).core = s.core := by
  simp only [State.soloRead, foldl_core, apply_ite State.core, ite_self, implies_true, core_mk, core_eta]

theorem State.split_core (s : State) : (State.split s).core = s.core := by
  simp only [State.split, State.soloRead_core, foldl_core, apply_ite State.core, ite_self, implies_true, core_mk, core_eta]

theorem State.rotLate_core (s : State) : (State.rotLate s).core = s.core := by
  unfold State.rotLate; (try dsimp only); (repeat' split) <;> first | with_reducible rfl | simp only [foldl_core, apply_ite State.core, ite_self, implies_true, core_mk, core_eta]

theorem State.coreOut_core (s : State) (res : Nat) (code : Nat) : (State.coreOut s res code).core = s.core := by
  simp only [State.coreOut, State.err_core, State.line_core, foldl_core, apply_ite State.core, ite_self, implies_true, core_mk, core_eta]

theorem State.soloLate_core (s : State) : (State.soloLate s).core = s.core := by
  simp only [State.soloLate, State.coreOut_core, foldl_core, apply_ite State.core, ite_self, implies_true, core_mk, core_eta]

theorem State.freeRegs_core (s : State) (same : Bool) : (State.freeRegs s same).core = s.core := by
  simp only [State.freeRegs, State.fresh_core, foldl_core, apply_ite State.core, ite_self, implies_true, core_mk, core_eta]

theorem State.haltNow_core (s : State) (mode : DbgMode) (digestDiffer : Bool) : (State.haltNow s mode digestDiffer).core = s.core := by
  simp only [State.haltNow, State.cut_core, State.kramAnew_core, State.holdLine_core, State.cmp_core, State.split_core, State.freeRegs_core, foldl_core, apply_ite State.core, ite_self, implies_true, core_mk, core_eta]

theorem State.haltRequest_core (s : State) (mode : DbgMode) (code : Nat) (digestDiffer : Bool) : (State.haltRequest s mode code digestDiffer).core = s.core := by
  simp only [State.haltRequest, State.cut_core, State.err_core, State.haltNow_core, foldl_core, apply_ite State.core, ite_self, implies_true, core_mk, core_eta]

theorem State.haltPending_core (s : State) : (State.haltPending s).core = s.core := by
  simp only [State.haltPending, State.haltNow_core, foldl_core, apply_ite State.core, ite_self, implies_true, core_mk, core_eta]

theorem State.rejoin_core (s : State) : (State.rejoin s).core = s.core := by
  simp only [State.rejoin, State.cycleEntry_core, State.haltPending_core, foldl_core, apply_ite State.core, ite_self, implies_true, core_mk, core_eta]

theorem State.rejoinDue_core (s : State) : (State.rejoinDue s).core = s.core := by
  simp only [State.rejoinDue, State.coreOut_core, State.rejoin_core, foldl_core, apply_ite State.core, ite_self, implies_true, core_mk, core_eta]

theorem State.tapRefused_core (s : State) : (State.tapRefused s).core = s.core := by
  simp only [State.tapRefused, foldl_core, apply_ite State.core, ite_self, implies_true, core_mk, core_eta]

theorem State.setTap_core (s : State) (i : TapSel) : (State.setTap s i).core = s.core := by
  simp only [State.setTap, foldl_core, apply_ite State.core, ite_self, implies_true, core_mk, core_eta]

theorem State.takeScan_core (s : State) : (State.takeScan s).core = s.core := by
  simp only [State.takeScan, State.fresh_core, foldl_core, apply_ite State.core, ite_self, implies_true, core_mk, core_eta]

theorem State.preload_core (s : State) (cells : Cells) : (State.preload s cells).core = s.core := by
  simp only [State.preload, State.tapRefused_core, State.setTap_core, State.takeScan_core, foldl_core, apply_ite State.core, ite_self, implies_true, core_mk, core_eta]

theorem State.extestSel_core (s : State) (cells : Cells) (digestDiffer : Bool) : (State.extestSel s cells digestDiffer).core = s.core := by
  simp only [State.extestSel, State.haltRequest_core, State.tapRefused_core, State.setTap_core, State.takeScan_core, foldl_core, apply_ite State.core, ite_self, implies_true, core_mk, core_eta]

theorem State.pairHaltSel_core (s : State) (digestDiffer : Bool) : (State.pairHaltSel s digestDiffer).core = s.core := by
  simp only [State.pairHaltSel, State.haltRequest_core, State.tapRefused_core, State.setTap_core, foldl_core, apply_ite State.core, ite_self, implies_true, core_mk, core_eta]

theorem State.leadInspectSel_core (s : State) : (State.leadInspectSel s).core = s.core := by
  simp only [State.leadInspectSel, State.haltRequest_core, State.tapRefused_core, State.setTap_core, foldl_core, apply_ite State.core, ite_self, implies_true, core_mk, core_eta]

theorem State.leaveHalt_core (s : State) : (State.leaveHalt s).core = s.core := by
  simp only [State.leaveHalt, State.holdLine_core, foldl_core, apply_ite State.core, ite_self, implies_true, core_mk, core_eta]

theorem State.cycleLate_core (s : State) (always : Bool) : (State.cycleLate s always).core = s.core := by
  simp only [State.cycleLate, foldl_core, apply_ite State.core, ite_self, implies_true, core_mk, core_eta]

theorem State.resyncNow_core (s : State) : (State.resyncNow s).core = s.core := by
  simp only [State.resyncNow, State.err_core, State.leaveHalt_core, State.cycleLate_core, foldl_core, apply_ite State.core, ite_self, implies_true, core_mk, core_eta]

theorem State.resyncSel_core (s : State) : (State.resyncSel s).core = s.core := by
  simp only [State.resyncSel, State.tapRefused_core, State.setTap_core, State.resyncNow_core, foldl_core, apply_ite State.core, ite_self, implies_true, core_mk, core_eta]

theorem State.answer_core (s : State) (result : Nat) (data : BitVec 32) : (State.answer s result data).core = s.core := by
  simp only [State.answer, foldl_core, apply_ite State.core, ite_self, implies_true, core_mk, core_eta]

theorem State.dbg_core (s : State) (needsHalt : Bool) (f : State → State) (hf : ∀ x0, (f x0).core = x0.core) : (State.dbg s needsHalt f).core = s.core := by
  simp only [State.dbg, whenLive_core, State.tapRefused_core, State.setTap_core, State.answer_core, foldl_core, apply_ite State.core, ite_self, implies_true, core_mk, core_eta, *]

theorem State.dbgRead_core (s : State) (a : Nat) : (State.dbgRead s a).core = s.core := by
  simp only [State.dbgRead, State.fresh_core, State.answer_core, foldl_core, apply_ite State.core, ite_self, implies_true, core_mk, core_eta]

theorem State.journaled_core (s : State) (e : Journal) (direct : Pair → Pair) : (State.journaled s e direct).core = s.core := by
  simp only [State.journaled, foldl_core, apply_ite State.core, ite_self, implies_true, core_mk, core_eta]

theorem State.dbgWrite_core (s : State) (a : Nat) (v : BitVec 32) : (State.dbgWrite s a v).core = s.core := by
  simp only [State.dbgWrite, State.answer_core, State.dbg_core, State.journaled_core, foldl_core, apply_ite State.core, ite_self, implies_true, core_mk, core_eta]

theorem State.dbgWriteReg_core (s : State) (r : Nat) (core : Nat) (v : BitVec 32) : (State.dbgWriteReg s r core v).core = s.core := by
  simp only [State.dbgWriteReg, State.split_core, State.answer_core, State.dbg_core, State.journaled_core, foldl_core, apply_ite State.core, ite_self, implies_true, core_mk, core_eta]

theorem State.pairStep_core (s : State) (mismatch : Option (Fin 8 × Fin 70)) : (State.pairStep s mismatch).core = s.core := by
  unfold State.pairStep; (try dsimp only); (repeat' split) <;> first | with_reducible rfl | simp only [State.fresh_core, State.cmp_core, foldl_core, apply_ite State.core, ite_self, implies_true, core_mk, core_eta]

theorem State.dbgStep_core (s : State) (count : Nat) (mismatch : Option (Fin 8 × Fin 70)) : (State.dbgStep s count mismatch).core = s.core := by
  simp only [State.dbgStep, State.fresh_core, State.split_core, State.answer_core, State.dbg_core, State.journaled_core, State.pairStep_core, foldl_core, apply_ite State.core, ite_self, implies_true, core_mk, core_eta]

theorem State.goOn_core (s : State) : (State.goOn s).core = s.core := by
  simp only [State.goOn, State.leaveHalt_core, State.cycleLate_core, State.dbg_core, foldl_core, apply_ite State.core, ite_self, implies_true, core_mk, core_eta]

theorem State.replay_core (s : State) (good : List Journal) : (State.replay s good).core = s.core := by
  simp only [State.replay, foldl_core, apply_ite State.core, ite_self, implies_true, core_mk, core_eta]

theorem State.dbgResume_core (s : State) (replayBad : Option Nat) (digestDiffer : Bool) : (State.dbgResume s replayBad digestDiffer).core = s.core := by
  simp only [State.dbgResume, State.cmp_core, State.split_core, State.resyncNow_core, State.answer_core, State.dbg_core, State.goOn_core, State.replay_core, foldl_core, apply_ite State.core, ite_self, implies_true, core_mk, core_eta]

theorem State.lockPll_core (s : State) : (State.lockPll s).core = s.core := by
  simp only [State.lockPll, State.boot_core, foldl_core, apply_ite State.core, ite_self, implies_true, core_mk, core_eta]

theorem State.clkMon_core (s : State) (idx : Nat) (edge : Bool) (dev : Bool) : (State.clkMon s idx edge dev).core = s.core := by
  simp only [State.clkMon, State.err_core, foldl_core, apply_ite State.core, ite_self, implies_true, core_mk, core_eta]

theorem State.clkBad_core (s : State) (idx : Nat) (edge : Bool) (dev : Bool) : (State.clkBad s idx edge dev).core = s.core := by
  simp only [State.clkBad, State.line_core, State.clkMon_core, foldl_core, apply_ite State.core, ite_self, implies_true, core_mk, core_eta]

theorem State.clkGood_core (s : State) (idx : Nat) : (State.clkGood s idx).core = s.core := by
  simp only [State.clkGood, State.line_core, State.clkMon_core, foldl_core, apply_ite State.core, ite_self, implies_true, core_mk, core_eta]

theorem State.crystalLate_core (s : State) : (State.crystalLate s).core = s.core := by
  simp only [State.crystalLate, State.boot_core, State.clkBad_core, foldl_core, apply_ite State.core, ite_self, implies_true, core_mk, core_eta]

theorem State.calibrate_core (s : State) (khz : Nat) : (State.calibrate s khz).core = s.core := by
  simp only [State.calibrate, State.boot_core, foldl_core, apply_ite State.core, ite_self, implies_true, core_mk, core_eta]

theorem State.clkWindow_core (s : State) (idx : Nat) (dev : Int) : (State.clkWindow s idx dev).core = s.core := by
  simp only [State.clkWindow, State.fresh_core, State.clkBad_core, State.clkGood_core, foldl_core, apply_ite State.core, ite_self, implies_true, core_mk, core_eta]

theorem State.rcStopped_core (s : State) : (State.rcStopped s).core = s.core := by
  simp only [State.rcStopped, State.holdBark_core, State.toSafe_core, foldl_core, apply_ite State.core, ite_self, implies_true, core_mk, core_eta]

theorem State.handshakeLate_core (s : State) (island : Nat) (waiter : Nat) : (State.handshakeLate s island waiter).core = s.core := by
  simp only [State.handshakeLate, State.clkMon_core, foldl_core, apply_ite State.core, ite_self, implies_true, core_mk, core_eta]

theorem State.readTemps_core (s : State) (l : List Int) : (State.readTemps s l).core = s.core := by
  unfold State.readTemps; (try dsimp only); (repeat' split) <;> first | with_reducible rfl | simp only [State.line_core, foldl_core, apply_ite State.core, ite_self, implies_true, core_mk, core_eta]

theorem State.groomReset_core (s : State) : (State.groomReset s).core = s.core := by
  simp only [State.groomReset, State.loftStop_core, State.err_core, foldl_core, apply_ite State.core, ite_self, implies_true, core_mk, core_eta]

theorem State.fifoPush_core (s : State) (n : Nat) (d : Datum) : (State.fifoPush s n d).core = s.core := by
  simp only [State.fifoPush, State.modFifo_core, foldl_core, apply_ite State.core, ite_self, implies_true, core_mk, core_eta]

theorem State.fifoFree_core (s : State) (n : Nat) : (State.fifoFree s n).core = s.core := by
  simp only [State.fifoFree, State.modFifo_core, foldl_core, apply_ite State.core, ite_self, implies_true, core_mk, core_eta]

theorem State.fifoTake_core (s : State) (n : Nat) : (State.fifoTake s n).core = s.core := by
  simp only [State.fifoTake, State.modFifo_core, foldl_core, apply_ite State.core, ite_self, implies_true, core_mk, core_eta]

theorem State.mbxUnknown_core (s : State) : (State.mbxUnknown s).core = s.core := by
  unfold State.mbxUnknown; (try dsimp only); (repeat' split) <;> first | with_reducible rfl | simp only [State.mbxEnd_core, State.fifoTake_core, foldl_core, apply_ite State.core, ite_self, implies_true, core_mk, core_eta]

theorem State.retick_core (s : State) : (State.retick s).core = s.core := by
  simp only [State.retick, foldl_core, apply_ite State.core, ite_self, implies_true, core_mk, core_eta]

theorem State.spooked_core (s : State) (p : Nat) (whistle : Bool) (item : TxItem) : (State.spooked s p whistle item).1.core = s.core := by
  unfold State.spooked; (try dsimp only); (repeat' split) <;> first | with_reducible rfl | simp only [State.fresh_core, foldl_core, apply_ite State.core, ite_self, implies_true, core_mk, core_eta]

theorem State.transmit_core (s : State) (p : Nat) (whistle : Bool) (item : TxItem) : (State.transmit s p whistle item).core = s.core := by
  simp only [State.transmit, State.modYport_core, State.spooked_core, foldl_core, apply_ite State.core, ite_self, implies_true, core_mk, core_eta]

theorem State.takeLine_core (s : State) (p : Nat) (seqd : Bool) (l : List Byte) : (State.takeLine s p seqd l).core = s.core := by
  simp only [State.takeLine, State.modYport_core, foldl_core, apply_ite State.core, ite_self, implies_true, core_mk, core_eta]

theorem State.sendSeq_core (s : State) (p : Nat) (l : List Byte) : (State.sendSeq s p l).core = s.core := by
  simp only [State.sendSeq, State.modYport_core, State.transmit_core, State.takeLine_core, foldl_core, apply_ite State.core, ite_self, implies_true, core_mk, core_eta]

theorem State.resend_core (s : State) (p : Nat) (attempt : Bool) (out : List Byte) : (State.resend s p attempt out).core = s.core := by
  simp only [State.resend, State.modYport_core, State.transmit_core, State.takeLine_core, foldl_core, apply_ite State.core, ite_self, implies_true, core_mk, core_eta]

theorem State.sendTime_core (s : State) (p : Nat) (l : List Byte) : (State.sendTime s p l).core = s.core := by
  simp only [State.sendTime, State.transmit_core, State.takeLine_core, foldl_core, apply_ite State.core, ite_self, implies_true, core_mk, core_eta]

theorem State.abortLine_core (s : State) (p : Nat) : (State.abortLine s p).core = s.core := by
  simp only [State.abortLine, State.modYport_core, foldl_core, apply_ite State.core, ite_self, implies_true, core_mk, core_eta]

theorem State.nextFrame_core (s : State) (p : Nat) : (State.nextFrame s p).core = s.core := by
  unfold State.nextFrame; (try dsimp only); (repeat' split) <;> first | with_reducible rfl | simp only [State.modYport_core, State.transmit_core, State.takeLine_core, State.sendSeq_core, State.resend_core, State.sendTime_core, foldl_core, apply_ite State.core, ite_self, implies_true, core_mk, core_eta]

theorem State.linkSend_core (s : State) (p : Nat) : (State.linkSend s p).core = s.core := by
  unfold State.linkSend; (try dsimp only); (repeat' split) <;> first | with_reducible rfl | simp only [State.modYport_core, State.transmit_core, State.abortLine_core, State.nextFrame_core, foldl_core, apply_ite State.core, ite_self, implies_true, core_mk, core_eta]

theorem State.portDown_core (s : State) (p : Nat) : (State.portDown s p).core = s.core := by
  simp only [State.portDown, State.modYport_core, State.err_core, foldl_core, apply_ite State.core, ite_self, implies_true, core_mk, core_eta]

theorem State.ackSet_core (s : State) (p : Nat) (seq : Byte) (compl : Byte) : (State.ackSet s p seq compl).core = s.core := by
  simp only [State.ackSet, State.modYport_core, State.err_core, foldl_core, apply_ite State.core, ite_self, implies_true, core_mk, core_eta]

theorem State.ackLate_core (s : State) (p : Nat) : (State.ackLate s p).core = s.core := by
  unfold State.ackLate; (try dsimp only); (repeat' split) <;> first | with_reducible rfl | simp only [State.modYport_core, State.portDown_core, foldl_core, apply_ite State.core, ite_self, implies_true, core_mk, core_eta]

theorem State.queue_core (s : State) (arr : Option Nat) (f : LinkFrame) : (State.queue s arr f).core = s.core := by
  simp only [State.queue, State.modYport_core, foldl_core, apply_ite State.core, ite_self, implies_true, core_mk, core_eta]

theorem State.drainTx_core (s : State) (n : Nat) : (State.drainTx s n).core = s.core := by
  unfold State.drainTx
  refine (foldl_core _ (fun s d => ?_) _ _).trans (State.fifoTake_core _ _)
  (try dsimp only)
  (repeat' split) <;> first | rfl | simp only [State.modYport_core, State.queue_core, foldl_core, apply_ite State.core, ite_self, implies_true, core_mk, core_eta]

theorem State.sendOwn_core (s : State) (n : Nat) (f : LinkFrame) : (State.sendOwn s n f).core = s.core := by
  simp only [State.sendOwn, State.fifoPush_core, State.drainTx_core, foldl_core, apply_ite State.core, ite_self, implies_true, core_mk, core_eta]

theorem State.mgmtView_core (s : State) (src : Nat) : (State.mgmtView s src).core = s.core := by
  simp only [State.mgmtView, State.fresh_core, foldl_core, apply_ite State.core, ite_self, implies_true, core_mk, core_eta]

theorem State.drainMgmt_core (s : State) : (State.drainMgmt s).core = s.core := by
  unfold State.drainMgmt
  split
  · refine (foldl_core _ (fun s d => ?_) _ _).trans (State.fifoTake_core _ _)
    (try dsimp only)
    (repeat' split) <;> first | rfl | simp only [State.mgmtView_core, State.alert_core, foldl_core, apply_ite State.core, ite_self, implies_true, core_mk, core_eta]
  · rfl

theorem State.receive_core (s : State) (p : Nat) (l : List Byte) (f : State → LinkFrame → State) (hf : ∀ x0 x1, (f x0 x1).core = x0.core) : (State.receive s p l f).core = s.core := by
  unfold State.receive; (try dsimp only); (repeat' split) <;> first | with_reducible rfl | simp only [State.modYport_core, State.err_core, foldl_core, apply_ite State.core, ite_self, implies_true, core_mk, core_eta, *]

theorem State.sequenced_core (s : State) (p : Nat) (fr : LinkFrame) (f : State → State) (hf : ∀ x0, (f x0).core = x0.core) : (State.sequenced s p fr f).core = s.core := by
  simp only [State.sequenced, State.modYport_core, foldl_core, apply_ite State.core, ite_self, implies_true, core_mk, core_eta, *]

theorem State.modConnCh_core (s : State) (i : Nat) (isA : Bool) (f : ConnCh → ConnCh) : (State.modConnCh s i isA f).core = s.core := by
  simp only [State.modConnCh, State.modConn_core, foldl_core, apply_ite State.core, ite_self, implies_true, core_mk, core_eta]

theorem State.yardRemotes_core (s : State) (i : Nat) : (State.yardRemotes s i).core = s.core := by
  simp only [State.yardRemotes, foldl_core, apply_ite State.core, ite_self, implies_true, core_mk, core_eta]

theorem State.connEnter_core (s : State) (i : Nat) (isA : Bool) (d : DState) : (State.connEnter s i isA d).core = s.core := by
  unfold State.connEnter; (try dsimp only); (repeat' split) <;> first | with_reducible rfl | simp only [State.modConn_core, State.raise_core, State.err_core, State.split_core, State.modConnCh_core, State.yardRemotes_core, foldl_core, apply_ite State.core, ite_self, implies_true, core_mk, core_eta]

theorem State.connPre_core (s : State) (i : Nat) (isA : Bool) (bcast : Bool) (l : List Byte) (arr : Nat) : (State.connPre s i isA bcast l arr).core = s.core := by
  simp only [State.connPre, State.modConn_core, State.err_core, State.modConnCh_core, State.connEnter_core, foldl_core, apply_ite State.core, ite_self, implies_true, core_mk, core_eta]

theorem State.connTake_core (s : State) (i : Nat) (isA : Bool) (f : SFrame) : (State.connTake s i isA f).core = s.core := by
  simp only [State.connTake, State.err_core, State.modConnCh_core, State.yardRemotes_core, State.connEnter_core, foldl_core, apply_ite State.core, ite_self, implies_true, core_mk, core_eta]

theorem State.connDue_core (s : State) (i : Nat) (isA : Bool) : (State.connDue s i isA).core = s.core := by
  simp only [State.connDue, State.modConnCh_core, State.connTake_core, foldl_core, apply_ite State.core, ite_self, implies_true, core_mk, core_eta]

theorem State.deliverSafety_core (s : State) (p : Nat) (fr : LinkFrame) : (State.deliverSafety s p fr).core = s.core := by
  unfold State.deliverSafety; (try dsimp only); (repeat' split) <;> first | with_reducible rfl | simp only [State.fifoPush_core, State.connPre_core, State.connDue_core, foldl_core, apply_ite State.core, ite_self, implies_true, core_mk, core_eta]

theorem State.safetyData_core (s : State) (p : Nat) (l : List Byte) : (State.safetyData s p l).core = s.core := by
  simp only [State.safetyData, State.queue_core, State.receive_core, State.sequenced_core, State.deliverSafety_core, foldl_core, apply_ite State.core, ite_self, implies_true, core_mk, core_eta]

theorem State.openIn_core (s : State) (l : List Byte) : (State.openIn s l).core = s.core := by
  unfold State.openIn; (try dsimp only); (repeat' split) <;> first | with_reducible rfl | simp only [State.modConn_core, foldl_core, apply_ite State.core, ite_self, implies_true, core_mk, core_eta]

theorem State.safetyOpen_core (s : State) (p : Nat) (l : List Byte) : (State.safetyOpen s p l).core = s.core := by
  simp only [State.safetyOpen, State.queue_core, State.receive_core, State.sequenced_core, State.openIn_core, foldl_core, apply_ite State.core, ite_self, implies_true, core_mk, core_eta]

theorem State.mgmtFrame_core (s : State) (p : Nat) (l : List Byte) : (State.mgmtFrame s p l).core = s.core := by
  simp only [State.mgmtFrame, State.fifoPush_core, State.queue_core, State.drainMgmt_core, State.receive_core, State.sequenced_core, foldl_core, apply_ite State.core, ite_self, implies_true, core_mk, core_eta]

theorem State.openSend_core (s : State) (i : Nat) : (State.openSend s i).core = s.core := by
  simp only [State.openSend, State.modConn_core, State.fresh_core, State.sendOwn_core, foldl_core, apply_ite State.core, ite_self, implies_true, core_mk, core_eta]

theorem State.yardQrel_core (s : State) (v : Word) : (State.yardQrel s v).core = s.core := by
  simp only [State.yardQrel, State.connEnter_core, foldl_core, apply_ite State.core, ite_self, implies_true, core_mk, core_eta]

theorem State.helloSend_core (s : State) (p : Nat) : (State.helloSend s p).core = s.core := by
  simp only [State.helloSend, State.modYport_core, State.fresh_core, foldl_core, apply_ite State.core, ite_self, implies_true, core_mk, core_eta]

theorem State.helloIn_core (s : State) (p : Nat) (l : List Byte) : (State.helloIn s p l).core = s.core := by
  simp only [State.helloIn, State.modYport_core, State.err_core, State.receive_core, foldl_core, apply_ite State.core, ite_self, implies_true, core_mk, core_eta]

theorem State.setTime_core (s : State) (step : Int) (rate : Int) : (State.setTime s step rate).core = s.core := by
  simp only [State.setTime, foldl_core, apply_ite State.core, ite_self, implies_true, core_mk, core_eta]

theorem State.setSync_core (s : State) (n : SyncState) : (State.setSync s n).core = s.core := by
  simp only [State.setSync, State.err_core, foldl_core, apply_ite State.core, ite_self, implies_true, core_mk, core_eta]

theorem State.upReport_core (s : State) (u : SyncState) : (State.upReport s u).core = s.core := by
  unfold State.upReport; (try dsimp only); (repeat' split) <;> first | with_reducible rfl | simp only [State.setSync_core, foldl_core, apply_ite State.core, ite_self, implies_true, core_mk, core_eta]

theorem State.exchanged_core (s : State) (o : Int) : (State.exchanged s o).core = s.core := by
  unfold State.exchanged; (try dsimp only); (repeat' split) <;> first | with_reducible rfl | simp only [State.setSync_core, foldl_core, apply_ite State.core, ite_self, implies_true, core_mk, core_eta]

theorem State.correct_core (s : State) (o : Int) : (State.correct s o).core = s.core := by
  simp only [State.correct, State.fresh_core, State.retick_core, State.setTime_core, foldl_core, apply_ite State.core, ite_self, implies_true, core_mk, core_eta]

theorem State.exchStart_core (s : State) (p : Nat) : (State.exchStart s p).core = s.core := by
  simp only [State.exchStart, State.modYport_core, foldl_core, apply_ite State.core, ite_self, implies_true, core_mk, core_eta]

theorem State.timeIn_core (s : State) (p : Nat) (l : List Byte) (sub : Nat) (f : State → List Byte → State) (hf : ∀ x0 x1, (f x0 x1).core = x0.core) : (State.timeIn s p l sub f).core = s.core := by
  simp only [State.timeIn, State.receive_core, foldl_core, apply_ite State.core, ite_self, implies_true, core_mk, core_eta, *]

theorem State.syncIn_core (s : State) (l : List Byte) : (State.syncIn s l).core = s.core := by
  simp only [State.syncIn, State.modYport_core, State.upReport_core, State.timeIn_core, foldl_core, apply_ite State.core, ite_self, implies_true, core_mk, core_eta]

theorem State.dreqIn_core (s : State) (p : Nat) (l : List Byte) : (State.dreqIn s p l).core = s.core := by
  simp only [State.dreqIn, State.modYport_core, State.timeIn_core, foldl_core, apply_ite State.core, ite_self, implies_true, core_mk, core_eta]

theorem State.drespIn_core (s : State) (l : List Byte) : (State.drespIn s l).core = s.core := by
  unfold State.drespIn
  split
  · rfl
  · refine State.timeIn_core _ _ _ _ _ (fun s h => ?_)
    (try dsimp only)
    (repeat' split) <;> simp only [State.correct_core, State.exchanged_core, State.upReport_core, foldl_core, apply_ite State.core, ite_self, implies_true, core_mk, core_eta]

theorem State.holdoverNow_core (s : State) : (State.holdoverNow s).core = s.core := by
  simp only [State.holdoverNow, State.setSync_core, foldl_core, apply_ite State.core, ite_self, implies_true, core_mk, core_eta]

theorem State.syncLostNow_core (s : State) : (State.syncLostNow s).core = s.core := by
  simp only [State.syncLostNow, State.setSync_core, foldl_core, apply_ite State.core, ite_self, implies_true, core_mk, core_eta]

theorem State.whistleOut_core (s : State) (cycleEnd : Nat) : (State.whistleOut s cycleEnd).core = s.core := by
  simp only [State.whistleOut, State.fifoPush_core, State.drainTx_core, foldl_core, apply_ite State.core, ite_self, implies_true, core_mk, core_eta]

theorem State.whistleAct_core (s : State) : (State.whistleAct s).core = s.core := by
  unfold State.whistleAct; (try dsimp only); (repeat' split) <;> first | with_reducible rfl | simp only [State.mapOuts_core, State.err_core, foldl_core, apply_ite State.core, ite_self, implies_true, core_mk, core_eta]

theorem State.whistleIn_core (s : State) (p : Nat) (l : List Byte) (aborted : Bool) : (State.whistleIn s p l aborted).core = s.core := by
  simp only [State.whistleIn, State.modYport_core, State.err_core, State.whistleAct_core, foldl_core, apply_ite State.core, ite_self, implies_true, core_mk, core_eta]

theorem State.whistleDue_core (s : State) : (State.whistleDue s).core = s.core := by
  unfold State.whistleDue; (try dsimp only); (repeat' split) <;> first | with_reducible rfl | simp only [State.whistleAct_core, foldl_core, apply_ite State.core, ite_self, implies_true, core_mk, core_eta]

theorem State.whistleClearNow_core (s : State) : (State.whistleClearNow s).core = s.core := by
  unfold State.whistleClearNow; (try dsimp only); (repeat' split) <;> first | with_reducible rfl | simp only [State.clearLocals_core, foldl_core, apply_ite State.core, ite_self, implies_true, core_mk, core_eta]

theorem State.kennelFrames_core (s : State) : (State.kennelFrames s).core = s.core := by
  unfold State.kennelFrames
  refine (foldl_core _ (fun s d => ?_) _ _).trans (State.fifoTake_core _ _)
  (try dsimp only)
  (repeat' split) <;> first | rfl | simp only [State.connPre_core, foldl_core, apply_ite State.core, ite_self, implies_true, core_mk, core_eta]

theorem State.connRead_core (s : State) (i : Nat) : (State.connRead s i).core = s.core := by
  simp only [State.connRead, State.modConn_core, State.err_core, State.modConnCh_core, State.connEnter_core, State.connDue_core, foldl_core, apply_ite State.core, ite_self, implies_true, core_mk, core_eta]

theorem State.connReads_core (s : State) : (State.connReads s).core = s.core := by
  simp only [State.connReads, State.kennelFrames_core, State.connRead_core, foldl_core, apply_ite State.core, ite_self, implies_true, core_mk, core_eta]

theorem State.radioSend_core (s : State) (p : Nat) (at_ : Nat) (l : List Byte) : (State.radioSend s p at_ l).core = s.core := by
  simp only [State.radioSend, State.modRadio_core, foldl_core, apply_ite State.core, ite_self, implies_true, core_mk, core_eta]

theorem State.radioXfer_core (s : State) (p : Nat) (irqLow : Bool) : (State.radioXfer s p irqLow).core = s.core := by
  unfold State.radioXfer; (try dsimp only); (repeat' split) <;> first | with_reducible rfl | simp only [State.modRadio_core, State.radioSend_core, foldl_core, apply_ite State.core, ite_self, implies_true, core_mk, core_eta]

theorem State.radioPollNow_core (s : State) (p : Nat) : (State.radioPollNow s p).core = s.core := by
  simp only [State.radioPollNow, State.radioSend_core, foldl_core, apply_ite State.core, ite_self, implies_true, core_mk, core_eta]

theorem State.beaconNow_core (s : State) (p : Nat) : (State.beaconNow s p).core = s.core := by
  simp only [State.beaconNow, State.modRadio_core, foldl_core, apply_ite State.core, ite_self, implies_true, core_mk, core_eta]

theorem State.modSlotCh_core (s : State) (n : Nat) (isA : Bool) (f : SlotCh → SlotCh) : (State.modSlotCh s n isA f).core = s.core := by
  simp only [State.modSlotCh, State.modSlot_core, foldl_core, apply_ite State.core, ite_self, implies_true, core_mk, core_eta]

theorem State.collarRemotes_core (s : State) (n : Nat) : (State.collarRemotes s n).core = s.core := by
  simp only [State.collarRemotes, State.fresh_core, foldl_core, apply_ite State.core, ite_self, implies_true, core_mk, core_eta]

theorem State.slotEnter_core (s : State) (n : Nat) (isA : Bool) (d : DState) (cause : Nat) : (State.slotEnter s n isA d cause).core = s.core := by
  simp only [State.slotEnter, State.modSlot_core, State.err_core, State.split_core, State.modSlotCh_core, State.collarRemotes_core, foldl_core, apply_ite State.core, ite_self, implies_true, core_mk, core_eta]

theorem State.deadline_core (s : State) (n : Nat) (isA : Bool) : (State.deadline s n isA).core = s.core := by
  simp only [State.deadline, State.modSlot_core, State.modSlotCh_core, State.slotEnter_core, foldl_core, apply_ite State.core, ite_self, implies_true, core_mk, core_eta]

theorem repeatN_core (n : Nat) (f : State → State) (s : State) (hf : ∀ x0, (f x0).core = x0.core) : (repeatN n f s).core = s.core := by
  simp only [repeatN, foldl_core, apply_ite State.core, ite_self, implies_true, core_mk, core_eta, *]

theorem State.deadlines_core (s : State) (n : Nat) (isA : Bool) (y : Nat) : (State.deadlines s n isA y).core = s.core := by
  simp only [State.deadlines, State.deadline_core, repeatN_core, foldl_core, apply_ite State.core, ite_self, implies_true, core_mk, core_eta]

theorem State.collarSpeed_core (s : State) (n : Nat) (isA : Bool) (a : BitVec 64) (b : BitVec 64) : (State.collarSpeed s n isA a b).core = s.core := by
  simp only [State.collarSpeed, foldl_core, apply_ite State.core, ite_self, implies_true, core_mk, core_eta]

theorem State.motDisc_core (s : State) (w : Nat) : (State.motDisc s w).core = s.core := by
  simp only [State.motDisc, State.modWheel_core, State.err_core, foldl_core, apply_ite State.core, ite_self, implies_true, core_mk, core_eta]

theorem State.pduSample_core (s : State) (n : Nat) (isA : Bool) (p : List Byte) (arr : Nat) : (State.pduSample s n isA p arr).core = s.core := by
  simp only [State.pduSample, State.err_core, State.modSlotCh_core, State.collarRemotes_core, State.slotEnter_core, State.collarSpeed_core, foldl_core, apply_ite State.core, ite_self, implies_true, core_mk, core_eta]

theorem State.pduCheck_core (s : State) (isA : Bool) (f : PortFrame) : (State.pduCheck s isA f).core = s.core := by
  simp only [State.pduCheck, State.modSlot_core, State.err_core, State.modSlotCh_core, State.slotEnter_core, State.pduSample_core, foldl_core, apply_ite State.core, ite_self, implies_true, core_mk, core_eta]

theorem State.slotView_core (s : State) (n : Nat) : (State.slotView s n).core = s.core := by
  simp only [State.slotView, State.modSlot_core, State.fresh_core, foldl_core, apply_ite State.core, ite_self, implies_true, core_mk, core_eta]

theorem State.drainRadio_core (s : State) : (State.drainRadio s).core = s.core := by
  unfold State.drainRadio
  split
  · refine (foldl_core _ (fun s d => ?_) _ _).trans (State.fifoTake_core _ _)
    (try dsimp only)
    (repeat' split) <;> simp only [State.slotView_core, State.fifoPush_core, foldl_core, apply_ite State.core, ite_self, implies_true, core_mk, core_eta]
  · rfl

theorem State.drainHeads_core (s : State) : (State.drainHeads s).core = s.core := by
  unfold State.drainHeads
  refine (foldl_core _ (fun s d => ?_) _ _).trans (State.fifoTake_core _ _)
  (try dsimp only)
  split <;> first | rfl | exact State.modRadio_core _ _ _

theorem State.portIn_core (s : State) (p : Nat) (l : List Byte) (typ : Nat) (f : State → State) (hf : ∀ x0, (f x0).core = x0.core) : (State.portIn s p l typ f).core = s.core := by
  simp only [State.portIn, State.modRadio_core, State.err_core, foldl_core, apply_ite State.core, ite_self, implies_true, core_mk, core_eta, *]

theorem State.radioDrop_core (s : State) (p : Nat) (slot : Nat) : (State.radioDrop s p slot).1.core = s.core := by
  unfold State.radioDrop; (try dsimp only); (repeat' split) <;> first | with_reducible rfl | simp only [foldl_core, apply_ite State.core, ite_self, implies_true, core_mk, core_eta]

theorem State.pduIn_core (s : State) (p : Nat) (l : List Byte) : (State.pduIn s p l).core = s.core := by
  simp only [State.pduIn, State.fifoPush_core, State.pduCheck_core, State.drainRadio_core, State.portIn_core, State.radioDrop_core, foldl_core, apply_ite State.core, ite_self, implies_true, core_mk, core_eta]

theorem State.maxAge_core (s : State) (isConn : Bool) (n : Nat) : (State.maxAge s isConn n).core = s.core := by
  unfold State.maxAge
  (try dsimp only)
  (repeat' split) <;> first | rfl | simp only [State.connEnter_core, State.slotEnter_core, foldl_core, apply_ite State.core, ite_self, implies_true, core_mk, core_eta]

theorem State.colQrel_core (s : State) (v : Word) : (State.colQrel s v).core = s.core := by
  simp only [State.colQrel, State.slotEnter_core, foldl_core, apply_ite State.core, ite_self, implies_true, core_mk, core_eta]

theorem State.kennelPdus_core (s : State) : (State.kennelPdus s).core = s.core := by
  unfold State.kennelPdus
  refine (foldl_core _ (fun s d => ?_) _ _).trans (State.modFifo_core _ _ _)
  (try dsimp only)
  split <;> first | rfl | simp only [State.pduCheck_core, State.deadlines_core, foldl_core, apply_ite State.core, ite_self, implies_true, core_mk, core_eta]

theorem State.slotRead_core (s : State) (n : Nat) : (State.slotRead s n).core = s.core := by
  simp only [State.slotRead, State.modSlot_core, State.err_core, State.slotEnter_core, State.deadlines_core, foldl_core, apply_ite State.core, ite_self, implies_true, core_mk, core_eta]

theorem State.slotReads_core (s : State) : (State.slotReads s).core = s.core := by
  simp only [State.slotReads, State.kennelPdus_core, State.slotRead_core, foldl_core, apply_ite State.core, ite_self, implies_true, core_mk, core_eta]

theorem State.thirdSource_core (s : State) : (State.thirdSource s).core = s.core := by
  simp only [State.thirdSource, State.motDisc_core, foldl_core, apply_ite State.core, ite_self, implies_true, core_mk, core_eta]

theorem State.commitCollars_core (s : State) (l : List Byte) : (State.commitCollars s l).core = s.core := by
  simp only [State.commitCollars, State.retick_core, State.slotEnter_core, foldl_core, apply_ite State.core, ite_self, implies_true, core_mk, core_eta]

theorem State.commitYard_core (s : State) (l : List Byte) : (State.commitYard s l).core = s.core := by
  simp only [State.commitYard, State.setSync_core, foldl_core, apply_ite State.core, ite_self, implies_true, core_mk, core_eta]

theorem State.modWheelCh_core (s : State) (n : Nat) (isA : Bool) (f : WheelCh → WheelCh) : (State.modWheelCh s n isA f).core = s.core := by
  simp only [State.modWheelCh, State.modWheel_core, foldl_core, apply_ite State.core, ite_self, implies_true, core_mk, core_eta]

theorem State.modMotion_core (s : State) (w : Nat) (isA : Bool) (f : List Byte → InstSt → InstSt) : (State.modMotion s w isA f).core = s.core := by
  simp only [State.modMotion, foldl_core, apply_ite State.core, ite_self, implies_true, core_mk, core_eta]

theorem State.invalidate_core (s : State) (w : Nat) (isA : Bool) : (State.invalidate s w isA).core = s.core := by
  simp only [State.invalidate, State.modWheelCh_core, State.modMotion_core, foldl_core, apply_ite State.core, ite_self, implies_true, core_mk, core_eta]

theorem State.anomaly_core (s : State) (w : Nat) (isA : Bool) (at_ : Nat) (diag : Nat) (discarded : Nat) (from_ : Nat) : (State.anomaly s w isA at_ diag discarded from_).core = s.core := by
  simp only [State.anomaly, State.modWheel_core, State.err_core, State.modWheelCh_core, State.modMotion_core, State.invalidate_core, foldl_core, apply_ite State.core, ite_self, implies_true, core_mk, core_eta]

theorem State.count_core (s : State) (w : Nat) (isA : Bool) (up : Bool) (at_ : Nat) : (State.count s w isA up at_).core = s.core := by
  simp only [State.count, State.modWheelCh_core, foldl_core, apply_ite State.core, ite_self, implies_true, core_mk, core_eta]

theorem State.reference_core (s : State) (w : Nat) (isA : Bool) (up : Bool) (at_ : Nat) : (State.reference s w isA up at_).core = s.core := by
  unfold State.reference; (try dsimp only); (repeat' split) <;> first | with_reducible rfl | simp only [State.modWheel_core, State.motDisc_core, State.modWheelCh_core, foldl_core, apply_ite State.core, ite_self, implies_true, core_mk, core_eta]

theorem State.passTooth_core (s : State) (w : Nat) (isA : Bool) (up : Bool) (at_ : Nat) : (State.passTooth s w isA up at_).core = s.core := by
  simp only [State.passTooth, State.modMotion_core, State.count_core, State.reference_core, foldl_core, apply_ite State.core, ite_self, implies_true, core_mk, core_eta]

theorem State.tooth_core (s : State) (w : Nat) (isA : Bool) (up : Bool) (at_ : Nat) (teeth : Nat) (normal : Bool) (ppred : Option Nat) : (State.tooth s w isA up at_ teeth normal ppred).core = s.core := by
  unfold State.tooth; (try dsimp only); (repeat' split) <;> first | with_reducible rfl | simp only [State.modWheelCh_core, State.modMotion_core, State.passTooth_core, foldl_core, apply_ite State.core, ite_self, implies_true, core_mk, core_eta]

theorem State.rise_core (s : State) (w : Nat) (isA : Bool) (up : Bool) (at_ : Nat) : (State.rise s w isA up at_).core = s.core := by
  unfold State.rise; (try dsimp only); (repeat' split) <;> first | with_reducible rfl | simp only [State.invalidate_core, State.anomaly_core, State.tooth_core, foldl_core, apply_ite State.core, ite_self, implies_true, core_mk, core_eta]

theorem State.stuck_core (s : State) (w : Nat) (isA : Bool) (pin : Chan) (at_ : Nat) : (State.stuck s w isA pin at_).core = s.core := by
  simp only [State.stuck, State.modWheelCh_core, State.anomaly_core, foldl_core, apply_ite State.core, ite_self, implies_true, core_mk, core_eta]

theorem State.edgeStands_core (s : State) (w : Nat) (isA : Bool) (pin : Chan) (level : Bool) (at_ : Nat) : (State.edgeStands s w isA pin level at_).core = s.core := by
  simp only [State.edgeStands, State.modWheelCh_core, State.rise_core, State.stuck_core, foldl_core, apply_ite State.core, ite_self, implies_true, core_mk, core_eta]

theorem State.confirmPin_core (s : State) (w : Nat) (isA : Bool) (pin : Chan) (now : Nat) : (State.confirmPin s w isA pin now).core = s.core := by
  unfold State.confirmPin; (try dsimp only); (repeat' split) <;> first | with_reducible rfl | simp only [State.edgeStands_core, foldl_core, apply_ite State.core, ite_self, implies_true, core_mk, core_eta]

theorem State.confirm_core (s : State) (w : Nat) (isA : Bool) (now : Nat) : (State.confirm s w isA now).core = s.core := by
  simp only [State.confirm, State.confirmPin_core, foldl_core, apply_ite State.core, ite_self, implies_true, core_mk, core_eta]

theorem State.edge_core (s : State) (w : Nat) (isA : Bool) (pin : Chan) (level : Bool) (at_ : Nat) : (State.edge s w isA pin level at_).core = s.core := by
  simp only [State.edge, State.modWheelCh_core, State.modMotion_core, State.anomaly_core, State.confirm_core, foldl_core, apply_ite State.core, ite_self, implies_true, core_mk, core_eta]

theorem State.twEdge_core (s : State) (w : Nat) (pin : Chan) (level : Bool) : (State.twEdge s w pin level).core = s.core := by
  simp only [State.twEdge, State.modWheel_core, State.fifoPush_core, State.edge_core, foldl_core, apply_ite State.core, ite_self, implies_true, core_mk, core_eta]

theorem State.standstill_core (s : State) (k : Nat) (i : Nat) : (State.standstill s k i).core = s.core := by
  simp only [State.standstill, State.modSheet_core, foldl_core, apply_ite State.core, ite_self, implies_true, core_mk, core_eta]

theorem State.motionReset_core (s : State) (k : Nat) (i : Nat) : (State.motionReset s k i).core = s.core := by
  unfold State.motionReset; (try dsimp only); (repeat' split) <;> first | with_reducible rfl | simp only [State.clearLocals_core, foldl_core, apply_ite State.core, ite_self, implies_true, core_mk, core_eta]

theorem State.kennelEdges_core (s : State) (missed : List (Fin 32)) : (State.kennelEdges s missed).core = s.core := by
  unfold State.kennelEdges
  (try dsimp only)
  refine (foldl_core _ (fun s w => ?_) _ _).trans ((foldl_core _ (fun s d => ?_) _ _).trans (State.modFifo_core _ _ _))
  · simp only [State.confirm_core, foldl_core, apply_ite State.core, ite_self, implies_true, core_mk, core_eta]
  · split <;> first | rfl | exact State.edge_core _ _ _ _ _ _

theorem State.compareCounts_core (s : State) (w : Nat) : (State.compareCounts s w).core = s.core := by
  simp only [State.compareCounts, State.modWheel_core, State.motDisc_core, State.modMotion_core, foldl_core, apply_ite State.core, ite_self, implies_true, core_mk, core_eta]

theorem State.grantOne_core (s : State) (k : Nat) (i : Nat) (isA : Bool) : (State.grantOne s k i isA).core = s.core := by
  unfold State.grantOne; (try dsimp only); (repeat' split) <;> first | with_reducible rfl | simp only [State.modSheet_core, foldl_core, apply_ite State.core, ite_self, implies_true, core_mk, core_eta]

theorem State.grants_core (s : State) : (State.grants s).core = s.core := by
  simp only [State.grants, State.grantOne_core, foldl_core, apply_ite State.core, ite_self, implies_true, core_mk, core_eta]

theorem State.loadWheels_core (s : State) (l : List Byte) : (State.loadWheels s l).core = s.core := by
  simp only [State.loadWheels, foldl_core, apply_ite State.core, ite_self, implies_true, core_mk, core_eta]

theorem State.copies_core (s : State) (n : Nat) (f : InPair → PairV → CopyOut) : (State.copies s n f).core = s.core := by
  simp only [State.copies, State.modPair_core, State.err_core, State.fifoPush_core, foldl_core, apply_ite State.core, ite_self, implies_true, core_mk, core_eta]

theorem State.onPair_core (s : State) (n : Nat) (f : State → State) (hf : ∀ x0, (f x0).core = x0.core) : (State.onPair s n f).core = s.core := by
  simp only [State.onPair, foldl_core, apply_ite State.core, ite_self, implies_true, core_mk, core_eta, *]

theorem State.siChange_core (s : State) (n : Nat) (ch : Chan) (v : Bool) : (State.siChange s n ch v).core = s.core := by
  simp only [State.siChange, State.modPair_core, State.copies_core, State.onPair_core, foldl_core, apply_ite State.core, ite_self, implies_true, core_mk, core_eta]

theorem State.blankOver_core (s : State) (n : Nat) (ch : Chan) : (State.blankOver s n ch).core = s.core := by
  simp only [State.blankOver, State.modPair_core, State.copies_core, foldl_core, apply_ite State.core, ite_self, implies_true, core_mk, core_eta]

theorem State.fedByLine_core (s : State) (line : Nat) (f : InPair → Bool → ChanV → ChanV) : (State.fedByLine s line f).core = s.core := by
  simp only [State.fedByLine, State.mapPairs_core, State.line_core, foldl_core, apply_ite State.core, ite_self, implies_true, core_mk, core_eta]

theorem State.darkStart_core (s : State) (n : Nat) : (State.darkStart s n).core = s.core := by
  simp only [State.darkStart, State.modTp_core, State.settle_core, State.fedByLine_core, foldl_core, apply_ite State.core, ite_self, implies_true, core_mk, core_eta]

theorem State.checkSample_core (s : State) (n : Nat) : (State.checkSample s n).core = s.core := by
  unfold State.checkSample; (try dsimp only); (repeat' split) <;> first | with_reducible rfl | simp only [State.fedByLine_core, foldl_core, apply_ite State.core, ite_self, implies_true, core_mk, core_eta]

theorem State.darkEnd_core (s : State) (n : Nat) : (State.darkEnd s n).core = s.core := by
  unfold State.darkEnd; (try dsimp only); (repeat' split) <;> first | with_reducible rfl | simp only [State.modTp_core, foldl_core, apply_ite State.core, ite_self, implies_true, core_mk, core_eta]

theorem State.armInputs_core (s : State) : (State.armInputs s).core = s.core := by
  simp only [State.armInputs, State.mapPairs_core, State.copies_core, State.onPair_core, foldl_core, apply_ite State.core, ite_self, implies_true, core_mk, core_eta]

theorem State.loadInputs_core (s : State) (l : List Byte) : (State.loadInputs s l).core = s.core := by
  simp only [State.loadInputs, State.settle_core, foldl_core, apply_ite State.core, ite_self, implies_true, core_mk, core_eta]

theorem State.soutRb_core (s : State) (n : Nat) : (State.soutRb s n).core = s.core := by
  simp only [State.soutRb, State.modOut_core, State.err_core, foldl_core, apply_ite State.core, ite_self, implies_true, core_mk, core_eta]

theorem State.soutOc_core (s : State) (n : Nat) : (State.soutOc s n).core = s.core := by
  simp only [State.soutOc, State.modOut_core, State.err_core, foldl_core, apply_ite State.core, ite_self, implies_true, core_mk, core_eta]

theorem State.soutShort_core (s : State) (n : Nat) : (State.soutShort s n).core = s.core := by
  simp only [State.soutShort, State.modOut_core, State.err_core, foldl_core, apply_ite State.core, ite_self, implies_true, core_mk, core_eta]

theorem State.rbChange_core (s : State) (n : Nat) (l : Leg) (v : Bool) : (State.rbChange s n l v).core = s.core := by
  simp only [State.rbChange, State.modOut_core, State.modLeg_core, foldl_core, apply_ite State.core, ite_self, implies_true, core_mk, core_eta]

theorem State.windowEnd_core (s : State) (n : Nat) : (State.windowEnd s n).core = s.core := by
  unfold State.windowEnd; (try dsimp only); (repeat' split) <;> first | with_reducible rfl | simp only [State.modOut_core, State.soutOc_core, foldl_core, apply_ite State.core, ite_self, implies_true, core_mk, core_eta]

theorem State.ocLate_core (s : State) (n : Nat) (l : Leg) : (State.ocLate s n l).core = s.core := by
  unfold State.ocLate; (try dsimp only); (repeat' split) <;> first | with_reducible rfl | simp only [State.soutOc_core, foldl_core, apply_ite State.core, ite_self, implies_true, core_mk, core_eta]

theorem State.offLate_core (s : State) (n : Nat) (l : Leg) : (State.offLate s n l).core = s.core := by
  simp only [State.offLate, State.soutRb_core, State.soutShort_core, foldl_core, apply_ite State.core, ite_self, implies_true, core_mk, core_eta]

theorem State.awaitPulse_core (s : State) (n : Nat) : (State.awaitPulse s n).core = s.core := by
  simp only [State.awaitPulse, foldl_core, apply_ite State.core, ite_self, implies_true, core_mk, core_eta]

theorem State.groupClear_core (s : State) (n : Nat) : (State.groupClear s n).core = s.core := by
  simp only [State.groupClear, foldl_core, apply_ite State.core, ite_self, implies_true, core_mk, core_eta]

theorem State.outClear_core (s : State) (n : Nat) : (State.outClear s n).core = s.core := by
  unfold State.outClear; (try dsimp only); (repeat' split) <;> first | with_reducible rfl | simp only [State.modOut_core, State.clearLocals_core, State.awaitPulse_core, foldl_core, apply_ite State.core, ite_self, implies_true, core_mk, core_eta]

theorem State.darkBegin_core (s : State) (n : Nat) (l : Leg) : (State.darkBegin s n l).core = s.core := by
  simp only [State.darkBegin, State.modOut_core, State.modLeg_core, foldl_core, apply_ite State.core, ite_self, implies_true, core_mk, core_eta]

theorem State.sioTakes_core (s : State) (d : Datum) : (State.sioTakes s d).core = s.core := by
  unfold State.sioTakes; (try dsimp only); (repeat' split) <;> first | with_reducible rfl | simp only [State.mapOuts_core, State.split_core, State.darkBegin_core, foldl_core, apply_ite State.core, ite_self, implies_true, core_mk, core_eta]

theorem State.drainSio_core (s : State) : (State.drainSio s).core = s.core := by
  simp only [State.drainSio, State.fifoTake_core, State.sioTakes_core, foldl_core, apply_ite State.core, ite_self, implies_true, core_mk, core_eta]

theorem State.darkStartTest_core (s : State) (n : Nat) (l : Leg) : (State.darkStartTest s n l).core = s.core := by
  unfold State.darkStartTest; (try dsimp only); (repeat' split) <;> first | with_reducible rfl | simp only [State.fifoPush_core, State.darkBegin_core, State.drainSio_core, foldl_core, apply_ite State.core, ite_self, implies_true, core_mk, core_eta]

theorem State.fifoMove_core (s : State) (n : Nat) : (State.fifoMove s n).core = s.core := by
  unfold State.fifoMove
  (try dsimp only)
  (repeat' split) <;> simp only [State.fifoFree_core, State.drainSio_core, State.drainRadio_core, State.modFifo_core, State.drainTx_core, State.drainMgmt_core, State.mbxUnknown_core, State.drainHeads_core, foldl_core, apply_ite State.core, ite_self, implies_true, core_mk, core_eta]

theorem State.darkFallsDue_core (s : State) (n : Nat) (l : Leg) : (State.darkFallsDue s n l).core = s.core := by
  unfold State.darkFallsDue; (try dsimp only); (repeat' split) <;> first | with_reducible rfl | simp only [State.modLeg_core, State.darkStartTest_core, foldl_core, apply_ite State.core, ite_self, implies_true, core_mk, core_eta]

theorem State.darkVerdict_core (s : State) (t : DarkTest) (pass : Bool) : (State.darkVerdict s t pass).core = s.core := by
  simp only [State.darkVerdict, State.modLeg_core, foldl_core, apply_ite State.core, ite_self, implies_true, core_mk, core_eta]

theorem State.darkPassed_core (s : State) : (State.darkPassed s).core = s.core := by
  unfold State.darkPassed; (try dsimp only); (repeat' split) <;> first | with_reducible rfl | simp only [State.darkVerdict_core, foldl_core, apply_ite State.core, ite_self, implies_true, core_mk, core_eta]

theorem State.darkFailed_core (s : State) : (State.darkFailed s).core = s.core := by
  unfold State.darkFailed; (try dsimp only); (repeat' split) <;> first | with_reducible rfl | simp only [State.soutRb_core, State.darkVerdict_core, foldl_core, apply_ite State.core, ite_self, implies_true, core_mk, core_eta]

theorem State.muzzleLow_core (s : State) : (State.muzzleLow s).core = s.core := by
  simp only [State.muzzleLow, State.trigger_core, State.line_core, foldl_core, apply_ite State.core, ite_self, implies_true, core_mk, core_eta]

theorem State.barkLook_core (s : State) (pin : Chan) : (State.barkLook s pin).core = s.core := by
  unfold State.barkLook; (try dsimp only); (repeat' split) <;> first | with_reducible rfl | simp only [State.err_core, foldl_core, apply_ite State.core, ite_self, implies_true, core_mk, core_eta]

theorem State.launchCancel_core (s : State) (k : Nat) (g : Nat) (cause : Nat) : (State.launchCancel s k g cause).core = s.core := by
  simp only [State.launchCancel, State.cancelLaunch_core, State.err_core, foldl_core, apply_ite State.core, ite_self, implies_true, core_mk, core_eta]

theorem State.releaseOut_core (s : State) (n : Nat) : (State.releaseOut s n).core = s.core := by
  simp only [State.releaseOut, State.modOut_core, foldl_core, apply_ite State.core, ite_self, implies_true, core_mk, core_eta]

theorem State.launchOne_core (s : State) (l : Launch) : (State.launchOne s l).core = s.core := by
  unfold State.launchOne; (try dsimp only); (repeat' split) <;> first | with_reducible rfl | simp only [State.cancelLaunch_core, State.launchCancel_core, State.releaseOut_core, foldl_core, apply_ite State.core, ite_self, implies_true, core_mk, core_eta]

theorem State.launchDue_core (s : State) : (State.launchDue s).core = s.core := by
  simp only [State.launchDue, State.launchOne_core, foldl_core, apply_ite State.core, ite_self, implies_true, core_mk, core_eta]

theorem State.loadOutputs_core (s : State) (l : List Byte) : (State.loadOutputs s l).core = s.core := by
  simp only [State.loadOutputs, State.mapOuts_core, foldl_core, apply_ite State.core, ite_self, implies_true, core_mk, core_eta]

theorem State.armOutputs_core (s : State) : (State.armOutputs s).core = s.core := by
  simp only [State.armOutputs, State.mapOuts_core, foldl_core, apply_ite State.core, ite_self, implies_true, core_mk, core_eta]

theorem State.ackJudge_core (s : State) : (State.ackJudge s).core = s.core := by
  simp only [State.ackJudge, foldl_core, apply_ite State.core, ite_self, implies_true, core_mk, core_eta]

theorem State.ackBegin_core (s : State) : (State.ackBegin s).core = s.core := by
  simp only [State.ackBegin, foldl_core, apply_ite State.core, ite_self, implies_true, core_mk, core_eta]

theorem State.ackReturn_core (s : State) : (State.ackReturn s).core = s.core := by
  simp only [State.ackReturn, foldl_core, apply_ite State.core, ite_self, implies_true, core_mk, core_eta]

theorem State.ackEdge_core (s : State) (pin : Chan) (v : Bool) : (State.ackEdge s pin v).core = s.core := by
  simp only [State.ackEdge, State.ackJudge_core, State.ackBegin_core, State.ackReturn_core, foldl_core, apply_ite State.core, ite_self, implies_true, core_mk, core_eta]

theorem State.armAck_core (s : State) : (State.armAck s).core = s.core := by
  simp only [State.armAck, State.discardAck_core, foldl_core, apply_ite State.core, ite_self, implies_true, core_mk, core_eta]

theorem State.fireB_core (s : State) (i : Nat) : (State.fireB s i).core = s.core := by
  simp only [State.fireB, foldl_core, apply_ite State.core, ite_self, implies_true, core_mk, core_eta]

theorem State.switchtEnd_core (s : State) (k : Nat) (i : Nat) : (State.switchtEnd s k i).core = s.core := by
  simp only [State.switchtEnd, State.err_core, State.fireB_core, foldl_core, apply_ite State.core, ite_self, implies_true, core_mk, core_eta]

theorem State.pendTests_core (s : State) : (State.pendTests s).core = s.core := by
  simp only [State.pendTests, foldl_core, apply_ite State.core, ite_self, implies_true, core_mk, core_eta]

theorem State.serve_core (s : State) (code : Nat) (bootRom : Bool) (f : Mbx → State → State) (hf : ∀ x0 x1, (f x0 x1).core = x1.core) : (State.serve s code bootRom f).core = s.core := by
  unfold State.serve
  refine whenLive_core _ _ (fun s => ?_)
  (try dsimp only)
  (repeat' split) <;> first | rfl | simp only [hf, State.modFifo_core, State.mbxEnd_core]

theorem State.setArg0_core (s : State) (v : Nat) : (State.setArg0 s v).core = s.core := by
  simp only [State.setArg0, foldl_core, apply_ite State.core, ite_self, implies_true, core_mk, core_eta]

theorem State.setArg1_core (s : State) (v : Nat) : (State.setArg1 s v).core = s.core := by
  simp only [State.setArg1, foldl_core, apply_ite State.core, ite_self, implies_true, core_mk, core_eta]

theorem State.recordEnd_core (s : State) : (State.recordEnd s).core = s.core := by
  unfold State.recordEnd; (try dsimp only); (repeat' split) <;> first | with_reducible rfl | simp only [State.closeRecord_core, foldl_core, apply_ite State.core, ite_self, implies_true, core_mk, core_eta]

theorem State.collInterval_core (s : State) : (State.collInterval s).core = s.core := by
  simp only [State.collInterval, State.recordEnd_core, foldl_core, apply_ite State.core, ite_self, implies_true, core_mk, core_eta]

theorem State.showRefused_core (s : State) (l : List Nat) : (State.showRefused s l).core = s.core := by
  unfold State.showRefused; (try dsimp only); (repeat' split) <;> first | with_reducible rfl | simp only [foldl_core, apply_ite State.core, ite_self, implies_true, core_mk, core_eta]

theorem State.evalA_core (s : State) (k : Nat) (lost : List (Fin 512)) : (State.evalA s k lost).1.core = s.core := by
  unfold State.evalA; (try dsimp only); (repeat' split) <;> first | with_reducible rfl | simp only [State.modSheet_core, State.showRefused_core, foldl_core, apply_ite State.core, ite_self, implies_true, core_mk, core_eta]

theorem State.handOver_core (s : State) (k : Nat) (g : Nat) : (State.handOver s k g).core = s.core := by
  simp only [State.handOver, State.launchCancel_core, foldl_core, apply_ite State.core, ite_self, implies_true, core_mk, core_eta]

theorem State.command_core (s : State) (k : Nat) (old : List InstSt) : (State.command s k old).core = s.core := by
  simp only [State.command, State.cancelLaunch_core, State.fifoPush_core, State.drainSio_core, State.handOver_core, foldl_core, apply_ite State.core, ite_self, implies_true, core_mk, core_eta]

theorem State.produce_core (s : State) (i : Nat) : (State.produce s i).core = s.core := by
  simp only [State.produce, State.modConn_core, State.sendOwn_core, foldl_core, apply_ite State.core, ite_self, implies_true, core_mk, core_eta]

theorem State.compare_core (s : State) : (State.compare s).1.core = s.core := by
  unfold State.compare; (try dsimp only); (repeat' split) <;> first | with_reducible rfl | simp only [State.split_core, foldl_core, apply_ite State.core, ite_self, implies_true, core_mk, core_eta]

theorem State.handoverWindow_core (s : State) : (State.handoverWindow s).core = s.core := by
  unfold State.handoverWindow; (try dsimp only); (repeat' split) <;> first | with_reducible rfl | simp only [State.err_core, State.launchDue_core, foldl_core, apply_ite State.core, ite_self, implies_true, core_mk, core_eta]

theorem State.observe_core (s : State) (o : CycleObs) : (State.observe s o).core = s.core := by
  unfold State.observe; (try dsimp only); (repeat' split) <;> first | with_reducible rfl | simp only [State.cmp_core, State.ecc_core, State.eccAll_core, State.split_core, foldl_core, apply_ite State.core, ite_self, implies_true, core_mk, core_eta]

theorem State.monitorBoundary_core (s : State) : (State.monitorBoundary s).core = s.core := by
  simp only [State.monitorBoundary, State.err_core, State.split_core, foldl_core, apply_ite State.core, ite_self, implies_true, core_mk, core_eta]

theorem State.deadlineCheck_core (s : State) (k : Nat) : (State.deadlineCheck s k).core = s.core := by
  simp only [State.deadlineCheck, State.err_core, State.split_core, foldl_core, apply_ite State.core, ite_self, implies_true, core_mk, core_eta]

theorem State.enterArmed_core (s : State) : (State.enterArmed s).core = s.core := by
  simp only [State.enterArmed, State.armAck_core, foldl_core, apply_ite State.core, ite_self, implies_true, core_mk, core_eta]

theorem State.releasePoints_core (s : State) : (State.releasePoints s).core = s.core := by
  simp only [State.releasePoints, foldl_core, apply_ite State.core, ite_self, implies_true, core_mk, core_eta]

theorem State.recover_core (s : State) : (State.recover s).core = s.core := by
  simp only [State.recover, State.closeRecord_core, State.pendTests_core, State.enterArmed_core, State.releasePoints_core, foldl_core, apply_ite State.core, ite_self, implies_true, core_mk, core_eta]

theorem State.enterMaint_core (s : State) : (State.enterMaint s).core = s.core := by
  simp only [State.enterMaint, foldl_core, apply_ite State.core, ite_self, implies_true, core_mk, core_eta]

theorem State.maintResult_core (s : State) (enter : Bool) (ok : Bool) : (State.maintResult s enter ok).core = s.core := by
  unfold State.maintResult; (try dsimp only); (repeat' split) <;> first | with_reducible rfl | simp only [State.mbxEnd_core, foldl_core, apply_ite State.core, ite_self, implies_true, core_mk, core_eta]

theorem State.maintEnd_core (s : State) : (State.maintEnd s).core = s.core := by
  unfold State.maintEnd; (try dsimp only); (repeat' split) <;> first | with_reducible rfl | simp only [State.enterArmed_core, State.enterMaint_core, State.maintResult_core, foldl_core, apply_ite State.core, ite_self, implies_true, core_mk, core_eta]

theorem State.pulseEnd_core (s : State) : (State.pulseEnd s).core = s.core := by
  simp only [State.pulseEnd, State.err_core, State.recover_core, foldl_core, apply_ite State.core, ite_self, implies_true, core_mk, core_eta]

theorem State.barkA_core (s : State) (was : Bool) : (State.barkA s was).core = s.core := by
  simp only [State.barkA, State.split_core, State.fifoPush_core, State.drainSio_core, foldl_core, apply_ite State.core, ite_self, implies_true, core_mk, core_eta]

theorem State.barkB_core (s : State) : (State.barkB s).core = s.core := by
  simp only [State.barkB, State.split_core, foldl_core, apply_ite State.core, ite_self, implies_true, core_mk, core_eta]

theorem State.handoverInputs_core (s : State) : (State.handoverInputs s).core = s.core := by
  simp only [State.handoverInputs, State.soloRead_core, foldl_core, apply_ite State.core, ite_self, implies_true, core_mk, core_eta]

theorem State.launchReads_core (s : State) : (State.launchReads s).core = s.core := by
  simp only [State.launchReads, State.clearLocals_core, foldl_core, apply_ite State.core, ite_self, implies_true, core_mk, core_eta]

theorem State.readInputs_core (s : State) (missed : List (Fin 32)) : (State.readInputs s missed).core = s.core := by
  simp only [State.readInputs, State.openings_core, State.connReads_core, State.slotReads_core, State.thirdSource_core, State.kennelEdges_core, State.compareCounts_core, State.handoverInputs_core, State.launchReads_core, foldl_core, apply_ite State.core, ite_self, implies_true, core_mk, core_eta]

theorem State.armFromLoad_core (s : State) : (State.armFromLoad s).core = s.core := by
  simp only [State.armFromLoad, State.armInputs_core, State.armOutputs_core, State.pendTests_core, State.enterArmed_core, State.barkB_core, State.readInputs_core, foldl_core, apply_ite State.core, ite_self, implies_true, core_mk, core_eta]

theorem State.reloadRam_core (s : State) : (State.reloadRam s).core = s.core := by
  simp only [State.reloadRam, State.kramAnew_core, foldl_core, apply_ite State.core, ite_self, implies_true, core_mk, core_eta]

theorem State.restartDue_core (s : State) : (State.restartDue s).core = s.core := by
  simp only [State.restartDue, State.cycleEntry_core, State.reloadRam_core, foldl_core, apply_ite State.core, ite_self, implies_true, core_mk, core_eta]

theorem State.cycleWrite_core (s : State) (o : CycleObs) : (State.cycleWrite s o).core = s.core := by
  simp only [State.cycleWrite, State.raiseAll_core, State.command_core, State.monitorBoundary_core, State.restartDue_core, State.evalA_core, State.whistleOut_core, State.handoverWindow_core, State.observe_core, State.compare_core, State.split_core, foldl_core, apply_ite State.core, apply_ite Prod.fst, ite_self, implies_true, core_mk, core_eta]

theorem State.cycleNext_core (s : State) (o : CycleObs) (barked : Bool) : (State.cycleNext s o barked).core = s.core := by
  simp only [State.cycleNext, State.grants_core, State.recordEnd_core, State.produce_core, State.maintEnd_core, State.pulseEnd_core, State.barkA_core, State.barkB_core, State.readInputs_core, foldl_core, apply_ite State.core, ite_self, implies_true, core_mk, core_eta]

theorem State.takeUp_core (s : State) (o : CycleObs) : (State.takeUp s o).core = s.core := by
  simp only [State.takeUp, State.recordEnd_core, State.observe_core, State.barkB_core, State.readInputs_core, State.restartDue_core, foldl_core, apply_ite State.core, ite_self, implies_true, core_mk, core_eta]

theorem State.cycleEnd_core (s : State) (o : CycleObs) : (State.cycleEnd s o).core = s.core := by
  simp only [State.cycleEnd, State.cycleWrite_core, State.cycleNext_core, State.takeUp_core, foldl_core, apply_ite State.core, ite_self, implies_true, core_mk, core_eta]

theorem State.boundary_core (s : State) (o : CycleObs) : (State.boundary s o).core = s.core := by
  simp only [State.boundary, State.observe_core, State.armFromLoad_core, State.cycleEnd_core, foldl_core, apply_ite State.core, ite_self, implies_true, core_mk, core_eta]

theorem State.capture_core (s : State) (upsets : List (Fin 2 × Fin 512)) : (State.capture s upsets).core = s.core := by
  simp only [State.capture, State.split_core, foldl_core, apply_ite State.core, ite_self, implies_true, core_mk, core_eta]

theorem State.localLate_core (s : State) : (State.localLate s).core = s.core := by
  unfold State.localLate; (try dsimp only); (repeat' split) <;> first | with_reducible rfl | simp only [State.stop_core, foldl_core, apply_ite State.core, ite_self, implies_true, core_mk, core_eta]

theorem State.deviceClear_core (s : State) (src : Src) : (State.deviceClear s src).core = s.core := by
  simp only [State.deviceClear, State.clearLocals_core, foldl_core, apply_ite State.core, ite_self, implies_true, core_mk, core_eta]

theorem State.sourceClear_core (s : State) (src : Src) : (State.sourceClear s src).core = s.core := by
  simp only [State.sourceClear, State.clearLocals_core, foldl_core, apply_ite State.core, ite_self, implies_true, core_mk, core_eta]

theorem State.onPort_core (s : State) (f : State → State) (hf : ∀ x0, (f x0).core = x0.core) : (State.onPort s f).core = s.core := by
  simp only [State.onPort, foldl_core, apply_ite State.core, ite_self, implies_true, core_mk, core_eta, *]

theorem State.fstatWrite_core (s : State) (r : Nat) (v : Word) : (State.fstatWrite s r v).core = s.core := by
  simp only [State.fstatWrite, foldl_core, apply_ite State.core, ite_self, implies_true, core_mk, core_eta]

theorem State.ackWrite_core (s : State) (v : Word) : (State.ackWrite s v).core = s.core := by
  unfold State.ackWrite; (try dsimp only); (repeat' split) <;> first | with_reducible rfl | simp only [State.closeRecord_core, foldl_core, apply_ite State.core, ite_self, implies_true, core_mk, core_eta]

theorem State.ridxWrite_core (s : State) (v : Word) : (State.ridxWrite s v).core = s.core := by
  simp only [State.ridxWrite, foldl_core, apply_ite State.core, ite_self, implies_true, core_mk, core_eta]

theorem State.sidxWrite_core (s : State) (v : Word) : (State.sidxWrite s v).core = s.core := by
  simp only [State.sidxWrite, foldl_core, apply_ite State.core, ite_self, implies_true, core_mk, core_eta]

theorem State.alertWrite_core (s : State) (v : Word) : (State.alertWrite s v).core = s.core := by
  simp only [State.alertWrite, foldl_core, apply_ite State.core, ite_self, implies_true, core_mk, core_eta]

theorem State.loadMap_core (s : State) (l : List Byte) : (State.loadMap s l).core = s.core := by
  simp only [State.loadMap, foldl_core, apply_ite State.core, ite_self, implies_true, core_mk, core_eta]

theorem State.emptyFabric_core (s : State) : (State.emptyFabric s).core = s.core := by
  simp only [State.emptyFabric, foldl_core, apply_ite State.core, ite_self, implies_true, core_mk, core_eta]

theorem State.fabHeader_core (s : State) (l : List Byte) (now0 : Bool) (now1 : Bool) : (State.fabHeader s l now0 now1).core = s.core := by
  simp only [State.fabHeader, foldl_core, apply_ite State.core, ite_self, implies_true, core_mk, core_eta]

theorem State.fabWrite_core (s : State) (l : List Byte) : (State.fabWrite s l).core = s.core := by
  simp only [State.fabWrite, foldl_core, apply_ite State.core, ite_self, implies_true, core_mk, core_eta]

theorem State.fabCommit_core (s : State) (l : List Byte) : (State.fabCommit s l).core = s.core := by
  simp only [State.fabCommit, State.refs_core, foldl_core, apply_ite State.core, ite_self, implies_true, core_mk, core_eta]

theorem State.frameError_core (s : State) (i : Nat) : (State.frameError s i).core = s.core := by
  simp only [State.frameError, State.stop_core, State.raise_core, foldl_core, apply_ite State.core, ite_self, implies_true, core_mk, core_eta]

theorem State.scrub_core (s : State) (upsets : List (Fin 1162 × Fin 1024)) (refError : Bool) : (State.scrub s upsets refError).core = s.core := by
  simp only [State.scrub, State.fresh_core, State.stop_core, State.raise_core, State.refs_core, State.frameError_core, foldl_core, apply_ite State.core, ite_self, implies_true, core_mk, core_eta]

theorem State.reloadFrame_core (s : State) (i : Nat) : (State.reloadFrame s i).core = s.core := by
  simp only [State.reloadFrame, State.err_core, State.refs_core, foldl_core, apply_ite State.core, ite_self, implies_true, core_mk, core_eta]

theorem State.probeErr_core (s : State) (p : Nat) (cause : Nat) : (State.probeErr s p cause).core = s.core := by
  simp only [State.probeErr, foldl_core, apply_ite State.core, ite_self, implies_true, core_mk, core_eta]

theorem State.probeWr_core (s : State) (addr : Nat) (value : Word) : (State.probeWr s addr value).core = s.core := by
  unfold State.probeWr; (try dsimp only); (repeat' split) <;> first | with_reducible rfl | simp only [State.lkRefused_core, State.probeErr_core, foldl_core, apply_ite State.core, ite_self, implies_true, core_mk, core_eta]

theorem State.firstFail_core (s : State) (code : Nat) : (State.firstFail s code).core = s.core := by
  simp only [State.firstFail, foldl_core, apply_ite State.core, ite_self, implies_true, core_mk, core_eta]

theorem State.farrFail_core (s : State) (code : Nat) : (State.farrFail s code).core = s.core := by
  simp only [State.farrFail, State.line_core, State.firstFail_core, foldl_core, apply_ite State.core, ite_self, implies_true, core_mk, core_eta]

theorem State.setEnd_core (s : State) : (State.setEnd s).core = s.core := by
  unfold State.setEnd; (try dsimp only); (repeat' split) <;> first | with_reducible rfl | simp only [State.hostRestore_core, foldl_core, apply_ite State.core, ite_self, implies_true, core_mk, core_eta]

theorem State.testFailed_core (s : State) (code : Nat) : (State.testFailed s code).core = s.core := by
  unfold State.testFailed; (try dsimp only); (repeat' split) <;> first | with_reducible rfl | simp only [State.hostRestore_core, State.coreOut_core, State.farrFail_core, foldl_core, apply_ite State.core, ite_self, implies_true, core_mk, core_eta]

theorem State.testTakes_core (s : State) (code : Nat) : (State.testTakes s code).core = s.core := by
  unfold State.testTakes; (try dsimp only); (repeat' split) <;> first | with_reducible rfl | simp only [State.modYport_core, State.loftStop_core, State.emptyFabric_core, foldl_core, apply_ite State.core, ite_self, implies_true, core_mk, core_eta]

theorem State.testStart_core (s : State) : (State.testStart s).core = s.core := by
  unfold State.testStart; (try dsimp only); (repeat' split) <;> first | with_reducible rfl | simp only [State.testTakes_core, foldl_core, apply_ite State.core, ite_self, implies_true, core_mk, core_eta]

theorem State.testResult_core (s : State) (pass : Bool) (result : BitVec 32) : (State.testResult s pass result).core = s.core := by
  simp only [State.testResult, foldl_core, apply_ite State.core, ite_self, implies_true, core_mk, core_eta]

theorem State.testEnd_core (s : State) (pass : Bool) (result : BitVec 32) : (State.testEnd s pass result).core = s.core := by
  simp only [State.testEnd, State.setEnd_core, State.testFailed_core, State.testResult_core, foldl_core, apply_ite State.core, ite_self, implies_true, core_mk, core_eta]

theorem State.injResult_core (s : State) (uncaught : Option (Fin 264)) (falseFlag : Bool) : (State.injResult s uncaught falseFlag).core = s.core := by
  unfold State.injResult; (try dsimp only); (repeat' split) <;> first | with_reducible rfl | simp only [State.fresh_core, foldl_core, apply_ite State.core, ite_self, implies_true, core_mk, core_eta]

theorem State.injPassed_core (s : State) : (State.injPassed s).core = s.core := by
  unfold State.injPassed; (try dsimp only); (repeat' split) <;> first | with_reducible rfl | simp only [State.setEnd_core, foldl_core, apply_ite State.core, ite_self, implies_true, core_mk, core_eta]

theorem State.injEnd_core (s : State) (uncaught : Option (Fin 264)) (falseFlag : Bool) : (State.injEnd s uncaught falseFlag).core = s.core := by
  simp only [State.injEnd, State.haltPending_core, State.testFailed_core, State.testResult_core, State.injResult_core, State.injPassed_core, foldl_core, apply_ite State.core, ite_self, implies_true, core_mk, core_eta]

theorem State.goWrite_core (s : State) (value : Word) : (State.goWrite s value).core = s.core := by
  simp only [State.goWrite, State.lkRefused_core, foldl_core, apply_ite State.core, ite_self, implies_true, core_mk, core_eta]

theorem State.bootDone_core (s : State) (strap gateFail bank0 bank1 : Bool) : (State.bootDone s strap gateFail bank0 bank1).core = s.core := by
  simp only [State.bootDone, State.err_core, State.releaseIslands_core, State.boot_core, State.firstFail_core, foldl_core, apply_ite State.core, ite_self, implies_true, core_mk, core_eta]

theorem State.usePlan_core (s : State) (l : List Byte) : (State.usePlan s l).core = s.core := by
  simp only [State.usePlan, State.settle_core, foldl_core, apply_ite State.core, ite_self, implies_true, core_mk, core_eta]

theorem State.imageBad_core (s : State) : (State.imageBad s).core = s.core := by
  simp only [State.imageBad, State.line_core, foldl_core, apply_ite State.core, ite_self, implies_true, core_mk, core_eta]

theorem State.sheetBad_core (s : State) (e : Nat) : (State.sheetBad s e).core = s.core := by
  simp only [State.sheetBad, State.err_core, State.line_core, foldl_core, apply_ite State.core, ite_self, implies_true, core_mk, core_eta]

theorem State.takeTables_core (s : State) (l : List Byte) : (State.takeTables s l).core = s.core := by
  simp only [State.takeTables, State.loadWheels_core, State.loadInputs_core, State.loadOutputs_core, State.loadMap_core, foldl_core, apply_ite State.core, ite_self, implies_true, core_mk, core_eta]

theorem State.loadEnd_core (s : State) : (State.loadEnd s).core = s.core := by
  simp only [State.loadEnd, State.cycleEntry_core, State.split_core, foldl_core, apply_ite State.core, ite_self, implies_true, core_mk, core_eta]

theorem State.yardReady_core (s : State) : (State.yardReady s).core = s.core := by
  simp only [State.yardReady, State.loadEnd_core, foldl_core, apply_ite State.core, ite_self, implies_true, core_mk, core_eta]

theorem State.loadNet_core (s : State) (l : List Byte) : (State.loadNet s l).core = s.core := by
  simp only [State.loadNet, State.commitCollars_core, State.commitYard_core, State.yardReady_core, foldl_core, apply_ite State.core, ite_self, implies_true, core_mk, core_eta]

theorem State.dropSheets_core (s : State) : (State.dropSheets s).core = s.core := by
  simp only [State.dropSheets, foldl_core, apply_ite State.core, ite_self, implies_true, core_mk, core_eta]

theorem State.loadFabric_core (s : State) (l : List Byte) (obs : LoadObs) : (State.loadFabric s l obs).core = s.core := by
  unfold State.loadFabric; (try dsimp only); (repeat' split) <;> first | with_reducible rfl | simp only [State.err_core, State.fabHeader_core, State.fabWrite_core, State.fabCommit_core, State.firstFail_core, State.imageBad_core, State.sheetBad_core, State.loadNet_core, State.dropSheets_core, foldl_core, apply_ite State.core, ite_self, implies_true, core_mk, core_eta]

theorem State.tablesBad_core (s : State) (l : List Byte) (s' : State) (h : s.tablesBad l = some s') : s'.core = s.core := by
  unfold State.tablesBad at h
  dsimp only at h
  iterate 5 (split at h; · injection h with h; subst h; simp only [core_mk, core_eta])
  cases hc : classMapErr (section_ l 9) with
  | none => rw [hc] at h; exact nomatch h
  | some b => rw [hc] at h; injection h with h; subst h; simp only [core_mk, core_eta]


theorem State.loadTables_core (s : State) (obs : LoadObs) : (State.loadTables s obs).core = s.core := by
  unfold State.loadTables
  (try dsimp only)
  split
  · rename_i h
    rw [State.imageBad_core, State.tablesBad_core _ _ _ h]
  · split <;> simp only [State.sheetBad_core, State.loadFabric_core, State.takeTables_core, foldl_core, apply_ite State.core, ite_self, implies_true, core_mk, core_eta]

theorem State.afterBoard_core (s : State) (obs : LoadObs) : (State.afterBoard s obs).core = s.core := by
  simp only [State.afterBoard, State.boardEnd_core, State.loadTables_core, foldl_core, apply_ite State.core, ite_self, implies_true, core_mk, core_eta]

theorem State.loadBoard_core (s : State) (obs : LoadObs) : (State.loadBoard s obs).core = s.core := by
  unfold State.loadBoard; (try dsimp only); (repeat' split) <;> first | with_reducible rfl | simp only [State.startBoard_core, State.usePlan_core, State.imageBad_core, State.afterBoard_core, foldl_core, apply_ite State.core, ite_self, implies_true, core_mk, core_eta]

theorem State.loadArrange_core (s : State) (obs : LoadObs) : (State.loadArrange s obs).core = s.core := by
  simp only [State.loadArrange, State.imageBad_core, State.loadBoard_core, foldl_core, apply_ite State.core, ite_self, implies_true, core_mk, core_eta]

theorem State.loadClear_core (s : State) : (State.loadClear s).core = s.core := by
  simp only [State.loadClear, State.err_core, State.line_core, State.closeStop_core, State.running_core, State.split_core, State.emptyFabric_core, foldl_core, apply_ite State.core, ite_self, implies_true, core_mk, core_eta]

theorem State.load_core (s : State) (obs : LoadObs) : (State.load s obs).core = s.core := by
  unfold State.load; (try dsimp only); (repeat' split) <;> first | with_reducible rfl | simp only [State.running_core, State.imageBad_core, State.loadArrange_core, State.loadClear_core, foldl_core, apply_ite State.core, ite_self, implies_true, core_mk, core_eta]

theorem State.erasureRestarts_core (s : State) : (State.erasureRestarts s).core = s.core := by
  unfold State.erasureRestarts; (try dsimp only); (repeat' split) <;> first | with_reducible rfl | simp only [State.warmReset_core, State.boot_core, foldl_core, apply_ite State.core, ite_self, implies_true, core_mk, core_eta]

theorem State.cutRecord_core (s : State) : (State.cutRecord s).core = s.core := by
  unfold State.cutRecord; (try dsimp only); (repeat' split) <;> first | with_reducible rfl | simp only [State.alert_core, foldl_core, apply_ite State.core, ite_self, implies_true, core_mk, core_eta]

theorem State.lockLate_core (s : State) : (State.lockLate s).core = s.core := by
  simp only [State.lockLate, State.loadEnd_core, State.load_core, foldl_core, apply_ite State.core, ite_self, implies_true, core_mk, core_eta]

theorem State.loftRuns_core (s : State) (bank : Nat) (fallback : Bool) : (State.loftRuns s bank fallback).core = s.core := by
  simp only [State.loftRuns, foldl_core, apply_ite State.core, ite_self, implies_true, core_mk, core_eta]

theorem State.loftStarts_core (s : State) : (State.loftStarts s).core = s.core := by
  unfold State.loftStarts; (try dsimp only); (repeat' split) <;> first | with_reducible rfl | simp only [State.err_core, State.loftRuns_core, foldl_core, apply_ite State.core, ite_self, implies_true, core_mk, core_eta]

theorem State.setSpook_core (s : State) (on : Bool) : (State.setSpook s on).core = s.core := by
  simp only [State.setSpook, State.line_core, foldl_core, apply_ite State.core, ite_self, implies_true, core_mk, core_eta]

theorem State.spookClear_core (s : State) : (State.spookClear s).core = s.core := by
  simp only [State.spookClear, State.setSpook_core, foldl_core, apply_ite State.core, ite_self, implies_true, core_mk, core_eta]

theorem State.spookPut_core (s : State) (addr : Nat) (v : Nat) : (State.spookPut s addr v).core = s.core := by
  unfold State.spookPut; (try dsimp only); (repeat' split) <;> first | with_reducible rfl | simp only [State.setSpook_core, foldl_core, apply_ite State.core, ite_self, implies_true, core_mk, core_eta]

theorem State.spookCtl_core (s : State) (value : Word) : (State.spookCtl s value).core = s.core := by
  simp only [State.spookCtl, State.lkRefused_core, State.spookPut_core, foldl_core, apply_ite State.core, ite_self, implies_true, core_mk, core_eta]

theorem State.echoes_core (m : Mbx) (s : State) : (State.echoes m s).core = s.core := by
  simp only [State.echoes, State.mbxEnd_core, foldl_core, apply_ite State.core, ite_self, implies_true, core_mk, core_eta]

theorem State.tellUid_core (_m : Mbx) (s : State) : (State.tellUid _m s).core = s.core := by
  simp only [State.tellUid, State.mbxEnd_core, foldl_core, apply_ite State.core, ite_self, implies_true, core_mk, core_eta]

theorem State.maintAsk_core (s : State) (ok : Bool) (enter : Bool) : (State.maintAsk s ok enter).core = s.core := by
  simp only [State.maintAsk, State.mbxEnd_core, foldl_core, apply_ite State.core, ite_self, implies_true, core_mk, core_eta]

theorem State.imgBegins_core (m : Mbx) (s : State) : (State.imgBegins m s).core = s.core := by
  simp only [State.imgBegins, State.mbxEnd_core, foldl_core, apply_ite State.core, ite_self, implies_true, core_mk, core_eta]

theorem State.noSequence_core (s : State) : (State.noSequence s).core = s.core := by
  simp only [State.noSequence, State.fresh_core, State.mbxEnd_core, foldl_core, apply_ite State.core, ite_self, implies_true, core_mk, core_eta]

theorem State.inSequence_core (s : State) (f : Nat → State → State) (hf : ∀ x0 x1, (f x0 x1).core = x1.core) : (State.inSequence s f).core = s.core := by
  unfold State.inSequence; (try dsimp only); (repeat' split) <;> first | with_reducible rfl | simp only [State.mbxEnd_core, State.noSequence_core, foldl_core, apply_ite State.core, ite_self, implies_true, core_mk, core_eta, *]

theorem State.showCode_core (s : State) (code : Nat) : (State.showCode s code).core = s.core := by
  unfold State.showCode
  rw [core_mk]
  exact State.setArg0_core s code

theorem State.imgVerifies_core (_m : Mbx) (s : State) : (State.imgVerifies _m s).core = s.core := by
  simp only [State.imgVerifies, State.mbxEnd_core, State.inSequence_core, State.showCode_core, foldl_core, apply_ite State.core, ite_self, implies_true, core_mk, core_eta]

theorem State.msend_core (m : Mbx) (s : State) : (State.msend m s).core = s.core := by
  simp only [State.msend, State.mbxEnd_core, State.sendOwn_core, foldl_core, apply_ite State.core, ite_self, implies_true, core_mk, core_eta]

theorem State.mrecvs_core (_m : Mbx) (s : State) : (State.mrecvs _m s).core = s.core := by
  unfold State.mrecvs; (try dsimp only); (repeat' split) <;> first | with_reducible rfl | simp only [State.mbxEnd_core, State.setArg0_core, State.setArg1_core, foldl_core, apply_ite State.core, ite_self, implies_true, core_mk, core_eta]

theorem State.lcResult_core (s : State) (code : Nat) (result : Nat) : (State.lcResult s code result).core = s.core := by
  simp only [State.lcResult, foldl_core, apply_ite State.core, ite_self, implies_true, core_mk, core_eta]

theorem State.lcEnd_core (s : State) (code : Nat) (result : Nat) : (State.lcEnd s code result).core = s.core := by
  simp only [State.lcEnd, State.mbxEnd_core, State.lcResult_core, foldl_core, apply_ite State.core, ite_self, implies_true, core_mk, core_eta]

theorem State.readEffect_core (s : State) (a : Nat) : (State.readEffect s a).core = s.core := by
  simp only [State.readEffect, foldl_core, apply_ite State.core, ite_self, implies_true, core_mk, core_eta]

theorem State.readWords_core : ∀ (l : List Nat) (s : State), (s.readWords l).1.core = s.core
  | [], _ => rfl
  | a :: as, s => by
    unfold State.readWords
    exact (State.readWords_core as _).trans (State.readEffect_core s a)

theorem State.hostcmdWrite_core (s : State) (v : Word) : (State.hostcmdWrite s v).core = s.core := by
  simp only [State.hostcmdWrite, State.fifoPush_core, State.mbxUnknown_core, foldl_core, apply_ite State.core, ite_self, implies_true, core_mk, core_eta]

theorem State.mbufWrite_core (s : State) (w : Nat) (v : Word) : (State.mbufWrite s w v).core = s.core := by
  simp only [State.mbufWrite, foldl_core, apply_ite State.core, ite_self, implies_true, core_mk, core_eta]

theorem State.globalPut_core (s : State) (a : Nat) (v : Word) : (State.globalPut s a v).core = s.core := by
  unfold State.globalPut; (try dsimp only); (repeat' split) <;> first | with_reducible rfl | simp only [State.fstatWrite_core, State.alertWrite_core, State.hostcmdWrite_core, State.mbufWrite_core, foldl_core, apply_ite State.core, ite_self, implies_true, core_mk, core_eta]

theorem State.budgetWrite_core (s : State) (v : Nat) : (State.budgetWrite s v).core = s.core := by
  simp only [State.budgetWrite, foldl_core, apply_ite State.core, ite_self, implies_true, core_mk, core_eta]

theorem State.pagePut_core (s : State) (page : Nat) (a : Nat) (v : Word) : (State.pagePut s page a v).core = s.core := by
  unfold State.pagePut; (try dsimp only); (repeat' split) <;> first | with_reducible rfl | simp only [State.budgetWrite_core, State.shdnWrite_core, State.probeWr_core, State.ackWrite_core, State.ridxWrite_core, State.goWrite_core, State.sidxWrite_core, State.rotctlWrite_core, State.colQrel_core, State.yardQrel_core, State.spookPut_core, foldl_core, apply_ite State.core, ite_self, implies_true, core_mk, core_eta]

theorem State.regPut_core (s : State) (a : Nat) (v : Word) : (State.regPut s a v).core = s.core := by
  unfold State.regPut; (try dsimp only); (repeat' split) <;> first | with_reducible rfl | simp only [State.globalPut_core, State.pagePut_core, foldl_core, apply_ite State.core, ite_self, implies_true, core_mk, core_eta]

theorem State.wordWrite_core (s : State) (a : Nat) (v : Word) : (State.wordWrite s a v).core = s.core := by
  unfold State.wordWrite; (try dsimp only); (repeat' split) <;> first | with_reducible rfl | simp only [State.alert_core, State.lkRefused_core, State.regPut_core, State.frameBit_core, foldl_core, apply_ite State.core, ite_self, implies_true, core_mk, core_eta]

theorem State.wordsWrite_core : ∀ (l : List (Nat × Word)) (s : State), (s.wordsWrite l).core = s.core
  | [], _ => rfl
  | (a, v) :: ws, s => by
    unfold State.wordsWrite
    rw [State.wordsWrite_core ws, State.wordWrite_core]

theorem State.frameBad_core (s : State) (crc : Bool) (addr : Nat) : (State.frameBad s crc addr).core = s.core := by
  simp only [State.frameBad, State.alert_core, State.err_core, foldl_core, apply_ite State.core, ite_self, implies_true, core_mk, core_eta]

theorem State.writeEnd_core (s : State) (csFall : Nat) (bytes : List Byte) (extraBits : Nat) : (State.writeEnd s csFall bytes extraBits).core = s.core := by
  unfold State.writeEnd; (try dsimp only); (repeat' split) <;> first | with_reducible rfl | simp only [State.frameBad_core, State.wordsWrite_core, foldl_core, apply_ite State.core, ite_self, implies_true, core_mk, core_eta]

theorem State.readEnd_core (s : State) (csFall : Nat) (bytes : List Byte) (turn : Nat) (bits : Nat) : (State.readEnd s csFall bytes turn bits).core = s.core := by
  unfold State.readEnd
  (try dsimp only)
  (repeat' split) <;> simp only [State.frameBad_core, State.readWords_core, State.fresh_core, core_mk]
  all_goals first | rfl | exact (State.readWords_core _ _)

end Sys2Proof.Machine
end

