-- ==== Sys2Proof/Laws/Forms.lean ====
section
/-!
SUPPORT. Every command's outcome has one form: time moves to the command's instant, the command takes effect, and the part settles.
-/
namespace Sys2Proof.Machine

theorem exec_form_powerOnResetRelease {s : State} : ∀ t, ∃ f, exec (.powerOnResetRelease t) s = actAt false t s f := by
  intro t
  show ∃ f, execPowerOnResetRelease t s = _
  unfold execPowerOnResetRelease
  exact ⟨_, rfl⟩

theorem exec_form_powerOnResetAssert {s : State} : ∀ t, ∃ f, exec (.powerOnResetAssert t) s = actAt false t s f := by
  intro t
  show ∃ f, execPowerOnResetAssert t s = _
  unfold execPowerOnResetAssert
  exact ⟨_, rfl⟩

theorem exec_form_upSequenceStart {s : State} : ∀ t, ∃ f, exec (.upSequenceStart t) s = actAt false t s f := by
  intro t
  show ∃ f, execUpSequenceStart t s = _
  unfold execUpSequenceStart
  exact ⟨_, rfl⟩

theorem exec_form_seqPgRise {s : State} : ∀ t ch obs, ∃ f, exec (.seqPgRise t ch obs) s = actAt false t s f := by
  intro t ch obs
  show ∃ f, execSeqPgRise t ch obs s = _
  unfold execSeqPgRise
  exact ⟨_, rfl⟩

theorem exec_form_settleExpiry {s : State} : ∀ t ch obs, ∃ f, exec (.settleExpiry t ch obs) s = actAt false t s f := by
  intro t ch obs
  show ∃ f, execSettleExpiry t ch obs s = _
  unfold execSettleExpiry
  exact ⟨_, rfl⟩

theorem exec_form_pgTimeout {s : State} : ∀ t ch, ∃ f, exec (.pgTimeout t ch) s = actAt false t s f := by
  intro t ch
  show ∃ f, execPgTimeout t ch s = _
  unfold execPgTimeout
  exact ⟨_, rfl⟩

theorem exec_form_seqPgFall {s : State} : ∀ t ch width, ∃ f, exec (.seqPgFall t ch width) s = actAt false t s f := by
  intro t ch width
  show ∃ f, execSeqPgFall t ch width s = _
  unfold execSeqPgFall
  exact ⟨_, rfl⟩

theorem exec_form_shdn {s : State} : ∀ t value, ∃ f, exec (.shdn t value) s = actAt false t s f := by
  intro t value
  show ∃ f, execShdn t value s = _
  unfold execShdn
  exact ⟨_, rfl⟩

theorem exec_form_dscTimeout {s : State} : ∀ t ch, ∃ f, exec (.dscTimeout t ch) s = actAt false t s f := by
  intro t ch
  show ∃ f, execDscTimeout t ch s = _
  unfold execDscTimeout
  exact ⟨_, rfl⟩

theorem exec_form_vinWarn {s : State} : ∀ t, ∃ f, exec (.vinWarn t) s = actAt false t s f := by
  intro t
  show ∃ f, execVinWarn t s = _
  unfold execVinWarn
  exact ⟨_, rfl⟩

theorem exec_form_vinOk {s : State} : ∀ t, ∃ f, exec (.vinOk t) s = actAt false t s f := by
  intro t
  show ∃ f, execVinOk t s = _
  unfold execVinOk
  exact ⟨_, rfl⟩

theorem exec_form_vinAbandon {s : State} : ∀ t snapWriting recWriting, ∃ f, exec (.vinAbandon t snapWriting recWriting) s = actAt false t s f := by
  intro t snapWriting recWriting
  show ∃ f, execVinAbandon t snapWriting recWriting s = _
  unfold execVinAbandon
  exact ⟨_, rfl⟩

theorem exec_form_vinAbandonEnd {s : State} : ∀ t, ∃ f, exec (.vinAbandonEnd t) s = actAt false t s f := by
  intro t
  show ∃ f, execVinAbandonEnd t s = _
  unfold execVinAbandonEnd
  exact ⟨_, rfl⟩

theorem exec_form_snapshotWrite {s : State} : ∀ t, ∃ f, exec (.snapshotWrite t) s = actAt false t s f := by
  intro t
  show ∃ f, execSnapshotWrite t s = _
  unfold execSnapshotWrite
  exact ⟨_, rfl⟩

theorem exec_form_resetNAssert {s : State} : ∀ t width, ∃ f, exec (.resetNAssert t width) s = actAt false t s f := by
  intro t width
  show ∃ f, execResetNAssert t width s = _
  unfold execResetNAssert
  exact ⟨_, rfl⟩

theorem exec_form_resetNRelease {s : State} : ∀ t, ∃ f, exec (.resetNRelease t) s = actAt false t s f := by
  intro t
  show ∃ f, execResetNRelease t s = _
  unfold execResetNRelease
  exact ⟨_, rfl⟩

theorem exec_form_crystalStartTimeout {s : State} : ∀ t, ∃ f, exec (.crystalStartTimeout t) s = actAt false t s f := by
  intro t
  show ∃ f, execCrystalStartTimeout t s = _
  unfold execCrystalStartTimeout
  exact ⟨_, rfl⟩

theorem exec_form_rcCalibration {s : State} : ∀ t khz, ∃ f, exec (.rcCalibration t khz) s = actAt false t s f := by
  intro t khz
  show ∃ f, execRcCalibration t khz s = _
  unfold execRcCalibration
  exact ⟨_, rfl⟩

theorem exec_form_bootComplete {s : State} : ∀ t strap gateFail b0 b1, ∃ f, exec (.bootComplete t strap gateFail b0 b1) s = actAt false t s f := by
  intro t strap gateFail b0 b1
  show ∃ f, execBootComplete t strap gateFail b0 b1 s = _
  unfold execBootComplete
  exact ⟨_, rfl⟩

theorem exec_form_cmpinjEnd {s : State} : ∀ t uncaught falseFlag, ∃ f, exec (.cmpinjEnd t uncaught falseFlag) s = actAt false t s f := by
  intro t uncaught falseFlag
  show ∃ f, execCmpinjEnd t uncaught falseFlag s = _
  unfold execCmpinjEnd
  exact ⟨_, rfl⟩

theorem exec_form_farrierTestStart {s : State} : ∀ t, ∃ f, exec (.farrierTestStart t) s = actAt false t s f := by
  intro t
  show ∃ f, execFarrierTestStart t s = _
  unfold execFarrierTestStart
  exact ⟨_, rfl⟩

theorem exec_form_farrierTestEnd {s : State} : ∀ t pass result, ∃ f, exec (.farrierTestEnd t pass result) s = actAt false t s f := by
  intro t pass result
  show ∃ f, execFarrierTestEnd t pass result s = _
  unfold execFarrierTestEnd
  exact ⟨_, rfl⟩

theorem exec_form_selftestEnd {s : State} : ∀ t obs, ∃ f, exec (.selftestEnd t obs) s = actAt false t s f := by
  intro t obs
  show ∃ f, execSelftestEnd t obs s = _
  unfold execSelftestEnd
  exact ⟨_, rfl⟩

theorem exec_form_loftStart {s : State} : ∀ t, ∃ f, exec (.loftStart t) s = actAt false t s f := by
  intro t
  show ∃ f, execLoftStart t s = _
  unfold execLoftStart
  exact ⟨_, rfl⟩

theorem exec_form_lockwaitExpiry {s : State} : ∀ t, ∃ f, exec (.lockwaitExpiry t) s = actAt false t s f := by
  intro t
  show ∃ f, execLockwaitExpiry t s = _
  unfold execLockwaitExpiry
  exact ⟨_, rfl⟩

theorem exec_form_pllLossDetect {s : State} : ∀ t idx dev, ∃ f, exec (.pllLossDetect t idx dev) s = actAt false t s f := by
  intro t idx dev
  show ∃ f, execPllLossDetect t idx dev s = _
  unfold execPllLossDetect
  exact ⟨_, rfl⟩

theorem exec_form_clockEdgeMissing {s : State} : ∀ t idx, ∃ f, exec (.clockEdgeMissing t idx) s = actAt false t s f := by
  intro t idx
  show ∃ f, execClockEdgeMissing t idx s = _
  unfold execClockEdgeMissing
  exact ⟨_, rfl⟩

theorem exec_form_rcstop {s : State} : ∀ t, ∃ f, exec (.rcstop t) s = actAt false t s f := by
  intro t
  show ∃ f, execRcstop t s = _
  unfold execRcstop
  exact ⟨_, rfl⟩

theorem exec_form_handshakeTimeout {s : State} : ∀ t island waiter, ∃ f, exec (.handshakeTimeout t island waiter) s = actAt false t s f := by
  intro t island waiter
  show ∃ f, execHandshakeTimeout t island waiter s = _
  unfold execHandshakeTimeout
  exact ⟨_, rfl⟩

theorem exec_form_fifoTransfer {s : State} : ∀ t fifo, ∃ f, exec (.fifoTransfer t fifo) s = actAt false t s f := by
  intro t fifo
  show ∃ f, execFifoTransfer t fifo s = _
  unfold execFifoTransfer
  exact ⟨_, rfl⟩

theorem exec_form_cycleBoundary {s : State} : ∀ t obs, ∃ f, exec (.cycleBoundary t obs) s = actAt true t s f := by
  intro t obs
  show ∃ f, execCycleBoundary t obs s = _
  unfold execCycleBoundary
  exact ⟨_, rfl⟩

theorem exec_form_crossCheckCapture {s : State} : ∀ t upsets, ∃ f, exec (.crossCheckCapture t upsets) s = actAt false t s f := by
  intro t upsets
  show ∃ f, execCrossCheckCapture t upsets s = _
  unfold execCrossCheckCapture
  exact ⟨_, rfl⟩

theorem exec_form_commandDeadline {s : State} : ∀ t core, ∃ f, exec (.commandDeadline t core) s = actAt false t s f := by
  intro t core
  show ∃ f, execCommandDeadline t core s = _
  unfold execCommandDeadline
  exact ⟨_, rfl⟩

theorem exec_form_darkPulseStart {s : State} : ∀ t line, ∃ f, exec (.darkPulseStart t line) s = actAt false t s f := by
  intro t line
  show ∃ f, execDarkPulseStart t line s = _
  unfold execDarkPulseStart
  exact ⟨_, rfl⟩

theorem exec_form_checkSample {s : State} : ∀ t line, ∃ f, exec (.checkSample t line) s = actAt false t s f := by
  intro t line
  show ∃ f, execCheckSample t line s = _
  unfold execCheckSample
  exact ⟨_, rfl⟩

theorem exec_form_darkPulseEnd {s : State} : ∀ t line, ∃ f, exec (.darkPulseEnd t line) s = actAt false t s f := by
  intro t line
  show ∃ f, execDarkPulseEnd t line s = _
  unfold execDarkPulseEnd
  exact ⟨_, rfl⟩

theorem exec_form_blankingEnd {s : State} : ∀ t pair ch, ∃ f, exec (.blankingEnd t pair ch) s = actAt false t s f := by
  intro t pair ch
  show ∃ f, execBlankingEnd t pair ch s = _
  unfold execBlankingEnd
  exact ⟨_, rfl⟩

theorem exec_form_filterExpiry {s : State} : ∀ t pair ch, ∃ f, exec (.filterExpiry t pair ch) s = actAt false t s f := by
  intro t pair ch
  show ∃ f, execFilterExpiry t pair ch s = _
  unfold execFilterExpiry
  exact ⟨_, rfl⟩

theorem exec_form_discrepancyExpiry {s : State} : ∀ t pair, ∃ f, exec (.discrepancyExpiry t pair) s = actAt false t s f := by
  intro t pair
  show ∃ f, execDiscrepancyExpiry t pair s = _
  unfold execDiscrepancyExpiry
  exact ⟨_, rfl⟩

theorem exec_form_ossdtolExpiry {s : State} : ∀ t pair ch, ∃ f, exec (.ossdtolExpiry t pair ch) s = actAt false t s f := by
  intro t pair ch
  show ∃ f, execOssdtolExpiry t pair ch s = _
  unfold execOssdtolExpiry
  exact ⟨_, rfl⟩

theorem exec_form_ossdchkExpiry {s : State} : ∀ t pair ch, ∃ f, exec (.ossdchkExpiry t pair ch) s = actAt false t s f := by
  intro t pair ch
  show ∃ f, execOssdchkExpiry t pair ch s = _
  unfold execOssdchkExpiry
  exact ⟨_, rfl⟩

theorem exec_form_ackActuation {s : State} : ∀ t pin level, ∃ f, exec (.ackActuation t pin level) s = actAt false t s f := by
  intro t pin level
  show ∃ f, execAckActuation t pin level s = _
  unfold execAckActuation
  exact ⟨_, rfl⟩

theorem exec_form_ackActuationDiscard {s : State} : ∀ t, ∃ f, exec (.ackActuationDiscard t) s = actAt false t s f := by
  intro t
  show ∃ f, execAckActuationDiscard t s = _
  unfold execAckActuationDiscard
  exact ⟨_, rfl⟩

theorem exec_form_switchtExpiry {s : State} : ∀ t sheet idx, ∃ f, exec (.switchtExpiry t sheet idx) s = actAt false t s f := by
  intro t sheet idx
  show ∃ f, execSwitchtExpiry t sheet idx s = _
  unfold execSwitchtExpiry
  exact ⟨_, rfl⟩

theorem exec_form_donExpiry {s : State} : ∀ t sheet idx, ∃ f, exec (.donExpiry t sheet idx) s = actAt false t s f := by
  intro t sheet idx
  show ∃ f, execDonExpiry t sheet idx s = _
  unfold execDonExpiry
  exact ⟨_, rfl⟩

theorem exec_form_cat1DelayExpiry {s : State} : ∀ t sheet idx, ∃ f, exec (.cat1DelayExpiry t sheet idx) s = actAt false t s f := by
  intro t sheet idx
  show ∃ f, execCat1DelayExpiry t sheet idx s = _
  unfold execCat1DelayExpiry
  exact ⟨_, rfl⟩

theorem exec_form_maxtExpiry {s : State} : ∀ t sheet idx, ∃ f, exec (.maxtExpiry t sheet idx) s = actAt false t s f := by
  intro t sheet idx
  show ∃ f, execMaxtExpiry t sheet idx s = _
  unfold execMaxtExpiry
  exact ⟨_, rfl⟩

theorem exec_form_toothEdge {s : State} : ∀ t wheel pin level, ∃ f, exec (.toothEdge t wheel pin level) s = actAt false t s f := by
  intro t wheel pin level
  show ∃ f, execToothEdge t wheel pin level s = _
  unfold execToothEdge
  exact ⟨_, rfl⟩

theorem exec_form_standstillConfirm {s : State} : ∀ t sheet idx, ∃ f, exec (.standstillConfirm t sheet idx) s = actAt false t s f := by
  intro t sheet idx
  show ∃ f, execStandstillConfirm t sheet idx s = _
  unfold execStandstillConfirm
  exact ⟨_, rfl⟩

theorem exec_form_motionLocalReset {s : State} : ∀ t sheet idx, ∃ f, exec (.motionLocalReset t sheet idx) s = actAt false t s f := by
  intro t sheet idx
  show ∃ f, execMotionLocalReset t sheet idx s = _
  unfold execMotionLocalReset
  exact ⟨_, rfl⟩

theorem exec_form_launchRelease {s : State} : ∀ t, ∃ f, exec (.launchRelease t) s = actAt false t s f := by
  intro t
  show ∃ f, execLaunchRelease t s = _
  unfold execLaunchRelease
  exact ⟨_, rfl⟩

theorem exec_form_readbackChange {s : State} : ∀ t out leg level, ∃ f, exec (.readbackChange t out leg level) s = actAt false t s f := by
  intro t out leg level
  show ∃ f, execReadbackChange t out leg level s = _
  unfold execReadbackChange
  exact ⟨_, rfl⟩

theorem exec_form_switchOnWindowEnd {s : State} : ∀ t out, ∃ f, exec (.switchOnWindowEnd t out) s = actAt false t s f := by
  intro t out
  show ∃ f, execSwitchOnWindowEnd t out s = _
  unfold execSwitchOnWindowEnd
  exact ⟨_, rfl⟩

theorem exec_form_ocfiltExpiry {s : State} : ∀ t out leg, ∃ f, exec (.ocfiltExpiry t out leg) s = actAt false t s f := by
  intro t out leg
  show ∃ f, execOcfiltExpiry t out leg s = _
  unfold execOcfiltExpiry
  exact ⟨_, rfl⟩

theorem exec_form_offdlyExpiry {s : State} : ∀ t out leg, ∃ f, exec (.offdlyExpiry t out leg) s = actAt false t s f := by
  intro t out leg
  show ∃ f, execOffdlyExpiry t out leg s = _
  unfold execOffdlyExpiry
  exact ⟨_, rfl⟩

theorem exec_form_outputFaultClear {s : State} : ∀ t out, ∃ f, exec (.outputFaultClear t out) s = actAt false t s f := by
  intro t out
  show ∃ f, execOutputFaultClear t out s = _
  unfold execOutputFaultClear
  exact ⟨_, rfl⟩

theorem exec_form_darkTestDue {s : State} : ∀ t out leg, ∃ f, exec (.darkTestDue t out leg) s = actAt false t s f := by
  intro t out leg
  show ∃ f, execDarkTestDue t out leg s = _
  unfold execDarkTestDue
  exact ⟨_, rfl⟩

theorem exec_form_darkTestStart {s : State} : ∀ t out leg, ∃ f, exec (.darkTestStart t out leg) s = actAt false t s f := by
  intro t out leg
  show ∃ f, execDarkTestStart t out leg s = _
  unfold execDarkTestStart
  exact ⟨_, rfl⟩

theorem exec_form_darkTestPass {s : State} : ∀ t, ∃ f, exec (.darkTestPass t) s = actAt false t s f := by
  intro t
  show ∃ f, execDarkTestPass t s = _
  unfold execDarkTestPass
  exact ⟨_, rfl⟩

theorem exec_form_darkTestTimeout {s : State} : ∀ t, ∃ f, exec (.darkTestTimeout t) s = actAt false t s f := by
  intro t
  show ∃ f, execDarkTestTimeout t s = _
  unfold execDarkTestTimeout
  exact ⟨_, rfl⟩

theorem exec_form_muzzleNLow {s : State} : ∀ t width, ∃ f, exec (.muzzleNLow t width) s = actAt false t s f := by
  intro t width
  show ∃ f, execMuzzleNLow t width s = _
  unfold execMuzzleNLow
  exact ⟨_, rfl⟩

theorem exec_form_muzzleNHigh {s : State} : ∀ t, ∃ f, exec (.muzzleNHigh t) s = actAt false t s f := by
  intro t
  show ∃ f, execMuzzleNHigh t s = _
  unfold execMuzzleNHigh
  exact ⟨_, rfl⟩

theorem exec_form_barkMon {s : State} : ∀ t pin, ∃ f, exec (.barkMon t pin) s = actAt false t s f := by
  intro t pin
  show ∃ f, execBarkMon t pin s = _
  unfold execBarkMon
  exact ⟨_, rfl⟩

theorem exec_form_kramPatrol {s : State} : ∀ t errs, ∃ f, exec (.kramPatrol t errs) s = actAt false t s f := by
  intro t errs
  show ∃ f, execKramPatrol t errs s = _
  unfold execKramPatrol
  exact ⟨_, rfl⟩

theorem exec_form_rotationDue {s : State} : ∀ t, ∃ f, exec (.rotationDue t) s = actAt false t s f := by
  intro t
  show ∃ f, execRotationDue t s = _
  unfold execRotationDue
  exact ⟨_, rfl⟩

theorem exec_form_rotationSplit {s : State} : ∀ t, ∃ f, exec (.rotationSplit t) s = actAt false t s f := by
  intro t
  show ∃ f, execRotationSplit t s = _
  unfold execRotationSplit
  exact ⟨_, rfl⟩

theorem exec_form_rotationLate {s : State} : ∀ t, ∃ f, exec (.rotationLate t) s = actAt false t s f := by
  intro t
  show ∃ f, execRotationLate t s = _
  unfold execRotationLate
  exact ⟨_, rfl⟩

theorem exec_form_rotationRejoin {s : State} : ∀ t, ∃ f, exec (.rotationRejoin t) s = actAt false t s f := by
  intro t
  show ∃ f, execRotationRejoin t s = _
  unfold execRotationRejoin
  exact ⟨_, rfl⟩

theorem exec_form_soloTimeout {s : State} : ∀ t, ∃ f, exec (.soloTimeout t) s = actAt false t s f := by
  intro t
  show ∃ f, execSoloTimeout t s = _
  unfold execSoloTimeout
  exact ⟨_, rfl⟩

theorem exec_form_rotctlNow {s : State} : ∀ t value, ∃ f, exec (.rotctlNow t value) s = actAt false t s f := by
  intro t value
  show ∃ f, execRotctlNow t value s = _
  unfold execRotctlNow
  exact ⟨_, rfl⟩

theorem exec_form_scrubPass {s : State} : ∀ t upsets refError, ∃ f, exec (.scrubPass t upsets refError) s = actAt false t s f := by
  intro t upsets refError
  show ∃ f, execScrubPass t upsets refError s = _
  unfold execScrubPass
  exact ⟨_, rfl⟩

theorem exec_form_scrubReload {s : State} : ∀ t frame, ∃ f, exec (.scrubReload t frame) s = actAt false t s f := by
  intro t frame
  show ∃ f, execScrubReload t frame s = _
  unfold execScrubReload
  exact ⟨_, rfl⟩

theorem exec_form_probeWrite {s : State} : ∀ t addr value, ∃ f, exec (.probeWrite t addr value) s = actAt false t s f := by
  intro t addr value
  show ∃ f, execProbeWrite t addr value s = _
  unfold execProbeWrite
  exact ⟨_, rfl⟩

theorem exec_form_radioTransfer {s : State} : ∀ t port irqLow, ∃ f, exec (.radioTransfer t port irqLow) s = actAt false t s f := by
  intro t port irqLow
  show ∃ f, execRadioTransfer t port irqLow s = _
  unfold execRadioTransfer
  exact ⟨_, rfl⟩

theorem exec_form_radioPoll {s : State} : ∀ t port, ∃ f, exec (.radioPoll t port) s = actAt false t s f := by
  intro t port
  show ∃ f, execRadioPoll t port s = _
  unfold execRadioPoll
  exact ⟨_, rfl⟩

theorem exec_form_beaconRequest {s : State} : ∀ t port, ∃ f, exec (.beaconRequest t port) s = actAt false t s f := by
  intro t port
  show ∃ f, execBeaconRequest t port s = _
  unfold execBeaconRequest
  exact ⟨_, rfl⟩

theorem exec_form_pdu {s : State} : ∀ t port frame, ∃ f, exec (.pdu t port frame) s = actAt false t s f := by
  intro t port frame
  show ∃ f, execPdu t port frame s = _
  unfold execPdu
  exact ⟨_, rfl⟩

theorem exec_form_beaconReport {s : State} : ∀ t port frame, ∃ f, exec (.beaconReport t port frame) s = actAt false t s f := by
  intro t port frame
  show ∃ f, execBeaconReport t port frame s = _
  unfold execBeaconReport
  exact ⟨_, rfl⟩

theorem exec_form_headStatus {s : State} : ∀ t port frame, ∃ f, exec (.headStatus t port frame) s = actAt false t s f := by
  intro t port frame
  show ∃ f, execHeadStatus t port frame s = _
  unfold execHeadStatus
  exact ⟨_, rfl⟩

theorem exec_form_portManagementFrame {s : State} : ∀ t port frame, ∃ f, exec (.portManagementFrame t port frame) s = actAt false t s f := by
  intro t port frame
  show ∃ f, execPortManagementFrame t port frame s = _
  unfold execPortManagementFrame
  exact ⟨_, rfl⟩

theorem exec_form_refreshMissed {s : State} : ∀ t slot, ∃ f, exec (.refreshMissed t slot) s = actAt false t s f := by
  intro t slot
  show ∃ f, execRefreshMissed t slot s = _
  unfold execRefreshMissed
  exact ⟨_, rfl⟩

theorem exec_form_maxageExpiry {s : State} : ∀ t conn idx, ∃ f, exec (.maxageExpiry t conn idx) s = actAt false t s f := by
  intro t conn idx
  show ∃ f, execMaxageExpiry t conn idx s = _
  unfold execMaxageExpiry
  exact ⟨_, rfl⟩

theorem exec_form_colQrel {s : State} : ∀ t value, ∃ f, exec (.colQrel t value) s = actAt false t s f := by
  intro t value
  show ∃ f, execColQrel t value s = _
  unfold execColQrel
  exact ⟨_, rfl⟩

theorem exec_form_helloSend {s : State} : ∀ t port, ∃ f, exec (.helloSend t port) s = actAt false t s f := by
  intro t port
  show ∃ f, execHelloSend t port s = _
  unfold execHelloSend
  exact ⟨_, rfl⟩

theorem exec_form_hello {s : State} : ∀ t port frame, ∃ f, exec (.hello t port frame) s = actAt false t s f := by
  intro t port frame
  show ∃ f, execHello t port frame s = _
  unfold execHello
  exact ⟨_, rfl⟩

theorem exec_form_linkFrameSend {s : State} : ∀ t port, ∃ f, exec (.linkFrameSend t port) s = actAt false t s f := by
  intro t port
  show ∃ f, execLinkFrameSend t port s = _
  unfold execLinkFrameSend
  exact ⟨_, rfl⟩

theorem exec_form_ackOrderedSet {s : State} : ∀ t port seq compl, ∃ f, exec (.ackOrderedSet t port seq compl) s = actAt false t s f := by
  intro t port seq compl
  show ∃ f, execAckOrderedSet t port seq compl s = _
  unfold execAckOrderedSet
  exact ⟨_, rfl⟩

theorem exec_form_ackTimeout {s : State} : ∀ t port, ∃ f, exec (.ackTimeout t port) s = actAt false t s f := by
  intro t port
  show ∃ f, execAckTimeout t port s = _
  unfold execAckTimeout
  exact ⟨_, rfl⟩

theorem exec_form_safetyDataFrame {s : State} : ∀ t port frame, ∃ f, exec (.safetyDataFrame t port frame) s = actAt false t s f := by
  intro t port frame
  show ∃ f, execSafetyDataFrame t port frame s = _
  unfold execSafetyDataFrame
  exact ⟨_, rfl⟩

theorem exec_form_safetyOpenFrame {s : State} : ∀ t port frame, ∃ f, exec (.safetyOpenFrame t port frame) s = actAt false t s f := by
  intro t port frame
  show ∃ f, execSafetyOpenFrame t port frame s = _
  unfold execSafetyOpenFrame
  exact ⟨_, rfl⟩

theorem exec_form_managementFrame {s : State} : ∀ t port frame, ∃ f, exec (.managementFrame t port frame) s = actAt false t s f := by
  intro t port frame
  show ∃ f, execManagementFrame t port frame s = _
  unfold execManagementFrame
  exact ⟨_, rfl⟩

theorem exec_form_connectionFrameTake {s : State} : ∀ t conn, ∃ f, exec (.connectionFrameTake t conn) s = actAt false t s f := by
  intro t conn
  show ∃ f, execConnectionFrameTake t conn s = _
  unfold execConnectionFrameTake
  exact ⟨_, rfl⟩

theorem exec_form_openSend {s : State} : ∀ t conn, ∃ f, exec (.openSend t conn) s = actAt false t s f := by
  intro t conn
  show ∃ f, execOpenSend t conn s = _
  unfold execOpenSend
  exact ⟨_, rfl⟩

theorem exec_form_yardQrel {s : State} : ∀ t value, ∃ f, exec (.yardQrel t value) s = actAt false t s f := by
  intro t value
  show ∃ f, execYardQrel t value s = _
  unfold execYardQrel
  exact ⟨_, rfl⟩

theorem exec_form_timeExchangeStart {s : State} : ∀ t port, ∃ f, exec (.timeExchangeStart t port) s = actAt false t s f := by
  intro t port
  show ∃ f, execTimeExchangeStart t port s = _
  unfold execTimeExchangeStart
  exact ⟨_, rfl⟩

theorem exec_form_sync {s : State} : ∀ t frame, ∃ f, exec (.sync t frame) s = actAt false t s f := by
  intro t frame
  show ∃ f, execSync t frame s = _
  unfold execSync
  exact ⟨_, rfl⟩

theorem exec_form_dreq {s : State} : ∀ t port frame, ∃ f, exec (.dreq t port frame) s = actAt false t s f := by
  intro t port frame
  show ∃ f, execDreq t port frame s = _
  unfold execDreq
  exact ⟨_, rfl⟩

theorem exec_form_dresp {s : State} : ∀ t frame, ∃ f, exec (.dresp t frame) s = actAt false t s f := by
  intro t frame
  show ∃ f, execDresp t frame s = _
  unfold execDresp
  exact ⟨_, rfl⟩

theorem exec_form_holdover {s : State} : ∀ t, ∃ f, exec (.holdover t) s = actAt false t s f := by
  intro t
  show ∃ f, execHoldover t s = _
  unfold execHoldover
  exact ⟨_, rfl⟩

theorem exec_form_syncLost {s : State} : ∀ t, ∃ f, exec (.syncLost t) s = actAt false t s f := by
  intro t
  show ∃ f, execSyncLost t s = _
  unfold execSyncLost
  exact ⟨_, rfl⟩

theorem exec_form_whistle {s : State} : ∀ t port frame aborted, ∃ f, exec (.whistle t port frame aborted) s = actAt false t s f := by
  intro t port frame aborted
  show ∃ f, execWhistle t port frame aborted s = _
  unfold execWhistle
  exact ⟨_, rfl⟩

theorem exec_form_whistleStop {s : State} : ∀ t, ∃ f, exec (.whistleStop t) s = actAt false t s f := by
  intro t
  show ∃ f, execWhistleStop t s = _
  unfold execWhistleStop
  exact ⟨_, rfl⟩

theorem exec_form_whistleClear {s : State} : ∀ t, ∃ f, exec (.whistleClear t) s = actAt false t s f := by
  intro t
  show ∃ f, execWhistleClear t s = _
  unfold execWhistleClear
  exact ⟨_, rfl⟩

theorem exec_form_faultRecordWrite {s : State} : ∀ t, ∃ f, exec (.faultRecordWrite t) s = actAt false t s f := by
  intro t
  show ∃ f, execFaultRecordWrite t s = _
  unfold execFaultRecordWrite
  exact ⟨_, rfl⟩

theorem exec_form_collInterval {s : State} : ∀ t, ∃ f, exec (.collInterval t) s = actAt false t s f := by
  intro t
  show ∃ f, execCollInterval t s = _
  unfold execCollInterval
  exact ⟨_, rfl⟩

theorem exec_form_localReactionTimeout {s : State} : ∀ t, ∃ f, exec (.localReactionTimeout t) s = actAt false t s f := by
  intro t
  show ∃ f, execLocalReactionTimeout t s = _
  unfold execLocalReactionTimeout
  exact ⟨_, rfl⟩

theorem exec_form_deviceLocalClear {s : State} : ∀ t src, ∃ f, exec (.deviceLocalClear t src) s = actAt false t s f := by
  intro t src
  show ∃ f, execDeviceLocalClear t src s = _
  unfold execDeviceLocalClear
  exact ⟨_, rfl⟩

theorem exec_form_sourceLocalClear {s : State} : ∀ t src, ∃ f, exec (.sourceLocalClear t src) s = actAt false t s f := by
  intro t src
  show ∃ f, execSourceLocalClear t src s = _
  unfold execSourceLocalClear
  exact ⟨_, rfl⟩

theorem exec_form_fstatClear {s : State} : ∀ t reg value, ∃ f, exec (.fstatClear t reg value) s = actAt false t s f := by
  intro t reg value
  show ∃ f, execFstatClear t reg value s = _
  unfold execFstatClear
  exact ⟨_, rfl⟩

theorem exec_form_faultAck {s : State} : ∀ t value, ∃ f, exec (.faultAck t value) s = actAt false t s f := by
  intro t value
  show ∃ f, execFaultAck t value s = _
  unfold execFaultAck
  exact ⟨_, rfl⟩

theorem exec_form_ridx {s : State} : ∀ t value, ∃ f, exec (.ridx t value) s = actAt false t s f := by
  intro t value
  show ∃ f, execRidx t value s = _
  unfold execRidx
  exact ⟨_, rfl⟩

theorem exec_form_sidx {s : State} : ∀ t value, ∃ f, exec (.sidx t value) s = actAt false t s f := by
  intro t value
  show ∃ f, execSidx t value s = _
  unfold execSidx
  exact ⟨_, rfl⟩

theorem exec_form_alertSrcClear {s : State} : ∀ t value, ∃ f, exec (.alertSrcClear t value) s = actAt false t s f := by
  intro t value
  show ∃ f, execAlertSrcClear t value s = _
  unfold execAlertSrcClear
  exact ⟨_, rfl⟩

theorem exec_form_tempReading {s : State} : ∀ t t0 t1 t2, ∃ f, exec (.tempReading t t0 t1 t2) s = actAt false t s f := by
  intro t t0 t1 t2
  show ∃ f, execTempReading t t0 t1 t2 s = _
  unfold execTempReading
  exact ⟨_, rfl⟩

theorem exec_form_groomWdog {s : State} : ∀ t, ∃ f, exec (.groomWdog t) s = actAt false t s f := by
  intro t
  show ∃ f, execGroomWdog t s = _
  unfold execGroomWdog
  exact ⟨_, rfl⟩

theorem exec_form_writeFrame {s : State} : ∀ t csFall bytes extraBits, ∃ f, exec (.writeFrame t csFall bytes extraBits) s = actAt false t s f := by
  intro t csFall bytes extraBits
  show ∃ f, execWriteFrame t csFall bytes extraBits s = _
  unfold execWriteFrame
  exact ⟨_, rfl⟩

theorem exec_form_readFrame {s : State} : ∀ t csFall bytes turn bits, ∃ f, exec (.readFrame t csFall bytes turn bits) s = actAt false t s f := by
  intro t csFall bytes turn bits
  show ∃ f, execReadFrame t csFall bytes turn bits s = _
  unfold execReadFrame
  exact ⟨_, rfl⟩

theorem exec_form_registerWrite {s : State} : ∀ t addr value, ∃ f, exec (.registerWrite t addr value) s = actAt false t s f := by
  intro t addr value
  show ∃ f, execRegisterWrite t addr value s = _
  unfold execRegisterWrite
  exact ⟨_, rfl⟩

theorem exec_form_echo {s : State} : ∀ t, ∃ f, exec (.echo t) s = actAt false t s f := by
  intro t
  show ∃ f, execEcho t s = _
  unfold execEcho
  exact ⟨_, rfl⟩

theorem exec_form_devuid {s : State} : ∀ t, ∃ f, exec (.devuid t) s = actAt false t s f := by
  intro t
  show ∃ f, execDevuid t s = _
  unfold execDevuid
  exact ⟨_, rfl⟩

theorem exec_form_maintEnter {s : State} : ∀ t, ∃ f, exec (.maintEnter t) s = actAt false t s f := by
  intro t
  show ∃ f, execMaintEnter t s = _
  unfold execMaintEnter
  exact ⟨_, rfl⟩

theorem exec_form_maintLeave {s : State} : ∀ t, ∃ f, exec (.maintLeave t) s = actAt false t s f := by
  intro t
  show ∃ f, execMaintLeave t s = _
  unfold execMaintLeave
  exact ⟨_, rfl⟩

theorem exec_form_imgBegin {s : State} : ∀ t, ∃ f, exec (.imgBegin t) s = actAt false t s f := by
  intro t
  show ∃ f, execImgBegin t s = _
  unfold execImgBegin
  exact ⟨_, rfl⟩

theorem exec_form_imgWrite {s : State} : ∀ t, ∃ f, exec (.imgWrite t) s = actAt false t s f := by
  intro t
  show ∃ f, execImgWrite t s = _
  unfold execImgWrite
  exact ⟨_, rfl⟩

theorem exec_form_imgVerify {s : State} : ∀ t, ∃ f, exec (.imgVerify t) s = actAt false t s f := by
  intro t
  show ∃ f, execImgVerify t s = _
  unfold execImgVerify
  exact ⟨_, rfl⟩

theorem exec_form_imgCommit {s : State} : ∀ t obs, ∃ f, exec (.imgCommit t obs) s = actAt false t s f := by
  intro t obs
  show ∃ f, execImgCommit t obs s = _
  unfold execImgCommit
  exact ⟨_, rfl⟩

theorem exec_form_yardMsend {s : State} : ∀ t, ∃ f, exec (.yardMsend t) s = actAt false t s f := by
  intro t
  show ∃ f, execYardMsend t s = _
  unfold execYardMsend
  exact ⟨_, rfl⟩

theorem exec_form_yardMrecv {s : State} : ∀ t, ∃ f, exec (.yardMrecv t) s = actAt false t s f := by
  intro t
  show ∃ f, execYardMrecv t s = _
  unfold execYardMrecv
  exact ⟨_, rfl⟩

theorem exec_form_lcAdvance {s : State} : ∀ t, ∃ f, exec (.lcAdvance t) s = actAt false t s f := by
  intro t
  show ∃ f, execLcAdvance t s = _
  unfold execLcAdvance
  exact ⟨_, rfl⟩

theorem exec_form_erasureComplete {s : State} : ∀ t, ∃ f, exec (.erasureComplete t) s = actAt false t s f := by
  intro t
  show ∃ f, execErasureComplete t s = _
  unfold execErasureComplete
  exact ⟨_, rfl⟩

theorem exec_form_erasureRestart {s : State} : ∀ t, ∃ f, exec (.erasureRestart t) s = actAt false t s f := by
  intro t
  show ∃ f, execErasureRestart t s = _
  unfold execErasureRestart
  exact ⟨_, rfl⟩

theorem exec_form_go {s : State} : ∀ t value, ∃ f, exec (.go t value) s = actAt false t s f := by
  intro t value
  show ∃ f, execGo t value s = _
  unfold execGo
  exact ⟨_, rfl⟩

theorem exec_form_spookEn {s : State} : ∀ t value, ∃ f, exec (.spookEn t value) s = actAt false t s f := by
  intro t value
  show ∃ f, execSpookEn t value s = _
  unfold execSpookEn
  exact ⟨_, rfl⟩

theorem exec_form_extest {s : State} : ∀ t o, ∃ f, exec (.extest t o) s = actAt false t s f := by
  intro t o
  show ∃ f, execExtest t o s = _
  unfold execExtest
  exact ⟨_, rfl⟩

theorem exec_form_idcode {s : State} : ∀ t, ∃ f, exec (.idcode t) s = actAt false t s f := by
  intro t
  show ∃ f, execIdcode t s = _
  unfold execIdcode
  exact ⟨_, rfl⟩

theorem exec_form_samplePreload {s : State} : ∀ t cells, ∃ f, exec (.samplePreload t cells) s = actAt false t s f := by
  intro t cells
  show ∃ f, execSamplePreload t cells s = _
  unfold execSamplePreload
  exact ⟨_, rfl⟩

theorem exec_form_bypass {s : State} : ∀ t code, ∃ f, exec (.bypass t code) s = actAt false t s f := by
  intro t code
  show ∃ f, execBypass t code s = _
  unfold execBypass
  exact ⟨_, rfl⟩

theorem exec_form_pairHalt {s : State} : ∀ t digestDiffer, ∃ f, exec (.pairHalt t digestDiffer) s = actAt false t s f := by
  intro t digestDiffer
  show ∃ f, execPairHalt t digestDiffer s = _
  unfold execPairHalt
  exact ⟨_, rfl⟩

theorem exec_form_leadInspect {s : State} : ∀ t, ∃ f, exec (.leadInspect t) s = actAt false t s f := by
  intro t
  show ∃ f, execLeadInspect t s = _
  unfold execLeadInspect
  exact ⟨_, rfl⟩

theorem exec_form_resync {s : State} : ∀ t, ∃ f, exec (.resync t) s = actAt false t s f := by
  intro t
  show ∃ f, execResync t s = _
  unfold execResync
  exact ⟨_, rfl⟩

theorem exec_form_tapReset {s : State} : ∀ t, ∃ f, exec (.tapReset t) s = actAt false t s f := by
  intro t
  show ∃ f, execTapReset t s = _
  unfold execTapReset
  exact ⟨_, rfl⟩

theorem exec_form_status {s : State} : ∀ t, ∃ f, exec (.status t) s = actAt false t s f := by
  intro t
  show ∃ f, execStatus t s = _
  unfold execStatus
  exact ⟨_, rfl⟩

theorem exec_form_readWord {s : State} : ∀ t addr, ∃ f, exec (.readWord t addr) s = actAt false t s f := by
  intro t addr
  show ∃ f, execReadWord t addr s = _
  unfold execReadWord
  exact ⟨_, rfl⟩

theorem exec_form_writeWord {s : State} : ∀ t addr data, ∃ f, exec (.writeWord t addr data) s = actAt false t s f := by
  intro t addr data
  show ∃ f, execWriteWord t addr data s = _
  unfold execWriteWord
  exact ⟨_, rfl⟩

theorem exec_form_readCoreRegister {s : State} : ∀ t reg core, ∃ f, exec (.readCoreRegister t reg core) s = actAt false t s f := by
  intro t reg core
  show ∃ f, execReadCoreRegister t reg core s = _
  unfold execReadCoreRegister
  exact ⟨_, rfl⟩

theorem exec_form_writeCoreRegister {s : State} : ∀ t reg core data, ∃ f, exec (.writeCoreRegister t reg core data) s = actAt false t s f := by
  intro t reg core data
  show ∃ f, execWriteCoreRegister t reg core data s = _
  unfold execWriteCoreRegister
  exact ⟨_, rfl⟩

theorem exec_form_step {s : State} : ∀ t o, ∃ f, exec (.step t o) s = actAt false t s f := by
  intro t o
  show ∃ f, execStep t o s = _
  unfold execStep
  exact ⟨_, rfl⟩

theorem exec_form_resume {s : State} : ∀ t replayBad digestDiffer, ∃ f, exec (.resume t replayBad digestDiffer) s = actAt false t s f := by
  intro t replayBad digestDiffer
  show ∃ f, execResume t replayBad digestDiffer s = _
  unfold execResume
  exact ⟨_, rfl⟩

theorem exec_form_siPinChange {s : State} : ∀ t pair ch level, ∃ f, exec (.siPinChange t pair ch level) s = actAt false t s f := by
  intro t pair ch level
  show ∃ f, execSiPinChange t pair ch level s = _
  unfold execSiPinChange
  exact ⟨_, rfl⟩

theorem exec_form_crystalRunning {s : State} : ∀ t, ∃ f, exec (.crystalRunning t) s = actAt false t s f := by
  intro t
  show ∃ f, execCrystalRunning t s = _
  unfold execCrystalRunning
  exact ⟨_, rfl⟩

theorem exec_form_pllLock {s : State} : ∀ t, ∃ f, exec (.pllLock t) s = actAt false t s f := by
  intro t
  show ∃ f, execPllLock t s = _
  unfold execPllLock
  exact ⟨_, rfl⟩

theorem exec_form_linkError {s : State} : ∀ t port, ∃ f, exec (.linkError t port) s = actAt false t s f := by
  intro t port
  show ∃ f, execLinkError t port s = _
  unfold execLinkError
  exact ⟨_, rfl⟩

theorem exec_form_yardTick {s : State} : ∀ t, ∃ f, exec (.yardTick t) s = actAt false t s f := by
  intro t
  show ∃ f, execYardTick t s = _
  unfold execYardTick
  exact ⟨_, rfl⟩

theorem exec_form_vinSample {s : State} : ∀ t microvolts, ∃ f, exec (.vinSample t microvolts) s = actAt false t s f := by
  intro t microvolts
  show ∃ f, execVinSample t microvolts s = _
  unfold execVinSample
  exact ⟨_, rfl⟩

/-- Every command completes. -/
theorem exec_form (c : Instr) (s : State) : ∃ tick f, exec c s = actAt tick c.time s f := by
  cases c with
  | powerOnResetRelease t => exact ⟨_, exec_form_powerOnResetRelease t⟩
  | powerOnResetAssert t => exact ⟨_, exec_form_powerOnResetAssert t⟩
  | upSequenceStart t => exact ⟨_, exec_form_upSequenceStart t⟩
  | seqPgRise t ch obs => exact ⟨_, exec_form_seqPgRise t ch obs⟩
  | settleExpiry t ch obs => exact ⟨_, exec_form_settleExpiry t ch obs⟩
  | pgTimeout t ch => exact ⟨_, exec_form_pgTimeout t ch⟩
  | seqPgFall t ch width => exact ⟨_, exec_form_seqPgFall t ch width⟩
  | shdn t value => exact ⟨_, exec_form_shdn t value⟩
  | dscTimeout t ch => exact ⟨_, exec_form_dscTimeout t ch⟩
  | vinWarn t => exact ⟨_, exec_form_vinWarn t⟩
  | vinOk t => exact ⟨_, exec_form_vinOk t⟩
  | vinAbandon t snapWriting recWriting => exact ⟨_, exec_form_vinAbandon t snapWriting recWriting⟩
  | vinAbandonEnd t => exact ⟨_, exec_form_vinAbandonEnd t⟩
  | snapshotWrite t => exact ⟨_, exec_form_snapshotWrite t⟩
  | resetNAssert t width => exact ⟨_, exec_form_resetNAssert t width⟩
  | resetNRelease t => exact ⟨_, exec_form_resetNRelease t⟩
  | crystalStartTimeout t => exact ⟨_, exec_form_crystalStartTimeout t⟩
  | rcCalibration t khz => exact ⟨_, exec_form_rcCalibration t khz⟩
  | bootComplete t strap gateFail b0 b1 => exact ⟨_, exec_form_bootComplete t strap gateFail b0 b1⟩
  | cmpinjEnd t uncaught falseFlag => exact ⟨_, exec_form_cmpinjEnd t uncaught falseFlag⟩
  | farrierTestStart t => exact ⟨_, exec_form_farrierTestStart t⟩
  | farrierTestEnd t pass result => exact ⟨_, exec_form_farrierTestEnd t pass result⟩
  | selftestEnd t obs => exact ⟨_, exec_form_selftestEnd t obs⟩
  | loftStart t => exact ⟨_, exec_form_loftStart t⟩
  | lockwaitExpiry t => exact ⟨_, exec_form_lockwaitExpiry t⟩
  | pllLossDetect t idx dev => exact ⟨_, exec_form_pllLossDetect t idx dev⟩
  | clockEdgeMissing t idx => exact ⟨_, exec_form_clockEdgeMissing t idx⟩
  | rcstop t => exact ⟨_, exec_form_rcstop t⟩
  | handshakeTimeout t island waiter => exact ⟨_, exec_form_handshakeTimeout t island waiter⟩
  | fifoTransfer t fifo => exact ⟨_, exec_form_fifoTransfer t fifo⟩
  | cycleBoundary t obs => exact ⟨_, exec_form_cycleBoundary t obs⟩
  | crossCheckCapture t upsets => exact ⟨_, exec_form_crossCheckCapture t upsets⟩
  | commandDeadline t core => exact ⟨_, exec_form_commandDeadline t core⟩
  | darkPulseStart t line => exact ⟨_, exec_form_darkPulseStart t line⟩
  | checkSample t line => exact ⟨_, exec_form_checkSample t line⟩
  | darkPulseEnd t line => exact ⟨_, exec_form_darkPulseEnd t line⟩
  | blankingEnd t pair ch => exact ⟨_, exec_form_blankingEnd t pair ch⟩
  | filterExpiry t pair ch => exact ⟨_, exec_form_filterExpiry t pair ch⟩
  | discrepancyExpiry t pair => exact ⟨_, exec_form_discrepancyExpiry t pair⟩
  | ossdtolExpiry t pair ch => exact ⟨_, exec_form_ossdtolExpiry t pair ch⟩
  | ossdchkExpiry t pair ch => exact ⟨_, exec_form_ossdchkExpiry t pair ch⟩
  | ackActuation t pin level => exact ⟨_, exec_form_ackActuation t pin level⟩
  | ackActuationDiscard t => exact ⟨_, exec_form_ackActuationDiscard t⟩
  | switchtExpiry t sheet idx => exact ⟨_, exec_form_switchtExpiry t sheet idx⟩
  | donExpiry t sheet idx => exact ⟨_, exec_form_donExpiry t sheet idx⟩
  | cat1DelayExpiry t sheet idx => exact ⟨_, exec_form_cat1DelayExpiry t sheet idx⟩
  | maxtExpiry t sheet idx => exact ⟨_, exec_form_maxtExpiry t sheet idx⟩
  | toothEdge t wheel pin level => exact ⟨_, exec_form_toothEdge t wheel pin level⟩
  | standstillConfirm t sheet idx => exact ⟨_, exec_form_standstillConfirm t sheet idx⟩
  | motionLocalReset t sheet idx => exact ⟨_, exec_form_motionLocalReset t sheet idx⟩
  | launchRelease t => exact ⟨_, exec_form_launchRelease t⟩
  | readbackChange t out leg level => exact ⟨_, exec_form_readbackChange t out leg level⟩
  | switchOnWindowEnd t out => exact ⟨_, exec_form_switchOnWindowEnd t out⟩
  | ocfiltExpiry t out leg => exact ⟨_, exec_form_ocfiltExpiry t out leg⟩
  | offdlyExpiry t out leg => exact ⟨_, exec_form_offdlyExpiry t out leg⟩
  | outputFaultClear t out => exact ⟨_, exec_form_outputFaultClear t out⟩
  | darkTestDue t out leg => exact ⟨_, exec_form_darkTestDue t out leg⟩
  | darkTestStart t out leg => exact ⟨_, exec_form_darkTestStart t out leg⟩
  | darkTestPass t => exact ⟨_, exec_form_darkTestPass t⟩
  | darkTestTimeout t => exact ⟨_, exec_form_darkTestTimeout t⟩
  | muzzleNLow t width => exact ⟨_, exec_form_muzzleNLow t width⟩
  | muzzleNHigh t => exact ⟨_, exec_form_muzzleNHigh t⟩
  | barkMon t pin => exact ⟨_, exec_form_barkMon t pin⟩
  | kramPatrol t errs => exact ⟨_, exec_form_kramPatrol t errs⟩
  | rotationDue t => exact ⟨_, exec_form_rotationDue t⟩
  | rotationSplit t => exact ⟨_, exec_form_rotationSplit t⟩
  | rotationLate t => exact ⟨_, exec_form_rotationLate t⟩
  | rotationRejoin t => exact ⟨_, exec_form_rotationRejoin t⟩
  | soloTimeout t => exact ⟨_, exec_form_soloTimeout t⟩
  | rotctlNow t value => exact ⟨_, exec_form_rotctlNow t value⟩
  | scrubPass t upsets refError => exact ⟨_, exec_form_scrubPass t upsets refError⟩
  | scrubReload t frame => exact ⟨_, exec_form_scrubReload t frame⟩
  | probeWrite t addr value => exact ⟨_, exec_form_probeWrite t addr value⟩
  | radioTransfer t port irqLow => exact ⟨_, exec_form_radioTransfer t port irqLow⟩
  | radioPoll t port => exact ⟨_, exec_form_radioPoll t port⟩
  | beaconRequest t port => exact ⟨_, exec_form_beaconRequest t port⟩
  | pdu t port frame => exact ⟨_, exec_form_pdu t port frame⟩
  | beaconReport t port frame => exact ⟨_, exec_form_beaconReport t port frame⟩
  | headStatus t port frame => exact ⟨_, exec_form_headStatus t port frame⟩
  | portManagementFrame t port frame => exact ⟨_, exec_form_portManagementFrame t port frame⟩
  | refreshMissed t slot => exact ⟨_, exec_form_refreshMissed t slot⟩
  | maxageExpiry t conn idx => exact ⟨_, exec_form_maxageExpiry t conn idx⟩
  | colQrel t value => exact ⟨_, exec_form_colQrel t value⟩
  | helloSend t port => exact ⟨_, exec_form_helloSend t port⟩
  | hello t port frame => exact ⟨_, exec_form_hello t port frame⟩
  | linkFrameSend t port => exact ⟨_, exec_form_linkFrameSend t port⟩
  | ackOrderedSet t port seq compl => exact ⟨_, exec_form_ackOrderedSet t port seq compl⟩
  | ackTimeout t port => exact ⟨_, exec_form_ackTimeout t port⟩
  | safetyDataFrame t port frame => exact ⟨_, exec_form_safetyDataFrame t port frame⟩
  | safetyOpenFrame t port frame => exact ⟨_, exec_form_safetyOpenFrame t port frame⟩
  | managementFrame t port frame => exact ⟨_, exec_form_managementFrame t port frame⟩
  | connectionFrameTake t conn => exact ⟨_, exec_form_connectionFrameTake t conn⟩
  | openSend t conn => exact ⟨_, exec_form_openSend t conn⟩
  | yardQrel t value => exact ⟨_, exec_form_yardQrel t value⟩
  | timeExchangeStart t port => exact ⟨_, exec_form_timeExchangeStart t port⟩
  | sync t frame => exact ⟨_, exec_form_sync t frame⟩
  | dreq t port frame => exact ⟨_, exec_form_dreq t port frame⟩
  | dresp t frame => exact ⟨_, exec_form_dresp t frame⟩
  | holdover t => exact ⟨_, exec_form_holdover t⟩
  | syncLost t => exact ⟨_, exec_form_syncLost t⟩
  | whistle t port frame aborted => exact ⟨_, exec_form_whistle t port frame aborted⟩
  | whistleStop t => exact ⟨_, exec_form_whistleStop t⟩
  | whistleClear t => exact ⟨_, exec_form_whistleClear t⟩
  | faultRecordWrite t => exact ⟨_, exec_form_faultRecordWrite t⟩
  | collInterval t => exact ⟨_, exec_form_collInterval t⟩
  | localReactionTimeout t => exact ⟨_, exec_form_localReactionTimeout t⟩
  | deviceLocalClear t src => exact ⟨_, exec_form_deviceLocalClear t src⟩
  | sourceLocalClear t src => exact ⟨_, exec_form_sourceLocalClear t src⟩
  | fstatClear t reg value => exact ⟨_, exec_form_fstatClear t reg value⟩
  | faultAck t value => exact ⟨_, exec_form_faultAck t value⟩
  | ridx t value => exact ⟨_, exec_form_ridx t value⟩
  | sidx t value => exact ⟨_, exec_form_sidx t value⟩
  | alertSrcClear t value => exact ⟨_, exec_form_alertSrcClear t value⟩
  | tempReading t t0 t1 t2 => exact ⟨_, exec_form_tempReading t t0 t1 t2⟩
  | groomWdog t => exact ⟨_, exec_form_groomWdog t⟩
  | writeFrame t csFall bytes extraBits => exact ⟨_, exec_form_writeFrame t csFall bytes extraBits⟩
  | readFrame t csFall bytes turn bits => exact ⟨_, exec_form_readFrame t csFall bytes turn bits⟩
  | registerWrite t addr value => exact ⟨_, exec_form_registerWrite t addr value⟩
  | echo t => exact ⟨_, exec_form_echo t⟩
  | devuid t => exact ⟨_, exec_form_devuid t⟩
  | maintEnter t => exact ⟨_, exec_form_maintEnter t⟩
  | maintLeave t => exact ⟨_, exec_form_maintLeave t⟩
  | imgBegin t => exact ⟨_, exec_form_imgBegin t⟩
  | imgWrite t => exact ⟨_, exec_form_imgWrite t⟩
  | imgVerify t => exact ⟨_, exec_form_imgVerify t⟩
  | imgCommit t obs => exact ⟨_, exec_form_imgCommit t obs⟩
  | yardMsend t => exact ⟨_, exec_form_yardMsend t⟩
  | yardMrecv t => exact ⟨_, exec_form_yardMrecv t⟩
  | lcAdvance t => exact ⟨_, exec_form_lcAdvance t⟩
  | erasureComplete t => exact ⟨_, exec_form_erasureComplete t⟩
  | erasureRestart t => exact ⟨_, exec_form_erasureRestart t⟩
  | go t value => exact ⟨_, exec_form_go t value⟩
  | spookEn t value => exact ⟨_, exec_form_spookEn t value⟩
  | extest t o => exact ⟨_, exec_form_extest t o⟩
  | idcode t => exact ⟨_, exec_form_idcode t⟩
  | samplePreload t cells => exact ⟨_, exec_form_samplePreload t cells⟩
  | bypass t code => exact ⟨_, exec_form_bypass t code⟩
  | pairHalt t digestDiffer => exact ⟨_, exec_form_pairHalt t digestDiffer⟩
  | leadInspect t => exact ⟨_, exec_form_leadInspect t⟩
  | resync t => exact ⟨_, exec_form_resync t⟩
  | tapReset t => exact ⟨_, exec_form_tapReset t⟩
  | status t => exact ⟨_, exec_form_status t⟩
  | readWord t addr => exact ⟨_, exec_form_readWord t addr⟩
  | writeWord t addr data => exact ⟨_, exec_form_writeWord t addr data⟩
  | readCoreRegister t reg core => exact ⟨_, exec_form_readCoreRegister t reg core⟩
  | writeCoreRegister t reg core data => exact ⟨_, exec_form_writeCoreRegister t reg core data⟩
  | step t o => exact ⟨_, exec_form_step t o⟩
  | resume t replayBad digestDiffer => exact ⟨_, exec_form_resume t replayBad digestDiffer⟩
  | siPinChange t pair ch level => exact ⟨_, exec_form_siPinChange t pair ch level⟩
  | crystalRunning t => exact ⟨_, exec_form_crystalRunning t⟩
  | pllLock t => exact ⟨_, exec_form_pllLock t⟩
  | linkError t port => exact ⟨_, exec_form_linkError t port⟩
  | yardTick t => exact ⟨_, exec_form_yardTick t⟩
  | vinSample t microvolts => exact ⟨_, exec_form_vinSample t microvolts⟩

end Sys2Proof.Machine
end

