-- ==== Sys2Proof/Laws/Kept.lean ====
section
/-!
SUPPORT. Field by field, what the reactions and settling leave as it was: the consequences of `State.keep` that simp uses.
-/
namespace Sys2Proof.Machine

/-- What blanking leaves alone is the same in two states that agree after blanking. -/
theorem of_keep {β : Type} {a b : State} (h : a.keep = b.keep) (g : State → β) (hg : ∀ s, g s.keep = g s) : g a = g b := by
  rw [← hg a, ← hg b, h]

@[simp] theorem State.addLocal_whole (s : State) (src : Src) (d r : Nat) (e : Nat × Nat) :
    (s.addLocal src d r e).now = s.now ∧ (s.addLocal src d r e).sp = s.sp ∧ (s.addLocal src d r e).sin = s.sin ∧ (s.addLocal src d r e).col = s.col ∧ (s.addLocal src d r e).spook = s.spook ∧ (s.addLocal src d r e).fifos = s.fifos ∧ (s.addLocal src d r e).mram = s.mram ∧ (s.addLocal src d r e).pending = s.pending :=
  have h := State.addLocal_keep s src d r e
  ⟨of_keep h (·.now) (fun _ => rfl), of_keep h (·.sp) (fun _ => rfl), of_keep h (·.sin) (fun _ => rfl), of_keep h (·.col) (fun _ => rfl), of_keep h (·.spook) (fun _ => rfl), of_keep h (·.fifos) (fun _ => rfl), of_keep h (·.mram) (fun _ => rfl), of_keep h (·.pending) (fun _ => rfl)⟩

@[simp] theorem State.localReact_whole (s : State) (src : Src) (d r : Nat) :
    (s.localReact src d r).now = s.now ∧ (s.localReact src d r).sp = s.sp ∧ (s.localReact src d r).sin = s.sin ∧ (s.localReact src d r).col = s.col ∧ (s.localReact src d r).spook = s.spook ∧ (s.localReact src d r).fifos = s.fifos ∧ (s.localReact src d r).mram = s.mram ∧ (s.localReact src d r).pending = s.pending :=
  have h := State.localReact_keep s src d r
  ⟨of_keep h (·.now) (fun _ => rfl), of_keep h (·.sp) (fun _ => rfl), of_keep h (·.sin) (fun _ => rfl), of_keep h (·.col) (fun _ => rfl), of_keep h (·.spook) (fun _ => rfl), of_keep h (·.fifos) (fun _ => rfl), of_keep h (·.mram) (fun _ => rfl), of_keep h (·.pending) (fun _ => rfl)⟩

@[simp] theorem State.cut_whole (s : State) (a b : Nat) :
    (s.cut a b).now = s.now ∧ (s.cut a b).sp = s.sp ∧ (s.cut a b).sin = s.sin ∧ (s.cut a b).col = s.col ∧ (s.cut a b).spook = s.spook ∧ (s.cut a b).fifos = s.fifos ∧ (s.cut a b).mram = s.mram ∧ (s.cut a b).pending = s.pending :=
  have h := State.cut_keep s a b
  ⟨of_keep h (·.now) (fun _ => rfl), of_keep h (·.sp) (fun _ => rfl), of_keep h (·.sin) (fun _ => rfl), of_keep h (·.col) (fun _ => rfl), of_keep h (·.spook) (fun _ => rfl), of_keep h (·.fifos) (fun _ => rfl), of_keep h (·.mram) (fun _ => rfl), of_keep h (·.pending) (fun _ => rfl)⟩

@[simp] theorem State.stop_whole (s : State) :
    (s.stop).now = s.now ∧ (s.stop).sp = s.sp ∧ (s.stop).sin = s.sin ∧ (s.stop).col = s.col ∧ (s.stop).spook = s.spook ∧ (s.stop).fifos = s.fifos ∧ (s.stop).mram = s.mram ∧ (s.stop).pending = s.pending :=
  have h := State.stop_keep s
  ⟨of_keep h (·.now) (fun _ => rfl), of_keep h (·.sp) (fun _ => rfl), of_keep h (·.sin) (fun _ => rfl), of_keep h (·.col) (fun _ => rfl), of_keep h (·.spook) (fun _ => rfl), of_keep h (·.fifos) (fun _ => rfl), of_keep h (·.mram) (fun _ => rfl), of_keep h (·.pending) (fun _ => rfl)⟩

@[simp] theorem State.toSafe_whole (s : State) :
    (s.toSafe).now = s.now ∧ (s.toSafe).sp = s.sp ∧ (s.toSafe).sin = s.sin ∧ (s.toSafe).col = s.col ∧ (s.toSafe).spook = s.spook ∧ (s.toSafe).fifos = s.fifos ∧ (s.toSafe).mram = s.mram ∧ (s.toSafe).pending = s.pending :=
  have h := State.toSafe_keep s
  ⟨of_keep h (·.now) (fun _ => rfl), of_keep h (·.sp) (fun _ => rfl), of_keep h (·.sin) (fun _ => rfl), of_keep h (·.col) (fun _ => rfl), of_keep h (·.spook) (fun _ => rfl), of_keep h (·.fifos) (fun _ => rfl), of_keep h (·.mram) (fun _ => rfl), of_keep h (·.pending) (fun _ => rfl)⟩

@[simp] theorem State.raise_whole (s : State) (src : Src) (d : Nat) (c : Cls) :
    (s.raise src d c).now = s.now ∧ (s.raise src d c).sp = s.sp ∧ (s.raise src d c).sin = s.sin ∧ (s.raise src d c).col = s.col ∧ (s.raise src d c).spook = s.spook ∧ (s.raise src d c).fifos = s.fifos ∧ (s.raise src d c).mram = s.mram ∧ (s.raise src d c).pending = s.pending :=
  have h := State.raise_keep s src d c
  ⟨of_keep h (·.now) (fun _ => rfl), of_keep h (·.sp) (fun _ => rfl), of_keep h (·.sin) (fun _ => rfl), of_keep h (·.col) (fun _ => rfl), of_keep h (·.spook) (fun _ => rfl), of_keep h (·.fifos) (fun _ => rfl), of_keep h (·.mram) (fun _ => rfl), of_keep h (·.pending) (fun _ => rfl)⟩

@[simp] theorem State.raise_seq (s : State) (src : Src) (d : Nat) (c : Cls) :
    (s.raise src d c).seq.por = s.seq.por ∧ (s.raise src d c).seq.porAt = s.seq.porAt ∧ (s.raise src d c).seq.chan = s.seq.chan ∧ (s.raise src d c).seq.waitAt = s.seq.waitAt ∧ (s.raise src d c).seq.pg = s.seq.pg ∧ (s.raise src d c).seq.ramp = s.seq.ramp ∧ (s.raise src d c).seq.mode = s.seq.mode ∧ (s.raise src d c).seq.step = s.seq.step ∧ (s.raise src d c).seq.pgto = s.seq.pgto ∧ (s.raise src d c).seq.settle = s.seq.settle ∧ (s.raise src d c).seq.dscto = s.seq.dscto ∧ (s.raise src d c).seq.dscLast = s.seq.dscLast ∧ (s.raise src d c).seq.planOk = s.seq.planOk ∧ (s.raise src d c).seq.boardDone = s.seq.boardDone ∧ (s.raise src d c).seq.downDone = s.seq.downDone ∧ (s.raise src d c).seq.holdup = s.seq.holdup ∧ (s.raise src d c).seq.belowWarn = s.seq.belowWarn ∧ (s.raise src d c).seq.vinLow = s.seq.vinLow ∧ (s.raise src d c).seq.belowAbandon = s.seq.belowAbandon ∧ (s.raise src d c).seq.vin = s.seq.vin ∧ (s.raise src d c).seq.vinMin = s.seq.vinMin ∧ (s.raise src d c).seq.vinWarns = s.seq.vinWarns ∧ (s.raise src d c).seq.vinAbandons = s.seq.vinAbandons ∧ (s.raise src d c).seq.snapNo = s.seq.snapNo ∧ (s.raise src d c).seq.snapTop = s.seq.snapTop ∧ (s.raise src d c).seq.upStartNo = s.seq.upStartNo ∧ (s.raise src d c).seq.snapInv = s.seq.snapInv ∧ (s.raise src d c).seq.snapAborted = s.seq.snapAborted ∧ (s.raise src d c).seq.snapBuf = s.seq.snapBuf ∧ (s.raise src d c).seq.chsel = s.seq.chsel ∧ (s.raise src d c).seq.sidx = s.seq.sidx ∧ (s.raise src d c).seq.swsel = s.seq.swsel ∧ (s.raise src d c).seq.cfgerr = s.seq.cfgerr ∧ (s.raise src d c).seq.rstcause = s.seq.rstcause ∧ (s.raise src d c).seq.warmcnt = s.seq.warmcnt ∧ (s.raise src d c).seq.ytick = s.seq.ytick ∧ (s.raise src d c).seq.ytickAt = s.seq.ytickAt ∧ (s.raise src d c).seq.temps = s.seq.temps :=
  have h := State.raise_keep s src d c
  ⟨of_keep h (·.seq.por) (fun _ => rfl), of_keep h (·.seq.porAt) (fun _ => rfl), of_keep h (·.seq.chan) (fun _ => rfl), of_keep h (·.seq.waitAt) (fun _ => rfl), of_keep h (·.seq.pg) (fun _ => rfl), of_keep h (·.seq.ramp) (fun _ => rfl), of_keep h (·.seq.mode) (fun _ => rfl), of_keep h (·.seq.step) (fun _ => rfl), of_keep h (·.seq.pgto) (fun _ => rfl), of_keep h (·.seq.settle) (fun _ => rfl), of_keep h (·.seq.dscto) (fun _ => rfl), of_keep h (·.seq.dscLast) (fun _ => rfl), of_keep h (·.seq.planOk) (fun _ => rfl), of_keep h (·.seq.boardDone) (fun _ => rfl), of_keep h (·.seq.downDone) (fun _ => rfl), of_keep h (·.seq.holdup) (fun _ => rfl), of_keep h (·.seq.belowWarn) (fun _ => rfl), of_keep h (·.seq.vinLow) (fun _ => rfl), of_keep h (·.seq.belowAbandon) (fun _ => rfl), of_keep h (·.seq.vin) (fun _ => rfl), of_keep h (·.seq.vinMin) (fun _ => rfl), of_keep h (·.seq.vinWarns) (fun _ => rfl), of_keep h (·.seq.vinAbandons) (fun _ => rfl), of_keep h (·.seq.snapNo) (fun _ => rfl), of_keep h (·.seq.snapTop) (fun _ => rfl), of_keep h (·.seq.upStartNo) (fun _ => rfl), of_keep h (·.seq.snapInv) (fun _ => rfl), of_keep h (·.seq.snapAborted) (fun _ => rfl), of_keep h (·.seq.snapBuf) (fun _ => rfl), of_keep h (·.seq.chsel) (fun _ => rfl), of_keep h (·.seq.sidx) (fun _ => rfl), of_keep h (·.seq.swsel) (fun _ => rfl), of_keep h (·.seq.cfgerr) (fun _ => rfl), of_keep h (·.seq.rstcause) (fun _ => rfl), of_keep h (·.seq.warmcnt) (fun _ => rfl), of_keep h (·.seq.ytick) (fun _ => rfl), of_keep h (·.seq.ytickAt) (fun _ => rfl), of_keep h (·.seq.temps) (fun _ => rfl)⟩

@[simp] theorem State.raise_clk (s : State) (src : Src) (d : Nat) (c : Cls) :
    (s.raise src d c).clk.mismatch = s.clk.mismatch ∧ (s.raise src d c).clk.xtal = s.clk.xtal ∧ (s.raise src d c).clk.pll = s.clk.pll ∧ (s.raise src d c).clk.out = s.clk.out ∧ (s.raise src d c).clk.rcOk = s.clk.rcOk ∧ (s.raise src d c).clk.rccal = s.clk.rccal ∧ (s.raise src d c).clk.mon = s.clk.mon ∧ (s.raise src d c).clk.strap = s.clk.strap ∧ (s.raise src d c).clk.fixed = s.clk.fixed ∧ (s.raise src d c).clk.rcstop = s.clk.rcstop ∧ (s.raise src d c).clk.cmdiag = s.clk.cmdiag ∧ (s.raise src d c).clk.dev = s.clk.dev ∧ (s.raise src d c).clk.devMax = s.clk.devMax ∧ (s.raise src d c).clk.bad = s.clk.bad ∧ (s.raise src d c).clk.csel = s.clk.csel ∧ (s.raise src d c).clk.rstign = s.clk.rstign ∧ (s.raise src d c).clk.hsdiag = s.clk.hsdiag ∧ (s.raise src d c).clk.tboot = s.clk.tboot ∧ (s.raise src d c).clk.tself = s.clk.tself ∧ (s.raise src d c).clk.tload = s.clk.tload ∧ (s.raise src d c).clk.tboard = s.clk.tboard ∧ (s.raise src d c).clk.tarmed = s.clk.tarmed ∧ (s.raise src d c).clk.start = s.clk.start ∧ (s.raise src d c).clk.bootAt = s.clk.bootAt ∧ (s.raise src d c).clk.pllAt = s.clk.pllAt ∧ (s.raise src d c).clk.boardAt = s.clk.boardAt ∧ (s.raise src d c).clk.rstLow = s.clk.rstLow ∧ (s.raise src d c).clk.loadStep = s.clk.loadStep ∧ (s.raise src d c).clk.armedOnce = s.clk.armedOnce ∧ (s.raise src d c).clk.lockAt = s.clk.lockAt ∧ (s.raise src d c).clk.temps = s.clk.temps ∧ (s.raise src d c).clk.tempRun = s.clk.tempRun :=
  have h := State.raise_keep s src d c
  ⟨of_keep h (·.clk.mismatch) (fun _ => rfl), of_keep h (·.clk.xtal) (fun _ => rfl), of_keep h (·.clk.pll) (fun _ => rfl), of_keep h (·.clk.out) (fun _ => rfl), of_keep h (·.clk.rcOk) (fun _ => rfl), of_keep h (·.clk.rccal) (fun _ => rfl), of_keep h (·.clk.mon) (fun _ => rfl), of_keep h (·.clk.strap) (fun _ => rfl), of_keep h (·.clk.fixed) (fun _ => rfl), of_keep h (·.clk.rcstop) (fun _ => rfl), of_keep h (·.clk.cmdiag) (fun _ => rfl), of_keep h (·.clk.dev) (fun _ => rfl), of_keep h (·.clk.devMax) (fun _ => rfl), of_keep h (·.clk.bad) (fun _ => rfl), of_keep h (·.clk.csel) (fun _ => rfl), of_keep h (·.clk.rstign) (fun _ => rfl), of_keep h (·.clk.hsdiag) (fun _ => rfl), of_keep h (·.clk.tboot) (fun _ => rfl), of_keep h (·.clk.tself) (fun _ => rfl), of_keep h (·.clk.tload) (fun _ => rfl), of_keep h (·.clk.tboard) (fun _ => rfl), of_keep h (·.clk.tarmed) (fun _ => rfl), of_keep h (·.clk.start) (fun _ => rfl), of_keep h (·.clk.bootAt) (fun _ => rfl), of_keep h (·.clk.pllAt) (fun _ => rfl), of_keep h (·.clk.boardAt) (fun _ => rfl), of_keep h (·.clk.rstLow) (fun _ => rfl), of_keep h (·.clk.loadStep) (fun _ => rfl), of_keep h (·.clk.armedOnce) (fun _ => rfl), of_keep h (·.clk.lockAt) (fun _ => rfl), of_keep h (·.clk.temps) (fun _ => rfl), of_keep h (·.clk.tempRun) (fun _ => rfl)⟩

@[simp] theorem State.raise_pair (s : State) (src : Src) (d : Nat) (c : Cls) :
    (s.raise src d c).pair.arr = s.pair.arr ∧ (s.raise src d c).pair.split = s.pair.split ∧ (s.raise src d c).pair.lead = s.pair.lead ∧ (s.raise src d c).pair.solo = s.pair.solo ∧ (s.raise src d c).pair.soloCore = s.pair.soloCore ∧ (s.raise src d c).pair.howin = s.pair.howin ∧ (s.raise src d c).pair.out0 = s.pair.out0 ∧ (s.raise src d c).pair.out1 = s.pair.out1 ∧ (s.raise src d c).pair.dbg = s.pair.dbg ∧ (s.raise src d c).pair.cmpArmed = s.pair.cmpArmed ∧ (s.raise src d c).pair.cmpdiag = s.pair.cmpdiag ∧ (s.raise src d c).pair.cmpcnt = s.pair.cmpcnt ∧ (s.raise src d c).pair.injstat = s.pair.injstat ∧ (s.raise src d c).pair.injmiss = s.pair.injmiss ∧ (s.raise src d c).pair.rotint = s.pair.rotint ∧ (s.raise src d c).pair.rotFrom = s.pair.rotFrom ∧ (s.raise src d c).pair.due = s.pair.due ∧ (s.raise src d c).pair.late = s.pair.late ∧ (s.raise src d c).pair.lastRes = s.pair.lastRes ∧ (s.raise src d c).pair.lastCore = s.pair.lastCore ∧ (s.raise src d c).pair.rotcnt = s.pair.rotcnt ∧ (s.raise src d c).pair.rotk = s.pair.rotk ∧ (s.raise src d c).pair.splitAt = s.pair.splitAt ∧ (s.raise src d c).pair.ready = s.pair.ready ∧ (s.raise src d c).pair.soloLast = s.pair.soloLast ∧ (s.raise src d c).pair.soloMax = s.pair.soloMax ∧ (s.raise src d c).pair.hodiag = s.pair.hodiag ∧ (s.raise src d c).pair.hoInput = s.pair.hoInput ∧ (s.raise src d c).pair.cmpSafe = s.pair.cmpSafe ∧ (s.raise src d c).pair.ecc0 = s.pair.ecc0 ∧ (s.raise src d c).pair.ecc1 = s.pair.ecc1 ∧ (s.raise src d c).pair.kramcnt = s.pair.kramcnt ∧ (s.raise src d c).pair.kramAdr = s.pair.kramAdr ∧ (s.raise src d c).pair.kramRom = s.pair.kramRom ∧ (s.raise src d c).pair.journal = s.pair.journal ∧ (s.raise src d c).pair.jovf = s.pair.jovf ∧ (s.raise src d c).pair.resyncPend = s.pair.resyncPend ∧ (s.raise src d c).pair.ramReload = s.pair.ramReload ∧ (s.raise src d c).pair.refcnt = s.pair.refcnt ∧ (s.raise src d c).pair.pendHalt = s.pair.pendHalt ∧ (s.raise src d c).pair.tap = s.pair.tap ∧ (s.raise src d c).pair.cells = s.pair.cells ∧ (s.raise src d c).pair.scan = s.pair.scan ∧ (s.raise src d c).pair.dr = s.pair.dr ∧ (s.raise src d c).pair.lateCyc = s.pair.lateCyc ∧ (s.raise src d c).pair.dbgResult = s.pair.dbgResult ∧ (s.raise src d c).pair.dbgData = s.pair.dbgData :=
  have h := State.raise_keep s src d c
  ⟨of_keep h (·.pair.arr) (fun _ => rfl), of_keep h (·.pair.split) (fun _ => rfl), of_keep h (·.pair.lead) (fun _ => rfl), of_keep h (·.pair.solo) (fun _ => rfl), of_keep h (·.pair.soloCore) (fun _ => rfl), of_keep h (·.pair.howin) (fun _ => rfl), of_keep h (·.pair.out0) (fun _ => rfl), of_keep h (·.pair.out1) (fun _ => rfl), of_keep h (·.pair.dbg) (fun _ => rfl), of_keep h (·.pair.cmpArmed) (fun _ => rfl), of_keep h (·.pair.cmpdiag) (fun _ => rfl), of_keep h (·.pair.cmpcnt) (fun _ => rfl), of_keep h (·.pair.injstat) (fun _ => rfl), of_keep h (·.pair.injmiss) (fun _ => rfl), of_keep h (·.pair.rotint) (fun _ => rfl), of_keep h (·.pair.rotFrom) (fun _ => rfl), of_keep h (·.pair.due) (fun _ => rfl), of_keep h (·.pair.late) (fun _ => rfl), of_keep h (·.pair.lastRes) (fun _ => rfl), of_keep h (·.pair.lastCore) (fun _ => rfl), of_keep h (·.pair.rotcnt) (fun _ => rfl), of_keep h (·.pair.rotk) (fun _ => rfl), of_keep h (·.pair.splitAt) (fun _ => rfl), of_keep h (·.pair.ready) (fun _ => rfl), of_keep h (·.pair.soloLast) (fun _ => rfl), of_keep h (·.pair.soloMax) (fun _ => rfl), of_keep h (·.pair.hodiag) (fun _ => rfl), of_keep h (·.pair.hoInput) (fun _ => rfl), of_keep h (·.pair.cmpSafe) (fun _ => rfl), of_keep h (·.pair.ecc0) (fun _ => rfl), of_keep h (·.pair.ecc1) (fun _ => rfl), of_keep h (·.pair.kramcnt) (fun _ => rfl), of_keep h (·.pair.kramAdr) (fun _ => rfl), of_keep h (·.pair.kramRom) (fun _ => rfl), of_keep h (·.pair.journal) (fun _ => rfl), of_keep h (·.pair.jovf) (fun _ => rfl), of_keep h (·.pair.resyncPend) (fun _ => rfl), of_keep h (·.pair.ramReload) (fun _ => rfl), of_keep h (·.pair.refcnt) (fun _ => rfl), of_keep h (·.pair.pendHalt) (fun _ => rfl), of_keep h (·.pair.tap) (fun _ => rfl), of_keep h (·.pair.cells) (fun _ => rfl), of_keep h (·.pair.scan) (fun _ => rfl), of_keep h (·.pair.dr) (fun _ => rfl), of_keep h (·.pair.lateCyc) (fun _ => rfl), of_keep h (·.pair.dbgResult) (fun _ => rfl), of_keep h (·.pair.dbgData) (fun _ => rfl)⟩

@[simp] theorem State.raise_fab (s : State) (src : Src) (d : Nat) (c : Cls) :
    (s.raise src d c).fab.committed = s.fab.committed ∧ (s.raise src d c).fab.loading = s.fab.loading ∧ (s.raise src d c).fab.gsr = s.fab.gsr ∧ (s.raise src d c).fab.probeField = s.fab.probeField ∧ (s.raise src d c).fab.cells = s.fab.cells ∧ (s.raise src d c).fab.refs = s.fab.refs ∧ (s.raise src d c).fab.commitAt = s.fab.commitAt ∧ (s.raise src d c).fab.passAt = s.fab.passAt ∧ (s.raise src d c).fab.cfgerr = s.fab.cfgerr ∧ (s.raise src d c).fab.scrubcnt = s.fab.scrubcnt ∧ (s.raise src d c).fab.scruberr = s.fab.scruberr ∧ (s.raise src d c).fab.lastfrm = s.fab.lastfrm ∧ (s.raise src d c).fab.passtime = s.fab.passtime ∧ (s.raise src d c).fab.errs = s.fab.errs ∧ (s.raise src d c).fab.reload = s.fab.reload ∧ (s.raise src d c).fab.chbdepth = s.fab.chbdepth ∧ (s.raise src d c).fab.bankImg0 = s.fab.bankImg0 ∧ (s.raise src d c).fab.bankImg1 = s.fab.bankImg1 ∧ (s.raise src d c).fab.bankNow0 = s.fab.bankNow0 ∧ (s.raise src d c).fab.bankNow1 = s.fab.bankNow1 ∧ (s.raise src d c).fab.feed0 = s.fab.feed0 ∧ (s.raise src d c).fab.feed1 = s.fab.feed1 ∧ (s.raise src d c).fab.fsel = s.fab.fsel ∧ (s.raise src d c).fab.fwsel = s.fab.fwsel ∧ (s.raise src d c).fab.prbsel = s.fab.prbsel ∧ (s.raise src d c).fab.probes = s.fab.probes ∧ (s.raise src d c).fab.prberr = s.fab.prberr ∧ (s.raise src d c).fab.wd = s.fab.wd ∧ (s.raise src d c).fab.wrote = s.fab.wrote ∧ (s.raise src d c).fab.disagree = s.fab.disagree :=
  have h := State.raise_keep s src d c
  ⟨of_keep h (·.fab.committed) (fun _ => rfl), of_keep h (·.fab.loading) (fun _ => rfl), of_keep h (·.fab.gsr) (fun _ => rfl), of_keep h (·.fab.probeField) (fun _ => rfl), of_keep h (·.fab.cells) (fun _ => rfl), of_keep h (·.fab.refs) (fun _ => rfl), of_keep h (·.fab.commitAt) (fun _ => rfl), of_keep h (·.fab.passAt) (fun _ => rfl), of_keep h (·.fab.cfgerr) (fun _ => rfl), of_keep h (·.fab.scrubcnt) (fun _ => rfl), of_keep h (·.fab.scruberr) (fun _ => rfl), of_keep h (·.fab.lastfrm) (fun _ => rfl), of_keep h (·.fab.passtime) (fun _ => rfl), of_keep h (·.fab.errs) (fun _ => rfl), of_keep h (·.fab.reload) (fun _ => rfl), of_keep h (·.fab.chbdepth) (fun _ => rfl), of_keep h (·.fab.bankImg0) (fun _ => rfl), of_keep h (·.fab.bankImg1) (fun _ => rfl), of_keep h (·.fab.bankNow0) (fun _ => rfl), of_keep h (·.fab.bankNow1) (fun _ => rfl), of_keep h (·.fab.feed0) (fun _ => rfl), of_keep h (·.fab.feed1) (fun _ => rfl), of_keep h (·.fab.fsel) (fun _ => rfl), of_keep h (·.fab.fwsel) (fun _ => rfl), of_keep h (·.fab.prbsel) (fun _ => rfl), of_keep h (·.fab.probes) (fun _ => rfl), of_keep h (·.fab.prberr) (fun _ => rfl), of_keep h (·.fab.wd) (fun _ => rfl), of_keep h (·.fab.wrote) (fun _ => rfl), of_keep h (·.fab.disagree) (fun _ => rfl)⟩

@[simp] theorem State.raise_sh0 (s : State) (src : Src) (d : Nat) (c : Cls) :
    (s.raise src d c).sh0.loaded = s.sh0.loaded ∧ (s.raise src d c).sh0.cycle = s.sh0.cycle ∧ (s.raise src d c).sh0.recs = s.sh0.recs ∧ (s.raise src d c).sh0.crc = s.sh0.crc ∧ (s.raise src d c).sh0.a = s.sh0.a ∧ (s.raise src d c).sh0.pulseIn = s.sh0.pulseIn ∧ (s.raise src d c).sh0.pulse = s.sh0.pulse ∧ (s.raise src d c).sh0.from_ = s.sh0.from_ :=
  have h := State.raise_keep s src d c
  ⟨of_keep h (·.sh0.loaded) (fun _ => rfl), of_keep h (·.sh0.cycle) (fun _ => rfl), of_keep h (·.sh0.recs) (fun _ => rfl), of_keep h (·.sh0.crc) (fun _ => rfl), of_keep h (·.sh0.a) (fun _ => rfl), of_keep h (·.sh0.pulseIn) (fun _ => rfl), of_keep h (·.sh0.pulse) (fun _ => rfl), of_keep h (·.sh0.from_) (fun _ => rfl)⟩

@[simp] theorem State.raise_sh1 (s : State) (src : Src) (d : Nat) (c : Cls) :
    (s.raise src d c).sh1.loaded = s.sh1.loaded ∧ (s.raise src d c).sh1.cycle = s.sh1.cycle ∧ (s.raise src d c).sh1.recs = s.sh1.recs ∧ (s.raise src d c).sh1.crc = s.sh1.crc ∧ (s.raise src d c).sh1.a = s.sh1.a ∧ (s.raise src d c).sh1.pulseIn = s.sh1.pulseIn ∧ (s.raise src d c).sh1.pulse = s.sh1.pulse ∧ (s.raise src d c).sh1.from_ = s.sh1.from_ :=
  have h := State.raise_keep s src d c
  ⟨of_keep h (·.sh1.loaded) (fun _ => rfl), of_keep h (·.sh1.cycle) (fun _ => rfl), of_keep h (·.sh1.recs) (fun _ => rfl), of_keep h (·.sh1.crc) (fun _ => rfl), of_keep h (·.sh1.a) (fun _ => rfl), of_keep h (·.sh1.pulseIn) (fun _ => rfl), of_keep h (·.sh1.pulse) (fun _ => rfl), of_keep h (·.sh1.from_) (fun _ => rfl)⟩

@[simp] theorem State.raise_sout (s : State) (src : Src) (d : Nat) (c : Cls) :
    (s.raise src d c).sout.gateOk = s.sout.gateOk ∧ (s.raise src d c).sout.gateTill = s.sout.gateTill ∧ (s.raise src d c).sout.ext = s.sout.ext ∧ (s.raise src d c).sout.barkAat = s.sout.barkAat ∧ (s.raise src d c).sout.barkBat = s.sout.barkBat ∧ (s.raise src d c).sout.monA = s.sout.monA ∧ (s.raise src d c).sout.monB = s.sout.monB ∧ (s.raise src d c).sout.checks = s.sout.checks ∧ (s.raise src d c).sout.cfgerr = s.sout.cfgerr ∧ (s.raise src d c).sout.osel = s.sout.osel :=
  have h := State.raise_keep s src d c
  ⟨of_keep h (·.sout.gateOk) (fun _ => rfl), of_keep h (·.sout.gateTill) (fun _ => rfl), of_keep h (·.sout.ext) (fun _ => rfl), of_keep h (·.sout.barkAat) (fun _ => rfl), of_keep h (·.sout.barkBat) (fun _ => rfl), of_keep h (·.sout.monA) (fun _ => rfl), of_keep h (·.sout.monB) (fun _ => rfl), of_keep h (·.sout.checks) (fun _ => rfl), of_keep h (·.sout.cfgerr) (fun _ => rfl), of_keep h (·.sout.osel) (fun _ => rfl)⟩

@[simp] theorem State.raise_mot (s : State) (src : Src) (d : Nat) (c : Cls) :
    (s.raise src d c).mot.wsel = s.mot.wsel ∧ (s.raise src d c).mot.cfgerr = s.mot.cfgerr ∧ (s.raise src d c).mot.sched = s.mot.sched :=
  have h := State.raise_keep s src d c
  ⟨of_keep h (·.mot.wsel) (fun _ => rfl), of_keep h (·.mot.cfgerr) (fun _ => rfl), of_keep h (·.mot.sched) (fun _ => rfl)⟩

@[simp] theorem State.raise_yard (s : State) (src : Src) (d : Nat) (c : Cls) :
    (s.raise src d c).yard.runs = s.yard.runs ∧ (s.raise src d c).yard.base = s.yard.base ∧ (s.raise src d c).yard.baseAt = s.yard.baseAt ∧ (s.raise src d c).yard.rate = s.yard.rate ∧ (s.raise src d c).yard.sync = s.yard.sync ∧ (s.raise src d c).yard.goodRun = s.yard.goodRun ∧ (s.raise src d c).yard.badRun = s.yard.badRun ∧ (s.raise src d c).yard.lastExch = s.yard.lastExch ∧ (s.raise src d c).yard.holdAt = s.yard.holdAt ∧ (s.raise src d c).yard.xch = s.yard.xch ∧ (s.raise src d c).yard.offset = s.yard.offset ∧ (s.raise src d c).yard.delay = s.yard.delay ∧ (s.raise src d c).yard.up = s.yard.up ∧ (s.raise src d c).yard.upPert = s.yard.upPert ∧ (s.raise src d c).yard.upSeen = s.yard.upSeen ∧ (s.raise src d c).yard.committed = s.yard.committed ∧ (s.raise src d c).yard.node = s.yard.node ∧ (s.raise src d c).yard.root = s.yard.root ∧ (s.raise src d c).yard.depth = s.yard.depth ∧ (s.raise src d c).yard.upnode = s.yard.upnode ∧ (s.raise src d c).yard.lockwait = s.yard.lockwait ∧ (s.raise src d c).yard.wlead = s.yard.wlead ∧ (s.raise src d c).yard.worig0 = s.yard.worig0 ∧ (s.raise src d c).yard.worig1 = s.yard.worig1 ∧ (s.raise src d c).yard.wstop0 = s.yard.wstop0 ∧ (s.raise src d c).yard.wstop1 = s.yard.wstop1 ∧ (s.raise src d c).yard.ports = s.yard.ports ∧ (s.raise src d c).yard.conns = s.yard.conns ∧ (s.raise src d c).yard.yins = s.yard.yins ∧ (s.raise src d c).yard.remote = s.yard.remote ∧ (s.raise src d c).yard.lcancel = s.yard.lcancel ∧ (s.raise src d c).yard.wseq = s.yard.wseq ∧ (s.raise src d c).yard.seen = s.yard.seen ∧ (s.raise src d c).yard.wpend = s.yard.wpend ∧ (s.raise src d c).yard.wforce = s.yard.wforce ∧ (s.raise src d c).yard.wclear = s.yard.wclear ∧ (s.raise src d c).yard.wcnt = s.yard.wcnt ∧ (s.raise src d c).yard.worigin = s.yard.worigin ∧ (s.raise src d c).yard.wltime = s.yard.wltime ∧ (s.raise src d c).yard.wlatch = s.yard.wlatch ∧ (s.raise src d c).yard.mrecv = s.yard.mrecv ∧ (s.raise src d c).yard.mlost = s.yard.mlost ∧ (s.raise src d c).yard.psel = s.yard.psel ∧ (s.raise src d c).yard.csel = s.yard.csel ∧ (s.raise src d c).yard.cfgerr = s.yard.cfgerr :=
  have h := State.raise_keep s src d c
  ⟨of_keep h (·.yard.runs) (fun _ => rfl), of_keep h (·.yard.base) (fun _ => rfl), of_keep h (·.yard.baseAt) (fun _ => rfl), of_keep h (·.yard.rate) (fun _ => rfl), of_keep h (·.yard.sync) (fun _ => rfl), of_keep h (·.yard.goodRun) (fun _ => rfl), of_keep h (·.yard.badRun) (fun _ => rfl), of_keep h (·.yard.lastExch) (fun _ => rfl), of_keep h (·.yard.holdAt) (fun _ => rfl), of_keep h (·.yard.xch) (fun _ => rfl), of_keep h (·.yard.offset) (fun _ => rfl), of_keep h (·.yard.delay) (fun _ => rfl), of_keep h (·.yard.up) (fun _ => rfl), of_keep h (·.yard.upPert) (fun _ => rfl), of_keep h (·.yard.upSeen) (fun _ => rfl), of_keep h (·.yard.committed) (fun _ => rfl), of_keep h (·.yard.node) (fun _ => rfl), of_keep h (·.yard.root) (fun _ => rfl), of_keep h (·.yard.depth) (fun _ => rfl), of_keep h (·.yard.upnode) (fun _ => rfl), of_keep h (·.yard.lockwait) (fun _ => rfl), of_keep h (·.yard.wlead) (fun _ => rfl), of_keep h (·.yard.worig0) (fun _ => rfl), of_keep h (·.yard.worig1) (fun _ => rfl), of_keep h (·.yard.wstop0) (fun _ => rfl), of_keep h (·.yard.wstop1) (fun _ => rfl), of_keep h (·.yard.ports) (fun _ => rfl), of_keep h (·.yard.conns) (fun _ => rfl), of_keep h (·.yard.yins) (fun _ => rfl), of_keep h (·.yard.remote) (fun _ => rfl), of_keep h (·.yard.lcancel) (fun _ => rfl), of_keep h (·.yard.wseq) (fun _ => rfl), of_keep h (·.yard.seen) (fun _ => rfl), of_keep h (·.yard.wpend) (fun _ => rfl), of_keep h (·.yard.wforce) (fun _ => rfl), of_keep h (·.yard.wclear) (fun _ => rfl), of_keep h (·.yard.wcnt) (fun _ => rfl), of_keep h (·.yard.worigin) (fun _ => rfl), of_keep h (·.yard.wltime) (fun _ => rfl), of_keep h (·.yard.wlatch) (fun _ => rfl), of_keep h (·.yard.mrecv) (fun _ => rfl), of_keep h (·.yard.mlost) (fun _ => rfl), of_keep h (·.yard.psel) (fun _ => rfl), of_keep h (·.yard.csel) (fun _ => rfl), of_keep h (·.yard.cfgerr) (fun _ => rfl)⟩

@[simp] theorem State.raise_flt (s : State) (src : Src) (d : Nat) (c : Cls) :
    (s.raise src d c).flt.on = s.flt.on ∧ (s.raise src d c).flt.onAt = s.flt.onAt ∧ (s.raise src d c).flt.coll = s.flt.coll ∧ (s.raise src d c).flt.map = s.flt.map ∧ (s.raise src d c).flt.head = s.flt.head ∧ (s.raise src d c).flt.blocked = s.flt.blocked ∧ (s.raise src d c).flt.lasting = s.flt.lasting ∧ (s.raise src d c).flt.wrAband = s.flt.wrAband ∧ (s.raise src d c).flt.wrBad = s.flt.wrBad ∧ (s.raise src d c).flt.cutprev = s.flt.cutprev ∧ (s.raise src d c).flt.ridx = s.flt.ridx ∧ (s.raise src d c).flt.rwsel = s.flt.rwsel ∧ (s.raise src d c).flt.csel = s.flt.csel ∧ (s.raise src d c).flt.buf = s.flt.buf ∧ (s.raise src d c).flt.cfgerr = s.flt.cfgerr :=
  have h := State.raise_keep s src d c
  ⟨of_keep h (·.flt.on) (fun _ => rfl), of_keep h (·.flt.onAt) (fun _ => rfl), of_keep h (·.flt.coll) (fun _ => rfl), of_keep h (·.flt.map) (fun _ => rfl), of_keep h (·.flt.head) (fun _ => rfl), of_keep h (·.flt.blocked) (fun _ => rfl), of_keep h (·.flt.lasting) (fun _ => rfl), of_keep h (·.flt.wrAband) (fun _ => rfl), of_keep h (·.flt.wrBad) (fun _ => rfl), of_keep h (·.flt.cutprev) (fun _ => rfl), of_keep h (·.flt.ridx) (fun _ => rfl), of_keep h (·.flt.rwsel) (fun _ => rfl), of_keep h (·.flt.csel) (fun _ => rfl), of_keep h (·.flt.buf) (fun _ => rfl), of_keep h (·.flt.cfgerr) (fun _ => rfl)⟩

@[simp] theorem State.raise_farr (s : State) (src : Src) (d : Nat) (c : Cls) :
    (s.raise src d c).farr.origin = s.farr.origin ∧ (s.raise src d c).farr.failHold = s.farr.failHold ∧ (s.raise src d c).farr.cur = s.farr.cur ∧ (s.raise src d c).farr.startAt = s.farr.startAt ∧ (s.raise src d c).farr.endAt = s.farr.endAt ∧ (s.raise src d c).farr.setAt = s.farr.setAt ∧ (s.raise src d c).farr.setOk = s.farr.setOk ∧ (s.raise src d c).farr.sel = s.farr.sel ∧ (s.raise src d c).farr.pass = s.farr.pass ∧ (s.raise src d c).farr.fail = s.farr.fail ∧ (s.raise src d c).farr.budget = s.farr.budget ∧ (s.raise src d c).farr.refuse = s.farr.refuse ∧ (s.raise src d c).farr.firstFail = s.farr.firstFail ∧ (s.raise src d c).farr.rsel = s.farr.rsel ∧ (s.raise src d c).farr.results = s.farr.results ∧ (s.raise src d c).farr.durs = s.farr.durs ∧ (s.raise src d c).farr.setdur = s.farr.setdur ∧ (s.raise src d c).farr.hostcnt = s.farr.hostcnt ∧ (s.raise src d c).farr.ran = s.farr.ran :=
  have h := State.raise_keep s src d c
  ⟨of_keep h (·.farr.origin) (fun _ => rfl), of_keep h (·.farr.failHold) (fun _ => rfl), of_keep h (·.farr.cur) (fun _ => rfl), of_keep h (·.farr.startAt) (fun _ => rfl), of_keep h (·.farr.endAt) (fun _ => rfl), of_keep h (·.farr.setAt) (fun _ => rfl), of_keep h (·.farr.setOk) (fun _ => rfl), of_keep h (·.farr.sel) (fun _ => rfl), of_keep h (·.farr.pass) (fun _ => rfl), of_keep h (·.farr.fail) (fun _ => rfl), of_keep h (·.farr.budget) (fun _ => rfl), of_keep h (·.farr.refuse) (fun _ => rfl), of_keep h (·.farr.firstFail) (fun _ => rfl), of_keep h (·.farr.rsel) (fun _ => rfl), of_keep h (·.farr.results) (fun _ => rfl), of_keep h (·.farr.durs) (fun _ => rfl), of_keep h (·.farr.setdur) (fun _ => rfl), of_keep h (·.farr.hostcnt) (fun _ => rfl), of_keep h (·.farr.ran) (fun _ => rfl)⟩

@[simp] theorem State.raise_cp (s : State) (src : Src) (d : Nat) (c : Cls) :
    (s.raise src d c).cp.st = s.cp.st ∧ (s.raise src d c).cp.wrEnd = s.cp.wrEnd ∧ (s.raise src d c).cp.sdo = s.cp.sdo ∧ (s.raise src d c).cp.alertEn = s.cp.alertEn ∧ (s.raise src d c).cp.ylatch = s.cp.ylatch ∧ (s.raise src d c).cp.cycle = s.cp.cycle ∧ (s.raise src d c).cp.hostcmd = s.cp.hostcmd ∧ (s.raise src d c).cp.arg0 = s.cp.arg0 ∧ (s.raise src d c).cp.arg1 = s.cp.arg1 ∧ (s.raise src d c).cp.resp = s.cp.resp ∧ (s.raise src d c).cp.crcErr = s.cp.crcErr ∧ (s.raise src d c).cp.frmErr = s.cp.frmErr ∧ (s.raise src d c).cp.mbuf = s.cp.mbuf ∧ (s.raise src d c).cp.page = s.cp.page ∧ (s.raise src d c).cp.mbx = s.cp.mbx ∧ (s.raise src d c).cp.maint = s.cp.maint :=
  have h := State.raise_keep s src d c
  ⟨of_keep h (·.cp.st) (fun _ => rfl), of_keep h (·.cp.wrEnd) (fun _ => rfl), of_keep h (·.cp.sdo) (fun _ => rfl), of_keep h (·.cp.alertEn) (fun _ => rfl), of_keep h (·.cp.ylatch) (fun _ => rfl), of_keep h (·.cp.cycle) (fun _ => rfl), of_keep h (·.cp.hostcmd) (fun _ => rfl), of_keep h (·.cp.arg0) (fun _ => rfl), of_keep h (·.cp.arg1) (fun _ => rfl), of_keep h (·.cp.resp) (fun _ => rfl), of_keep h (·.cp.crcErr) (fun _ => rfl), of_keep h (·.cp.frmErr) (fun _ => rfl), of_keep h (·.cp.mbuf) (fun _ => rfl), of_keep h (·.cp.page) (fun _ => rfl), of_keep h (·.cp.mbx) (fun _ => rfl), of_keep h (·.cp.maint) (fun _ => rfl)⟩

@[simp] theorem State.raise_img (s : State) (src : Src) (d : Nat) (c : Cls) :
    (s.raise src d c).img.fuses = s.img.fuses ∧ (s.raise src d c).img.keyFuse = s.img.keyFuse ∧ (s.raise src d c).img.keyEnr = s.img.keyEnr ∧ (s.raise src d c).img.erased = s.img.erased ∧ (s.raise src d c).img.erasing = s.img.erasing ∧ (s.raise src d c).img.erasedAt = s.img.erasedAt ∧ (s.raise src d c).img.cfgAct = s.img.cfgAct ∧ (s.raise src d c).img.running = s.img.running ∧ (s.raise src d c).img.cfgver = s.img.cfgver ∧ (s.raise src d c).img.pending = s.img.pending ∧ (s.raise src d c).img.loftAct = s.img.loftAct ∧ (s.raise src d c).img.loftFb = s.img.loftFb ∧ (s.raise src d c).img.noLoft = s.img.noLoft ∧ (s.raise src d c).img.loftVer = s.img.loftVer ∧ (s.raise src d c).img.seqOpen = s.img.seqOpen ∧ (s.raise src d c).img.verified = s.img.verified ∧ (s.raise src d c).img.wblocks = s.img.wblocks ∧ (s.raise src d c).img.cfgerr = s.img.cfgerr ∧ (s.raise src d c).img.verr = s.img.verr ∧ (s.raise src d c).img.lclast = s.img.lclast ∧ (s.raise src d c).img.xsel = s.img.xsel ∧ (s.raise src d c).img.agreed = s.img.agreed ∧ (s.raise src d c).img.imgArr = s.img.imgArr :=
  have h := State.raise_keep s src d c
  ⟨of_keep h (·.img.fuses) (fun _ => rfl), of_keep h (·.img.keyFuse) (fun _ => rfl), of_keep h (·.img.keyEnr) (fun _ => rfl), of_keep h (·.img.erased) (fun _ => rfl), of_keep h (·.img.erasing) (fun _ => rfl), of_keep h (·.img.erasedAt) (fun _ => rfl), of_keep h (·.img.cfgAct) (fun _ => rfl), of_keep h (·.img.running) (fun _ => rfl), of_keep h (·.img.cfgver) (fun _ => rfl), of_keep h (·.img.pending) (fun _ => rfl), of_keep h (·.img.loftAct) (fun _ => rfl), of_keep h (·.img.loftFb) (fun _ => rfl), of_keep h (·.img.noLoft) (fun _ => rfl), of_keep h (·.img.loftVer) (fun _ => rfl), of_keep h (·.img.seqOpen) (fun _ => rfl), of_keep h (·.img.verified) (fun _ => rfl), of_keep h (·.img.wblocks) (fun _ => rfl), of_keep h (·.img.cfgerr) (fun _ => rfl), of_keep h (·.img.verr) (fun _ => rfl), of_keep h (·.img.lclast) (fun _ => rfl), of_keep h (·.img.xsel) (fun _ => rfl), of_keep h (·.img.agreed) (fun _ => rfl), of_keep h (·.img.imgArr) (fun _ => rfl)⟩

@[simp] theorem State.err_whole (s : State) (src : Src) (d : Nat) :
    (s.err src d).now = s.now ∧ (s.err src d).sp = s.sp ∧ (s.err src d).sin = s.sin ∧ (s.err src d).col = s.col ∧ (s.err src d).spook = s.spook ∧ (s.err src d).fifos = s.fifos ∧ (s.err src d).mram = s.mram ∧ (s.err src d).pending = s.pending :=
  have h := State.err_keep s src d
  ⟨of_keep h (·.now) (fun _ => rfl), of_keep h (·.sp) (fun _ => rfl), of_keep h (·.sin) (fun _ => rfl), of_keep h (·.col) (fun _ => rfl), of_keep h (·.spook) (fun _ => rfl), of_keep h (·.fifos) (fun _ => rfl), of_keep h (·.mram) (fun _ => rfl), of_keep h (·.pending) (fun _ => rfl)⟩

@[simp] theorem State.err_seq (s : State) (src : Src) (d : Nat) :
    (s.err src d).seq.por = s.seq.por ∧ (s.err src d).seq.porAt = s.seq.porAt ∧ (s.err src d).seq.chan = s.seq.chan ∧ (s.err src d).seq.waitAt = s.seq.waitAt ∧ (s.err src d).seq.pg = s.seq.pg ∧ (s.err src d).seq.ramp = s.seq.ramp ∧ (s.err src d).seq.mode = s.seq.mode ∧ (s.err src d).seq.step = s.seq.step ∧ (s.err src d).seq.pgto = s.seq.pgto ∧ (s.err src d).seq.settle = s.seq.settle ∧ (s.err src d).seq.dscto = s.seq.dscto ∧ (s.err src d).seq.dscLast = s.seq.dscLast ∧ (s.err src d).seq.planOk = s.seq.planOk ∧ (s.err src d).seq.boardDone = s.seq.boardDone ∧ (s.err src d).seq.downDone = s.seq.downDone ∧ (s.err src d).seq.holdup = s.seq.holdup ∧ (s.err src d).seq.belowWarn = s.seq.belowWarn ∧ (s.err src d).seq.vinLow = s.seq.vinLow ∧ (s.err src d).seq.belowAbandon = s.seq.belowAbandon ∧ (s.err src d).seq.vin = s.seq.vin ∧ (s.err src d).seq.vinMin = s.seq.vinMin ∧ (s.err src d).seq.vinWarns = s.seq.vinWarns ∧ (s.err src d).seq.vinAbandons = s.seq.vinAbandons ∧ (s.err src d).seq.snapNo = s.seq.snapNo ∧ (s.err src d).seq.snapTop = s.seq.snapTop ∧ (s.err src d).seq.upStartNo = s.seq.upStartNo ∧ (s.err src d).seq.snapInv = s.seq.snapInv ∧ (s.err src d).seq.snapAborted = s.seq.snapAborted ∧ (s.err src d).seq.snapBuf = s.seq.snapBuf ∧ (s.err src d).seq.chsel = s.seq.chsel ∧ (s.err src d).seq.sidx = s.seq.sidx ∧ (s.err src d).seq.swsel = s.seq.swsel ∧ (s.err src d).seq.cfgerr = s.seq.cfgerr ∧ (s.err src d).seq.rstcause = s.seq.rstcause ∧ (s.err src d).seq.warmcnt = s.seq.warmcnt ∧ (s.err src d).seq.ytick = s.seq.ytick ∧ (s.err src d).seq.ytickAt = s.seq.ytickAt ∧ (s.err src d).seq.temps = s.seq.temps :=
  have h := State.err_keep s src d
  ⟨of_keep h (·.seq.por) (fun _ => rfl), of_keep h (·.seq.porAt) (fun _ => rfl), of_keep h (·.seq.chan) (fun _ => rfl), of_keep h (·.seq.waitAt) (fun _ => rfl), of_keep h (·.seq.pg) (fun _ => rfl), of_keep h (·.seq.ramp) (fun _ => rfl), of_keep h (·.seq.mode) (fun _ => rfl), of_keep h (·.seq.step) (fun _ => rfl), of_keep h (·.seq.pgto) (fun _ => rfl), of_keep h (·.seq.settle) (fun _ => rfl), of_keep h (·.seq.dscto) (fun _ => rfl), of_keep h (·.seq.dscLast) (fun _ => rfl), of_keep h (·.seq.planOk) (fun _ => rfl), of_keep h (·.seq.boardDone) (fun _ => rfl), of_keep h (·.seq.downDone) (fun _ => rfl), of_keep h (·.seq.holdup) (fun _ => rfl), of_keep h (·.seq.belowWarn) (fun _ => rfl), of_keep h (·.seq.vinLow) (fun _ => rfl), of_keep h (·.seq.belowAbandon) (fun _ => rfl), of_keep h (·.seq.vin) (fun _ => rfl), of_keep h (·.seq.vinMin) (fun _ => rfl), of_keep h (·.seq.vinWarns) (fun _ => rfl), of_keep h (·.seq.vinAbandons) (fun _ => rfl), of_keep h (·.seq.snapNo) (fun _ => rfl), of_keep h (·.seq.snapTop) (fun _ => rfl), of_keep h (·.seq.upStartNo) (fun _ => rfl), of_keep h (·.seq.snapInv) (fun _ => rfl), of_keep h (·.seq.snapAborted) (fun _ => rfl), of_keep h (·.seq.snapBuf) (fun _ => rfl), of_keep h (·.seq.chsel) (fun _ => rfl), of_keep h (·.seq.sidx) (fun _ => rfl), of_keep h (·.seq.swsel) (fun _ => rfl), of_keep h (·.seq.cfgerr) (fun _ => rfl), of_keep h (·.seq.rstcause) (fun _ => rfl), of_keep h (·.seq.warmcnt) (fun _ => rfl), of_keep h (·.seq.ytick) (fun _ => rfl), of_keep h (·.seq.ytickAt) (fun _ => rfl), of_keep h (·.seq.temps) (fun _ => rfl)⟩

@[simp] theorem State.err_clk (s : State) (src : Src) (d : Nat) :
    (s.err src d).clk.mismatch = s.clk.mismatch ∧ (s.err src d).clk.xtal = s.clk.xtal ∧ (s.err src d).clk.pll = s.clk.pll ∧ (s.err src d).clk.out = s.clk.out ∧ (s.err src d).clk.rcOk = s.clk.rcOk ∧ (s.err src d).clk.rccal = s.clk.rccal ∧ (s.err src d).clk.mon = s.clk.mon ∧ (s.err src d).clk.strap = s.clk.strap ∧ (s.err src d).clk.fixed = s.clk.fixed ∧ (s.err src d).clk.rcstop = s.clk.rcstop ∧ (s.err src d).clk.cmdiag = s.clk.cmdiag ∧ (s.err src d).clk.dev = s.clk.dev ∧ (s.err src d).clk.devMax = s.clk.devMax ∧ (s.err src d).clk.bad = s.clk.bad ∧ (s.err src d).clk.csel = s.clk.csel ∧ (s.err src d).clk.rstign = s.clk.rstign ∧ (s.err src d).clk.hsdiag = s.clk.hsdiag ∧ (s.err src d).clk.tboot = s.clk.tboot ∧ (s.err src d).clk.tself = s.clk.tself ∧ (s.err src d).clk.tload = s.clk.tload ∧ (s.err src d).clk.tboard = s.clk.tboard ∧ (s.err src d).clk.tarmed = s.clk.tarmed ∧ (s.err src d).clk.start = s.clk.start ∧ (s.err src d).clk.bootAt = s.clk.bootAt ∧ (s.err src d).clk.pllAt = s.clk.pllAt ∧ (s.err src d).clk.boardAt = s.clk.boardAt ∧ (s.err src d).clk.rstLow = s.clk.rstLow ∧ (s.err src d).clk.loadStep = s.clk.loadStep ∧ (s.err src d).clk.armedOnce = s.clk.armedOnce ∧ (s.err src d).clk.lockAt = s.clk.lockAt ∧ (s.err src d).clk.temps = s.clk.temps ∧ (s.err src d).clk.tempRun = s.clk.tempRun :=
  have h := State.err_keep s src d
  ⟨of_keep h (·.clk.mismatch) (fun _ => rfl), of_keep h (·.clk.xtal) (fun _ => rfl), of_keep h (·.clk.pll) (fun _ => rfl), of_keep h (·.clk.out) (fun _ => rfl), of_keep h (·.clk.rcOk) (fun _ => rfl), of_keep h (·.clk.rccal) (fun _ => rfl), of_keep h (·.clk.mon) (fun _ => rfl), of_keep h (·.clk.strap) (fun _ => rfl), of_keep h (·.clk.fixed) (fun _ => rfl), of_keep h (·.clk.rcstop) (fun _ => rfl), of_keep h (·.clk.cmdiag) (fun _ => rfl), of_keep h (·.clk.dev) (fun _ => rfl), of_keep h (·.clk.devMax) (fun _ => rfl), of_keep h (·.clk.bad) (fun _ => rfl), of_keep h (·.clk.csel) (fun _ => rfl), of_keep h (·.clk.rstign) (fun _ => rfl), of_keep h (·.clk.hsdiag) (fun _ => rfl), of_keep h (·.clk.tboot) (fun _ => rfl), of_keep h (·.clk.tself) (fun _ => rfl), of_keep h (·.clk.tload) (fun _ => rfl), of_keep h (·.clk.tboard) (fun _ => rfl), of_keep h (·.clk.tarmed) (fun _ => rfl), of_keep h (·.clk.start) (fun _ => rfl), of_keep h (·.clk.bootAt) (fun _ => rfl), of_keep h (·.clk.pllAt) (fun _ => rfl), of_keep h (·.clk.boardAt) (fun _ => rfl), of_keep h (·.clk.rstLow) (fun _ => rfl), of_keep h (·.clk.loadStep) (fun _ => rfl), of_keep h (·.clk.armedOnce) (fun _ => rfl), of_keep h (·.clk.lockAt) (fun _ => rfl), of_keep h (·.clk.temps) (fun _ => rfl), of_keep h (·.clk.tempRun) (fun _ => rfl)⟩

@[simp] theorem State.err_pair (s : State) (src : Src) (d : Nat) :
    (s.err src d).pair.arr = s.pair.arr ∧ (s.err src d).pair.split = s.pair.split ∧ (s.err src d).pair.lead = s.pair.lead ∧ (s.err src d).pair.solo = s.pair.solo ∧ (s.err src d).pair.soloCore = s.pair.soloCore ∧ (s.err src d).pair.howin = s.pair.howin ∧ (s.err src d).pair.out0 = s.pair.out0 ∧ (s.err src d).pair.out1 = s.pair.out1 ∧ (s.err src d).pair.dbg = s.pair.dbg ∧ (s.err src d).pair.cmpArmed = s.pair.cmpArmed ∧ (s.err src d).pair.cmpdiag = s.pair.cmpdiag ∧ (s.err src d).pair.cmpcnt = s.pair.cmpcnt ∧ (s.err src d).pair.injstat = s.pair.injstat ∧ (s.err src d).pair.injmiss = s.pair.injmiss ∧ (s.err src d).pair.rotint = s.pair.rotint ∧ (s.err src d).pair.rotFrom = s.pair.rotFrom ∧ (s.err src d).pair.due = s.pair.due ∧ (s.err src d).pair.late = s.pair.late ∧ (s.err src d).pair.lastRes = s.pair.lastRes ∧ (s.err src d).pair.lastCore = s.pair.lastCore ∧ (s.err src d).pair.rotcnt = s.pair.rotcnt ∧ (s.err src d).pair.rotk = s.pair.rotk ∧ (s.err src d).pair.splitAt = s.pair.splitAt ∧ (s.err src d).pair.ready = s.pair.ready ∧ (s.err src d).pair.soloLast = s.pair.soloLast ∧ (s.err src d).pair.soloMax = s.pair.soloMax ∧ (s.err src d).pair.hodiag = s.pair.hodiag ∧ (s.err src d).pair.hoInput = s.pair.hoInput ∧ (s.err src d).pair.cmpSafe = s.pair.cmpSafe ∧ (s.err src d).pair.ecc0 = s.pair.ecc0 ∧ (s.err src d).pair.ecc1 = s.pair.ecc1 ∧ (s.err src d).pair.kramcnt = s.pair.kramcnt ∧ (s.err src d).pair.kramAdr = s.pair.kramAdr ∧ (s.err src d).pair.kramRom = s.pair.kramRom ∧ (s.err src d).pair.journal = s.pair.journal ∧ (s.err src d).pair.jovf = s.pair.jovf ∧ (s.err src d).pair.resyncPend = s.pair.resyncPend ∧ (s.err src d).pair.ramReload = s.pair.ramReload ∧ (s.err src d).pair.refcnt = s.pair.refcnt ∧ (s.err src d).pair.pendHalt = s.pair.pendHalt ∧ (s.err src d).pair.tap = s.pair.tap ∧ (s.err src d).pair.cells = s.pair.cells ∧ (s.err src d).pair.scan = s.pair.scan ∧ (s.err src d).pair.dr = s.pair.dr ∧ (s.err src d).pair.lateCyc = s.pair.lateCyc ∧ (s.err src d).pair.dbgResult = s.pair.dbgResult ∧ (s.err src d).pair.dbgData = s.pair.dbgData :=
  have h := State.err_keep s src d
  ⟨of_keep h (·.pair.arr) (fun _ => rfl), of_keep h (·.pair.split) (fun _ => rfl), of_keep h (·.pair.lead) (fun _ => rfl), of_keep h (·.pair.solo) (fun _ => rfl), of_keep h (·.pair.soloCore) (fun _ => rfl), of_keep h (·.pair.howin) (fun _ => rfl), of_keep h (·.pair.out0) (fun _ => rfl), of_keep h (·.pair.out1) (fun _ => rfl), of_keep h (·.pair.dbg) (fun _ => rfl), of_keep h (·.pair.cmpArmed) (fun _ => rfl), of_keep h (·.pair.cmpdiag) (fun _ => rfl), of_keep h (·.pair.cmpcnt) (fun _ => rfl), of_keep h (·.pair.injstat) (fun _ => rfl), of_keep h (·.pair.injmiss) (fun _ => rfl), of_keep h (·.pair.rotint) (fun _ => rfl), of_keep h (·.pair.rotFrom) (fun _ => rfl), of_keep h (·.pair.due) (fun _ => rfl), of_keep h (·.pair.late) (fun _ => rfl), of_keep h (·.pair.lastRes) (fun _ => rfl), of_keep h (·.pair.lastCore) (fun _ => rfl), of_keep h (·.pair.rotcnt) (fun _ => rfl), of_keep h (·.pair.rotk) (fun _ => rfl), of_keep h (·.pair.splitAt) (fun _ => rfl), of_keep h (·.pair.ready) (fun _ => rfl), of_keep h (·.pair.soloLast) (fun _ => rfl), of_keep h (·.pair.soloMax) (fun _ => rfl), of_keep h (·.pair.hodiag) (fun _ => rfl), of_keep h (·.pair.hoInput) (fun _ => rfl), of_keep h (·.pair.cmpSafe) (fun _ => rfl), of_keep h (·.pair.ecc0) (fun _ => rfl), of_keep h (·.pair.ecc1) (fun _ => rfl), of_keep h (·.pair.kramcnt) (fun _ => rfl), of_keep h (·.pair.kramAdr) (fun _ => rfl), of_keep h (·.pair.kramRom) (fun _ => rfl), of_keep h (·.pair.journal) (fun _ => rfl), of_keep h (·.pair.jovf) (fun _ => rfl), of_keep h (·.pair.resyncPend) (fun _ => rfl), of_keep h (·.pair.ramReload) (fun _ => rfl), of_keep h (·.pair.refcnt) (fun _ => rfl), of_keep h (·.pair.pendHalt) (fun _ => rfl), of_keep h (·.pair.tap) (fun _ => rfl), of_keep h (·.pair.cells) (fun _ => rfl), of_keep h (·.pair.scan) (fun _ => rfl), of_keep h (·.pair.dr) (fun _ => rfl), of_keep h (·.pair.lateCyc) (fun _ => rfl), of_keep h (·.pair.dbgResult) (fun _ => rfl), of_keep h (·.pair.dbgData) (fun _ => rfl)⟩

@[simp] theorem State.err_fab (s : State) (src : Src) (d : Nat) :
    (s.err src d).fab.committed = s.fab.committed ∧ (s.err src d).fab.loading = s.fab.loading ∧ (s.err src d).fab.gsr = s.fab.gsr ∧ (s.err src d).fab.probeField = s.fab.probeField ∧ (s.err src d).fab.cells = s.fab.cells ∧ (s.err src d).fab.refs = s.fab.refs ∧ (s.err src d).fab.commitAt = s.fab.commitAt ∧ (s.err src d).fab.passAt = s.fab.passAt ∧ (s.err src d).fab.cfgerr = s.fab.cfgerr ∧ (s.err src d).fab.scrubcnt = s.fab.scrubcnt ∧ (s.err src d).fab.scruberr = s.fab.scruberr ∧ (s.err src d).fab.lastfrm = s.fab.lastfrm ∧ (s.err src d).fab.passtime = s.fab.passtime ∧ (s.err src d).fab.errs = s.fab.errs ∧ (s.err src d).fab.reload = s.fab.reload ∧ (s.err src d).fab.chbdepth = s.fab.chbdepth ∧ (s.err src d).fab.bankImg0 = s.fab.bankImg0 ∧ (s.err src d).fab.bankImg1 = s.fab.bankImg1 ∧ (s.err src d).fab.bankNow0 = s.fab.bankNow0 ∧ (s.err src d).fab.bankNow1 = s.fab.bankNow1 ∧ (s.err src d).fab.feed0 = s.fab.feed0 ∧ (s.err src d).fab.feed1 = s.fab.feed1 ∧ (s.err src d).fab.fsel = s.fab.fsel ∧ (s.err src d).fab.fwsel = s.fab.fwsel ∧ (s.err src d).fab.prbsel = s.fab.prbsel ∧ (s.err src d).fab.probes = s.fab.probes ∧ (s.err src d).fab.prberr = s.fab.prberr ∧ (s.err src d).fab.wd = s.fab.wd ∧ (s.err src d).fab.wrote = s.fab.wrote ∧ (s.err src d).fab.disagree = s.fab.disagree :=
  have h := State.err_keep s src d
  ⟨of_keep h (·.fab.committed) (fun _ => rfl), of_keep h (·.fab.loading) (fun _ => rfl), of_keep h (·.fab.gsr) (fun _ => rfl), of_keep h (·.fab.probeField) (fun _ => rfl), of_keep h (·.fab.cells) (fun _ => rfl), of_keep h (·.fab.refs) (fun _ => rfl), of_keep h (·.fab.commitAt) (fun _ => rfl), of_keep h (·.fab.passAt) (fun _ => rfl), of_keep h (·.fab.cfgerr) (fun _ => rfl), of_keep h (·.fab.scrubcnt) (fun _ => rfl), of_keep h (·.fab.scruberr) (fun _ => rfl), of_keep h (·.fab.lastfrm) (fun _ => rfl), of_keep h (·.fab.passtime) (fun _ => rfl), of_keep h (·.fab.errs) (fun _ => rfl), of_keep h (·.fab.reload) (fun _ => rfl), of_keep h (·.fab.chbdepth) (fun _ => rfl), of_keep h (·.fab.bankImg0) (fun _ => rfl), of_keep h (·.fab.bankImg1) (fun _ => rfl), of_keep h (·.fab.bankNow0) (fun _ => rfl), of_keep h (·.fab.bankNow1) (fun _ => rfl), of_keep h (·.fab.feed0) (fun _ => rfl), of_keep h (·.fab.feed1) (fun _ => rfl), of_keep h (·.fab.fsel) (fun _ => rfl), of_keep h (·.fab.fwsel) (fun _ => rfl), of_keep h (·.fab.prbsel) (fun _ => rfl), of_keep h (·.fab.probes) (fun _ => rfl), of_keep h (·.fab.prberr) (fun _ => rfl), of_keep h (·.fab.wd) (fun _ => rfl), of_keep h (·.fab.wrote) (fun _ => rfl), of_keep h (·.fab.disagree) (fun _ => rfl)⟩

@[simp] theorem State.err_sh0 (s : State) (src : Src) (d : Nat) :
    (s.err src d).sh0.loaded = s.sh0.loaded ∧ (s.err src d).sh0.cycle = s.sh0.cycle ∧ (s.err src d).sh0.recs = s.sh0.recs ∧ (s.err src d).sh0.crc = s.sh0.crc ∧ (s.err src d).sh0.a = s.sh0.a ∧ (s.err src d).sh0.pulseIn = s.sh0.pulseIn ∧ (s.err src d).sh0.pulse = s.sh0.pulse ∧ (s.err src d).sh0.from_ = s.sh0.from_ :=
  have h := State.err_keep s src d
  ⟨of_keep h (·.sh0.loaded) (fun _ => rfl), of_keep h (·.sh0.cycle) (fun _ => rfl), of_keep h (·.sh0.recs) (fun _ => rfl), of_keep h (·.sh0.crc) (fun _ => rfl), of_keep h (·.sh0.a) (fun _ => rfl), of_keep h (·.sh0.pulseIn) (fun _ => rfl), of_keep h (·.sh0.pulse) (fun _ => rfl), of_keep h (·.sh0.from_) (fun _ => rfl)⟩

@[simp] theorem State.err_sh1 (s : State) (src : Src) (d : Nat) :
    (s.err src d).sh1.loaded = s.sh1.loaded ∧ (s.err src d).sh1.cycle = s.sh1.cycle ∧ (s.err src d).sh1.recs = s.sh1.recs ∧ (s.err src d).sh1.crc = s.sh1.crc ∧ (s.err src d).sh1.a = s.sh1.a ∧ (s.err src d).sh1.pulseIn = s.sh1.pulseIn ∧ (s.err src d).sh1.pulse = s.sh1.pulse ∧ (s.err src d).sh1.from_ = s.sh1.from_ :=
  have h := State.err_keep s src d
  ⟨of_keep h (·.sh1.loaded) (fun _ => rfl), of_keep h (·.sh1.cycle) (fun _ => rfl), of_keep h (·.sh1.recs) (fun _ => rfl), of_keep h (·.sh1.crc) (fun _ => rfl), of_keep h (·.sh1.a) (fun _ => rfl), of_keep h (·.sh1.pulseIn) (fun _ => rfl), of_keep h (·.sh1.pulse) (fun _ => rfl), of_keep h (·.sh1.from_) (fun _ => rfl)⟩

@[simp] theorem State.err_sout (s : State) (src : Src) (d : Nat) :
    (s.err src d).sout.gateOk = s.sout.gateOk ∧ (s.err src d).sout.gateTill = s.sout.gateTill ∧ (s.err src d).sout.ext = s.sout.ext ∧ (s.err src d).sout.barkAat = s.sout.barkAat ∧ (s.err src d).sout.barkBat = s.sout.barkBat ∧ (s.err src d).sout.monA = s.sout.monA ∧ (s.err src d).sout.monB = s.sout.monB ∧ (s.err src d).sout.checks = s.sout.checks ∧ (s.err src d).sout.cfgerr = s.sout.cfgerr ∧ (s.err src d).sout.osel = s.sout.osel :=
  have h := State.err_keep s src d
  ⟨of_keep h (·.sout.gateOk) (fun _ => rfl), of_keep h (·.sout.gateTill) (fun _ => rfl), of_keep h (·.sout.ext) (fun _ => rfl), of_keep h (·.sout.barkAat) (fun _ => rfl), of_keep h (·.sout.barkBat) (fun _ => rfl), of_keep h (·.sout.monA) (fun _ => rfl), of_keep h (·.sout.monB) (fun _ => rfl), of_keep h (·.sout.checks) (fun _ => rfl), of_keep h (·.sout.cfgerr) (fun _ => rfl), of_keep h (·.sout.osel) (fun _ => rfl)⟩

@[simp] theorem State.err_mot (s : State) (src : Src) (d : Nat) :
    (s.err src d).mot.wsel = s.mot.wsel ∧ (s.err src d).mot.cfgerr = s.mot.cfgerr ∧ (s.err src d).mot.sched = s.mot.sched :=
  have h := State.err_keep s src d
  ⟨of_keep h (·.mot.wsel) (fun _ => rfl), of_keep h (·.mot.cfgerr) (fun _ => rfl), of_keep h (·.mot.sched) (fun _ => rfl)⟩

@[simp] theorem State.err_yard (s : State) (src : Src) (d : Nat) :
    (s.err src d).yard.runs = s.yard.runs ∧ (s.err src d).yard.base = s.yard.base ∧ (s.err src d).yard.baseAt = s.yard.baseAt ∧ (s.err src d).yard.rate = s.yard.rate ∧ (s.err src d).yard.sync = s.yard.sync ∧ (s.err src d).yard.goodRun = s.yard.goodRun ∧ (s.err src d).yard.badRun = s.yard.badRun ∧ (s.err src d).yard.lastExch = s.yard.lastExch ∧ (s.err src d).yard.holdAt = s.yard.holdAt ∧ (s.err src d).yard.xch = s.yard.xch ∧ (s.err src d).yard.offset = s.yard.offset ∧ (s.err src d).yard.delay = s.yard.delay ∧ (s.err src d).yard.up = s.yard.up ∧ (s.err src d).yard.upPert = s.yard.upPert ∧ (s.err src d).yard.upSeen = s.yard.upSeen ∧ (s.err src d).yard.committed = s.yard.committed ∧ (s.err src d).yard.node = s.yard.node ∧ (s.err src d).yard.root = s.yard.root ∧ (s.err src d).yard.depth = s.yard.depth ∧ (s.err src d).yard.upnode = s.yard.upnode ∧ (s.err src d).yard.lockwait = s.yard.lockwait ∧ (s.err src d).yard.wlead = s.yard.wlead ∧ (s.err src d).yard.worig0 = s.yard.worig0 ∧ (s.err src d).yard.worig1 = s.yard.worig1 ∧ (s.err src d).yard.wstop0 = s.yard.wstop0 ∧ (s.err src d).yard.wstop1 = s.yard.wstop1 ∧ (s.err src d).yard.ports = s.yard.ports ∧ (s.err src d).yard.conns = s.yard.conns ∧ (s.err src d).yard.yins = s.yard.yins ∧ (s.err src d).yard.remote = s.yard.remote ∧ (s.err src d).yard.lcancel = s.yard.lcancel ∧ (s.err src d).yard.wseq = s.yard.wseq ∧ (s.err src d).yard.seen = s.yard.seen ∧ (s.err src d).yard.wpend = s.yard.wpend ∧ (s.err src d).yard.wforce = s.yard.wforce ∧ (s.err src d).yard.wclear = s.yard.wclear ∧ (s.err src d).yard.wcnt = s.yard.wcnt ∧ (s.err src d).yard.worigin = s.yard.worigin ∧ (s.err src d).yard.wltime = s.yard.wltime ∧ (s.err src d).yard.wlatch = s.yard.wlatch ∧ (s.err src d).yard.mrecv = s.yard.mrecv ∧ (s.err src d).yard.mlost = s.yard.mlost ∧ (s.err src d).yard.psel = s.yard.psel ∧ (s.err src d).yard.csel = s.yard.csel ∧ (s.err src d).yard.cfgerr = s.yard.cfgerr :=
  have h := State.err_keep s src d
  ⟨of_keep h (·.yard.runs) (fun _ => rfl), of_keep h (·.yard.base) (fun _ => rfl), of_keep h (·.yard.baseAt) (fun _ => rfl), of_keep h (·.yard.rate) (fun _ => rfl), of_keep h (·.yard.sync) (fun _ => rfl), of_keep h (·.yard.goodRun) (fun _ => rfl), of_keep h (·.yard.badRun) (fun _ => rfl), of_keep h (·.yard.lastExch) (fun _ => rfl), of_keep h (·.yard.holdAt) (fun _ => rfl), of_keep h (·.yard.xch) (fun _ => rfl), of_keep h (·.yard.offset) (fun _ => rfl), of_keep h (·.yard.delay) (fun _ => rfl), of_keep h (·.yard.up) (fun _ => rfl), of_keep h (·.yard.upPert) (fun _ => rfl), of_keep h (·.yard.upSeen) (fun _ => rfl), of_keep h (·.yard.committed) (fun _ => rfl), of_keep h (·.yard.node) (fun _ => rfl), of_keep h (·.yard.root) (fun _ => rfl), of_keep h (·.yard.depth) (fun _ => rfl), of_keep h (·.yard.upnode) (fun _ => rfl), of_keep h (·.yard.lockwait) (fun _ => rfl), of_keep h (·.yard.wlead) (fun _ => rfl), of_keep h (·.yard.worig0) (fun _ => rfl), of_keep h (·.yard.worig1) (fun _ => rfl), of_keep h (·.yard.wstop0) (fun _ => rfl), of_keep h (·.yard.wstop1) (fun _ => rfl), of_keep h (·.yard.ports) (fun _ => rfl), of_keep h (·.yard.conns) (fun _ => rfl), of_keep h (·.yard.yins) (fun _ => rfl), of_keep h (·.yard.remote) (fun _ => rfl), of_keep h (·.yard.lcancel) (fun _ => rfl), of_keep h (·.yard.wseq) (fun _ => rfl), of_keep h (·.yard.seen) (fun _ => rfl), of_keep h (·.yard.wpend) (fun _ => rfl), of_keep h (·.yard.wforce) (fun _ => rfl), of_keep h (·.yard.wclear) (fun _ => rfl), of_keep h (·.yard.wcnt) (fun _ => rfl), of_keep h (·.yard.worigin) (fun _ => rfl), of_keep h (·.yard.wltime) (fun _ => rfl), of_keep h (·.yard.wlatch) (fun _ => rfl), of_keep h (·.yard.mrecv) (fun _ => rfl), of_keep h (·.yard.mlost) (fun _ => rfl), of_keep h (·.yard.psel) (fun _ => rfl), of_keep h (·.yard.csel) (fun _ => rfl), of_keep h (·.yard.cfgerr) (fun _ => rfl)⟩

@[simp] theorem State.err_flt (s : State) (src : Src) (d : Nat) :
    (s.err src d).flt.on = s.flt.on ∧ (s.err src d).flt.onAt = s.flt.onAt ∧ (s.err src d).flt.coll = s.flt.coll ∧ (s.err src d).flt.map = s.flt.map ∧ (s.err src d).flt.head = s.flt.head ∧ (s.err src d).flt.blocked = s.flt.blocked ∧ (s.err src d).flt.lasting = s.flt.lasting ∧ (s.err src d).flt.wrAband = s.flt.wrAband ∧ (s.err src d).flt.wrBad = s.flt.wrBad ∧ (s.err src d).flt.cutprev = s.flt.cutprev ∧ (s.err src d).flt.ridx = s.flt.ridx ∧ (s.err src d).flt.rwsel = s.flt.rwsel ∧ (s.err src d).flt.csel = s.flt.csel ∧ (s.err src d).flt.buf = s.flt.buf ∧ (s.err src d).flt.cfgerr = s.flt.cfgerr :=
  have h := State.err_keep s src d
  ⟨of_keep h (·.flt.on) (fun _ => rfl), of_keep h (·.flt.onAt) (fun _ => rfl), of_keep h (·.flt.coll) (fun _ => rfl), of_keep h (·.flt.map) (fun _ => rfl), of_keep h (·.flt.head) (fun _ => rfl), of_keep h (·.flt.blocked) (fun _ => rfl), of_keep h (·.flt.lasting) (fun _ => rfl), of_keep h (·.flt.wrAband) (fun _ => rfl), of_keep h (·.flt.wrBad) (fun _ => rfl), of_keep h (·.flt.cutprev) (fun _ => rfl), of_keep h (·.flt.ridx) (fun _ => rfl), of_keep h (·.flt.rwsel) (fun _ => rfl), of_keep h (·.flt.csel) (fun _ => rfl), of_keep h (·.flt.buf) (fun _ => rfl), of_keep h (·.flt.cfgerr) (fun _ => rfl)⟩

@[simp] theorem State.err_farr (s : State) (src : Src) (d : Nat) :
    (s.err src d).farr.origin = s.farr.origin ∧ (s.err src d).farr.failHold = s.farr.failHold ∧ (s.err src d).farr.cur = s.farr.cur ∧ (s.err src d).farr.startAt = s.farr.startAt ∧ (s.err src d).farr.endAt = s.farr.endAt ∧ (s.err src d).farr.setAt = s.farr.setAt ∧ (s.err src d).farr.setOk = s.farr.setOk ∧ (s.err src d).farr.sel = s.farr.sel ∧ (s.err src d).farr.pass = s.farr.pass ∧ (s.err src d).farr.fail = s.farr.fail ∧ (s.err src d).farr.budget = s.farr.budget ∧ (s.err src d).farr.refuse = s.farr.refuse ∧ (s.err src d).farr.firstFail = s.farr.firstFail ∧ (s.err src d).farr.rsel = s.farr.rsel ∧ (s.err src d).farr.results = s.farr.results ∧ (s.err src d).farr.durs = s.farr.durs ∧ (s.err src d).farr.setdur = s.farr.setdur ∧ (s.err src d).farr.hostcnt = s.farr.hostcnt ∧ (s.err src d).farr.ran = s.farr.ran :=
  have h := State.err_keep s src d
  ⟨of_keep h (·.farr.origin) (fun _ => rfl), of_keep h (·.farr.failHold) (fun _ => rfl), of_keep h (·.farr.cur) (fun _ => rfl), of_keep h (·.farr.startAt) (fun _ => rfl), of_keep h (·.farr.endAt) (fun _ => rfl), of_keep h (·.farr.setAt) (fun _ => rfl), of_keep h (·.farr.setOk) (fun _ => rfl), of_keep h (·.farr.sel) (fun _ => rfl), of_keep h (·.farr.pass) (fun _ => rfl), of_keep h (·.farr.fail) (fun _ => rfl), of_keep h (·.farr.budget) (fun _ => rfl), of_keep h (·.farr.refuse) (fun _ => rfl), of_keep h (·.farr.firstFail) (fun _ => rfl), of_keep h (·.farr.rsel) (fun _ => rfl), of_keep h (·.farr.results) (fun _ => rfl), of_keep h (·.farr.durs) (fun _ => rfl), of_keep h (·.farr.setdur) (fun _ => rfl), of_keep h (·.farr.hostcnt) (fun _ => rfl), of_keep h (·.farr.ran) (fun _ => rfl)⟩

@[simp] theorem State.err_cp (s : State) (src : Src) (d : Nat) :
    (s.err src d).cp.st = s.cp.st ∧ (s.err src d).cp.wrEnd = s.cp.wrEnd ∧ (s.err src d).cp.sdo = s.cp.sdo ∧ (s.err src d).cp.alertEn = s.cp.alertEn ∧ (s.err src d).cp.ylatch = s.cp.ylatch ∧ (s.err src d).cp.cycle = s.cp.cycle ∧ (s.err src d).cp.hostcmd = s.cp.hostcmd ∧ (s.err src d).cp.arg0 = s.cp.arg0 ∧ (s.err src d).cp.arg1 = s.cp.arg1 ∧ (s.err src d).cp.resp = s.cp.resp ∧ (s.err src d).cp.crcErr = s.cp.crcErr ∧ (s.err src d).cp.frmErr = s.cp.frmErr ∧ (s.err src d).cp.mbuf = s.cp.mbuf ∧ (s.err src d).cp.page = s.cp.page ∧ (s.err src d).cp.mbx = s.cp.mbx ∧ (s.err src d).cp.maint = s.cp.maint :=
  have h := State.err_keep s src d
  ⟨of_keep h (·.cp.st) (fun _ => rfl), of_keep h (·.cp.wrEnd) (fun _ => rfl), of_keep h (·.cp.sdo) (fun _ => rfl), of_keep h (·.cp.alertEn) (fun _ => rfl), of_keep h (·.cp.ylatch) (fun _ => rfl), of_keep h (·.cp.cycle) (fun _ => rfl), of_keep h (·.cp.hostcmd) (fun _ => rfl), of_keep h (·.cp.arg0) (fun _ => rfl), of_keep h (·.cp.arg1) (fun _ => rfl), of_keep h (·.cp.resp) (fun _ => rfl), of_keep h (·.cp.crcErr) (fun _ => rfl), of_keep h (·.cp.frmErr) (fun _ => rfl), of_keep h (·.cp.mbuf) (fun _ => rfl), of_keep h (·.cp.page) (fun _ => rfl), of_keep h (·.cp.mbx) (fun _ => rfl), of_keep h (·.cp.maint) (fun _ => rfl)⟩

@[simp] theorem State.err_img (s : State) (src : Src) (d : Nat) :
    (s.err src d).img.fuses = s.img.fuses ∧ (s.err src d).img.keyFuse = s.img.keyFuse ∧ (s.err src d).img.keyEnr = s.img.keyEnr ∧ (s.err src d).img.erased = s.img.erased ∧ (s.err src d).img.erasing = s.img.erasing ∧ (s.err src d).img.erasedAt = s.img.erasedAt ∧ (s.err src d).img.cfgAct = s.img.cfgAct ∧ (s.err src d).img.running = s.img.running ∧ (s.err src d).img.cfgver = s.img.cfgver ∧ (s.err src d).img.pending = s.img.pending ∧ (s.err src d).img.loftAct = s.img.loftAct ∧ (s.err src d).img.loftFb = s.img.loftFb ∧ (s.err src d).img.noLoft = s.img.noLoft ∧ (s.err src d).img.loftVer = s.img.loftVer ∧ (s.err src d).img.seqOpen = s.img.seqOpen ∧ (s.err src d).img.verified = s.img.verified ∧ (s.err src d).img.wblocks = s.img.wblocks ∧ (s.err src d).img.cfgerr = s.img.cfgerr ∧ (s.err src d).img.verr = s.img.verr ∧ (s.err src d).img.lclast = s.img.lclast ∧ (s.err src d).img.xsel = s.img.xsel ∧ (s.err src d).img.agreed = s.img.agreed ∧ (s.err src d).img.imgArr = s.img.imgArr :=
  have h := State.err_keep s src d
  ⟨of_keep h (·.img.fuses) (fun _ => rfl), of_keep h (·.img.keyFuse) (fun _ => rfl), of_keep h (·.img.keyEnr) (fun _ => rfl), of_keep h (·.img.erased) (fun _ => rfl), of_keep h (·.img.erasing) (fun _ => rfl), of_keep h (·.img.erasedAt) (fun _ => rfl), of_keep h (·.img.cfgAct) (fun _ => rfl), of_keep h (·.img.running) (fun _ => rfl), of_keep h (·.img.cfgver) (fun _ => rfl), of_keep h (·.img.pending) (fun _ => rfl), of_keep h (·.img.loftAct) (fun _ => rfl), of_keep h (·.img.loftFb) (fun _ => rfl), of_keep h (·.img.noLoft) (fun _ => rfl), of_keep h (·.img.loftVer) (fun _ => rfl), of_keep h (·.img.seqOpen) (fun _ => rfl), of_keep h (·.img.verified) (fun _ => rfl), of_keep h (·.img.wblocks) (fun _ => rfl), of_keep h (·.img.cfgerr) (fun _ => rfl), of_keep h (·.img.verr) (fun _ => rfl), of_keep h (·.img.lclast) (fun _ => rfl), of_keep h (·.img.xsel) (fun _ => rfl), of_keep h (·.img.agreed) (fun _ => rfl), of_keep h (·.img.imgArr) (fun _ => rfl)⟩

@[simp] theorem State.line_whole (s : State) (src : Src) (a : Bool) (d : Nat) :
    (s.line src a d).now = s.now ∧ (s.line src a d).sp = s.sp ∧ (s.line src a d).sin = s.sin ∧ (s.line src a d).col = s.col ∧ (s.line src a d).spook = s.spook ∧ (s.line src a d).fifos = s.fifos ∧ (s.line src a d).mram = s.mram ∧ (s.line src a d).pending = s.pending :=
  have h := State.line_keep s src a d
  ⟨of_keep h (·.now) (fun _ => rfl), of_keep h (·.sp) (fun _ => rfl), of_keep h (·.sin) (fun _ => rfl), of_keep h (·.col) (fun _ => rfl), of_keep h (·.spook) (fun _ => rfl), of_keep h (·.fifos) (fun _ => rfl), of_keep h (·.mram) (fun _ => rfl), of_keep h (·.pending) (fun _ => rfl)⟩

@[simp] theorem State.line_seq (s : State) (src : Src) (a : Bool) (d : Nat) :
    (s.line src a d).seq.por = s.seq.por ∧ (s.line src a d).seq.porAt = s.seq.porAt ∧ (s.line src a d).seq.chan = s.seq.chan ∧ (s.line src a d).seq.waitAt = s.seq.waitAt ∧ (s.line src a d).seq.pg = s.seq.pg ∧ (s.line src a d).seq.ramp = s.seq.ramp ∧ (s.line src a d).seq.mode = s.seq.mode ∧ (s.line src a d).seq.step = s.seq.step ∧ (s.line src a d).seq.pgto = s.seq.pgto ∧ (s.line src a d).seq.settle = s.seq.settle ∧ (s.line src a d).seq.dscto = s.seq.dscto ∧ (s.line src a d).seq.dscLast = s.seq.dscLast ∧ (s.line src a d).seq.planOk = s.seq.planOk ∧ (s.line src a d).seq.boardDone = s.seq.boardDone ∧ (s.line src a d).seq.downDone = s.seq.downDone ∧ (s.line src a d).seq.holdup = s.seq.holdup ∧ (s.line src a d).seq.belowWarn = s.seq.belowWarn ∧ (s.line src a d).seq.vinLow = s.seq.vinLow ∧ (s.line src a d).seq.belowAbandon = s.seq.belowAbandon ∧ (s.line src a d).seq.vin = s.seq.vin ∧ (s.line src a d).seq.vinMin = s.seq.vinMin ∧ (s.line src a d).seq.vinWarns = s.seq.vinWarns ∧ (s.line src a d).seq.vinAbandons = s.seq.vinAbandons ∧ (s.line src a d).seq.snapNo = s.seq.snapNo ∧ (s.line src a d).seq.snapTop = s.seq.snapTop ∧ (s.line src a d).seq.upStartNo = s.seq.upStartNo ∧ (s.line src a d).seq.snapInv = s.seq.snapInv ∧ (s.line src a d).seq.snapAborted = s.seq.snapAborted ∧ (s.line src a d).seq.snapBuf = s.seq.snapBuf ∧ (s.line src a d).seq.chsel = s.seq.chsel ∧ (s.line src a d).seq.sidx = s.seq.sidx ∧ (s.line src a d).seq.swsel = s.seq.swsel ∧ (s.line src a d).seq.cfgerr = s.seq.cfgerr ∧ (s.line src a d).seq.rstcause = s.seq.rstcause ∧ (s.line src a d).seq.warmcnt = s.seq.warmcnt ∧ (s.line src a d).seq.ytick = s.seq.ytick ∧ (s.line src a d).seq.ytickAt = s.seq.ytickAt ∧ (s.line src a d).seq.temps = s.seq.temps :=
  have h := State.line_keep s src a d
  ⟨of_keep h (·.seq.por) (fun _ => rfl), of_keep h (·.seq.porAt) (fun _ => rfl), of_keep h (·.seq.chan) (fun _ => rfl), of_keep h (·.seq.waitAt) (fun _ => rfl), of_keep h (·.seq.pg) (fun _ => rfl), of_keep h (·.seq.ramp) (fun _ => rfl), of_keep h (·.seq.mode) (fun _ => rfl), of_keep h (·.seq.step) (fun _ => rfl), of_keep h (·.seq.pgto) (fun _ => rfl), of_keep h (·.seq.settle) (fun _ => rfl), of_keep h (·.seq.dscto) (fun _ => rfl), of_keep h (·.seq.dscLast) (fun _ => rfl), of_keep h (·.seq.planOk) (fun _ => rfl), of_keep h (·.seq.boardDone) (fun _ => rfl), of_keep h (·.seq.downDone) (fun _ => rfl), of_keep h (·.seq.holdup) (fun _ => rfl), of_keep h (·.seq.belowWarn) (fun _ => rfl), of_keep h (·.seq.vinLow) (fun _ => rfl), of_keep h (·.seq.belowAbandon) (fun _ => rfl), of_keep h (·.seq.vin) (fun _ => rfl), of_keep h (·.seq.vinMin) (fun _ => rfl), of_keep h (·.seq.vinWarns) (fun _ => rfl), of_keep h (·.seq.vinAbandons) (fun _ => rfl), of_keep h (·.seq.snapNo) (fun _ => rfl), of_keep h (·.seq.snapTop) (fun _ => rfl), of_keep h (·.seq.upStartNo) (fun _ => rfl), of_keep h (·.seq.snapInv) (fun _ => rfl), of_keep h (·.seq.snapAborted) (fun _ => rfl), of_keep h (·.seq.snapBuf) (fun _ => rfl), of_keep h (·.seq.chsel) (fun _ => rfl), of_keep h (·.seq.sidx) (fun _ => rfl), of_keep h (·.seq.swsel) (fun _ => rfl), of_keep h (·.seq.cfgerr) (fun _ => rfl), of_keep h (·.seq.rstcause) (fun _ => rfl), of_keep h (·.seq.warmcnt) (fun _ => rfl), of_keep h (·.seq.ytick) (fun _ => rfl), of_keep h (·.seq.ytickAt) (fun _ => rfl), of_keep h (·.seq.temps) (fun _ => rfl)⟩

@[simp] theorem State.line_clk (s : State) (src : Src) (a : Bool) (d : Nat) :
    (s.line src a d).clk.mismatch = s.clk.mismatch ∧ (s.line src a d).clk.xtal = s.clk.xtal ∧ (s.line src a d).clk.pll = s.clk.pll ∧ (s.line src a d).clk.out = s.clk.out ∧ (s.line src a d).clk.rcOk = s.clk.rcOk ∧ (s.line src a d).clk.rccal = s.clk.rccal ∧ (s.line src a d).clk.mon = s.clk.mon ∧ (s.line src a d).clk.strap = s.clk.strap ∧ (s.line src a d).clk.fixed = s.clk.fixed ∧ (s.line src a d).clk.rcstop = s.clk.rcstop ∧ (s.line src a d).clk.cmdiag = s.clk.cmdiag ∧ (s.line src a d).clk.dev = s.clk.dev ∧ (s.line src a d).clk.devMax = s.clk.devMax ∧ (s.line src a d).clk.bad = s.clk.bad ∧ (s.line src a d).clk.csel = s.clk.csel ∧ (s.line src a d).clk.rstign = s.clk.rstign ∧ (s.line src a d).clk.hsdiag = s.clk.hsdiag ∧ (s.line src a d).clk.tboot = s.clk.tboot ∧ (s.line src a d).clk.tself = s.clk.tself ∧ (s.line src a d).clk.tload = s.clk.tload ∧ (s.line src a d).clk.tboard = s.clk.tboard ∧ (s.line src a d).clk.tarmed = s.clk.tarmed ∧ (s.line src a d).clk.start = s.clk.start ∧ (s.line src a d).clk.bootAt = s.clk.bootAt ∧ (s.line src a d).clk.pllAt = s.clk.pllAt ∧ (s.line src a d).clk.boardAt = s.clk.boardAt ∧ (s.line src a d).clk.rstLow = s.clk.rstLow ∧ (s.line src a d).clk.loadStep = s.clk.loadStep ∧ (s.line src a d).clk.armedOnce = s.clk.armedOnce ∧ (s.line src a d).clk.lockAt = s.clk.lockAt ∧ (s.line src a d).clk.temps = s.clk.temps ∧ (s.line src a d).clk.tempRun = s.clk.tempRun :=
  have h := State.line_keep s src a d
  ⟨of_keep h (·.clk.mismatch) (fun _ => rfl), of_keep h (·.clk.xtal) (fun _ => rfl), of_keep h (·.clk.pll) (fun _ => rfl), of_keep h (·.clk.out) (fun _ => rfl), of_keep h (·.clk.rcOk) (fun _ => rfl), of_keep h (·.clk.rccal) (fun _ => rfl), of_keep h (·.clk.mon) (fun _ => rfl), of_keep h (·.clk.strap) (fun _ => rfl), of_keep h (·.clk.fixed) (fun _ => rfl), of_keep h (·.clk.rcstop) (fun _ => rfl), of_keep h (·.clk.cmdiag) (fun _ => rfl), of_keep h (·.clk.dev) (fun _ => rfl), of_keep h (·.clk.devMax) (fun _ => rfl), of_keep h (·.clk.bad) (fun _ => rfl), of_keep h (·.clk.csel) (fun _ => rfl), of_keep h (·.clk.rstign) (fun _ => rfl), of_keep h (·.clk.hsdiag) (fun _ => rfl), of_keep h (·.clk.tboot) (fun _ => rfl), of_keep h (·.clk.tself) (fun _ => rfl), of_keep h (·.clk.tload) (fun _ => rfl), of_keep h (·.clk.tboard) (fun _ => rfl), of_keep h (·.clk.tarmed) (fun _ => rfl), of_keep h (·.clk.start) (fun _ => rfl), of_keep h (·.clk.bootAt) (fun _ => rfl), of_keep h (·.clk.pllAt) (fun _ => rfl), of_keep h (·.clk.boardAt) (fun _ => rfl), of_keep h (·.clk.rstLow) (fun _ => rfl), of_keep h (·.clk.loadStep) (fun _ => rfl), of_keep h (·.clk.armedOnce) (fun _ => rfl), of_keep h (·.clk.lockAt) (fun _ => rfl), of_keep h (·.clk.temps) (fun _ => rfl), of_keep h (·.clk.tempRun) (fun _ => rfl)⟩

@[simp] theorem State.line_pair (s : State) (src : Src) (a : Bool) (d : Nat) :
    (s.line src a d).pair.arr = s.pair.arr ∧ (s.line src a d).pair.split = s.pair.split ∧ (s.line src a d).pair.lead = s.pair.lead ∧ (s.line src a d).pair.solo = s.pair.solo ∧ (s.line src a d).pair.soloCore = s.pair.soloCore ∧ (s.line src a d).pair.howin = s.pair.howin ∧ (s.line src a d).pair.out0 = s.pair.out0 ∧ (s.line src a d).pair.out1 = s.pair.out1 ∧ (s.line src a d).pair.dbg = s.pair.dbg ∧ (s.line src a d).pair.cmpArmed = s.pair.cmpArmed ∧ (s.line src a d).pair.cmpdiag = s.pair.cmpdiag ∧ (s.line src a d).pair.cmpcnt = s.pair.cmpcnt ∧ (s.line src a d).pair.injstat = s.pair.injstat ∧ (s.line src a d).pair.injmiss = s.pair.injmiss ∧ (s.line src a d).pair.rotint = s.pair.rotint ∧ (s.line src a d).pair.rotFrom = s.pair.rotFrom ∧ (s.line src a d).pair.due = s.pair.due ∧ (s.line src a d).pair.late = s.pair.late ∧ (s.line src a d).pair.lastRes = s.pair.lastRes ∧ (s.line src a d).pair.lastCore = s.pair.lastCore ∧ (s.line src a d).pair.rotcnt = s.pair.rotcnt ∧ (s.line src a d).pair.rotk = s.pair.rotk ∧ (s.line src a d).pair.splitAt = s.pair.splitAt ∧ (s.line src a d).pair.ready = s.pair.ready ∧ (s.line src a d).pair.soloLast = s.pair.soloLast ∧ (s.line src a d).pair.soloMax = s.pair.soloMax ∧ (s.line src a d).pair.hodiag = s.pair.hodiag ∧ (s.line src a d).pair.hoInput = s.pair.hoInput ∧ (s.line src a d).pair.cmpSafe = s.pair.cmpSafe ∧ (s.line src a d).pair.ecc0 = s.pair.ecc0 ∧ (s.line src a d).pair.ecc1 = s.pair.ecc1 ∧ (s.line src a d).pair.kramcnt = s.pair.kramcnt ∧ (s.line src a d).pair.kramAdr = s.pair.kramAdr ∧ (s.line src a d).pair.kramRom = s.pair.kramRom ∧ (s.line src a d).pair.journal = s.pair.journal ∧ (s.line src a d).pair.jovf = s.pair.jovf ∧ (s.line src a d).pair.resyncPend = s.pair.resyncPend ∧ (s.line src a d).pair.ramReload = s.pair.ramReload ∧ (s.line src a d).pair.refcnt = s.pair.refcnt ∧ (s.line src a d).pair.pendHalt = s.pair.pendHalt ∧ (s.line src a d).pair.tap = s.pair.tap ∧ (s.line src a d).pair.cells = s.pair.cells ∧ (s.line src a d).pair.scan = s.pair.scan ∧ (s.line src a d).pair.dr = s.pair.dr ∧ (s.line src a d).pair.lateCyc = s.pair.lateCyc ∧ (s.line src a d).pair.dbgResult = s.pair.dbgResult ∧ (s.line src a d).pair.dbgData = s.pair.dbgData :=
  have h := State.line_keep s src a d
  ⟨of_keep h (·.pair.arr) (fun _ => rfl), of_keep h (·.pair.split) (fun _ => rfl), of_keep h (·.pair.lead) (fun _ => rfl), of_keep h (·.pair.solo) (fun _ => rfl), of_keep h (·.pair.soloCore) (fun _ => rfl), of_keep h (·.pair.howin) (fun _ => rfl), of_keep h (·.pair.out0) (fun _ => rfl), of_keep h (·.pair.out1) (fun _ => rfl), of_keep h (·.pair.dbg) (fun _ => rfl), of_keep h (·.pair.cmpArmed) (fun _ => rfl), of_keep h (·.pair.cmpdiag) (fun _ => rfl), of_keep h (·.pair.cmpcnt) (fun _ => rfl), of_keep h (·.pair.injstat) (fun _ => rfl), of_keep h (·.pair.injmiss) (fun _ => rfl), of_keep h (·.pair.rotint) (fun _ => rfl), of_keep h (·.pair.rotFrom) (fun _ => rfl), of_keep h (·.pair.due) (fun _ => rfl), of_keep h (·.pair.late) (fun _ => rfl), of_keep h (·.pair.lastRes) (fun _ => rfl), of_keep h (·.pair.lastCore) (fun _ => rfl), of_keep h (·.pair.rotcnt) (fun _ => rfl), of_keep h (·.pair.rotk) (fun _ => rfl), of_keep h (·.pair.splitAt) (fun _ => rfl), of_keep h (·.pair.ready) (fun _ => rfl), of_keep h (·.pair.soloLast) (fun _ => rfl), of_keep h (·.pair.soloMax) (fun _ => rfl), of_keep h (·.pair.hodiag) (fun _ => rfl), of_keep h (·.pair.hoInput) (fun _ => rfl), of_keep h (·.pair.cmpSafe) (fun _ => rfl), of_keep h (·.pair.ecc0) (fun _ => rfl), of_keep h (·.pair.ecc1) (fun _ => rfl), of_keep h (·.pair.kramcnt) (fun _ => rfl), of_keep h (·.pair.kramAdr) (fun _ => rfl), of_keep h (·.pair.kramRom) (fun _ => rfl), of_keep h (·.pair.journal) (fun _ => rfl), of_keep h (·.pair.jovf) (fun _ => rfl), of_keep h (·.pair.resyncPend) (fun _ => rfl), of_keep h (·.pair.ramReload) (fun _ => rfl), of_keep h (·.pair.refcnt) (fun _ => rfl), of_keep h (·.pair.pendHalt) (fun _ => rfl), of_keep h (·.pair.tap) (fun _ => rfl), of_keep h (·.pair.cells) (fun _ => rfl), of_keep h (·.pair.scan) (fun _ => rfl), of_keep h (·.pair.dr) (fun _ => rfl), of_keep h (·.pair.lateCyc) (fun _ => rfl), of_keep h (·.pair.dbgResult) (fun _ => rfl), of_keep h (·.pair.dbgData) (fun _ => rfl)⟩

@[simp] theorem State.line_fab (s : State) (src : Src) (a : Bool) (d : Nat) :
    (s.line src a d).fab.committed = s.fab.committed ∧ (s.line src a d).fab.loading = s.fab.loading ∧ (s.line src a d).fab.gsr = s.fab.gsr ∧ (s.line src a d).fab.probeField = s.fab.probeField ∧ (s.line src a d).fab.cells = s.fab.cells ∧ (s.line src a d).fab.refs = s.fab.refs ∧ (s.line src a d).fab.commitAt = s.fab.commitAt ∧ (s.line src a d).fab.passAt = s.fab.passAt ∧ (s.line src a d).fab.cfgerr = s.fab.cfgerr ∧ (s.line src a d).fab.scrubcnt = s.fab.scrubcnt ∧ (s.line src a d).fab.scruberr = s.fab.scruberr ∧ (s.line src a d).fab.lastfrm = s.fab.lastfrm ∧ (s.line src a d).fab.passtime = s.fab.passtime ∧ (s.line src a d).fab.errs = s.fab.errs ∧ (s.line src a d).fab.reload = s.fab.reload ∧ (s.line src a d).fab.chbdepth = s.fab.chbdepth ∧ (s.line src a d).fab.bankImg0 = s.fab.bankImg0 ∧ (s.line src a d).fab.bankImg1 = s.fab.bankImg1 ∧ (s.line src a d).fab.bankNow0 = s.fab.bankNow0 ∧ (s.line src a d).fab.bankNow1 = s.fab.bankNow1 ∧ (s.line src a d).fab.feed0 = s.fab.feed0 ∧ (s.line src a d).fab.feed1 = s.fab.feed1 ∧ (s.line src a d).fab.fsel = s.fab.fsel ∧ (s.line src a d).fab.fwsel = s.fab.fwsel ∧ (s.line src a d).fab.prbsel = s.fab.prbsel ∧ (s.line src a d).fab.probes = s.fab.probes ∧ (s.line src a d).fab.prberr = s.fab.prberr ∧ (s.line src a d).fab.wd = s.fab.wd ∧ (s.line src a d).fab.wrote = s.fab.wrote ∧ (s.line src a d).fab.disagree = s.fab.disagree :=
  have h := State.line_keep s src a d
  ⟨of_keep h (·.fab.committed) (fun _ => rfl), of_keep h (·.fab.loading) (fun _ => rfl), of_keep h (·.fab.gsr) (fun _ => rfl), of_keep h (·.fab.probeField) (fun _ => rfl), of_keep h (·.fab.cells) (fun _ => rfl), of_keep h (·.fab.refs) (fun _ => rfl), of_keep h (·.fab.commitAt) (fun _ => rfl), of_keep h (·.fab.passAt) (fun _ => rfl), of_keep h (·.fab.cfgerr) (fun _ => rfl), of_keep h (·.fab.scrubcnt) (fun _ => rfl), of_keep h (·.fab.scruberr) (fun _ => rfl), of_keep h (·.fab.lastfrm) (fun _ => rfl), of_keep h (·.fab.passtime) (fun _ => rfl), of_keep h (·.fab.errs) (fun _ => rfl), of_keep h (·.fab.reload) (fun _ => rfl), of_keep h (·.fab.chbdepth) (fun _ => rfl), of_keep h (·.fab.bankImg0) (fun _ => rfl), of_keep h (·.fab.bankImg1) (fun _ => rfl), of_keep h (·.fab.bankNow0) (fun _ => rfl), of_keep h (·.fab.bankNow1) (fun _ => rfl), of_keep h (·.fab.feed0) (fun _ => rfl), of_keep h (·.fab.feed1) (fun _ => rfl), of_keep h (·.fab.fsel) (fun _ => rfl), of_keep h (·.fab.fwsel) (fun _ => rfl), of_keep h (·.fab.prbsel) (fun _ => rfl), of_keep h (·.fab.probes) (fun _ => rfl), of_keep h (·.fab.prberr) (fun _ => rfl), of_keep h (·.fab.wd) (fun _ => rfl), of_keep h (·.fab.wrote) (fun _ => rfl), of_keep h (·.fab.disagree) (fun _ => rfl)⟩

@[simp] theorem State.line_sh0 (s : State) (src : Src) (a : Bool) (d : Nat) :
    (s.line src a d).sh0.loaded = s.sh0.loaded ∧ (s.line src a d).sh0.cycle = s.sh0.cycle ∧ (s.line src a d).sh0.recs = s.sh0.recs ∧ (s.line src a d).sh0.crc = s.sh0.crc ∧ (s.line src a d).sh0.a = s.sh0.a ∧ (s.line src a d).sh0.pulseIn = s.sh0.pulseIn ∧ (s.line src a d).sh0.pulse = s.sh0.pulse ∧ (s.line src a d).sh0.from_ = s.sh0.from_ :=
  have h := State.line_keep s src a d
  ⟨of_keep h (·.sh0.loaded) (fun _ => rfl), of_keep h (·.sh0.cycle) (fun _ => rfl), of_keep h (·.sh0.recs) (fun _ => rfl), of_keep h (·.sh0.crc) (fun _ => rfl), of_keep h (·.sh0.a) (fun _ => rfl), of_keep h (·.sh0.pulseIn) (fun _ => rfl), of_keep h (·.sh0.pulse) (fun _ => rfl), of_keep h (·.sh0.from_) (fun _ => rfl)⟩

@[simp] theorem State.line_sh1 (s : State) (src : Src) (a : Bool) (d : Nat) :
    (s.line src a d).sh1.loaded = s.sh1.loaded ∧ (s.line src a d).sh1.cycle = s.sh1.cycle ∧ (s.line src a d).sh1.recs = s.sh1.recs ∧ (s.line src a d).sh1.crc = s.sh1.crc ∧ (s.line src a d).sh1.a = s.sh1.a ∧ (s.line src a d).sh1.pulseIn = s.sh1.pulseIn ∧ (s.line src a d).sh1.pulse = s.sh1.pulse ∧ (s.line src a d).sh1.from_ = s.sh1.from_ :=
  have h := State.line_keep s src a d
  ⟨of_keep h (·.sh1.loaded) (fun _ => rfl), of_keep h (·.sh1.cycle) (fun _ => rfl), of_keep h (·.sh1.recs) (fun _ => rfl), of_keep h (·.sh1.crc) (fun _ => rfl), of_keep h (·.sh1.a) (fun _ => rfl), of_keep h (·.sh1.pulseIn) (fun _ => rfl), of_keep h (·.sh1.pulse) (fun _ => rfl), of_keep h (·.sh1.from_) (fun _ => rfl)⟩

@[simp] theorem State.line_sout (s : State) (src : Src) (a : Bool) (d : Nat) :
    (s.line src a d).sout.gateOk = s.sout.gateOk ∧ (s.line src a d).sout.gateTill = s.sout.gateTill ∧ (s.line src a d).sout.ext = s.sout.ext ∧ (s.line src a d).sout.barkAat = s.sout.barkAat ∧ (s.line src a d).sout.barkBat = s.sout.barkBat ∧ (s.line src a d).sout.monA = s.sout.monA ∧ (s.line src a d).sout.monB = s.sout.monB ∧ (s.line src a d).sout.checks = s.sout.checks ∧ (s.line src a d).sout.cfgerr = s.sout.cfgerr ∧ (s.line src a d).sout.osel = s.sout.osel :=
  have h := State.line_keep s src a d
  ⟨of_keep h (·.sout.gateOk) (fun _ => rfl), of_keep h (·.sout.gateTill) (fun _ => rfl), of_keep h (·.sout.ext) (fun _ => rfl), of_keep h (·.sout.barkAat) (fun _ => rfl), of_keep h (·.sout.barkBat) (fun _ => rfl), of_keep h (·.sout.monA) (fun _ => rfl), of_keep h (·.sout.monB) (fun _ => rfl), of_keep h (·.sout.checks) (fun _ => rfl), of_keep h (·.sout.cfgerr) (fun _ => rfl), of_keep h (·.sout.osel) (fun _ => rfl)⟩

@[simp] theorem State.line_mot (s : State) (src : Src) (a : Bool) (d : Nat) :
    (s.line src a d).mot.wsel = s.mot.wsel ∧ (s.line src a d).mot.cfgerr = s.mot.cfgerr ∧ (s.line src a d).mot.sched = s.mot.sched :=
  have h := State.line_keep s src a d
  ⟨of_keep h (·.mot.wsel) (fun _ => rfl), of_keep h (·.mot.cfgerr) (fun _ => rfl), of_keep h (·.mot.sched) (fun _ => rfl)⟩

@[simp] theorem State.line_yard (s : State) (src : Src) (a : Bool) (d : Nat) :
    (s.line src a d).yard.runs = s.yard.runs ∧ (s.line src a d).yard.base = s.yard.base ∧ (s.line src a d).yard.baseAt = s.yard.baseAt ∧ (s.line src a d).yard.rate = s.yard.rate ∧ (s.line src a d).yard.sync = s.yard.sync ∧ (s.line src a d).yard.goodRun = s.yard.goodRun ∧ (s.line src a d).yard.badRun = s.yard.badRun ∧ (s.line src a d).yard.lastExch = s.yard.lastExch ∧ (s.line src a d).yard.holdAt = s.yard.holdAt ∧ (s.line src a d).yard.xch = s.yard.xch ∧ (s.line src a d).yard.offset = s.yard.offset ∧ (s.line src a d).yard.delay = s.yard.delay ∧ (s.line src a d).yard.up = s.yard.up ∧ (s.line src a d).yard.upPert = s.yard.upPert ∧ (s.line src a d).yard.upSeen = s.yard.upSeen ∧ (s.line src a d).yard.committed = s.yard.committed ∧ (s.line src a d).yard.node = s.yard.node ∧ (s.line src a d).yard.root = s.yard.root ∧ (s.line src a d).yard.depth = s.yard.depth ∧ (s.line src a d).yard.upnode = s.yard.upnode ∧ (s.line src a d).yard.lockwait = s.yard.lockwait ∧ (s.line src a d).yard.wlead = s.yard.wlead ∧ (s.line src a d).yard.worig0 = s.yard.worig0 ∧ (s.line src a d).yard.worig1 = s.yard.worig1 ∧ (s.line src a d).yard.wstop0 = s.yard.wstop0 ∧ (s.line src a d).yard.wstop1 = s.yard.wstop1 ∧ (s.line src a d).yard.ports = s.yard.ports ∧ (s.line src a d).yard.conns = s.yard.conns ∧ (s.line src a d).yard.yins = s.yard.yins ∧ (s.line src a d).yard.remote = s.yard.remote ∧ (s.line src a d).yard.lcancel = s.yard.lcancel ∧ (s.line src a d).yard.wseq = s.yard.wseq ∧ (s.line src a d).yard.seen = s.yard.seen ∧ (s.line src a d).yard.wpend = s.yard.wpend ∧ (s.line src a d).yard.wforce = s.yard.wforce ∧ (s.line src a d).yard.wclear = s.yard.wclear ∧ (s.line src a d).yard.wcnt = s.yard.wcnt ∧ (s.line src a d).yard.worigin = s.yard.worigin ∧ (s.line src a d).yard.wltime = s.yard.wltime ∧ (s.line src a d).yard.wlatch = s.yard.wlatch ∧ (s.line src a d).yard.mrecv = s.yard.mrecv ∧ (s.line src a d).yard.mlost = s.yard.mlost ∧ (s.line src a d).yard.psel = s.yard.psel ∧ (s.line src a d).yard.csel = s.yard.csel ∧ (s.line src a d).yard.cfgerr = s.yard.cfgerr :=
  have h := State.line_keep s src a d
  ⟨of_keep h (·.yard.runs) (fun _ => rfl), of_keep h (·.yard.base) (fun _ => rfl), of_keep h (·.yard.baseAt) (fun _ => rfl), of_keep h (·.yard.rate) (fun _ => rfl), of_keep h (·.yard.sync) (fun _ => rfl), of_keep h (·.yard.goodRun) (fun _ => rfl), of_keep h (·.yard.badRun) (fun _ => rfl), of_keep h (·.yard.lastExch) (fun _ => rfl), of_keep h (·.yard.holdAt) (fun _ => rfl), of_keep h (·.yard.xch) (fun _ => rfl), of_keep h (·.yard.offset) (fun _ => rfl), of_keep h (·.yard.delay) (fun _ => rfl), of_keep h (·.yard.up) (fun _ => rfl), of_keep h (·.yard.upPert) (fun _ => rfl), of_keep h (·.yard.upSeen) (fun _ => rfl), of_keep h (·.yard.committed) (fun _ => rfl), of_keep h (·.yard.node) (fun _ => rfl), of_keep h (·.yard.root) (fun _ => rfl), of_keep h (·.yard.depth) (fun _ => rfl), of_keep h (·.yard.upnode) (fun _ => rfl), of_keep h (·.yard.lockwait) (fun _ => rfl), of_keep h (·.yard.wlead) (fun _ => rfl), of_keep h (·.yard.worig0) (fun _ => rfl), of_keep h (·.yard.worig1) (fun _ => rfl), of_keep h (·.yard.wstop0) (fun _ => rfl), of_keep h (·.yard.wstop1) (fun _ => rfl), of_keep h (·.yard.ports) (fun _ => rfl), of_keep h (·.yard.conns) (fun _ => rfl), of_keep h (·.yard.yins) (fun _ => rfl), of_keep h (·.yard.remote) (fun _ => rfl), of_keep h (·.yard.lcancel) (fun _ => rfl), of_keep h (·.yard.wseq) (fun _ => rfl), of_keep h (·.yard.seen) (fun _ => rfl), of_keep h (·.yard.wpend) (fun _ => rfl), of_keep h (·.yard.wforce) (fun _ => rfl), of_keep h (·.yard.wclear) (fun _ => rfl), of_keep h (·.yard.wcnt) (fun _ => rfl), of_keep h (·.yard.worigin) (fun _ => rfl), of_keep h (·.yard.wltime) (fun _ => rfl), of_keep h (·.yard.wlatch) (fun _ => rfl), of_keep h (·.yard.mrecv) (fun _ => rfl), of_keep h (·.yard.mlost) (fun _ => rfl), of_keep h (·.yard.psel) (fun _ => rfl), of_keep h (·.yard.csel) (fun _ => rfl), of_keep h (·.yard.cfgerr) (fun _ => rfl)⟩

@[simp] theorem State.line_flt (s : State) (src : Src) (a : Bool) (d : Nat) :
    (s.line src a d).flt.on = s.flt.on ∧ (s.line src a d).flt.onAt = s.flt.onAt ∧ (s.line src a d).flt.coll = s.flt.coll ∧ (s.line src a d).flt.map = s.flt.map ∧ (s.line src a d).flt.head = s.flt.head ∧ (s.line src a d).flt.blocked = s.flt.blocked ∧ (s.line src a d).flt.lasting = s.flt.lasting ∧ (s.line src a d).flt.wrAband = s.flt.wrAband ∧ (s.line src a d).flt.wrBad = s.flt.wrBad ∧ (s.line src a d).flt.cutprev = s.flt.cutprev ∧ (s.line src a d).flt.ridx = s.flt.ridx ∧ (s.line src a d).flt.rwsel = s.flt.rwsel ∧ (s.line src a d).flt.csel = s.flt.csel ∧ (s.line src a d).flt.buf = s.flt.buf ∧ (s.line src a d).flt.cfgerr = s.flt.cfgerr :=
  have h := State.line_keep s src a d
  ⟨of_keep h (·.flt.on) (fun _ => rfl), of_keep h (·.flt.onAt) (fun _ => rfl), of_keep h (·.flt.coll) (fun _ => rfl), of_keep h (·.flt.map) (fun _ => rfl), of_keep h (·.flt.head) (fun _ => rfl), of_keep h (·.flt.blocked) (fun _ => rfl), of_keep h (·.flt.lasting) (fun _ => rfl), of_keep h (·.flt.wrAband) (fun _ => rfl), of_keep h (·.flt.wrBad) (fun _ => rfl), of_keep h (·.flt.cutprev) (fun _ => rfl), of_keep h (·.flt.ridx) (fun _ => rfl), of_keep h (·.flt.rwsel) (fun _ => rfl), of_keep h (·.flt.csel) (fun _ => rfl), of_keep h (·.flt.buf) (fun _ => rfl), of_keep h (·.flt.cfgerr) (fun _ => rfl)⟩

@[simp] theorem State.line_farr (s : State) (src : Src) (a : Bool) (d : Nat) :
    (s.line src a d).farr.origin = s.farr.origin ∧ (s.line src a d).farr.failHold = s.farr.failHold ∧ (s.line src a d).farr.cur = s.farr.cur ∧ (s.line src a d).farr.startAt = s.farr.startAt ∧ (s.line src a d).farr.endAt = s.farr.endAt ∧ (s.line src a d).farr.setAt = s.farr.setAt ∧ (s.line src a d).farr.setOk = s.farr.setOk ∧ (s.line src a d).farr.sel = s.farr.sel ∧ (s.line src a d).farr.pass = s.farr.pass ∧ (s.line src a d).farr.fail = s.farr.fail ∧ (s.line src a d).farr.budget = s.farr.budget ∧ (s.line src a d).farr.refuse = s.farr.refuse ∧ (s.line src a d).farr.firstFail = s.farr.firstFail ∧ (s.line src a d).farr.rsel = s.farr.rsel ∧ (s.line src a d).farr.results = s.farr.results ∧ (s.line src a d).farr.durs = s.farr.durs ∧ (s.line src a d).farr.setdur = s.farr.setdur ∧ (s.line src a d).farr.hostcnt = s.farr.hostcnt ∧ (s.line src a d).farr.ran = s.farr.ran :=
  have h := State.line_keep s src a d
  ⟨of_keep h (·.farr.origin) (fun _ => rfl), of_keep h (·.farr.failHold) (fun _ => rfl), of_keep h (·.farr.cur) (fun _ => rfl), of_keep h (·.farr.startAt) (fun _ => rfl), of_keep h (·.farr.endAt) (fun _ => rfl), of_keep h (·.farr.setAt) (fun _ => rfl), of_keep h (·.farr.setOk) (fun _ => rfl), of_keep h (·.farr.sel) (fun _ => rfl), of_keep h (·.farr.pass) (fun _ => rfl), of_keep h (·.farr.fail) (fun _ => rfl), of_keep h (·.farr.budget) (fun _ => rfl), of_keep h (·.farr.refuse) (fun _ => rfl), of_keep h (·.farr.firstFail) (fun _ => rfl), of_keep h (·.farr.rsel) (fun _ => rfl), of_keep h (·.farr.results) (fun _ => rfl), of_keep h (·.farr.durs) (fun _ => rfl), of_keep h (·.farr.setdur) (fun _ => rfl), of_keep h (·.farr.hostcnt) (fun _ => rfl), of_keep h (·.farr.ran) (fun _ => rfl)⟩

@[simp] theorem State.line_cp (s : State) (src : Src) (a : Bool) (d : Nat) :
    (s.line src a d).cp.st = s.cp.st ∧ (s.line src a d).cp.wrEnd = s.cp.wrEnd ∧ (s.line src a d).cp.sdo = s.cp.sdo ∧ (s.line src a d).cp.alertEn = s.cp.alertEn ∧ (s.line src a d).cp.ylatch = s.cp.ylatch ∧ (s.line src a d).cp.cycle = s.cp.cycle ∧ (s.line src a d).cp.hostcmd = s.cp.hostcmd ∧ (s.line src a d).cp.arg0 = s.cp.arg0 ∧ (s.line src a d).cp.arg1 = s.cp.arg1 ∧ (s.line src a d).cp.resp = s.cp.resp ∧ (s.line src a d).cp.crcErr = s.cp.crcErr ∧ (s.line src a d).cp.frmErr = s.cp.frmErr ∧ (s.line src a d).cp.mbuf = s.cp.mbuf ∧ (s.line src a d).cp.page = s.cp.page ∧ (s.line src a d).cp.mbx = s.cp.mbx ∧ (s.line src a d).cp.maint = s.cp.maint :=
  have h := State.line_keep s src a d
  ⟨of_keep h (·.cp.st) (fun _ => rfl), of_keep h (·.cp.wrEnd) (fun _ => rfl), of_keep h (·.cp.sdo) (fun _ => rfl), of_keep h (·.cp.alertEn) (fun _ => rfl), of_keep h (·.cp.ylatch) (fun _ => rfl), of_keep h (·.cp.cycle) (fun _ => rfl), of_keep h (·.cp.hostcmd) (fun _ => rfl), of_keep h (·.cp.arg0) (fun _ => rfl), of_keep h (·.cp.arg1) (fun _ => rfl), of_keep h (·.cp.resp) (fun _ => rfl), of_keep h (·.cp.crcErr) (fun _ => rfl), of_keep h (·.cp.frmErr) (fun _ => rfl), of_keep h (·.cp.mbuf) (fun _ => rfl), of_keep h (·.cp.page) (fun _ => rfl), of_keep h (·.cp.mbx) (fun _ => rfl), of_keep h (·.cp.maint) (fun _ => rfl)⟩

@[simp] theorem State.line_img (s : State) (src : Src) (a : Bool) (d : Nat) :
    (s.line src a d).img.fuses = s.img.fuses ∧ (s.line src a d).img.keyFuse = s.img.keyFuse ∧ (s.line src a d).img.keyEnr = s.img.keyEnr ∧ (s.line src a d).img.erased = s.img.erased ∧ (s.line src a d).img.erasing = s.img.erasing ∧ (s.line src a d).img.erasedAt = s.img.erasedAt ∧ (s.line src a d).img.cfgAct = s.img.cfgAct ∧ (s.line src a d).img.running = s.img.running ∧ (s.line src a d).img.cfgver = s.img.cfgver ∧ (s.line src a d).img.pending = s.img.pending ∧ (s.line src a d).img.loftAct = s.img.loftAct ∧ (s.line src a d).img.loftFb = s.img.loftFb ∧ (s.line src a d).img.noLoft = s.img.noLoft ∧ (s.line src a d).img.loftVer = s.img.loftVer ∧ (s.line src a d).img.seqOpen = s.img.seqOpen ∧ (s.line src a d).img.verified = s.img.verified ∧ (s.line src a d).img.wblocks = s.img.wblocks ∧ (s.line src a d).img.cfgerr = s.img.cfgerr ∧ (s.line src a d).img.verr = s.img.verr ∧ (s.line src a d).img.lclast = s.img.lclast ∧ (s.line src a d).img.xsel = s.img.xsel ∧ (s.line src a d).img.agreed = s.img.agreed ∧ (s.line src a d).img.imgArr = s.img.imgArr :=
  have h := State.line_keep s src a d
  ⟨of_keep h (·.img.fuses) (fun _ => rfl), of_keep h (·.img.keyFuse) (fun _ => rfl), of_keep h (·.img.keyEnr) (fun _ => rfl), of_keep h (·.img.erased) (fun _ => rfl), of_keep h (·.img.erasing) (fun _ => rfl), of_keep h (·.img.erasedAt) (fun _ => rfl), of_keep h (·.img.cfgAct) (fun _ => rfl), of_keep h (·.img.running) (fun _ => rfl), of_keep h (·.img.cfgver) (fun _ => rfl), of_keep h (·.img.pending) (fun _ => rfl), of_keep h (·.img.loftAct) (fun _ => rfl), of_keep h (·.img.loftFb) (fun _ => rfl), of_keep h (·.img.noLoft) (fun _ => rfl), of_keep h (·.img.loftVer) (fun _ => rfl), of_keep h (·.img.seqOpen) (fun _ => rfl), of_keep h (·.img.verified) (fun _ => rfl), of_keep h (·.img.wblocks) (fun _ => rfl), of_keep h (·.img.cfgerr) (fun _ => rfl), of_keep h (·.img.verr) (fun _ => rfl), of_keep h (·.img.lclast) (fun _ => rfl), of_keep h (·.img.xsel) (fun _ => rfl), of_keep h (·.img.agreed) (fun _ => rfl), of_keep h (·.img.imgArr) (fun _ => rfl)⟩

@[simp] theorem State.raiseAll_whole (s : State) (l : List (Src × Nat)) :
    (s.raiseAll l).now = s.now ∧ (s.raiseAll l).sp = s.sp ∧ (s.raiseAll l).sin = s.sin ∧ (s.raiseAll l).col = s.col ∧ (s.raiseAll l).spook = s.spook ∧ (s.raiseAll l).fifos = s.fifos ∧ (s.raiseAll l).mram = s.mram ∧ (s.raiseAll l).pending = s.pending :=
  have h := State.raiseAll_keep s l
  ⟨of_keep h (·.now) (fun _ => rfl), of_keep h (·.sp) (fun _ => rfl), of_keep h (·.sin) (fun _ => rfl), of_keep h (·.col) (fun _ => rfl), of_keep h (·.spook) (fun _ => rfl), of_keep h (·.fifos) (fun _ => rfl), of_keep h (·.mram) (fun _ => rfl), of_keep h (·.pending) (fun _ => rfl)⟩

@[simp] theorem State.raiseAll_seq (s : State) (l : List (Src × Nat)) :
    (s.raiseAll l).seq.por = s.seq.por ∧ (s.raiseAll l).seq.porAt = s.seq.porAt ∧ (s.raiseAll l).seq.chan = s.seq.chan ∧ (s.raiseAll l).seq.waitAt = s.seq.waitAt ∧ (s.raiseAll l).seq.pg = s.seq.pg ∧ (s.raiseAll l).seq.ramp = s.seq.ramp ∧ (s.raiseAll l).seq.mode = s.seq.mode ∧ (s.raiseAll l).seq.step = s.seq.step ∧ (s.raiseAll l).seq.pgto = s.seq.pgto ∧ (s.raiseAll l).seq.settle = s.seq.settle ∧ (s.raiseAll l).seq.dscto = s.seq.dscto ∧ (s.raiseAll l).seq.dscLast = s.seq.dscLast ∧ (s.raiseAll l).seq.planOk = s.seq.planOk ∧ (s.raiseAll l).seq.boardDone = s.seq.boardDone ∧ (s.raiseAll l).seq.downDone = s.seq.downDone ∧ (s.raiseAll l).seq.holdup = s.seq.holdup ∧ (s.raiseAll l).seq.belowWarn = s.seq.belowWarn ∧ (s.raiseAll l).seq.vinLow = s.seq.vinLow ∧ (s.raiseAll l).seq.belowAbandon = s.seq.belowAbandon ∧ (s.raiseAll l).seq.vin = s.seq.vin ∧ (s.raiseAll l).seq.vinMin = s.seq.vinMin ∧ (s.raiseAll l).seq.vinWarns = s.seq.vinWarns ∧ (s.raiseAll l).seq.vinAbandons = s.seq.vinAbandons ∧ (s.raiseAll l).seq.snapNo = s.seq.snapNo ∧ (s.raiseAll l).seq.snapTop = s.seq.snapTop ∧ (s.raiseAll l).seq.upStartNo = s.seq.upStartNo ∧ (s.raiseAll l).seq.snapInv = s.seq.snapInv ∧ (s.raiseAll l).seq.snapAborted = s.seq.snapAborted ∧ (s.raiseAll l).seq.snapBuf = s.seq.snapBuf ∧ (s.raiseAll l).seq.chsel = s.seq.chsel ∧ (s.raiseAll l).seq.sidx = s.seq.sidx ∧ (s.raiseAll l).seq.swsel = s.seq.swsel ∧ (s.raiseAll l).seq.cfgerr = s.seq.cfgerr ∧ (s.raiseAll l).seq.rstcause = s.seq.rstcause ∧ (s.raiseAll l).seq.warmcnt = s.seq.warmcnt ∧ (s.raiseAll l).seq.ytick = s.seq.ytick ∧ (s.raiseAll l).seq.ytickAt = s.seq.ytickAt ∧ (s.raiseAll l).seq.temps = s.seq.temps :=
  have h := State.raiseAll_keep s l
  ⟨of_keep h (·.seq.por) (fun _ => rfl), of_keep h (·.seq.porAt) (fun _ => rfl), of_keep h (·.seq.chan) (fun _ => rfl), of_keep h (·.seq.waitAt) (fun _ => rfl), of_keep h (·.seq.pg) (fun _ => rfl), of_keep h (·.seq.ramp) (fun _ => rfl), of_keep h (·.seq.mode) (fun _ => rfl), of_keep h (·.seq.step) (fun _ => rfl), of_keep h (·.seq.pgto) (fun _ => rfl), of_keep h (·.seq.settle) (fun _ => rfl), of_keep h (·.seq.dscto) (fun _ => rfl), of_keep h (·.seq.dscLast) (fun _ => rfl), of_keep h (·.seq.planOk) (fun _ => rfl), of_keep h (·.seq.boardDone) (fun _ => rfl), of_keep h (·.seq.downDone) (fun _ => rfl), of_keep h (·.seq.holdup) (fun _ => rfl), of_keep h (·.seq.belowWarn) (fun _ => rfl), of_keep h (·.seq.vinLow) (fun _ => rfl), of_keep h (·.seq.belowAbandon) (fun _ => rfl), of_keep h (·.seq.vin) (fun _ => rfl), of_keep h (·.seq.vinMin) (fun _ => rfl), of_keep h (·.seq.vinWarns) (fun _ => rfl), of_keep h (·.seq.vinAbandons) (fun _ => rfl), of_keep h (·.seq.snapNo) (fun _ => rfl), of_keep h (·.seq.snapTop) (fun _ => rfl), of_keep h (·.seq.upStartNo) (fun _ => rfl), of_keep h (·.seq.snapInv) (fun _ => rfl), of_keep h (·.seq.snapAborted) (fun _ => rfl), of_keep h (·.seq.snapBuf) (fun _ => rfl), of_keep h (·.seq.chsel) (fun _ => rfl), of_keep h (·.seq.sidx) (fun _ => rfl), of_keep h (·.seq.swsel) (fun _ => rfl), of_keep h (·.seq.cfgerr) (fun _ => rfl), of_keep h (·.seq.rstcause) (fun _ => rfl), of_keep h (·.seq.warmcnt) (fun _ => rfl), of_keep h (·.seq.ytick) (fun _ => rfl), of_keep h (·.seq.ytickAt) (fun _ => rfl), of_keep h (·.seq.temps) (fun _ => rfl)⟩

@[simp] theorem State.raiseAll_clk (s : State) (l : List (Src × Nat)) :
    (s.raiseAll l).clk.mismatch = s.clk.mismatch ∧ (s.raiseAll l).clk.xtal = s.clk.xtal ∧ (s.raiseAll l).clk.pll = s.clk.pll ∧ (s.raiseAll l).clk.out = s.clk.out ∧ (s.raiseAll l).clk.rcOk = s.clk.rcOk ∧ (s.raiseAll l).clk.rccal = s.clk.rccal ∧ (s.raiseAll l).clk.mon = s.clk.mon ∧ (s.raiseAll l).clk.strap = s.clk.strap ∧ (s.raiseAll l).clk.fixed = s.clk.fixed ∧ (s.raiseAll l).clk.rcstop = s.clk.rcstop ∧ (s.raiseAll l).clk.cmdiag = s.clk.cmdiag ∧ (s.raiseAll l).clk.dev = s.clk.dev ∧ (s.raiseAll l).clk.devMax = s.clk.devMax ∧ (s.raiseAll l).clk.bad = s.clk.bad ∧ (s.raiseAll l).clk.csel = s.clk.csel ∧ (s.raiseAll l).clk.rstign = s.clk.rstign ∧ (s.raiseAll l).clk.hsdiag = s.clk.hsdiag ∧ (s.raiseAll l).clk.tboot = s.clk.tboot ∧ (s.raiseAll l).clk.tself = s.clk.tself ∧ (s.raiseAll l).clk.tload = s.clk.tload ∧ (s.raiseAll l).clk.tboard = s.clk.tboard ∧ (s.raiseAll l).clk.tarmed = s.clk.tarmed ∧ (s.raiseAll l).clk.start = s.clk.start ∧ (s.raiseAll l).clk.bootAt = s.clk.bootAt ∧ (s.raiseAll l).clk.pllAt = s.clk.pllAt ∧ (s.raiseAll l).clk.boardAt = s.clk.boardAt ∧ (s.raiseAll l).clk.rstLow = s.clk.rstLow ∧ (s.raiseAll l).clk.loadStep = s.clk.loadStep ∧ (s.raiseAll l).clk.armedOnce = s.clk.armedOnce ∧ (s.raiseAll l).clk.lockAt = s.clk.lockAt ∧ (s.raiseAll l).clk.temps = s.clk.temps ∧ (s.raiseAll l).clk.tempRun = s.clk.tempRun :=
  have h := State.raiseAll_keep s l
  ⟨of_keep h (·.clk.mismatch) (fun _ => rfl), of_keep h (·.clk.xtal) (fun _ => rfl), of_keep h (·.clk.pll) (fun _ => rfl), of_keep h (·.clk.out) (fun _ => rfl), of_keep h (·.clk.rcOk) (fun _ => rfl), of_keep h (·.clk.rccal) (fun _ => rfl), of_keep h (·.clk.mon) (fun _ => rfl), of_keep h (·.clk.strap) (fun _ => rfl), of_keep h (·.clk.fixed) (fun _ => rfl), of_keep h (·.clk.rcstop) (fun _ => rfl), of_keep h (·.clk.cmdiag) (fun _ => rfl), of_keep h (·.clk.dev) (fun _ => rfl), of_keep h (·.clk.devMax) (fun _ => rfl), of_keep h (·.clk.bad) (fun _ => rfl), of_keep h (·.clk.csel) (fun _ => rfl), of_keep h (·.clk.rstign) (fun _ => rfl), of_keep h (·.clk.hsdiag) (fun _ => rfl), of_keep h (·.clk.tboot) (fun _ => rfl), of_keep h (·.clk.tself) (fun _ => rfl), of_keep h (·.clk.tload) (fun _ => rfl), of_keep h (·.clk.tboard) (fun _ => rfl), of_keep h (·.clk.tarmed) (fun _ => rfl), of_keep h (·.clk.start) (fun _ => rfl), of_keep h (·.clk.bootAt) (fun _ => rfl), of_keep h (·.clk.pllAt) (fun _ => rfl), of_keep h (·.clk.boardAt) (fun _ => rfl), of_keep h (·.clk.rstLow) (fun _ => rfl), of_keep h (·.clk.loadStep) (fun _ => rfl), of_keep h (·.clk.armedOnce) (fun _ => rfl), of_keep h (·.clk.lockAt) (fun _ => rfl), of_keep h (·.clk.temps) (fun _ => rfl), of_keep h (·.clk.tempRun) (fun _ => rfl)⟩

@[simp] theorem State.raiseAll_pair (s : State) (l : List (Src × Nat)) :
    (s.raiseAll l).pair.arr = s.pair.arr ∧ (s.raiseAll l).pair.split = s.pair.split ∧ (s.raiseAll l).pair.lead = s.pair.lead ∧ (s.raiseAll l).pair.solo = s.pair.solo ∧ (s.raiseAll l).pair.soloCore = s.pair.soloCore ∧ (s.raiseAll l).pair.howin = s.pair.howin ∧ (s.raiseAll l).pair.out0 = s.pair.out0 ∧ (s.raiseAll l).pair.out1 = s.pair.out1 ∧ (s.raiseAll l).pair.dbg = s.pair.dbg ∧ (s.raiseAll l).pair.cmpArmed = s.pair.cmpArmed ∧ (s.raiseAll l).pair.cmpdiag = s.pair.cmpdiag ∧ (s.raiseAll l).pair.cmpcnt = s.pair.cmpcnt ∧ (s.raiseAll l).pair.injstat = s.pair.injstat ∧ (s.raiseAll l).pair.injmiss = s.pair.injmiss ∧ (s.raiseAll l).pair.rotint = s.pair.rotint ∧ (s.raiseAll l).pair.rotFrom = s.pair.rotFrom ∧ (s.raiseAll l).pair.due = s.pair.due ∧ (s.raiseAll l).pair.late = s.pair.late ∧ (s.raiseAll l).pair.lastRes = s.pair.lastRes ∧ (s.raiseAll l).pair.lastCore = s.pair.lastCore ∧ (s.raiseAll l).pair.rotcnt = s.pair.rotcnt ∧ (s.raiseAll l).pair.rotk = s.pair.rotk ∧ (s.raiseAll l).pair.splitAt = s.pair.splitAt ∧ (s.raiseAll l).pair.ready = s.pair.ready ∧ (s.raiseAll l).pair.soloLast = s.pair.soloLast ∧ (s.raiseAll l).pair.soloMax = s.pair.soloMax ∧ (s.raiseAll l).pair.hodiag = s.pair.hodiag ∧ (s.raiseAll l).pair.hoInput = s.pair.hoInput ∧ (s.raiseAll l).pair.cmpSafe = s.pair.cmpSafe ∧ (s.raiseAll l).pair.ecc0 = s.pair.ecc0 ∧ (s.raiseAll l).pair.ecc1 = s.pair.ecc1 ∧ (s.raiseAll l).pair.kramcnt = s.pair.kramcnt ∧ (s.raiseAll l).pair.kramAdr = s.pair.kramAdr ∧ (s.raiseAll l).pair.kramRom = s.pair.kramRom ∧ (s.raiseAll l).pair.journal = s.pair.journal ∧ (s.raiseAll l).pair.jovf = s.pair.jovf ∧ (s.raiseAll l).pair.resyncPend = s.pair.resyncPend ∧ (s.raiseAll l).pair.ramReload = s.pair.ramReload ∧ (s.raiseAll l).pair.refcnt = s.pair.refcnt ∧ (s.raiseAll l).pair.pendHalt = s.pair.pendHalt ∧ (s.raiseAll l).pair.tap = s.pair.tap ∧ (s.raiseAll l).pair.cells = s.pair.cells ∧ (s.raiseAll l).pair.scan = s.pair.scan ∧ (s.raiseAll l).pair.dr = s.pair.dr ∧ (s.raiseAll l).pair.lateCyc = s.pair.lateCyc ∧ (s.raiseAll l).pair.dbgResult = s.pair.dbgResult ∧ (s.raiseAll l).pair.dbgData = s.pair.dbgData :=
  have h := State.raiseAll_keep s l
  ⟨of_keep h (·.pair.arr) (fun _ => rfl), of_keep h (·.pair.split) (fun _ => rfl), of_keep h (·.pair.lead) (fun _ => rfl), of_keep h (·.pair.solo) (fun _ => rfl), of_keep h (·.pair.soloCore) (fun _ => rfl), of_keep h (·.pair.howin) (fun _ => rfl), of_keep h (·.pair.out0) (fun _ => rfl), of_keep h (·.pair.out1) (fun _ => rfl), of_keep h (·.pair.dbg) (fun _ => rfl), of_keep h (·.pair.cmpArmed) (fun _ => rfl), of_keep h (·.pair.cmpdiag) (fun _ => rfl), of_keep h (·.pair.cmpcnt) (fun _ => rfl), of_keep h (·.pair.injstat) (fun _ => rfl), of_keep h (·.pair.injmiss) (fun _ => rfl), of_keep h (·.pair.rotint) (fun _ => rfl), of_keep h (·.pair.rotFrom) (fun _ => rfl), of_keep h (·.pair.due) (fun _ => rfl), of_keep h (·.pair.late) (fun _ => rfl), of_keep h (·.pair.lastRes) (fun _ => rfl), of_keep h (·.pair.lastCore) (fun _ => rfl), of_keep h (·.pair.rotcnt) (fun _ => rfl), of_keep h (·.pair.rotk) (fun _ => rfl), of_keep h (·.pair.splitAt) (fun _ => rfl), of_keep h (·.pair.ready) (fun _ => rfl), of_keep h (·.pair.soloLast) (fun _ => rfl), of_keep h (·.pair.soloMax) (fun _ => rfl), of_keep h (·.pair.hodiag) (fun _ => rfl), of_keep h (·.pair.hoInput) (fun _ => rfl), of_keep h (·.pair.cmpSafe) (fun _ => rfl), of_keep h (·.pair.ecc0) (fun _ => rfl), of_keep h (·.pair.ecc1) (fun _ => rfl), of_keep h (·.pair.kramcnt) (fun _ => rfl), of_keep h (·.pair.kramAdr) (fun _ => rfl), of_keep h (·.pair.kramRom) (fun _ => rfl), of_keep h (·.pair.journal) (fun _ => rfl), of_keep h (·.pair.jovf) (fun _ => rfl), of_keep h (·.pair.resyncPend) (fun _ => rfl), of_keep h (·.pair.ramReload) (fun _ => rfl), of_keep h (·.pair.refcnt) (fun _ => rfl), of_keep h (·.pair.pendHalt) (fun _ => rfl), of_keep h (·.pair.tap) (fun _ => rfl), of_keep h (·.pair.cells) (fun _ => rfl), of_keep h (·.pair.scan) (fun _ => rfl), of_keep h (·.pair.dr) (fun _ => rfl), of_keep h (·.pair.lateCyc) (fun _ => rfl), of_keep h (·.pair.dbgResult) (fun _ => rfl), of_keep h (·.pair.dbgData) (fun _ => rfl)⟩

@[simp] theorem State.raiseAll_fab (s : State) (l : List (Src × Nat)) :
    (s.raiseAll l).fab.committed = s.fab.committed ∧ (s.raiseAll l).fab.loading = s.fab.loading ∧ (s.raiseAll l).fab.gsr = s.fab.gsr ∧ (s.raiseAll l).fab.probeField = s.fab.probeField ∧ (s.raiseAll l).fab.cells = s.fab.cells ∧ (s.raiseAll l).fab.refs = s.fab.refs ∧ (s.raiseAll l).fab.commitAt = s.fab.commitAt ∧ (s.raiseAll l).fab.passAt = s.fab.passAt ∧ (s.raiseAll l).fab.cfgerr = s.fab.cfgerr ∧ (s.raiseAll l).fab.scrubcnt = s.fab.scrubcnt ∧ (s.raiseAll l).fab.scruberr = s.fab.scruberr ∧ (s.raiseAll l).fab.lastfrm = s.fab.lastfrm ∧ (s.raiseAll l).fab.passtime = s.fab.passtime ∧ (s.raiseAll l).fab.errs = s.fab.errs ∧ (s.raiseAll l).fab.reload = s.fab.reload ∧ (s.raiseAll l).fab.chbdepth = s.fab.chbdepth ∧ (s.raiseAll l).fab.bankImg0 = s.fab.bankImg0 ∧ (s.raiseAll l).fab.bankImg1 = s.fab.bankImg1 ∧ (s.raiseAll l).fab.bankNow0 = s.fab.bankNow0 ∧ (s.raiseAll l).fab.bankNow1 = s.fab.bankNow1 ∧ (s.raiseAll l).fab.feed0 = s.fab.feed0 ∧ (s.raiseAll l).fab.feed1 = s.fab.feed1 ∧ (s.raiseAll l).fab.fsel = s.fab.fsel ∧ (s.raiseAll l).fab.fwsel = s.fab.fwsel ∧ (s.raiseAll l).fab.prbsel = s.fab.prbsel ∧ (s.raiseAll l).fab.probes = s.fab.probes ∧ (s.raiseAll l).fab.prberr = s.fab.prberr ∧ (s.raiseAll l).fab.wd = s.fab.wd ∧ (s.raiseAll l).fab.wrote = s.fab.wrote ∧ (s.raiseAll l).fab.disagree = s.fab.disagree :=
  have h := State.raiseAll_keep s l
  ⟨of_keep h (·.fab.committed) (fun _ => rfl), of_keep h (·.fab.loading) (fun _ => rfl), of_keep h (·.fab.gsr) (fun _ => rfl), of_keep h (·.fab.probeField) (fun _ => rfl), of_keep h (·.fab.cells) (fun _ => rfl), of_keep h (·.fab.refs) (fun _ => rfl), of_keep h (·.fab.commitAt) (fun _ => rfl), of_keep h (·.fab.passAt) (fun _ => rfl), of_keep h (·.fab.cfgerr) (fun _ => rfl), of_keep h (·.fab.scrubcnt) (fun _ => rfl), of_keep h (·.fab.scruberr) (fun _ => rfl), of_keep h (·.fab.lastfrm) (fun _ => rfl), of_keep h (·.fab.passtime) (fun _ => rfl), of_keep h (·.fab.errs) (fun _ => rfl), of_keep h (·.fab.reload) (fun _ => rfl), of_keep h (·.fab.chbdepth) (fun _ => rfl), of_keep h (·.fab.bankImg0) (fun _ => rfl), of_keep h (·.fab.bankImg1) (fun _ => rfl), of_keep h (·.fab.bankNow0) (fun _ => rfl), of_keep h (·.fab.bankNow1) (fun _ => rfl), of_keep h (·.fab.feed0) (fun _ => rfl), of_keep h (·.fab.feed1) (fun _ => rfl), of_keep h (·.fab.fsel) (fun _ => rfl), of_keep h (·.fab.fwsel) (fun _ => rfl), of_keep h (·.fab.prbsel) (fun _ => rfl), of_keep h (·.fab.probes) (fun _ => rfl), of_keep h (·.fab.prberr) (fun _ => rfl), of_keep h (·.fab.wd) (fun _ => rfl), of_keep h (·.fab.wrote) (fun _ => rfl), of_keep h (·.fab.disagree) (fun _ => rfl)⟩

@[simp] theorem State.raiseAll_sh0 (s : State) (l : List (Src × Nat)) :
    (s.raiseAll l).sh0.loaded = s.sh0.loaded ∧ (s.raiseAll l).sh0.cycle = s.sh0.cycle ∧ (s.raiseAll l).sh0.recs = s.sh0.recs ∧ (s.raiseAll l).sh0.crc = s.sh0.crc ∧ (s.raiseAll l).sh0.a = s.sh0.a ∧ (s.raiseAll l).sh0.pulseIn = s.sh0.pulseIn ∧ (s.raiseAll l).sh0.pulse = s.sh0.pulse ∧ (s.raiseAll l).sh0.from_ = s.sh0.from_ :=
  have h := State.raiseAll_keep s l
  ⟨of_keep h (·.sh0.loaded) (fun _ => rfl), of_keep h (·.sh0.cycle) (fun _ => rfl), of_keep h (·.sh0.recs) (fun _ => rfl), of_keep h (·.sh0.crc) (fun _ => rfl), of_keep h (·.sh0.a) (fun _ => rfl), of_keep h (·.sh0.pulseIn) (fun _ => rfl), of_keep h (·.sh0.pulse) (fun _ => rfl), of_keep h (·.sh0.from_) (fun _ => rfl)⟩

@[simp] theorem State.raiseAll_sh1 (s : State) (l : List (Src × Nat)) :
    (s.raiseAll l).sh1.loaded = s.sh1.loaded ∧ (s.raiseAll l).sh1.cycle = s.sh1.cycle ∧ (s.raiseAll l).sh1.recs = s.sh1.recs ∧ (s.raiseAll l).sh1.crc = s.sh1.crc ∧ (s.raiseAll l).sh1.a = s.sh1.a ∧ (s.raiseAll l).sh1.pulseIn = s.sh1.pulseIn ∧ (s.raiseAll l).sh1.pulse = s.sh1.pulse ∧ (s.raiseAll l).sh1.from_ = s.sh1.from_ :=
  have h := State.raiseAll_keep s l
  ⟨of_keep h (·.sh1.loaded) (fun _ => rfl), of_keep h (·.sh1.cycle) (fun _ => rfl), of_keep h (·.sh1.recs) (fun _ => rfl), of_keep h (·.sh1.crc) (fun _ => rfl), of_keep h (·.sh1.a) (fun _ => rfl), of_keep h (·.sh1.pulseIn) (fun _ => rfl), of_keep h (·.sh1.pulse) (fun _ => rfl), of_keep h (·.sh1.from_) (fun _ => rfl)⟩

@[simp] theorem State.raiseAll_sout (s : State) (l : List (Src × Nat)) :
    (s.raiseAll l).sout.gateOk = s.sout.gateOk ∧ (s.raiseAll l).sout.gateTill = s.sout.gateTill ∧ (s.raiseAll l).sout.ext = s.sout.ext ∧ (s.raiseAll l).sout.barkAat = s.sout.barkAat ∧ (s.raiseAll l).sout.barkBat = s.sout.barkBat ∧ (s.raiseAll l).sout.monA = s.sout.monA ∧ (s.raiseAll l).sout.monB = s.sout.monB ∧ (s.raiseAll l).sout.checks = s.sout.checks ∧ (s.raiseAll l).sout.cfgerr = s.sout.cfgerr ∧ (s.raiseAll l).sout.osel = s.sout.osel :=
  have h := State.raiseAll_keep s l
  ⟨of_keep h (·.sout.gateOk) (fun _ => rfl), of_keep h (·.sout.gateTill) (fun _ => rfl), of_keep h (·.sout.ext) (fun _ => rfl), of_keep h (·.sout.barkAat) (fun _ => rfl), of_keep h (·.sout.barkBat) (fun _ => rfl), of_keep h (·.sout.monA) (fun _ => rfl), of_keep h (·.sout.monB) (fun _ => rfl), of_keep h (·.sout.checks) (fun _ => rfl), of_keep h (·.sout.cfgerr) (fun _ => rfl), of_keep h (·.sout.osel) (fun _ => rfl)⟩

@[simp] theorem State.raiseAll_mot (s : State) (l : List (Src × Nat)) :
    (s.raiseAll l).mot.wsel = s.mot.wsel ∧ (s.raiseAll l).mot.cfgerr = s.mot.cfgerr ∧ (s.raiseAll l).mot.sched = s.mot.sched :=
  have h := State.raiseAll_keep s l
  ⟨of_keep h (·.mot.wsel) (fun _ => rfl), of_keep h (·.mot.cfgerr) (fun _ => rfl), of_keep h (·.mot.sched) (fun _ => rfl)⟩

@[simp] theorem State.raiseAll_yard (s : State) (l : List (Src × Nat)) :
    (s.raiseAll l).yard.runs = s.yard.runs ∧ (s.raiseAll l).yard.base = s.yard.base ∧ (s.raiseAll l).yard.baseAt = s.yard.baseAt ∧ (s.raiseAll l).yard.rate = s.yard.rate ∧ (s.raiseAll l).yard.sync = s.yard.sync ∧ (s.raiseAll l).yard.goodRun = s.yard.goodRun ∧ (s.raiseAll l).yard.badRun = s.yard.badRun ∧ (s.raiseAll l).yard.lastExch = s.yard.lastExch ∧ (s.raiseAll l).yard.holdAt = s.yard.holdAt ∧ (s.raiseAll l).yard.xch = s.yard.xch ∧ (s.raiseAll l).yard.offset = s.yard.offset ∧ (s.raiseAll l).yard.delay = s.yard.delay ∧ (s.raiseAll l).yard.up = s.yard.up ∧ (s.raiseAll l).yard.upPert = s.yard.upPert ∧ (s.raiseAll l).yard.upSeen = s.yard.upSeen ∧ (s.raiseAll l).yard.committed = s.yard.committed ∧ (s.raiseAll l).yard.node = s.yard.node ∧ (s.raiseAll l).yard.root = s.yard.root ∧ (s.raiseAll l).yard.depth = s.yard.depth ∧ (s.raiseAll l).yard.upnode = s.yard.upnode ∧ (s.raiseAll l).yard.lockwait = s.yard.lockwait ∧ (s.raiseAll l).yard.wlead = s.yard.wlead ∧ (s.raiseAll l).yard.worig0 = s.yard.worig0 ∧ (s.raiseAll l).yard.worig1 = s.yard.worig1 ∧ (s.raiseAll l).yard.wstop0 = s.yard.wstop0 ∧ (s.raiseAll l).yard.wstop1 = s.yard.wstop1 ∧ (s.raiseAll l).yard.ports = s.yard.ports ∧ (s.raiseAll l).yard.conns = s.yard.conns ∧ (s.raiseAll l).yard.yins = s.yard.yins ∧ (s.raiseAll l).yard.remote = s.yard.remote ∧ (s.raiseAll l).yard.lcancel = s.yard.lcancel ∧ (s.raiseAll l).yard.wseq = s.yard.wseq ∧ (s.raiseAll l).yard.seen = s.yard.seen ∧ (s.raiseAll l).yard.wpend = s.yard.wpend ∧ (s.raiseAll l).yard.wforce = s.yard.wforce ∧ (s.raiseAll l).yard.wclear = s.yard.wclear ∧ (s.raiseAll l).yard.wcnt = s.yard.wcnt ∧ (s.raiseAll l).yard.worigin = s.yard.worigin ∧ (s.raiseAll l).yard.wltime = s.yard.wltime ∧ (s.raiseAll l).yard.wlatch = s.yard.wlatch ∧ (s.raiseAll l).yard.mrecv = s.yard.mrecv ∧ (s.raiseAll l).yard.mlost = s.yard.mlost ∧ (s.raiseAll l).yard.psel = s.yard.psel ∧ (s.raiseAll l).yard.csel = s.yard.csel ∧ (s.raiseAll l).yard.cfgerr = s.yard.cfgerr :=
  have h := State.raiseAll_keep s l
  ⟨of_keep h (·.yard.runs) (fun _ => rfl), of_keep h (·.yard.base) (fun _ => rfl), of_keep h (·.yard.baseAt) (fun _ => rfl), of_keep h (·.yard.rate) (fun _ => rfl), of_keep h (·.yard.sync) (fun _ => rfl), of_keep h (·.yard.goodRun) (fun _ => rfl), of_keep h (·.yard.badRun) (fun _ => rfl), of_keep h (·.yard.lastExch) (fun _ => rfl), of_keep h (·.yard.holdAt) (fun _ => rfl), of_keep h (·.yard.xch) (fun _ => rfl), of_keep h (·.yard.offset) (fun _ => rfl), of_keep h (·.yard.delay) (fun _ => rfl), of_keep h (·.yard.up) (fun _ => rfl), of_keep h (·.yard.upPert) (fun _ => rfl), of_keep h (·.yard.upSeen) (fun _ => rfl), of_keep h (·.yard.committed) (fun _ => rfl), of_keep h (·.yard.node) (fun _ => rfl), of_keep h (·.yard.root) (fun _ => rfl), of_keep h (·.yard.depth) (fun _ => rfl), of_keep h (·.yard.upnode) (fun _ => rfl), of_keep h (·.yard.lockwait) (fun _ => rfl), of_keep h (·.yard.wlead) (fun _ => rfl), of_keep h (·.yard.worig0) (fun _ => rfl), of_keep h (·.yard.worig1) (fun _ => rfl), of_keep h (·.yard.wstop0) (fun _ => rfl), of_keep h (·.yard.wstop1) (fun _ => rfl), of_keep h (·.yard.ports) (fun _ => rfl), of_keep h (·.yard.conns) (fun _ => rfl), of_keep h (·.yard.yins) (fun _ => rfl), of_keep h (·.yard.remote) (fun _ => rfl), of_keep h (·.yard.lcancel) (fun _ => rfl), of_keep h (·.yard.wseq) (fun _ => rfl), of_keep h (·.yard.seen) (fun _ => rfl), of_keep h (·.yard.wpend) (fun _ => rfl), of_keep h (·.yard.wforce) (fun _ => rfl), of_keep h (·.yard.wclear) (fun _ => rfl), of_keep h (·.yard.wcnt) (fun _ => rfl), of_keep h (·.yard.worigin) (fun _ => rfl), of_keep h (·.yard.wltime) (fun _ => rfl), of_keep h (·.yard.wlatch) (fun _ => rfl), of_keep h (·.yard.mrecv) (fun _ => rfl), of_keep h (·.yard.mlost) (fun _ => rfl), of_keep h (·.yard.psel) (fun _ => rfl), of_keep h (·.yard.csel) (fun _ => rfl), of_keep h (·.yard.cfgerr) (fun _ => rfl)⟩

@[simp] theorem State.raiseAll_flt (s : State) (l : List (Src × Nat)) :
    (s.raiseAll l).flt.on = s.flt.on ∧ (s.raiseAll l).flt.onAt = s.flt.onAt ∧ (s.raiseAll l).flt.coll = s.flt.coll ∧ (s.raiseAll l).flt.map = s.flt.map ∧ (s.raiseAll l).flt.head = s.flt.head ∧ (s.raiseAll l).flt.blocked = s.flt.blocked ∧ (s.raiseAll l).flt.lasting = s.flt.lasting ∧ (s.raiseAll l).flt.wrAband = s.flt.wrAband ∧ (s.raiseAll l).flt.wrBad = s.flt.wrBad ∧ (s.raiseAll l).flt.cutprev = s.flt.cutprev ∧ (s.raiseAll l).flt.ridx = s.flt.ridx ∧ (s.raiseAll l).flt.rwsel = s.flt.rwsel ∧ (s.raiseAll l).flt.csel = s.flt.csel ∧ (s.raiseAll l).flt.buf = s.flt.buf ∧ (s.raiseAll l).flt.cfgerr = s.flt.cfgerr :=
  have h := State.raiseAll_keep s l
  ⟨of_keep h (·.flt.on) (fun _ => rfl), of_keep h (·.flt.onAt) (fun _ => rfl), of_keep h (·.flt.coll) (fun _ => rfl), of_keep h (·.flt.map) (fun _ => rfl), of_keep h (·.flt.head) (fun _ => rfl), of_keep h (·.flt.blocked) (fun _ => rfl), of_keep h (·.flt.lasting) (fun _ => rfl), of_keep h (·.flt.wrAband) (fun _ => rfl), of_keep h (·.flt.wrBad) (fun _ => rfl), of_keep h (·.flt.cutprev) (fun _ => rfl), of_keep h (·.flt.ridx) (fun _ => rfl), of_keep h (·.flt.rwsel) (fun _ => rfl), of_keep h (·.flt.csel) (fun _ => rfl), of_keep h (·.flt.buf) (fun _ => rfl), of_keep h (·.flt.cfgerr) (fun _ => rfl)⟩

@[simp] theorem State.raiseAll_farr (s : State) (l : List (Src × Nat)) :
    (s.raiseAll l).farr.origin = s.farr.origin ∧ (s.raiseAll l).farr.failHold = s.farr.failHold ∧ (s.raiseAll l).farr.cur = s.farr.cur ∧ (s.raiseAll l).farr.startAt = s.farr.startAt ∧ (s.raiseAll l).farr.endAt = s.farr.endAt ∧ (s.raiseAll l).farr.setAt = s.farr.setAt ∧ (s.raiseAll l).farr.setOk = s.farr.setOk ∧ (s.raiseAll l).farr.sel = s.farr.sel ∧ (s.raiseAll l).farr.pass = s.farr.pass ∧ (s.raiseAll l).farr.fail = s.farr.fail ∧ (s.raiseAll l).farr.budget = s.farr.budget ∧ (s.raiseAll l).farr.refuse = s.farr.refuse ∧ (s.raiseAll l).farr.firstFail = s.farr.firstFail ∧ (s.raiseAll l).farr.rsel = s.farr.rsel ∧ (s.raiseAll l).farr.results = s.farr.results ∧ (s.raiseAll l).farr.durs = s.farr.durs ∧ (s.raiseAll l).farr.setdur = s.farr.setdur ∧ (s.raiseAll l).farr.hostcnt = s.farr.hostcnt ∧ (s.raiseAll l).farr.ran = s.farr.ran :=
  have h := State.raiseAll_keep s l
  ⟨of_keep h (·.farr.origin) (fun _ => rfl), of_keep h (·.farr.failHold) (fun _ => rfl), of_keep h (·.farr.cur) (fun _ => rfl), of_keep h (·.farr.startAt) (fun _ => rfl), of_keep h (·.farr.endAt) (fun _ => rfl), of_keep h (·.farr.setAt) (fun _ => rfl), of_keep h (·.farr.setOk) (fun _ => rfl), of_keep h (·.farr.sel) (fun _ => rfl), of_keep h (·.farr.pass) (fun _ => rfl), of_keep h (·.farr.fail) (fun _ => rfl), of_keep h (·.farr.budget) (fun _ => rfl), of_keep h (·.farr.refuse) (fun _ => rfl), of_keep h (·.farr.firstFail) (fun _ => rfl), of_keep h (·.farr.rsel) (fun _ => rfl), of_keep h (·.farr.results) (fun _ => rfl), of_keep h (·.farr.durs) (fun _ => rfl), of_keep h (·.farr.setdur) (fun _ => rfl), of_keep h (·.farr.hostcnt) (fun _ => rfl), of_keep h (·.farr.ran) (fun _ => rfl)⟩

@[simp] theorem State.raiseAll_cp (s : State) (l : List (Src × Nat)) :
    (s.raiseAll l).cp.st = s.cp.st ∧ (s.raiseAll l).cp.wrEnd = s.cp.wrEnd ∧ (s.raiseAll l).cp.sdo = s.cp.sdo ∧ (s.raiseAll l).cp.alertEn = s.cp.alertEn ∧ (s.raiseAll l).cp.ylatch = s.cp.ylatch ∧ (s.raiseAll l).cp.cycle = s.cp.cycle ∧ (s.raiseAll l).cp.hostcmd = s.cp.hostcmd ∧ (s.raiseAll l).cp.arg0 = s.cp.arg0 ∧ (s.raiseAll l).cp.arg1 = s.cp.arg1 ∧ (s.raiseAll l).cp.resp = s.cp.resp ∧ (s.raiseAll l).cp.crcErr = s.cp.crcErr ∧ (s.raiseAll l).cp.frmErr = s.cp.frmErr ∧ (s.raiseAll l).cp.mbuf = s.cp.mbuf ∧ (s.raiseAll l).cp.page = s.cp.page ∧ (s.raiseAll l).cp.mbx = s.cp.mbx ∧ (s.raiseAll l).cp.maint = s.cp.maint :=
  have h := State.raiseAll_keep s l
  ⟨of_keep h (·.cp.st) (fun _ => rfl), of_keep h (·.cp.wrEnd) (fun _ => rfl), of_keep h (·.cp.sdo) (fun _ => rfl), of_keep h (·.cp.alertEn) (fun _ => rfl), of_keep h (·.cp.ylatch) (fun _ => rfl), of_keep h (·.cp.cycle) (fun _ => rfl), of_keep h (·.cp.hostcmd) (fun _ => rfl), of_keep h (·.cp.arg0) (fun _ => rfl), of_keep h (·.cp.arg1) (fun _ => rfl), of_keep h (·.cp.resp) (fun _ => rfl), of_keep h (·.cp.crcErr) (fun _ => rfl), of_keep h (·.cp.frmErr) (fun _ => rfl), of_keep h (·.cp.mbuf) (fun _ => rfl), of_keep h (·.cp.page) (fun _ => rfl), of_keep h (·.cp.mbx) (fun _ => rfl), of_keep h (·.cp.maint) (fun _ => rfl)⟩

@[simp] theorem State.raiseAll_img (s : State) (l : List (Src × Nat)) :
    (s.raiseAll l).img.fuses = s.img.fuses ∧ (s.raiseAll l).img.keyFuse = s.img.keyFuse ∧ (s.raiseAll l).img.keyEnr = s.img.keyEnr ∧ (s.raiseAll l).img.erased = s.img.erased ∧ (s.raiseAll l).img.erasing = s.img.erasing ∧ (s.raiseAll l).img.erasedAt = s.img.erasedAt ∧ (s.raiseAll l).img.cfgAct = s.img.cfgAct ∧ (s.raiseAll l).img.running = s.img.running ∧ (s.raiseAll l).img.cfgver = s.img.cfgver ∧ (s.raiseAll l).img.pending = s.img.pending ∧ (s.raiseAll l).img.loftAct = s.img.loftAct ∧ (s.raiseAll l).img.loftFb = s.img.loftFb ∧ (s.raiseAll l).img.noLoft = s.img.noLoft ∧ (s.raiseAll l).img.loftVer = s.img.loftVer ∧ (s.raiseAll l).img.seqOpen = s.img.seqOpen ∧ (s.raiseAll l).img.verified = s.img.verified ∧ (s.raiseAll l).img.wblocks = s.img.wblocks ∧ (s.raiseAll l).img.cfgerr = s.img.cfgerr ∧ (s.raiseAll l).img.verr = s.img.verr ∧ (s.raiseAll l).img.lclast = s.img.lclast ∧ (s.raiseAll l).img.xsel = s.img.xsel ∧ (s.raiseAll l).img.agreed = s.img.agreed ∧ (s.raiseAll l).img.imgArr = s.img.imgArr :=
  have h := State.raiseAll_keep s l
  ⟨of_keep h (·.img.fuses) (fun _ => rfl), of_keep h (·.img.keyFuse) (fun _ => rfl), of_keep h (·.img.keyEnr) (fun _ => rfl), of_keep h (·.img.erased) (fun _ => rfl), of_keep h (·.img.erasing) (fun _ => rfl), of_keep h (·.img.erasedAt) (fun _ => rfl), of_keep h (·.img.cfgAct) (fun _ => rfl), of_keep h (·.img.running) (fun _ => rfl), of_keep h (·.img.cfgver) (fun _ => rfl), of_keep h (·.img.pending) (fun _ => rfl), of_keep h (·.img.loftAct) (fun _ => rfl), of_keep h (·.img.loftFb) (fun _ => rfl), of_keep h (·.img.noLoft) (fun _ => rfl), of_keep h (·.img.loftVer) (fun _ => rfl), of_keep h (·.img.seqOpen) (fun _ => rfl), of_keep h (·.img.verified) (fun _ => rfl), of_keep h (·.img.wblocks) (fun _ => rfl), of_keep h (·.img.cfgerr) (fun _ => rfl), of_keep h (·.img.verr) (fun _ => rfl), of_keep h (·.img.lclast) (fun _ => rfl), of_keep h (·.img.xsel) (fun _ => rfl), of_keep h (·.img.agreed) (fun _ => rfl), of_keep h (·.img.imgArr) (fun _ => rfl)⟩

@[simp] theorem State.runB_whole (s : State) (t : Bool) :
    (s.runB t).now = s.now ∧ (s.runB t).sp = s.sp ∧ (s.runB t).sin = s.sin ∧ (s.runB t).col = s.col ∧ (s.runB t).spook = s.spook ∧ (s.runB t).fifos = s.fifos ∧ (s.runB t).mram = s.mram ∧ (s.runB t).pending = s.pending :=
  have h := State.runB_keep s t
  ⟨of_keep h (·.now) (fun _ => rfl), of_keep h (·.sp) (fun _ => rfl), of_keep h (·.sin) (fun _ => rfl), of_keep h (·.col) (fun _ => rfl), of_keep h (·.spook) (fun _ => rfl), of_keep h (·.fifos) (fun _ => rfl), of_keep h (·.mram) (fun _ => rfl), of_keep h (·.pending) (fun _ => rfl)⟩

@[simp] theorem State.item1_whole (s : State) :
    (s.item1).now = s.now ∧ (s.item1).sp = s.sp ∧ (s.item1).sin = s.sin ∧ (s.item1).col = s.col ∧ (s.item1).spook = s.spook ∧ (s.item1).fifos = s.fifos ∧ (s.item1).mram = s.mram ∧ (s.item1).pending = s.pending :=
  have h := State.item1_keep s
  ⟨of_keep h (·.now) (fun _ => rfl), of_keep h (·.sp) (fun _ => rfl), of_keep h (·.sin) (fun _ => rfl), of_keep h (·.col) (fun _ => rfl), of_keep h (·.spook) (fun _ => rfl), of_keep h (·.fifos) (fun _ => rfl), of_keep h (·.mram) (fun _ => rfl), of_keep h (·.pending) (fun _ => rfl)⟩

@[simp] theorem State.settleAt_whole (s : State) (t : Bool) :
    (s.settleAt t).now = s.now ∧ (s.settleAt t).sp = s.sp ∧ (s.settleAt t).sin = s.sin ∧ (s.settleAt t).col = s.col ∧ (s.settleAt t).spook = s.spook ∧ (s.settleAt t).fifos = s.fifos ∧ (s.settleAt t).mram = s.mram ∧ (s.settleAt t).pending = s.pending :=
  have h := State.settleAt_keep s t
  ⟨of_keep h (·.now) (fun _ => rfl), of_keep h (·.sp) (fun _ => rfl), of_keep h (·.sin) (fun _ => rfl), of_keep h (·.col) (fun _ => rfl), of_keep h (·.spook) (fun _ => rfl), of_keep h (·.fifos) (fun _ => rfl), of_keep h (·.mram) (fun _ => rfl), of_keep h (·.pending) (fun _ => rfl)⟩

@[simp] theorem State.settleAt_seq (s : State) (t : Bool) :
    (s.settleAt t).seq.por = s.seq.por ∧ (s.settleAt t).seq.porAt = s.seq.porAt ∧ (s.settleAt t).seq.chan = s.seq.chan ∧ (s.settleAt t).seq.waitAt = s.seq.waitAt ∧ (s.settleAt t).seq.pg = s.seq.pg ∧ (s.settleAt t).seq.ramp = s.seq.ramp ∧ (s.settleAt t).seq.mode = s.seq.mode ∧ (s.settleAt t).seq.step = s.seq.step ∧ (s.settleAt t).seq.pgto = s.seq.pgto ∧ (s.settleAt t).seq.settle = s.seq.settle ∧ (s.settleAt t).seq.dscto = s.seq.dscto ∧ (s.settleAt t).seq.dscLast = s.seq.dscLast ∧ (s.settleAt t).seq.planOk = s.seq.planOk ∧ (s.settleAt t).seq.boardDone = s.seq.boardDone ∧ (s.settleAt t).seq.downDone = s.seq.downDone ∧ (s.settleAt t).seq.holdup = s.seq.holdup ∧ (s.settleAt t).seq.belowWarn = s.seq.belowWarn ∧ (s.settleAt t).seq.vinLow = s.seq.vinLow ∧ (s.settleAt t).seq.belowAbandon = s.seq.belowAbandon ∧ (s.settleAt t).seq.vin = s.seq.vin ∧ (s.settleAt t).seq.vinMin = s.seq.vinMin ∧ (s.settleAt t).seq.vinWarns = s.seq.vinWarns ∧ (s.settleAt t).seq.vinAbandons = s.seq.vinAbandons ∧ (s.settleAt t).seq.snapNo = s.seq.snapNo ∧ (s.settleAt t).seq.snapTop = s.seq.snapTop ∧ (s.settleAt t).seq.upStartNo = s.seq.upStartNo ∧ (s.settleAt t).seq.snapInv = s.seq.snapInv ∧ (s.settleAt t).seq.snapAborted = s.seq.snapAborted ∧ (s.settleAt t).seq.snapBuf = s.seq.snapBuf ∧ (s.settleAt t).seq.chsel = s.seq.chsel ∧ (s.settleAt t).seq.sidx = s.seq.sidx ∧ (s.settleAt t).seq.swsel = s.seq.swsel ∧ (s.settleAt t).seq.cfgerr = s.seq.cfgerr ∧ (s.settleAt t).seq.rstcause = s.seq.rstcause ∧ (s.settleAt t).seq.warmcnt = s.seq.warmcnt ∧ (s.settleAt t).seq.ytick = s.seq.ytick ∧ (s.settleAt t).seq.ytickAt = s.seq.ytickAt ∧ (s.settleAt t).seq.temps = s.seq.temps :=
  have h := State.settleAt_keep s t
  ⟨of_keep h (·.seq.por) (fun _ => rfl), of_keep h (·.seq.porAt) (fun _ => rfl), of_keep h (·.seq.chan) (fun _ => rfl), of_keep h (·.seq.waitAt) (fun _ => rfl), of_keep h (·.seq.pg) (fun _ => rfl), of_keep h (·.seq.ramp) (fun _ => rfl), of_keep h (·.seq.mode) (fun _ => rfl), of_keep h (·.seq.step) (fun _ => rfl), of_keep h (·.seq.pgto) (fun _ => rfl), of_keep h (·.seq.settle) (fun _ => rfl), of_keep h (·.seq.dscto) (fun _ => rfl), of_keep h (·.seq.dscLast) (fun _ => rfl), of_keep h (·.seq.planOk) (fun _ => rfl), of_keep h (·.seq.boardDone) (fun _ => rfl), of_keep h (·.seq.downDone) (fun _ => rfl), of_keep h (·.seq.holdup) (fun _ => rfl), of_keep h (·.seq.belowWarn) (fun _ => rfl), of_keep h (·.seq.vinLow) (fun _ => rfl), of_keep h (·.seq.belowAbandon) (fun _ => rfl), of_keep h (·.seq.vin) (fun _ => rfl), of_keep h (·.seq.vinMin) (fun _ => rfl), of_keep h (·.seq.vinWarns) (fun _ => rfl), of_keep h (·.seq.vinAbandons) (fun _ => rfl), of_keep h (·.seq.snapNo) (fun _ => rfl), of_keep h (·.seq.snapTop) (fun _ => rfl), of_keep h (·.seq.upStartNo) (fun _ => rfl), of_keep h (·.seq.snapInv) (fun _ => rfl), of_keep h (·.seq.snapAborted) (fun _ => rfl), of_keep h (·.seq.snapBuf) (fun _ => rfl), of_keep h (·.seq.chsel) (fun _ => rfl), of_keep h (·.seq.sidx) (fun _ => rfl), of_keep h (·.seq.swsel) (fun _ => rfl), of_keep h (·.seq.cfgerr) (fun _ => rfl), of_keep h (·.seq.rstcause) (fun _ => rfl), of_keep h (·.seq.warmcnt) (fun _ => rfl), of_keep h (·.seq.ytick) (fun _ => rfl), of_keep h (·.seq.ytickAt) (fun _ => rfl), of_keep h (·.seq.temps) (fun _ => rfl)⟩

@[simp] theorem State.settleAt_clk (s : State) (t : Bool) :
    (s.settleAt t).clk.mismatch = s.clk.mismatch ∧ (s.settleAt t).clk.xtal = s.clk.xtal ∧ (s.settleAt t).clk.pll = s.clk.pll ∧ (s.settleAt t).clk.out = s.clk.out ∧ (s.settleAt t).clk.rcOk = s.clk.rcOk ∧ (s.settleAt t).clk.rccal = s.clk.rccal ∧ (s.settleAt t).clk.mon = s.clk.mon ∧ (s.settleAt t).clk.strap = s.clk.strap ∧ (s.settleAt t).clk.fixed = s.clk.fixed ∧ (s.settleAt t).clk.rcstop = s.clk.rcstop ∧ (s.settleAt t).clk.cmdiag = s.clk.cmdiag ∧ (s.settleAt t).clk.dev = s.clk.dev ∧ (s.settleAt t).clk.devMax = s.clk.devMax ∧ (s.settleAt t).clk.bad = s.clk.bad ∧ (s.settleAt t).clk.csel = s.clk.csel ∧ (s.settleAt t).clk.rstign = s.clk.rstign ∧ (s.settleAt t).clk.hsdiag = s.clk.hsdiag ∧ (s.settleAt t).clk.tboot = s.clk.tboot ∧ (s.settleAt t).clk.tself = s.clk.tself ∧ (s.settleAt t).clk.tload = s.clk.tload ∧ (s.settleAt t).clk.tboard = s.clk.tboard ∧ (s.settleAt t).clk.tarmed = s.clk.tarmed ∧ (s.settleAt t).clk.start = s.clk.start ∧ (s.settleAt t).clk.bootAt = s.clk.bootAt ∧ (s.settleAt t).clk.pllAt = s.clk.pllAt ∧ (s.settleAt t).clk.boardAt = s.clk.boardAt ∧ (s.settleAt t).clk.rstLow = s.clk.rstLow ∧ (s.settleAt t).clk.loadStep = s.clk.loadStep ∧ (s.settleAt t).clk.armedOnce = s.clk.armedOnce ∧ (s.settleAt t).clk.lockAt = s.clk.lockAt ∧ (s.settleAt t).clk.temps = s.clk.temps ∧ (s.settleAt t).clk.tempRun = s.clk.tempRun :=
  have h := State.settleAt_keep s t
  ⟨of_keep h (·.clk.mismatch) (fun _ => rfl), of_keep h (·.clk.xtal) (fun _ => rfl), of_keep h (·.clk.pll) (fun _ => rfl), of_keep h (·.clk.out) (fun _ => rfl), of_keep h (·.clk.rcOk) (fun _ => rfl), of_keep h (·.clk.rccal) (fun _ => rfl), of_keep h (·.clk.mon) (fun _ => rfl), of_keep h (·.clk.strap) (fun _ => rfl), of_keep h (·.clk.fixed) (fun _ => rfl), of_keep h (·.clk.rcstop) (fun _ => rfl), of_keep h (·.clk.cmdiag) (fun _ => rfl), of_keep h (·.clk.dev) (fun _ => rfl), of_keep h (·.clk.devMax) (fun _ => rfl), of_keep h (·.clk.bad) (fun _ => rfl), of_keep h (·.clk.csel) (fun _ => rfl), of_keep h (·.clk.rstign) (fun _ => rfl), of_keep h (·.clk.hsdiag) (fun _ => rfl), of_keep h (·.clk.tboot) (fun _ => rfl), of_keep h (·.clk.tself) (fun _ => rfl), of_keep h (·.clk.tload) (fun _ => rfl), of_keep h (·.clk.tboard) (fun _ => rfl), of_keep h (·.clk.tarmed) (fun _ => rfl), of_keep h (·.clk.start) (fun _ => rfl), of_keep h (·.clk.bootAt) (fun _ => rfl), of_keep h (·.clk.pllAt) (fun _ => rfl), of_keep h (·.clk.boardAt) (fun _ => rfl), of_keep h (·.clk.rstLow) (fun _ => rfl), of_keep h (·.clk.loadStep) (fun _ => rfl), of_keep h (·.clk.armedOnce) (fun _ => rfl), of_keep h (·.clk.lockAt) (fun _ => rfl), of_keep h (·.clk.temps) (fun _ => rfl), of_keep h (·.clk.tempRun) (fun _ => rfl)⟩

@[simp] theorem State.settleAt_pair (s : State) (t : Bool) :
    (s.settleAt t).pair.arr = s.pair.arr ∧ (s.settleAt t).pair.split = s.pair.split ∧ (s.settleAt t).pair.lead = s.pair.lead ∧ (s.settleAt t).pair.solo = s.pair.solo ∧ (s.settleAt t).pair.soloCore = s.pair.soloCore ∧ (s.settleAt t).pair.howin = s.pair.howin ∧ (s.settleAt t).pair.out0 = s.pair.out0 ∧ (s.settleAt t).pair.out1 = s.pair.out1 ∧ (s.settleAt t).pair.dbg = s.pair.dbg ∧ (s.settleAt t).pair.cmpArmed = s.pair.cmpArmed ∧ (s.settleAt t).pair.cmpdiag = s.pair.cmpdiag ∧ (s.settleAt t).pair.cmpcnt = s.pair.cmpcnt ∧ (s.settleAt t).pair.injstat = s.pair.injstat ∧ (s.settleAt t).pair.injmiss = s.pair.injmiss ∧ (s.settleAt t).pair.rotint = s.pair.rotint ∧ (s.settleAt t).pair.rotFrom = s.pair.rotFrom ∧ (s.settleAt t).pair.due = s.pair.due ∧ (s.settleAt t).pair.late = s.pair.late ∧ (s.settleAt t).pair.lastRes = s.pair.lastRes ∧ (s.settleAt t).pair.lastCore = s.pair.lastCore ∧ (s.settleAt t).pair.rotcnt = s.pair.rotcnt ∧ (s.settleAt t).pair.rotk = s.pair.rotk ∧ (s.settleAt t).pair.splitAt = s.pair.splitAt ∧ (s.settleAt t).pair.ready = s.pair.ready ∧ (s.settleAt t).pair.soloLast = s.pair.soloLast ∧ (s.settleAt t).pair.soloMax = s.pair.soloMax ∧ (s.settleAt t).pair.hodiag = s.pair.hodiag ∧ (s.settleAt t).pair.hoInput = s.pair.hoInput ∧ (s.settleAt t).pair.cmpSafe = s.pair.cmpSafe ∧ (s.settleAt t).pair.ecc0 = s.pair.ecc0 ∧ (s.settleAt t).pair.ecc1 = s.pair.ecc1 ∧ (s.settleAt t).pair.kramcnt = s.pair.kramcnt ∧ (s.settleAt t).pair.kramAdr = s.pair.kramAdr ∧ (s.settleAt t).pair.kramRom = s.pair.kramRom ∧ (s.settleAt t).pair.journal = s.pair.journal ∧ (s.settleAt t).pair.jovf = s.pair.jovf ∧ (s.settleAt t).pair.resyncPend = s.pair.resyncPend ∧ (s.settleAt t).pair.ramReload = s.pair.ramReload ∧ (s.settleAt t).pair.refcnt = s.pair.refcnt ∧ (s.settleAt t).pair.pendHalt = s.pair.pendHalt ∧ (s.settleAt t).pair.tap = s.pair.tap ∧ (s.settleAt t).pair.cells = s.pair.cells ∧ (s.settleAt t).pair.scan = s.pair.scan ∧ (s.settleAt t).pair.dr = s.pair.dr ∧ (s.settleAt t).pair.lateCyc = s.pair.lateCyc ∧ (s.settleAt t).pair.dbgResult = s.pair.dbgResult ∧ (s.settleAt t).pair.dbgData = s.pair.dbgData :=
  have h := State.settleAt_keep s t
  ⟨of_keep h (·.pair.arr) (fun _ => rfl), of_keep h (·.pair.split) (fun _ => rfl), of_keep h (·.pair.lead) (fun _ => rfl), of_keep h (·.pair.solo) (fun _ => rfl), of_keep h (·.pair.soloCore) (fun _ => rfl), of_keep h (·.pair.howin) (fun _ => rfl), of_keep h (·.pair.out0) (fun _ => rfl), of_keep h (·.pair.out1) (fun _ => rfl), of_keep h (·.pair.dbg) (fun _ => rfl), of_keep h (·.pair.cmpArmed) (fun _ => rfl), of_keep h (·.pair.cmpdiag) (fun _ => rfl), of_keep h (·.pair.cmpcnt) (fun _ => rfl), of_keep h (·.pair.injstat) (fun _ => rfl), of_keep h (·.pair.injmiss) (fun _ => rfl), of_keep h (·.pair.rotint) (fun _ => rfl), of_keep h (·.pair.rotFrom) (fun _ => rfl), of_keep h (·.pair.due) (fun _ => rfl), of_keep h (·.pair.late) (fun _ => rfl), of_keep h (·.pair.lastRes) (fun _ => rfl), of_keep h (·.pair.lastCore) (fun _ => rfl), of_keep h (·.pair.rotcnt) (fun _ => rfl), of_keep h (·.pair.rotk) (fun _ => rfl), of_keep h (·.pair.splitAt) (fun _ => rfl), of_keep h (·.pair.ready) (fun _ => rfl), of_keep h (·.pair.soloLast) (fun _ => rfl), of_keep h (·.pair.soloMax) (fun _ => rfl), of_keep h (·.pair.hodiag) (fun _ => rfl), of_keep h (·.pair.hoInput) (fun _ => rfl), of_keep h (·.pair.cmpSafe) (fun _ => rfl), of_keep h (·.pair.ecc0) (fun _ => rfl), of_keep h (·.pair.ecc1) (fun _ => rfl), of_keep h (·.pair.kramcnt) (fun _ => rfl), of_keep h (·.pair.kramAdr) (fun _ => rfl), of_keep h (·.pair.kramRom) (fun _ => rfl), of_keep h (·.pair.journal) (fun _ => rfl), of_keep h (·.pair.jovf) (fun _ => rfl), of_keep h (·.pair.resyncPend) (fun _ => rfl), of_keep h (·.pair.ramReload) (fun _ => rfl), of_keep h (·.pair.refcnt) (fun _ => rfl), of_keep h (·.pair.pendHalt) (fun _ => rfl), of_keep h (·.pair.tap) (fun _ => rfl), of_keep h (·.pair.cells) (fun _ => rfl), of_keep h (·.pair.scan) (fun _ => rfl), of_keep h (·.pair.dr) (fun _ => rfl), of_keep h (·.pair.lateCyc) (fun _ => rfl), of_keep h (·.pair.dbgResult) (fun _ => rfl), of_keep h (·.pair.dbgData) (fun _ => rfl)⟩

@[simp] theorem State.settleAt_fab (s : State) (t : Bool) :
    (s.settleAt t).fab.committed = s.fab.committed ∧ (s.settleAt t).fab.loading = s.fab.loading ∧ (s.settleAt t).fab.gsr = s.fab.gsr ∧ (s.settleAt t).fab.probeField = s.fab.probeField ∧ (s.settleAt t).fab.cells = s.fab.cells ∧ (s.settleAt t).fab.refs = s.fab.refs ∧ (s.settleAt t).fab.commitAt = s.fab.commitAt ∧ (s.settleAt t).fab.passAt = s.fab.passAt ∧ (s.settleAt t).fab.cfgerr = s.fab.cfgerr ∧ (s.settleAt t).fab.scrubcnt = s.fab.scrubcnt ∧ (s.settleAt t).fab.scruberr = s.fab.scruberr ∧ (s.settleAt t).fab.lastfrm = s.fab.lastfrm ∧ (s.settleAt t).fab.passtime = s.fab.passtime ∧ (s.settleAt t).fab.errs = s.fab.errs ∧ (s.settleAt t).fab.reload = s.fab.reload ∧ (s.settleAt t).fab.chbdepth = s.fab.chbdepth ∧ (s.settleAt t).fab.bankImg0 = s.fab.bankImg0 ∧ (s.settleAt t).fab.bankImg1 = s.fab.bankImg1 ∧ (s.settleAt t).fab.bankNow0 = s.fab.bankNow0 ∧ (s.settleAt t).fab.bankNow1 = s.fab.bankNow1 ∧ (s.settleAt t).fab.feed0 = s.fab.feed0 ∧ (s.settleAt t).fab.feed1 = s.fab.feed1 ∧ (s.settleAt t).fab.fsel = s.fab.fsel ∧ (s.settleAt t).fab.fwsel = s.fab.fwsel ∧ (s.settleAt t).fab.prbsel = s.fab.prbsel ∧ (s.settleAt t).fab.probes = s.fab.probes ∧ (s.settleAt t).fab.prberr = s.fab.prberr ∧ (s.settleAt t).fab.wd = s.fab.wd ∧ (s.settleAt t).fab.wrote = s.fab.wrote ∧ (s.settleAt t).fab.disagree = s.fab.disagree :=
  have h := State.settleAt_keep s t
  ⟨of_keep h (·.fab.committed) (fun _ => rfl), of_keep h (·.fab.loading) (fun _ => rfl), of_keep h (·.fab.gsr) (fun _ => rfl), of_keep h (·.fab.probeField) (fun _ => rfl), of_keep h (·.fab.cells) (fun _ => rfl), of_keep h (·.fab.refs) (fun _ => rfl), of_keep h (·.fab.commitAt) (fun _ => rfl), of_keep h (·.fab.passAt) (fun _ => rfl), of_keep h (·.fab.cfgerr) (fun _ => rfl), of_keep h (·.fab.scrubcnt) (fun _ => rfl), of_keep h (·.fab.scruberr) (fun _ => rfl), of_keep h (·.fab.lastfrm) (fun _ => rfl), of_keep h (·.fab.passtime) (fun _ => rfl), of_keep h (·.fab.errs) (fun _ => rfl), of_keep h (·.fab.reload) (fun _ => rfl), of_keep h (·.fab.chbdepth) (fun _ => rfl), of_keep h (·.fab.bankImg0) (fun _ => rfl), of_keep h (·.fab.bankImg1) (fun _ => rfl), of_keep h (·.fab.bankNow0) (fun _ => rfl), of_keep h (·.fab.bankNow1) (fun _ => rfl), of_keep h (·.fab.feed0) (fun _ => rfl), of_keep h (·.fab.feed1) (fun _ => rfl), of_keep h (·.fab.fsel) (fun _ => rfl), of_keep h (·.fab.fwsel) (fun _ => rfl), of_keep h (·.fab.prbsel) (fun _ => rfl), of_keep h (·.fab.probes) (fun _ => rfl), of_keep h (·.fab.prberr) (fun _ => rfl), of_keep h (·.fab.wd) (fun _ => rfl), of_keep h (·.fab.wrote) (fun _ => rfl), of_keep h (·.fab.disagree) (fun _ => rfl)⟩

@[simp] theorem State.settleAt_sh0 (s : State) (t : Bool) :
    (s.settleAt t).sh0.loaded = s.sh0.loaded ∧ (s.settleAt t).sh0.cycle = s.sh0.cycle ∧ (s.settleAt t).sh0.recs = s.sh0.recs ∧ (s.settleAt t).sh0.crc = s.sh0.crc ∧ (s.settleAt t).sh0.a = s.sh0.a ∧ (s.settleAt t).sh0.pulseIn = s.sh0.pulseIn ∧ (s.settleAt t).sh0.pulse = s.sh0.pulse ∧ (s.settleAt t).sh0.from_ = s.sh0.from_ :=
  have h := State.settleAt_keep s t
  ⟨of_keep h (·.sh0.loaded) (fun _ => rfl), of_keep h (·.sh0.cycle) (fun _ => rfl), of_keep h (·.sh0.recs) (fun _ => rfl), of_keep h (·.sh0.crc) (fun _ => rfl), of_keep h (·.sh0.a) (fun _ => rfl), of_keep h (·.sh0.pulseIn) (fun _ => rfl), of_keep h (·.sh0.pulse) (fun _ => rfl), of_keep h (·.sh0.from_) (fun _ => rfl)⟩

@[simp] theorem State.settleAt_sh1 (s : State) (t : Bool) :
    (s.settleAt t).sh1.loaded = s.sh1.loaded ∧ (s.settleAt t).sh1.cycle = s.sh1.cycle ∧ (s.settleAt t).sh1.recs = s.sh1.recs ∧ (s.settleAt t).sh1.crc = s.sh1.crc ∧ (s.settleAt t).sh1.a = s.sh1.a ∧ (s.settleAt t).sh1.pulseIn = s.sh1.pulseIn ∧ (s.settleAt t).sh1.pulse = s.sh1.pulse ∧ (s.settleAt t).sh1.from_ = s.sh1.from_ :=
  have h := State.settleAt_keep s t
  ⟨of_keep h (·.sh1.loaded) (fun _ => rfl), of_keep h (·.sh1.cycle) (fun _ => rfl), of_keep h (·.sh1.recs) (fun _ => rfl), of_keep h (·.sh1.crc) (fun _ => rfl), of_keep h (·.sh1.a) (fun _ => rfl), of_keep h (·.sh1.pulseIn) (fun _ => rfl), of_keep h (·.sh1.pulse) (fun _ => rfl), of_keep h (·.sh1.from_) (fun _ => rfl)⟩

@[simp] theorem State.settleAt_sout (s : State) (t : Bool) :
    (s.settleAt t).sout.gateOk = s.sout.gateOk ∧ (s.settleAt t).sout.gateTill = s.sout.gateTill ∧ (s.settleAt t).sout.ext = s.sout.ext ∧ (s.settleAt t).sout.barkAat = s.sout.barkAat ∧ (s.settleAt t).sout.barkBat = s.sout.barkBat ∧ (s.settleAt t).sout.monA = s.sout.monA ∧ (s.settleAt t).sout.monB = s.sout.monB ∧ (s.settleAt t).sout.checks = s.sout.checks ∧ (s.settleAt t).sout.cfgerr = s.sout.cfgerr ∧ (s.settleAt t).sout.osel = s.sout.osel :=
  have h := State.settleAt_keep s t
  ⟨of_keep h (·.sout.gateOk) (fun _ => rfl), of_keep h (·.sout.gateTill) (fun _ => rfl), of_keep h (·.sout.ext) (fun _ => rfl), of_keep h (·.sout.barkAat) (fun _ => rfl), of_keep h (·.sout.barkBat) (fun _ => rfl), of_keep h (·.sout.monA) (fun _ => rfl), of_keep h (·.sout.monB) (fun _ => rfl), of_keep h (·.sout.checks) (fun _ => rfl), of_keep h (·.sout.cfgerr) (fun _ => rfl), of_keep h (·.sout.osel) (fun _ => rfl)⟩

@[simp] theorem State.settleAt_mot (s : State) (t : Bool) :
    (s.settleAt t).mot.wsel = s.mot.wsel ∧ (s.settleAt t).mot.cfgerr = s.mot.cfgerr ∧ (s.settleAt t).mot.sched = s.mot.sched :=
  have h := State.settleAt_keep s t
  ⟨of_keep h (·.mot.wsel) (fun _ => rfl), of_keep h (·.mot.cfgerr) (fun _ => rfl), of_keep h (·.mot.sched) (fun _ => rfl)⟩

@[simp] theorem State.settleAt_yard (s : State) (t : Bool) :
    (s.settleAt t).yard.runs = s.yard.runs ∧ (s.settleAt t).yard.base = s.yard.base ∧ (s.settleAt t).yard.baseAt = s.yard.baseAt ∧ (s.settleAt t).yard.rate = s.yard.rate ∧ (s.settleAt t).yard.sync = s.yard.sync ∧ (s.settleAt t).yard.goodRun = s.yard.goodRun ∧ (s.settleAt t).yard.badRun = s.yard.badRun ∧ (s.settleAt t).yard.lastExch = s.yard.lastExch ∧ (s.settleAt t).yard.holdAt = s.yard.holdAt ∧ (s.settleAt t).yard.xch = s.yard.xch ∧ (s.settleAt t).yard.offset = s.yard.offset ∧ (s.settleAt t).yard.delay = s.yard.delay ∧ (s.settleAt t).yard.up = s.yard.up ∧ (s.settleAt t).yard.upPert = s.yard.upPert ∧ (s.settleAt t).yard.upSeen = s.yard.upSeen ∧ (s.settleAt t).yard.committed = s.yard.committed ∧ (s.settleAt t).yard.node = s.yard.node ∧ (s.settleAt t).yard.root = s.yard.root ∧ (s.settleAt t).yard.depth = s.yard.depth ∧ (s.settleAt t).yard.upnode = s.yard.upnode ∧ (s.settleAt t).yard.lockwait = s.yard.lockwait ∧ (s.settleAt t).yard.wlead = s.yard.wlead ∧ (s.settleAt t).yard.worig0 = s.yard.worig0 ∧ (s.settleAt t).yard.worig1 = s.yard.worig1 ∧ (s.settleAt t).yard.wstop0 = s.yard.wstop0 ∧ (s.settleAt t).yard.wstop1 = s.yard.wstop1 ∧ (s.settleAt t).yard.ports = s.yard.ports ∧ (s.settleAt t).yard.conns = s.yard.conns ∧ (s.settleAt t).yard.yins = s.yard.yins ∧ (s.settleAt t).yard.remote = s.yard.remote ∧ (s.settleAt t).yard.lcancel = s.yard.lcancel ∧ (s.settleAt t).yard.wseq = s.yard.wseq ∧ (s.settleAt t).yard.seen = s.yard.seen ∧ (s.settleAt t).yard.wpend = s.yard.wpend ∧ (s.settleAt t).yard.wforce = s.yard.wforce ∧ (s.settleAt t).yard.wclear = s.yard.wclear ∧ (s.settleAt t).yard.wcnt = s.yard.wcnt ∧ (s.settleAt t).yard.worigin = s.yard.worigin ∧ (s.settleAt t).yard.wltime = s.yard.wltime ∧ (s.settleAt t).yard.wlatch = s.yard.wlatch ∧ (s.settleAt t).yard.mrecv = s.yard.mrecv ∧ (s.settleAt t).yard.mlost = s.yard.mlost ∧ (s.settleAt t).yard.psel = s.yard.psel ∧ (s.settleAt t).yard.csel = s.yard.csel ∧ (s.settleAt t).yard.cfgerr = s.yard.cfgerr :=
  have h := State.settleAt_keep s t
  ⟨of_keep h (·.yard.runs) (fun _ => rfl), of_keep h (·.yard.base) (fun _ => rfl), of_keep h (·.yard.baseAt) (fun _ => rfl), of_keep h (·.yard.rate) (fun _ => rfl), of_keep h (·.yard.sync) (fun _ => rfl), of_keep h (·.yard.goodRun) (fun _ => rfl), of_keep h (·.yard.badRun) (fun _ => rfl), of_keep h (·.yard.lastExch) (fun _ => rfl), of_keep h (·.yard.holdAt) (fun _ => rfl), of_keep h (·.yard.xch) (fun _ => rfl), of_keep h (·.yard.offset) (fun _ => rfl), of_keep h (·.yard.delay) (fun _ => rfl), of_keep h (·.yard.up) (fun _ => rfl), of_keep h (·.yard.upPert) (fun _ => rfl), of_keep h (·.yard.upSeen) (fun _ => rfl), of_keep h (·.yard.committed) (fun _ => rfl), of_keep h (·.yard.node) (fun _ => rfl), of_keep h (·.yard.root) (fun _ => rfl), of_keep h (·.yard.depth) (fun _ => rfl), of_keep h (·.yard.upnode) (fun _ => rfl), of_keep h (·.yard.lockwait) (fun _ => rfl), of_keep h (·.yard.wlead) (fun _ => rfl), of_keep h (·.yard.worig0) (fun _ => rfl), of_keep h (·.yard.worig1) (fun _ => rfl), of_keep h (·.yard.wstop0) (fun _ => rfl), of_keep h (·.yard.wstop1) (fun _ => rfl), of_keep h (·.yard.ports) (fun _ => rfl), of_keep h (·.yard.conns) (fun _ => rfl), of_keep h (·.yard.yins) (fun _ => rfl), of_keep h (·.yard.remote) (fun _ => rfl), of_keep h (·.yard.lcancel) (fun _ => rfl), of_keep h (·.yard.wseq) (fun _ => rfl), of_keep h (·.yard.seen) (fun _ => rfl), of_keep h (·.yard.wpend) (fun _ => rfl), of_keep h (·.yard.wforce) (fun _ => rfl), of_keep h (·.yard.wclear) (fun _ => rfl), of_keep h (·.yard.wcnt) (fun _ => rfl), of_keep h (·.yard.worigin) (fun _ => rfl), of_keep h (·.yard.wltime) (fun _ => rfl), of_keep h (·.yard.wlatch) (fun _ => rfl), of_keep h (·.yard.mrecv) (fun _ => rfl), of_keep h (·.yard.mlost) (fun _ => rfl), of_keep h (·.yard.psel) (fun _ => rfl), of_keep h (·.yard.csel) (fun _ => rfl), of_keep h (·.yard.cfgerr) (fun _ => rfl)⟩

@[simp] theorem State.settleAt_flt (s : State) (t : Bool) :
    (s.settleAt t).flt.on = s.flt.on ∧ (s.settleAt t).flt.onAt = s.flt.onAt ∧ (s.settleAt t).flt.coll = s.flt.coll ∧ (s.settleAt t).flt.map = s.flt.map ∧ (s.settleAt t).flt.head = s.flt.head ∧ (s.settleAt t).flt.blocked = s.flt.blocked ∧ (s.settleAt t).flt.lasting = s.flt.lasting ∧ (s.settleAt t).flt.wrAband = s.flt.wrAband ∧ (s.settleAt t).flt.wrBad = s.flt.wrBad ∧ (s.settleAt t).flt.cutprev = s.flt.cutprev ∧ (s.settleAt t).flt.ridx = s.flt.ridx ∧ (s.settleAt t).flt.rwsel = s.flt.rwsel ∧ (s.settleAt t).flt.csel = s.flt.csel ∧ (s.settleAt t).flt.buf = s.flt.buf ∧ (s.settleAt t).flt.cfgerr = s.flt.cfgerr :=
  have h := State.settleAt_keep s t
  ⟨of_keep h (·.flt.on) (fun _ => rfl), of_keep h (·.flt.onAt) (fun _ => rfl), of_keep h (·.flt.coll) (fun _ => rfl), of_keep h (·.flt.map) (fun _ => rfl), of_keep h (·.flt.head) (fun _ => rfl), of_keep h (·.flt.blocked) (fun _ => rfl), of_keep h (·.flt.lasting) (fun _ => rfl), of_keep h (·.flt.wrAband) (fun _ => rfl), of_keep h (·.flt.wrBad) (fun _ => rfl), of_keep h (·.flt.cutprev) (fun _ => rfl), of_keep h (·.flt.ridx) (fun _ => rfl), of_keep h (·.flt.rwsel) (fun _ => rfl), of_keep h (·.flt.csel) (fun _ => rfl), of_keep h (·.flt.buf) (fun _ => rfl), of_keep h (·.flt.cfgerr) (fun _ => rfl)⟩

@[simp] theorem State.settleAt_farr (s : State) (t : Bool) :
    (s.settleAt t).farr.origin = s.farr.origin ∧ (s.settleAt t).farr.failHold = s.farr.failHold ∧ (s.settleAt t).farr.cur = s.farr.cur ∧ (s.settleAt t).farr.startAt = s.farr.startAt ∧ (s.settleAt t).farr.endAt = s.farr.endAt ∧ (s.settleAt t).farr.setAt = s.farr.setAt ∧ (s.settleAt t).farr.setOk = s.farr.setOk ∧ (s.settleAt t).farr.sel = s.farr.sel ∧ (s.settleAt t).farr.pass = s.farr.pass ∧ (s.settleAt t).farr.fail = s.farr.fail ∧ (s.settleAt t).farr.budget = s.farr.budget ∧ (s.settleAt t).farr.refuse = s.farr.refuse ∧ (s.settleAt t).farr.firstFail = s.farr.firstFail ∧ (s.settleAt t).farr.rsel = s.farr.rsel ∧ (s.settleAt t).farr.results = s.farr.results ∧ (s.settleAt t).farr.durs = s.farr.durs ∧ (s.settleAt t).farr.setdur = s.farr.setdur ∧ (s.settleAt t).farr.hostcnt = s.farr.hostcnt ∧ (s.settleAt t).farr.ran = s.farr.ran :=
  have h := State.settleAt_keep s t
  ⟨of_keep h (·.farr.origin) (fun _ => rfl), of_keep h (·.farr.failHold) (fun _ => rfl), of_keep h (·.farr.cur) (fun _ => rfl), of_keep h (·.farr.startAt) (fun _ => rfl), of_keep h (·.farr.endAt) (fun _ => rfl), of_keep h (·.farr.setAt) (fun _ => rfl), of_keep h (·.farr.setOk) (fun _ => rfl), of_keep h (·.farr.sel) (fun _ => rfl), of_keep h (·.farr.pass) (fun _ => rfl), of_keep h (·.farr.fail) (fun _ => rfl), of_keep h (·.farr.budget) (fun _ => rfl), of_keep h (·.farr.refuse) (fun _ => rfl), of_keep h (·.farr.firstFail) (fun _ => rfl), of_keep h (·.farr.rsel) (fun _ => rfl), of_keep h (·.farr.results) (fun _ => rfl), of_keep h (·.farr.durs) (fun _ => rfl), of_keep h (·.farr.setdur) (fun _ => rfl), of_keep h (·.farr.hostcnt) (fun _ => rfl), of_keep h (·.farr.ran) (fun _ => rfl)⟩

@[simp] theorem State.settleAt_cp (s : State) (t : Bool) :
    (s.settleAt t).cp.st = s.cp.st ∧ (s.settleAt t).cp.wrEnd = s.cp.wrEnd ∧ (s.settleAt t).cp.sdo = s.cp.sdo ∧ (s.settleAt t).cp.alertEn = s.cp.alertEn ∧ (s.settleAt t).cp.ylatch = s.cp.ylatch ∧ (s.settleAt t).cp.cycle = s.cp.cycle ∧ (s.settleAt t).cp.hostcmd = s.cp.hostcmd ∧ (s.settleAt t).cp.arg0 = s.cp.arg0 ∧ (s.settleAt t).cp.arg1 = s.cp.arg1 ∧ (s.settleAt t).cp.resp = s.cp.resp ∧ (s.settleAt t).cp.crcErr = s.cp.crcErr ∧ (s.settleAt t).cp.frmErr = s.cp.frmErr ∧ (s.settleAt t).cp.mbuf = s.cp.mbuf ∧ (s.settleAt t).cp.page = s.cp.page ∧ (s.settleAt t).cp.mbx = s.cp.mbx ∧ (s.settleAt t).cp.maint = s.cp.maint :=
  have h := State.settleAt_keep s t
  ⟨of_keep h (·.cp.st) (fun _ => rfl), of_keep h (·.cp.wrEnd) (fun _ => rfl), of_keep h (·.cp.sdo) (fun _ => rfl), of_keep h (·.cp.alertEn) (fun _ => rfl), of_keep h (·.cp.ylatch) (fun _ => rfl), of_keep h (·.cp.cycle) (fun _ => rfl), of_keep h (·.cp.hostcmd) (fun _ => rfl), of_keep h (·.cp.arg0) (fun _ => rfl), of_keep h (·.cp.arg1) (fun _ => rfl), of_keep h (·.cp.resp) (fun _ => rfl), of_keep h (·.cp.crcErr) (fun _ => rfl), of_keep h (·.cp.frmErr) (fun _ => rfl), of_keep h (·.cp.mbuf) (fun _ => rfl), of_keep h (·.cp.page) (fun _ => rfl), of_keep h (·.cp.mbx) (fun _ => rfl), of_keep h (·.cp.maint) (fun _ => rfl)⟩

@[simp] theorem State.settleAt_img (s : State) (t : Bool) :
    (s.settleAt t).img.fuses = s.img.fuses ∧ (s.settleAt t).img.keyFuse = s.img.keyFuse ∧ (s.settleAt t).img.keyEnr = s.img.keyEnr ∧ (s.settleAt t).img.erased = s.img.erased ∧ (s.settleAt t).img.erasing = s.img.erasing ∧ (s.settleAt t).img.erasedAt = s.img.erasedAt ∧ (s.settleAt t).img.cfgAct = s.img.cfgAct ∧ (s.settleAt t).img.running = s.img.running ∧ (s.settleAt t).img.cfgver = s.img.cfgver ∧ (s.settleAt t).img.pending = s.img.pending ∧ (s.settleAt t).img.loftAct = s.img.loftAct ∧ (s.settleAt t).img.loftFb = s.img.loftFb ∧ (s.settleAt t).img.noLoft = s.img.noLoft ∧ (s.settleAt t).img.loftVer = s.img.loftVer ∧ (s.settleAt t).img.seqOpen = s.img.seqOpen ∧ (s.settleAt t).img.verified = s.img.verified ∧ (s.settleAt t).img.wblocks = s.img.wblocks ∧ (s.settleAt t).img.cfgerr = s.img.cfgerr ∧ (s.settleAt t).img.verr = s.img.verr ∧ (s.settleAt t).img.lclast = s.img.lclast ∧ (s.settleAt t).img.xsel = s.img.xsel ∧ (s.settleAt t).img.agreed = s.img.agreed ∧ (s.settleAt t).img.imgArr = s.img.imgArr :=
  have h := State.settleAt_keep s t
  ⟨of_keep h (·.img.fuses) (fun _ => rfl), of_keep h (·.img.keyFuse) (fun _ => rfl), of_keep h (·.img.keyEnr) (fun _ => rfl), of_keep h (·.img.erased) (fun _ => rfl), of_keep h (·.img.erasing) (fun _ => rfl), of_keep h (·.img.erasedAt) (fun _ => rfl), of_keep h (·.img.cfgAct) (fun _ => rfl), of_keep h (·.img.running) (fun _ => rfl), of_keep h (·.img.cfgver) (fun _ => rfl), of_keep h (·.img.pending) (fun _ => rfl), of_keep h (·.img.loftAct) (fun _ => rfl), of_keep h (·.img.loftFb) (fun _ => rfl), of_keep h (·.img.noLoft) (fun _ => rfl), of_keep h (·.img.loftVer) (fun _ => rfl), of_keep h (·.img.seqOpen) (fun _ => rfl), of_keep h (·.img.verified) (fun _ => rfl), of_keep h (·.img.wblocks) (fun _ => rfl), of_keep h (·.img.cfgerr) (fun _ => rfl), of_keep h (·.img.verr) (fun _ => rfl), of_keep h (·.img.lclast) (fun _ => rfl), of_keep h (·.img.xsel) (fun _ => rfl), of_keep h (·.img.agreed) (fun _ => rfl), of_keep h (·.img.imgArr) (fun _ => rfl)⟩

theorem State.alertIf_same (s : State) (b : Bool) (n : Nat) :
    (if b then s.alert n else s).now = s.now ∧ (if b then s.alert n else s).free = s.free ∧ (if b then s.alert n else s).seq = s.seq ∧ (if b then s.alert n else s).clk = s.clk ∧ (if b then s.alert n else s).pair = s.pair ∧ (if b then s.alert n else s).fab = s.fab ∧ (if b then s.alert n else s).logic = s.logic ∧ (if b then s.alert n else s).sh0 = s.sh0 ∧ (if b then s.alert n else s).sh1 = s.sh1 ∧ (if b then s.alert n else s).sp = s.sp ∧ (if b then s.alert n else s).sin = s.sin ∧ (if b then s.alert n else s).sout = s.sout ∧ (if b then s.alert n else s).mot = s.mot ∧ (if b then s.alert n else s).col = s.col ∧ (if b then s.alert n else s).yard = s.yard ∧ (if b then s.alert n else s).flt = s.flt ∧ (if b then s.alert n else s).farr = s.farr ∧ (if b then s.alert n else s).img = s.img ∧ (if b then s.alert n else s).spook = s.spook ∧ (if b then s.alert n else s).fifos = s.fifos ∧ (if b then s.alert n else s).mram = s.mram ∧ (if b then s.alert n else s).pending = s.pending := by
  split
  · unfold State.alert; split <;> simp
  · simp

@[simp] theorem State.watch_same (old s : State) :
    (State.watch old s).now = s.now ∧ (State.watch old s).free = s.free ∧ (State.watch old s).seq = s.seq ∧ (State.watch old s).clk = s.clk ∧ (State.watch old s).pair = s.pair ∧ (State.watch old s).fab = s.fab ∧ (State.watch old s).logic = s.logic ∧ (State.watch old s).sh0 = s.sh0 ∧ (State.watch old s).sh1 = s.sh1 ∧ (State.watch old s).sp = s.sp ∧ (State.watch old s).sin = s.sin ∧ (State.watch old s).sout = s.sout ∧ (State.watch old s).mot = s.mot ∧ (State.watch old s).col = s.col ∧ (State.watch old s).yard = s.yard ∧ (State.watch old s).flt = s.flt ∧ (State.watch old s).farr = s.farr ∧ (State.watch old s).img = s.img ∧ (State.watch old s).spook = s.spook ∧ (State.watch old s).fifos = s.fifos ∧ (State.watch old s).mram = s.mram ∧ (State.watch old s).pending = s.pending := by
  simp only [State.watch, State.alertPin, State.alertIf_same, and_self]

@[simp] theorem State.watch_cp (old s : State) :
    (State.watch old s).cp.st = s.cp.st ∧ (State.watch old s).cp.wrEnd = s.cp.wrEnd ∧ (State.watch old s).cp.sdo = s.cp.sdo ∧ (State.watch old s).cp.alertEn = s.cp.alertEn ∧ (State.watch old s).cp.ylatch = s.cp.ylatch ∧ (State.watch old s).cp.cycle = s.cp.cycle ∧ (State.watch old s).cp.hostcmd = s.cp.hostcmd ∧ (State.watch old s).cp.arg0 = s.cp.arg0 ∧ (State.watch old s).cp.arg1 = s.cp.arg1 ∧ (State.watch old s).cp.resp = s.cp.resp ∧ (State.watch old s).cp.crcErr = s.cp.crcErr ∧ (State.watch old s).cp.frmErr = s.cp.frmErr ∧ (State.watch old s).cp.mbuf = s.cp.mbuf ∧ (State.watch old s).cp.page = s.cp.page ∧ (State.watch old s).cp.mbx = s.cp.mbx ∧ (State.watch old s).cp.maint = s.cp.maint :=
  have h := State.watch_keep old s
  ⟨of_keep h (·.cp.st) (fun _ => rfl), of_keep h (·.cp.wrEnd) (fun _ => rfl), of_keep h (·.cp.sdo) (fun _ => rfl), of_keep h (·.cp.alertEn) (fun _ => rfl), of_keep h (·.cp.ylatch) (fun _ => rfl), of_keep h (·.cp.cycle) (fun _ => rfl), of_keep h (·.cp.hostcmd) (fun _ => rfl), of_keep h (·.cp.arg0) (fun _ => rfl), of_keep h (·.cp.arg1) (fun _ => rfl), of_keep h (·.cp.resp) (fun _ => rfl), of_keep h (·.cp.crcErr) (fun _ => rfl), of_keep h (·.cp.frmErr) (fun _ => rfl), of_keep h (·.cp.mbuf) (fun _ => rfl), of_keep h (·.cp.page) (fun _ => rfl), of_keep h (·.cp.mbx) (fun _ => rfl), of_keep h (·.cp.maint) (fun _ => rfl)⟩

end Sys2Proof.Machine
end

