-- ==== Sys2Proof/Laws/Frames.lean ====
section
/-!
SUPPORT. Block by block, what the commands of a family leave as it was, apart from what an error's reaction and settling may change
(`State.keep`): one projection per family of commands, and one lemma per operation that a command of the family uses.
-/
set_option linter.unusedSimpArgs false

namespace Sys2Proof.Machine

theorem of_keep' {β : Type} {a b : State} (g : State → β) (hg : ∀ s, g s.keep = g s) (h : a.keep = b.keep) : g a = g b := by
  rw [← hg a, ← hg b, h]
/-- The fields of this block that `State.keep` leaves. -/
def kSeq (x : Seq) : Seq := { x with en := [], run := [], phase := .off, wait := .idle, todo := [], snapQ := [], snapLost := 0, snapBlocked := 0 }
/-- The fields of this block that `State.keep` leaves. -/
def kClk (x : Clk) : Clk := { x with rs := .off, held := false, warm := false }
/-- The fields of this block that `State.keep` leaves. -/
def kPair (x : Pair) : Pair := { x with kram := [], kgen := 0, regs0 := [], regs1 := [], restart := false }
/-- The fields of this block that `State.keep` leaves. -/
def kFab (x : Fab) : Fab := { x with rbSince := [], gate := [] }
/-- The fields of this block that `State.keep` leaves. -/
def kSout (x : Sout) : Sout := { x with outs := x.outs.map OutSt.keep, open_ := true, trig := 0, barkHold := false, barkA := false, barkB := false, test := none, testEnd := none }
/-- The fields of this block that `State.keep` leaves. -/
def kMot (x : Mot) : Mot := { x with wheels := x.wheels.map Wheel.keep }
/-- The fields of this block that `State.keep` leaves. -/
def kYard (x : Yard) : Yard := { x with pend := [] }
/-- The fields of this block that `State.keep` leaves. -/
def kFlt (x : Flt) : Flt := { x with fstat := 0, line := 0, occ := [], rec? := none, recno := 0, due := [], opened := [], supNow := [], supAt := 0, supAlert := false, notesup := 0, item1 := none, smp := 0, smpStop := 0, smpAt := 0 }
/-- The fields of this block that `State.keep` leaves. -/
def kFarr (x : Farr) : Farr := { x with stopped := false, todo := [], busy := false }
/-- The fields of this block that `State.keep` leaves. -/
def kCp (x : Cp) : Cp := { x with on := false, alertSrc := 0, alertNow := 0, alertAt := 0, alertN := false }
/-- The fields of this block that `State.keep` leaves. -/
def kImg (x : Img) : Img := { x with loft := false }

theorem kMot_keep (s : State) : kMot s.keep.mot = kMot s.mot := by
  show ({ s.keep.mot with wheels := (s.mot.wheels.map Wheel.keep).map Wheel.keep } : Mot) = _
  rw [List.map_map]; rfl
theorem kSout_keep (s : State) : kSout s.keep.sout = kSout s.sout := by
  show ({ s.keep.sout with outs := (s.sout.outs.map OutSt.keep).map OutSt.keep } : Sout) = _
  rw [List.map_map]; rfl

/-! ## The control port, the images, the yard and the FIFOs -/

/-- All but the control port, the images, the yard and the FIFOs, and but the fields that `State.keep` blanks. -/
def State.offHost (s : State) := (kSeq s.seq, kClk s.clk, kPair s.pair, kFab s.fab, Sheet.keep s.sh0, Sheet.keep s.sh1, s.sp, s.sin, kSout s.sout, kMot s.mot, s.col, kFlt s.flt, kFarr s.farr, s.spook, s.mram, s.pending)

theorem offHost_of_keep {a b : State} (h : a.keep = b.keep) : a.offHost = b.offHost := of_keep' (fun s => (kSeq s.seq, kClk s.clk, kPair s.pair, kFab s.fab, Sheet.keep s.sh0, Sheet.keep s.sh1, s.sp, s.sin, kSout s.sout, kMot s.mot, s.col, kFlt s.flt, kFarr s.farr, s.spook, s.mram, s.pending)) (fun s => by
  have hm : kMot s.keep.mot = kMot s.mot := kMot_keep s
  have ho : kSout s.keep.sout = kSout s.sout := kSout_keep s
  try rw [hm]
  try rw [ho]
  rfl) h

theorem offHost_mk (now free seq clk pair fab logic sh0 sh1 sp sin sout mot col yard flt farr cp img spook fifos mram pending) : State.offHost ⟨now, free, seq, clk, pair, fab, logic, sh0, sh1, sp, sin, sout, mot, col, yard, flt, farr, cp, img, spook, fifos, mram, pending⟩ = (kSeq seq, kClk clk, kPair pair, kFab fab, Sheet.keep sh0, Sheet.keep sh1, sp, sin, kSout sout, kMot mot, col, kFlt flt, kFarr farr, spook, mram, pending) := Eq.trans rfl rfl

theorem offHost_eta (s : State) : (kSeq s.seq, kClk s.clk, kPair s.pair, kFab s.fab, Sheet.keep s.sh0, Sheet.keep s.sh1, s.sp, s.sin, kSout s.sout, kMot s.mot, s.col, kFlt s.flt, kFarr s.farr, s.spook, s.mram, s.pending) = s.offHost := Eq.trans rfl rfl

theorem foldl_offHost {α : Type} (f : State → α → State) (h : ∀ s a, (f s a).offHost = s.offHost) (l : List α) (s : State) : (l.foldl f s).offHost = s.offHost := foldl_same State.offHost f h l s

theorem offHost_frame {a b : State} (h : a.offHost = b.offHost) :
    { a.keep with now := b.now, cp := b.keep.cp, img := b.keep.img, fifos := b.fifos, yard := b.keep.yard } = b.keep :=
  congrArg (fun x => match x with | (seq, clk, pair, fab, sh0, sh1, sp, sin, sout, mot, col, flt, farr, spook, mram, pending) => (⟨b.now, 0, seq, clk, pair, fab, {}, sh0, sh1, sp, sin, sout, mot, col, b.keep.yard, flt, farr, b.keep.cp, b.keep.img, spook, b.fifos, mram, pending⟩ : State)) h

theorem State.modYport_offHost (s : State) (n : Nat) (f : YPort → YPort) : (State.modYport s n f).offHost = s.offHost := by
  simp only [State.modYport, foldl_offHost, apply_ite State.offHost, ite_self, implies_true, offHost_mk, offHost_eta]

theorem State.modFifo_offHost (s : State) (n : Nat) (f : Fifo → Fifo) : (State.modFifo s n f).offHost = s.offHost := by
  simp only [State.modFifo, foldl_offHost, apply_ite State.offHost, ite_self, implies_true, offHost_mk, offHost_eta]

theorem State.fresh_offHost (s : State) : (State.fresh s).offHost = s.offHost := by
  simp only [State.fresh, foldl_offHost, apply_ite State.offHost, ite_self, implies_true, offHost_mk, offHost_eta]

theorem State.alert_offHost (s : State) (n : Nat) : (State.alert s n).offHost = s.offHost := offHost_of_keep (by simp)

theorem State.mbxEnd_offHost (s : State) (result : Nat) : (State.mbxEnd s result).offHost = s.offHost := by
  unfold State.mbxEnd
  (try dsimp only)
  (repeat' split) <;> first | with_reducible rfl | simp only [State.alert_offHost, foldl_offHost, apply_ite State.offHost, ite_self, implies_true, offHost_mk, offHost_eta]

theorem State.loftStop_offHost (s : State) : (State.loftStop s).offHost = s.offHost := by
  simp only [State.loftStop, State.mbxEnd_offHost, foldl_offHost, apply_ite State.offHost, ite_self, implies_true, offHost_mk, offHost_eta]

theorem State.err_offHost (s : State) (src : Src) (detail : Nat) : (State.err s src detail).offHost = s.offHost := offHost_of_keep (by simp)

theorem whenLive_offHost (s : State) (f : State → State) (hf : ∀ x0, (f x0).offHost = x0.offHost) : (whenLive s f).offHost = s.offHost := by
  simp only [whenLive, foldl_offHost, apply_ite State.offHost, ite_self, implies_true, offHost_mk, offHost_eta, *]

theorem State.groomReset_offHost (s : State) : (State.groomReset s).offHost = s.offHost := by
  simp only [State.groomReset, State.loftStop_offHost, State.err_offHost, foldl_offHost, apply_ite State.offHost, ite_self, implies_true, offHost_mk, offHost_eta]

theorem State.fifoPush_offHost (s : State) (n : Nat) (d : Datum) : (State.fifoPush s n d).offHost = s.offHost := by
  simp only [State.fifoPush, State.modFifo_offHost, foldl_offHost, apply_ite State.offHost, ite_self, implies_true, offHost_mk, offHost_eta]

theorem State.fifoTake_offHost (s : State) (n : Nat) : (State.fifoTake s n).offHost = s.offHost := by
  simp only [State.fifoTake, State.modFifo_offHost, foldl_offHost, apply_ite State.offHost, ite_self, implies_true, offHost_mk, offHost_eta]

theorem State.mbxUnknown_offHost (s : State) : (State.mbxUnknown s).offHost = s.offHost := by
  unfold State.mbxUnknown
  (try dsimp only)
  (repeat' split) <;> first | with_reducible rfl | simp only [State.mbxEnd_offHost, State.fifoTake_offHost, foldl_offHost, apply_ite State.offHost, ite_self, implies_true, offHost_mk, offHost_eta]

theorem State.queue_offHost (s : State) (arr : Option Nat) (f : LinkFrame) : (State.queue s arr f).offHost = s.offHost := by
  simp only [State.queue, State.modYport_offHost, foldl_offHost, apply_ite State.offHost, ite_self, implies_true, offHost_mk, offHost_eta]

theorem State.drainTx_offHost (s : State) (n : Nat) : (State.drainTx s n).offHost = s.offHost := by
  unfold State.drainTx
  refine (foldl_offHost _ (fun s d => ?_) _ _).trans (State.fifoTake_offHost _ _)
  (try dsimp only)
  (repeat' split) <;> first | rfl | simp only [State.modYport_offHost, State.queue_offHost, foldl_offHost, apply_ite State.offHost, ite_self, implies_true, offHost_mk, offHost_eta]

theorem State.sendOwn_offHost (s : State) (n : Nat) (f : LinkFrame) : (State.sendOwn s n f).offHost = s.offHost := by
  simp only [State.sendOwn, State.fifoPush_offHost, State.drainTx_offHost, foldl_offHost, apply_ite State.offHost, ite_self, implies_true, offHost_mk, offHost_eta]

theorem State.serve_offHost (s : State) (code : Nat) (bootRom : Bool) (f : Mbx → State → State) (hf : ∀ x0 x1, (f x0 x1).offHost = x1.offHost) : (State.serve s code bootRom f).offHost = s.offHost := by
  unfold State.serve
  refine whenLive_offHost _ _ (fun s => ?_)
  (try dsimp only)
  (repeat' split) <;> first | rfl | simp only [hf, State.modFifo_offHost, State.mbxEnd_offHost]

theorem State.setArg0_offHost (s : State) (v : Nat) : (State.setArg0 s v).offHost = s.offHost := by
  simp only [State.setArg0, foldl_offHost, apply_ite State.offHost, ite_self, implies_true, offHost_mk, offHost_eta]

theorem State.setArg1_offHost (s : State) (v : Nat) : (State.setArg1 s v).offHost = s.offHost := by
  simp only [State.setArg1, foldl_offHost, apply_ite State.offHost, ite_self, implies_true, offHost_mk, offHost_eta]

theorem State.onPort_offHost (s : State) (f : State → State) (hf : ∀ x0, (f x0).offHost = x0.offHost) : (State.onPort s f).offHost = s.offHost := by
  simp only [State.onPort, foldl_offHost, apply_ite State.offHost, ite_self, implies_true, offHost_mk, offHost_eta, *]

theorem State.alertWrite_offHost (s : State) (v : Word) : (State.alertWrite s v).offHost = s.offHost := by
  simp only [State.alertWrite, foldl_offHost, apply_ite State.offHost, ite_self, implies_true, offHost_mk, offHost_eta]

theorem State.loftRuns_offHost (s : State) (bank : Nat) (fallback : Bool) : (State.loftRuns s bank fallback).offHost = s.offHost := by
  simp only [State.loftRuns, foldl_offHost, apply_ite State.offHost, ite_self, implies_true, offHost_mk, offHost_eta]

theorem State.loftStarts_offHost (s : State) : (State.loftStarts s).offHost = s.offHost := by
  unfold State.loftStarts
  (try dsimp only)
  (repeat' split) <;> first | with_reducible rfl | simp only [State.err_offHost, State.loftRuns_offHost, foldl_offHost, apply_ite State.offHost, ite_self, implies_true, offHost_mk, offHost_eta]

theorem State.echoes_offHost (m : Mbx) (s : State) : (State.echoes m s).offHost = s.offHost := by
  simp only [State.echoes, State.mbxEnd_offHost, foldl_offHost, apply_ite State.offHost, ite_self, implies_true, offHost_mk, offHost_eta]

theorem State.tellUid_offHost (_m : Mbx) (s : State) : (State.tellUid _m s).offHost = s.offHost := by
  simp only [State.tellUid, State.mbxEnd_offHost, foldl_offHost, apply_ite State.offHost, ite_self, implies_true, offHost_mk, offHost_eta]

theorem State.maintAsk_offHost (s : State) (ok : Bool) (enter : Bool) : (State.maintAsk s ok enter).offHost = s.offHost := by
  simp only [State.maintAsk, State.mbxEnd_offHost, foldl_offHost, apply_ite State.offHost, ite_self, implies_true, offHost_mk, offHost_eta]

theorem State.imgBegins_offHost (m : Mbx) (s : State) : (State.imgBegins m s).offHost = s.offHost := by
  simp only [State.imgBegins, State.mbxEnd_offHost, foldl_offHost, apply_ite State.offHost, ite_self, implies_true, offHost_mk, offHost_eta]

theorem State.noSequence_offHost (s : State) : (State.noSequence s).offHost = s.offHost := by
  simp only [State.noSequence, State.fresh_offHost, State.mbxEnd_offHost, foldl_offHost, apply_ite State.offHost, ite_self, implies_true, offHost_mk, offHost_eta]

theorem State.inSequence_offHost (s : State) (f : Nat → State → State) (hf : ∀ x0 x1, (f x0 x1).offHost = x1.offHost) : (State.inSequence s f).offHost = s.offHost := by
  unfold State.inSequence
  (try dsimp only)
  (repeat' split) <;> first | with_reducible rfl | simp only [State.mbxEnd_offHost, State.noSequence_offHost, foldl_offHost, apply_ite State.offHost, ite_self, implies_true, offHost_mk, offHost_eta, *]

theorem State.showCode_offHost (s : State) (code : Nat) : (State.showCode s code).offHost = s.offHost := by
  simp only [State.showCode, State.setArg0_offHost, foldl_offHost, apply_ite State.offHost, ite_self, implies_true, offHost_mk, offHost_eta]

theorem State.imgVerifies_offHost (_m : Mbx) (s : State) : (State.imgVerifies _m s).offHost = s.offHost := by
  simp only [State.imgVerifies, State.mbxEnd_offHost, State.inSequence_offHost, State.showCode_offHost, foldl_offHost, apply_ite State.offHost, ite_self, implies_true, offHost_mk, offHost_eta]

theorem State.msend_offHost (m : Mbx) (s : State) : (State.msend m s).offHost = s.offHost := by
  simp only [State.msend, State.mbxEnd_offHost, State.sendOwn_offHost, foldl_offHost, apply_ite State.offHost, ite_self, implies_true, offHost_mk, offHost_eta]

theorem State.mrecvs_offHost (_m : Mbx) (s : State) : (State.mrecvs _m s).offHost = s.offHost := by
  unfold State.mrecvs
  (try dsimp only)
  (repeat' split) <;> first | with_reducible rfl | simp only [State.mbxEnd_offHost, State.setArg0_offHost, State.setArg1_offHost, foldl_offHost, apply_ite State.offHost, ite_self, implies_true, offHost_mk, offHost_eta]


/-! ## The yard, its FIFOs and the control port -/

/-- All but the yard, its FIFOs and the control port, and but the fields that `State.keep` blanks. -/
def State.offYard (s : State) := (kSeq s.seq, kClk s.clk, kPair s.pair, kFab s.fab, Sheet.keep s.sh0, Sheet.keep s.sh1, s.sp, s.sin, kSout s.sout, kMot s.mot, s.col, kFlt s.flt, kFarr s.farr, kImg s.img, s.spook, s.mram, s.pending)

theorem offYard_of_keep {a b : State} (h : a.keep = b.keep) : a.offYard = b.offYard := of_keep' (fun s => (kSeq s.seq, kClk s.clk, kPair s.pair, kFab s.fab, Sheet.keep s.sh0, Sheet.keep s.sh1, s.sp, s.sin, kSout s.sout, kMot s.mot, s.col, kFlt s.flt, kFarr s.farr, kImg s.img, s.spook, s.mram, s.pending)) (fun s => by
  have hm : kMot s.keep.mot = kMot s.mot := kMot_keep s
  have ho : kSout s.keep.sout = kSout s.sout := kSout_keep s
  try rw [hm]
  try rw [ho]
  rfl) h

theorem offYard_mk (now free seq clk pair fab logic sh0 sh1 sp sin sout mot col yard flt farr cp img spook fifos mram pending) : State.offYard ⟨now, free, seq, clk, pair, fab, logic, sh0, sh1, sp, sin, sout, mot, col, yard, flt, farr, cp, img, spook, fifos, mram, pending⟩ = (kSeq seq, kClk clk, kPair pair, kFab fab, Sheet.keep sh0, Sheet.keep sh1, sp, sin, kSout sout, kMot mot, col, kFlt flt, kFarr farr, kImg img, spook, mram, pending) := Eq.trans rfl rfl

theorem offYard_eta (s : State) : (kSeq s.seq, kClk s.clk, kPair s.pair, kFab s.fab, Sheet.keep s.sh0, Sheet.keep s.sh1, s.sp, s.sin, kSout s.sout, kMot s.mot, s.col, kFlt s.flt, kFarr s.farr, kImg s.img, s.spook, s.mram, s.pending) = s.offYard := Eq.trans rfl rfl

theorem foldl_offYard {α : Type} (f : State → α → State) (h : ∀ s a, (f s a).offYard = s.offYard) (l : List α) (s : State) : (l.foldl f s).offYard = s.offYard := foldl_same State.offYard f h l s

theorem offYard_frame {a b : State} (h : a.offYard = b.offYard) :
    { a.keep with now := b.now, yard := b.keep.yard, fifos := b.fifos, cp := b.keep.cp } = b.keep :=
  congrArg (fun x => match x with | (seq, clk, pair, fab, sh0, sh1, sp, sin, sout, mot, col, flt, farr, img, spook, mram, pending) => (⟨b.now, 0, seq, clk, pair, fab, {}, sh0, sh1, sp, sin, sout, mot, col, b.keep.yard, flt, farr, b.keep.cp, img, spook, b.fifos, mram, pending⟩ : State)) h

theorem State.modConn_offYard (s : State) (n : Nat) (f : Conn → Conn) : (State.modConn s n f).offYard = s.offYard := by
  simp only [State.modConn, foldl_offYard, apply_ite State.offYard, ite_self, implies_true, offYard_mk, offYard_eta]

theorem State.modYport_offYard (s : State) (n : Nat) (f : YPort → YPort) : (State.modYport s n f).offYard = s.offYard := by
  simp only [State.modYport, foldl_offYard, apply_ite State.offYard, ite_self, implies_true, offYard_mk, offYard_eta]

theorem State.modFifo_offYard (s : State) (n : Nat) (f : Fifo → Fifo) : (State.modFifo s n f).offYard = s.offYard := by
  simp only [State.modFifo, foldl_offYard, apply_ite State.offYard, ite_self, implies_true, offYard_mk, offYard_eta]

theorem State.fresh_offYard (s : State) : (State.fresh s).offYard = s.offYard := by
  simp only [State.fresh, foldl_offYard, apply_ite State.offYard, ite_self, implies_true, offYard_mk, offYard_eta]

theorem State.alert_offYard (s : State) (n : Nat) : (State.alert s n).offYard = s.offYard := offYard_of_keep (by simp)

theorem State.mbxEnd_offYard (s : State) (result : Nat) : (State.mbxEnd s result).offYard = s.offYard := by
  unfold State.mbxEnd
  (try dsimp only)
  (repeat' split) <;> first | with_reducible rfl | simp only [State.alert_offYard, foldl_offYard, apply_ite State.offYard, ite_self, implies_true, offYard_mk, offYard_eta]

theorem State.raise_offYard (s : State) (src : Src) (detail : Nat) (rule : Cls) : (State.raise s src detail rule).offYard = s.offYard := offYard_of_keep (by simp)

theorem State.err_offYard (s : State) (src : Src) (detail : Nat) : (State.err s src detail).offYard = s.offYard := offYard_of_keep (by simp)

theorem whenLive_offYard (s : State) (f : State → State) (hf : ∀ x0, (f x0).offYard = x0.offYard) : (whenLive s f).offYard = s.offYard := by
  simp only [whenLive, foldl_offYard, apply_ite State.offYard, ite_self, implies_true, offYard_mk, offYard_eta, *]

theorem State.fifoPush_offYard (s : State) (n : Nat) (d : Datum) : (State.fifoPush s n d).offYard = s.offYard := by
  simp only [State.fifoPush, State.modFifo_offYard, foldl_offYard, apply_ite State.offYard, ite_self, implies_true, offYard_mk, offYard_eta]

theorem State.fifoTake_offYard (s : State) (n : Nat) : (State.fifoTake s n).offYard = s.offYard := by
  simp only [State.fifoTake, State.modFifo_offYard, foldl_offYard, apply_ite State.offYard, ite_self, implies_true, offYard_mk, offYard_eta]

theorem State.portDown_offYard (s : State) (p : Nat) : (State.portDown s p).offYard = s.offYard := by
  simp only [State.portDown, State.modYport_offYard, State.err_offYard, foldl_offYard, apply_ite State.offYard, ite_self, implies_true, offYard_mk, offYard_eta]

theorem State.ackSet_offYard (s : State) (p : Nat) (seq : Byte) (compl : Byte) : (State.ackSet s p seq compl).offYard = s.offYard := by
  simp only [State.ackSet, State.modYport_offYard, State.err_offYard, foldl_offYard, apply_ite State.offYard, ite_self, implies_true, offYard_mk, offYard_eta]

theorem State.ackLate_offYard (s : State) (p : Nat) : (State.ackLate s p).offYard = s.offYard := by
  unfold State.ackLate
  (try dsimp only)
  (repeat' split) <;> first | with_reducible rfl | simp only [State.modYport_offYard, State.portDown_offYard, foldl_offYard, apply_ite State.offYard, ite_self, implies_true, offYard_mk, offYard_eta]

theorem State.queue_offYard (s : State) (arr : Option Nat) (f : LinkFrame) : (State.queue s arr f).offYard = s.offYard := by
  simp only [State.queue, State.modYport_offYard, foldl_offYard, apply_ite State.offYard, ite_self, implies_true, offYard_mk, offYard_eta]

theorem State.drainTx_offYard (s : State) (n : Nat) : (State.drainTx s n).offYard = s.offYard := by
  unfold State.drainTx
  refine (foldl_offYard _ (fun s d => ?_) _ _).trans (State.fifoTake_offYard _ _)
  (try dsimp only)
  (repeat' split) <;> first | rfl | simp only [State.modYport_offYard, State.queue_offYard, foldl_offYard, apply_ite State.offYard, ite_self, implies_true, offYard_mk, offYard_eta]

theorem State.sendOwn_offYard (s : State) (n : Nat) (f : LinkFrame) : (State.sendOwn s n f).offYard = s.offYard := by
  simp only [State.sendOwn, State.fifoPush_offYard, State.drainTx_offYard, foldl_offYard, apply_ite State.offYard, ite_self, implies_true, offYard_mk, offYard_eta]

theorem State.mgmtView_offYard (s : State) (src : Nat) : (State.mgmtView s src).offYard = s.offYard := by
  simp only [State.mgmtView, State.fresh_offYard, foldl_offYard, apply_ite State.offYard, ite_self, implies_true, offYard_mk, offYard_eta]

theorem State.drainMgmt_offYard (s : State) : (State.drainMgmt s).offYard = s.offYard := by
  unfold State.drainMgmt
  split
  · refine (foldl_offYard _ (fun s d => ?_) _ _).trans (State.fifoTake_offYard _ _)
    (try dsimp only)
    (repeat' split) <;> first | rfl | simp only [State.mgmtView_offYard, State.alert_offYard, foldl_offYard, apply_ite State.offYard, ite_self, implies_true, offYard_mk, offYard_eta]
  · rfl

theorem State.receive_offYard (s : State) (p : Nat) (l : List Byte) (f : State → LinkFrame → State) (hf : ∀ x0 x1, (f x0 x1).offYard = x0.offYard) : (State.receive s p l f).offYard = s.offYard := by
  unfold State.receive
  (try dsimp only)
  (repeat' split) <;> first | with_reducible rfl | simp only [State.modYport_offYard, State.err_offYard, foldl_offYard, apply_ite State.offYard, ite_self, implies_true, offYard_mk, offYard_eta, *]

theorem State.sequenced_offYard (s : State) (p : Nat) (fr : LinkFrame) (f : State → State) (hf : ∀ x0, (f x0).offYard = x0.offYard) : (State.sequenced s p fr f).offYard = s.offYard := by
  simp only [State.sequenced, State.modYport_offYard, foldl_offYard, apply_ite State.offYard, ite_self, implies_true, offYard_mk, offYard_eta, *]

theorem State.modConnCh_offYard (s : State) (i : Nat) (isA : Bool) (f : ConnCh → ConnCh) : (State.modConnCh s i isA f).offYard = s.offYard := by
  simp only [State.modConnCh, State.modConn_offYard, foldl_offYard, apply_ite State.offYard, ite_self, implies_true, offYard_mk, offYard_eta]

theorem State.yardRemotes_offYard (s : State) (i : Nat) : (State.yardRemotes s i).offYard = s.offYard := by
  simp only [State.yardRemotes, foldl_offYard, apply_ite State.offYard, ite_self, implies_true, offYard_mk, offYard_eta]

theorem State.connEnter_offYard (s : State) (i : Nat) (isA : Bool) (d : DState) : (State.connEnter s i isA d).offYard = s.offYard := by
  unfold State.connEnter
  (try dsimp only)
  (repeat' split) <;> first | with_reducible rfl | simp only [State.modConn_offYard, State.raise_offYard, State.err_offYard, State.modConnCh_offYard, State.yardRemotes_offYard, foldl_offYard, apply_ite State.offYard, ite_self, implies_true, offYard_mk, offYard_eta]

theorem State.connPre_offYard (s : State) (i : Nat) (isA : Bool) (bcast : Bool) (l : List Byte) (arr : Nat) : (State.connPre s i isA bcast l arr).offYard = s.offYard := by
  simp only [State.connPre, State.modConn_offYard, State.err_offYard, State.modConnCh_offYard, State.connEnter_offYard, foldl_offYard, apply_ite State.offYard, ite_self, implies_true, offYard_mk, offYard_eta]

theorem State.connTake_offYard (s : State) (i : Nat) (isA : Bool) (f : SFrame) : (State.connTake s i isA f).offYard = s.offYard := by
  simp only [State.connTake, State.err_offYard, State.modConnCh_offYard, State.yardRemotes_offYard, State.connEnter_offYard, foldl_offYard, apply_ite State.offYard, ite_self, implies_true, offYard_mk, offYard_eta]

theorem State.connDue_offYard (s : State) (i : Nat) (isA : Bool) : (State.connDue s i isA).offYard = s.offYard := by
  simp only [State.connDue, State.modConnCh_offYard, State.connTake_offYard, foldl_offYard, apply_ite State.offYard, ite_self, implies_true, offYard_mk, offYard_eta]

theorem State.deliverSafety_offYard (s : State) (p : Nat) (fr : LinkFrame) : (State.deliverSafety s p fr).offYard = s.offYard := by
  unfold State.deliverSafety
  (try dsimp only)
  (repeat' split) <;> first | with_reducible rfl | simp only [State.fifoPush_offYard, State.connPre_offYard, State.connDue_offYard, foldl_offYard, apply_ite State.offYard, ite_self, implies_true, offYard_mk, offYard_eta]

theorem State.safetyData_offYard (s : State) (p : Nat) (l : List Byte) : (State.safetyData s p l).offYard = s.offYard := by
  simp only [State.safetyData, State.queue_offYard, State.receive_offYard, State.sequenced_offYard, State.deliverSafety_offYard, foldl_offYard, apply_ite State.offYard, ite_self, implies_true, offYard_mk, offYard_eta]

theorem State.openIn_offYard (s : State) (l : List Byte) : (State.openIn s l).offYard = s.offYard := by
  unfold State.openIn
  (try dsimp only)
  (repeat' split) <;> first | with_reducible rfl | simp only [State.modConn_offYard, foldl_offYard, apply_ite State.offYard, ite_self, implies_true, offYard_mk, offYard_eta]

theorem State.safetyOpen_offYard (s : State) (p : Nat) (l : List Byte) : (State.safetyOpen s p l).offYard = s.offYard := by
  simp only [State.safetyOpen, State.queue_offYard, State.receive_offYard, State.sequenced_offYard, State.openIn_offYard, foldl_offYard, apply_ite State.offYard, ite_self, implies_true, offYard_mk, offYard_eta]

theorem State.mgmtFrame_offYard (s : State) (p : Nat) (l : List Byte) : (State.mgmtFrame s p l).offYard = s.offYard := by
  simp only [State.mgmtFrame, State.fifoPush_offYard, State.queue_offYard, State.drainMgmt_offYard, State.receive_offYard, State.sequenced_offYard, foldl_offYard, apply_ite State.offYard, ite_self, implies_true, offYard_mk, offYard_eta]

theorem State.openSend_offYard (s : State) (i : Nat) : (State.openSend s i).offYard = s.offYard := by
  simp only [State.openSend, State.modConn_offYard, State.fresh_offYard, State.sendOwn_offYard, foldl_offYard, apply_ite State.offYard, ite_self, implies_true, offYard_mk, offYard_eta]

theorem State.yardQrel_offYard (s : State) (v : Word) : (State.yardQrel s v).offYard = s.offYard := by
  simp only [State.yardQrel, State.connEnter_offYard, foldl_offYard, apply_ite State.offYard, ite_self, implies_true, offYard_mk, offYard_eta]

theorem State.helloSend_offYard (s : State) (p : Nat) : (State.helloSend s p).offYard = s.offYard := by
  simp only [State.helloSend, State.modYport_offYard, State.fresh_offYard, foldl_offYard, apply_ite State.offYard, ite_self, implies_true, offYard_mk, offYard_eta]

theorem State.helloIn_offYard (s : State) (p : Nat) (l : List Byte) : (State.helloIn s p l).offYard = s.offYard := by
  simp only [State.helloIn, State.modYport_offYard, State.err_offYard, State.receive_offYard, foldl_offYard, apply_ite State.offYard, ite_self, implies_true, offYard_mk, offYard_eta]

theorem State.setSync_offYard (s : State) (n : SyncState) : (State.setSync s n).offYard = s.offYard := by
  simp only [State.setSync, State.err_offYard, foldl_offYard, apply_ite State.offYard, ite_self, implies_true, offYard_mk, offYard_eta]

theorem State.upReport_offYard (s : State) (u : SyncState) : (State.upReport s u).offYard = s.offYard := by
  unfold State.upReport
  (try dsimp only)
  (repeat' split) <;> first | with_reducible rfl | simp only [State.setSync_offYard, foldl_offYard, apply_ite State.offYard, ite_self, implies_true, offYard_mk, offYard_eta]

theorem State.exchStart_offYard (s : State) (p : Nat) : (State.exchStart s p).offYard = s.offYard := by
  simp only [State.exchStart, State.modYport_offYard, foldl_offYard, apply_ite State.offYard, ite_self, implies_true, offYard_mk, offYard_eta]

theorem State.timeIn_offYard (s : State) (p : Nat) (l : List Byte) (sub : Nat) (f : State → List Byte → State) (hf : ∀ x0 x1, (f x0 x1).offYard = x0.offYard) : (State.timeIn s p l sub f).offYard = s.offYard := by
  simp only [State.timeIn, State.receive_offYard, foldl_offYard, apply_ite State.offYard, ite_self, implies_true, offYard_mk, offYard_eta, *]

theorem State.syncIn_offYard (s : State) (l : List Byte) : (State.syncIn s l).offYard = s.offYard := by
  simp only [State.syncIn, State.modYport_offYard, State.upReport_offYard, State.timeIn_offYard, foldl_offYard, apply_ite State.offYard, ite_self, implies_true, offYard_mk, offYard_eta]

theorem State.dreqIn_offYard (s : State) (p : Nat) (l : List Byte) : (State.dreqIn s p l).offYard = s.offYard := by
  simp only [State.dreqIn, State.modYport_offYard, State.timeIn_offYard, foldl_offYard, apply_ite State.offYard, ite_self, implies_true, offYard_mk, offYard_eta]

theorem State.holdoverNow_offYard (s : State) : (State.holdoverNow s).offYard = s.offYard := by
  simp only [State.holdoverNow, State.setSync_offYard, foldl_offYard, apply_ite State.offYard, ite_self, implies_true, offYard_mk, offYard_eta]

theorem State.syncLostNow_offYard (s : State) : (State.syncLostNow s).offYard = s.offYard := by
  simp only [State.syncLostNow, State.setSync_offYard, foldl_offYard, apply_ite State.offYard, ite_self, implies_true, offYard_mk, offYard_eta]

theorem State.whistleAct_offYard (s : State) : (State.whistleAct s).offYard = s.offYard := by
  have hm : ∀ s : State, (s.mapOuts (fun n o => if s.wstopOut n then { o with p := { o.p with gate := false }, m := { o.m with gate := false } } else o)).offYard = s.offYard :=
    fun s => offYard_of_keep (s.mapOuts_keep _ (fun _ _ => by split <;> rfl))
  unfold State.whistleAct
  split
  · dsimp only
    split
    · simp only [offYard_mk, offYard_eta]
      exact hm s
    · simp only [State.err_offYard, offYard_mk, offYard_eta]
      exact hm s
  · rfl

theorem State.whistleIn_offYard (s : State) (p : Nat) (l : List Byte) (aborted : Bool) : (State.whistleIn s p l aborted).offYard = s.offYard := by
  simp only [State.whistleIn, State.modYport_offYard, State.err_offYard, State.whistleAct_offYard, foldl_offYard, apply_ite State.offYard, ite_self, implies_true, offYard_mk, offYard_eta]

theorem State.whistleDue_offYard (s : State) : (State.whistleDue s).offYard = s.offYard := by
  unfold State.whistleDue
  (try dsimp only)
  (repeat' split) <;> first | with_reducible rfl | simp only [State.whistleAct_offYard, foldl_offYard, apply_ite State.offYard, ite_self, implies_true, offYard_mk, offYard_eta]

theorem State.echoes_offYard (m : Mbx) (s : State) : (State.echoes m s).offYard = s.offYard := by
  simp only [State.echoes, State.mbxEnd_offYard, foldl_offYard, apply_ite State.offYard, ite_self, implies_true, offYard_mk, offYard_eta]


/-! ## The collar and its FIFOs -/

/-- All but the collar and its FIFOs, and but the fields that `State.keep` blanks. -/
def State.offCol (s : State) := (kSeq s.seq, kClk s.clk, kPair s.pair, kFab s.fab, Sheet.keep s.sh0, Sheet.keep s.sh1, s.sp, s.sin, kSout s.sout, kMot s.mot, kYard s.yard, kFlt s.flt, kFarr s.farr, kCp s.cp, kImg s.img, s.spook, s.mram, s.pending)

theorem offCol_of_keep {a b : State} (h : a.keep = b.keep) : a.offCol = b.offCol := of_keep' (fun s => (kSeq s.seq, kClk s.clk, kPair s.pair, kFab s.fab, Sheet.keep s.sh0, Sheet.keep s.sh1, s.sp, s.sin, kSout s.sout, kMot s.mot, kYard s.yard, kFlt s.flt, kFarr s.farr, kCp s.cp, kImg s.img, s.spook, s.mram, s.pending)) (fun s => by
  have hm : kMot s.keep.mot = kMot s.mot := kMot_keep s
  have ho : kSout s.keep.sout = kSout s.sout := kSout_keep s
  try rw [hm]
  try rw [ho]
  rfl) h

theorem offCol_mk (now free seq clk pair fab logic sh0 sh1 sp sin sout mot col yard flt farr cp img spook fifos mram pending) : State.offCol ⟨now, free, seq, clk, pair, fab, logic, sh0, sh1, sp, sin, sout, mot, col, yard, flt, farr, cp, img, spook, fifos, mram, pending⟩ = (kSeq seq, kClk clk, kPair pair, kFab fab, Sheet.keep sh0, Sheet.keep sh1, sp, sin, kSout sout, kMot mot, kYard yard, kFlt flt, kFarr farr, kCp cp, kImg img, spook, mram, pending) := Eq.trans rfl rfl

theorem offCol_eta (s : State) : (kSeq s.seq, kClk s.clk, kPair s.pair, kFab s.fab, Sheet.keep s.sh0, Sheet.keep s.sh1, s.sp, s.sin, kSout s.sout, kMot s.mot, kYard s.yard, kFlt s.flt, kFarr s.farr, kCp s.cp, kImg s.img, s.spook, s.mram, s.pending) = s.offCol := Eq.trans rfl rfl

theorem foldl_offCol {α : Type} (f : State → α → State) (h : ∀ s a, (f s a).offCol = s.offCol) (l : List α) (s : State) : (l.foldl f s).offCol = s.offCol := foldl_same State.offCol f h l s

theorem offCol_frame {a b : State} (h : a.offCol = b.offCol) :
    { a.keep with now := b.now, col := b.col, fifos := b.fifos } = b.keep :=
  congrArg (fun x => match x with | (seq, clk, pair, fab, sh0, sh1, sp, sin, sout, mot, yard, flt, farr, cp, img, spook, mram, pending) => (⟨b.now, 0, seq, clk, pair, fab, {}, sh0, sh1, sp, sin, sout, mot, b.col, yard, flt, farr, cp, img, spook, b.fifos, mram, pending⟩ : State)) h

theorem State.modSlot_offCol (s : State) (n : Nat) (f : Slot → Slot) : (State.modSlot s n f).offCol = s.offCol := by
  simp only [State.modSlot, foldl_offCol, apply_ite State.offCol, ite_self, implies_true, offCol_mk, offCol_eta]

theorem State.modRadio_offCol (s : State) (n : Nat) (f : RadioPort → RadioPort) : (State.modRadio s n f).offCol = s.offCol := by
  simp only [State.modRadio, foldl_offCol, apply_ite State.offCol, ite_self, implies_true, offCol_mk, offCol_eta]

theorem State.modFifo_offCol (s : State) (n : Nat) (f : Fifo → Fifo) : (State.modFifo s n f).offCol = s.offCol := by
  simp only [State.modFifo, foldl_offCol, apply_ite State.offCol, ite_self, implies_true, offCol_mk, offCol_eta]

theorem State.fresh_offCol (s : State) : (State.fresh s).offCol = s.offCol := by
  simp only [State.fresh, foldl_offCol, apply_ite State.offCol, ite_self, implies_true, offCol_mk, offCol_eta]

theorem State.err_offCol (s : State) (src : Src) (detail : Nat) : (State.err s src detail).offCol = s.offCol := offCol_of_keep (by simp)

theorem whenLive_offCol (s : State) (f : State → State) (hf : ∀ x0, (f x0).offCol = x0.offCol) : (whenLive s f).offCol = s.offCol := by
  simp only [whenLive, foldl_offCol, apply_ite State.offCol, ite_self, implies_true, offCol_mk, offCol_eta, *]

theorem State.fifoPush_offCol (s : State) (n : Nat) (d : Datum) : (State.fifoPush s n d).offCol = s.offCol := by
  simp only [State.fifoPush, State.modFifo_offCol, foldl_offCol, apply_ite State.offCol, ite_self, implies_true, offCol_mk, offCol_eta]

theorem State.fifoTake_offCol (s : State) (n : Nat) : (State.fifoTake s n).offCol = s.offCol := by
  simp only [State.fifoTake, State.modFifo_offCol, foldl_offCol, apply_ite State.offCol, ite_self, implies_true, offCol_mk, offCol_eta]

theorem State.radioSend_offCol (s : State) (p : Nat) (at_ : Nat) (l : List Byte) : (State.radioSend s p at_ l).offCol = s.offCol := by
  simp only [State.radioSend, State.modRadio_offCol, foldl_offCol, apply_ite State.offCol, ite_self, implies_true, offCol_mk, offCol_eta]

theorem State.radioXfer_offCol (s : State) (p : Nat) (irqLow : Bool) : (State.radioXfer s p irqLow).offCol = s.offCol := by
  unfold State.radioXfer
  (try dsimp only)
  (repeat' split) <;> first | with_reducible rfl | simp only [State.modRadio_offCol, State.radioSend_offCol, foldl_offCol, apply_ite State.offCol, ite_self, implies_true, offCol_mk, offCol_eta]

theorem State.radioPollNow_offCol (s : State) (p : Nat) : (State.radioPollNow s p).offCol = s.offCol := by
  simp only [State.radioPollNow, State.radioSend_offCol, foldl_offCol, apply_ite State.offCol, ite_self, implies_true, offCol_mk, offCol_eta]

theorem State.beaconNow_offCol (s : State) (p : Nat) : (State.beaconNow s p).offCol = s.offCol := by
  simp only [State.beaconNow, State.modRadio_offCol, foldl_offCol, apply_ite State.offCol, ite_self, implies_true, offCol_mk, offCol_eta]

theorem State.modSlotCh_offCol (s : State) (n : Nat) (isA : Bool) (f : SlotCh → SlotCh) : (State.modSlotCh s n isA f).offCol = s.offCol := by
  simp only [State.modSlotCh, State.modSlot_offCol, foldl_offCol, apply_ite State.offCol, ite_self, implies_true, offCol_mk, offCol_eta]

theorem State.collarRemotes_offCol (s : State) (n : Nat) : (State.collarRemotes s n).offCol = s.offCol := by
  simp only [State.collarRemotes, State.fresh_offCol, foldl_offCol, apply_ite State.offCol, ite_self, implies_true, offCol_mk, offCol_eta]

theorem State.slotEnter_offCol (s : State) (n : Nat) (isA : Bool) (d : DState) (cause : Nat) : (State.slotEnter s n isA d cause).offCol = s.offCol := by
  simp only [State.slotEnter, State.modSlot_offCol, State.err_offCol, State.modSlotCh_offCol, State.collarRemotes_offCol, foldl_offCol, apply_ite State.offCol, ite_self, implies_true, offCol_mk, offCol_eta]

theorem State.deadline_offCol (s : State) (n : Nat) (isA : Bool) : (State.deadline s n isA).offCol = s.offCol := by
  simp only [State.deadline, State.modSlot_offCol, State.modSlotCh_offCol, State.slotEnter_offCol, foldl_offCol, apply_ite State.offCol, ite_self, implies_true, offCol_mk, offCol_eta]

theorem repeatN_offCol (n : Nat) (f : State → State) (s : State) (hf : ∀ x0, (f x0).offCol = x0.offCol) : (repeatN n f s).offCol = s.offCol := foldl_offCol _ (fun s _ => hf s) _ _

theorem State.deadlines_offCol (s : State) (n : Nat) (isA : Bool) (y : Nat) : (State.deadlines s n isA y).offCol = s.offCol := by
  simp only [State.deadlines, State.deadline_offCol, repeatN_offCol, foldl_offCol, apply_ite State.offCol, ite_self, implies_true, offCol_mk, offCol_eta]

theorem State.slotView_offCol (s : State) (n : Nat) : (State.slotView s n).offCol = s.offCol := by
  simp only [State.slotView, State.modSlot_offCol, State.fresh_offCol, foldl_offCol, apply_ite State.offCol, ite_self, implies_true, offCol_mk, offCol_eta]

theorem State.drainRadio_offCol (s : State) : (State.drainRadio s).offCol = s.offCol := by
  unfold State.drainRadio
  split
  · refine (foldl_offCol _ (fun s d => ?_) _ _).trans (State.fifoTake_offCol _ _)
    (try dsimp only)
    (repeat' split) <;> simp only [State.slotView_offCol, State.fifoPush_offCol, foldl_offCol, apply_ite State.offCol, ite_self, implies_true, offCol_mk, offCol_eta]
  · rfl

theorem State.portIn_offCol (s : State) (p : Nat) (l : List Byte) (typ : Nat) (f : State → State) (hf : ∀ x0, (f x0).offCol = x0.offCol) : (State.portIn s p l typ f).offCol = s.offCol := by
  simp only [State.portIn, State.modRadio_offCol, State.err_offCol, foldl_offCol, apply_ite State.offCol, ite_self, implies_true, offCol_mk, offCol_eta, *]

theorem State.colQrel_offCol (s : State) (v : Word) : (State.colQrel s v).offCol = s.offCol := by
  simp only [State.colQrel, State.slotEnter_offCol, foldl_offCol, apply_ite State.offCol, ite_self, implies_true, offCol_mk, offCol_eta]


/-! ## The pair -/

/-- All but the pair, and but the fields that `State.keep` blanks. -/
def State.offPair (s : State) := (kSeq s.seq, kClk s.clk, kFab s.fab, Sheet.keep s.sh0, Sheet.keep s.sh1, s.sp, s.sin, kSout s.sout, kMot s.mot, s.col, kYard s.yard, kFlt s.flt, kFarr s.farr, kCp s.cp, kImg s.img, s.spook, s.fifos, s.mram, s.pending)

theorem offPair_of_keep {a b : State} (h : a.keep = b.keep) : a.offPair = b.offPair := of_keep' (fun s => (kSeq s.seq, kClk s.clk, kFab s.fab, Sheet.keep s.sh0, Sheet.keep s.sh1, s.sp, s.sin, kSout s.sout, kMot s.mot, s.col, kYard s.yard, kFlt s.flt, kFarr s.farr, kCp s.cp, kImg s.img, s.spook, s.fifos, s.mram, s.pending)) (fun s => by
  have hm : kMot s.keep.mot = kMot s.mot := kMot_keep s
  have ho : kSout s.keep.sout = kSout s.sout := kSout_keep s
  try rw [hm]
  try rw [ho]
  rfl) h

theorem offPair_mk (now free seq clk pair fab logic sh0 sh1 sp sin sout mot col yard flt farr cp img spook fifos mram pending) : State.offPair ⟨now, free, seq, clk, pair, fab, logic, sh0, sh1, sp, sin, sout, mot, col, yard, flt, farr, cp, img, spook, fifos, mram, pending⟩ = (kSeq seq, kClk clk, kFab fab, Sheet.keep sh0, Sheet.keep sh1, sp, sin, kSout sout, kMot mot, col, kYard yard, kFlt flt, kFarr farr, kCp cp, kImg img, spook, fifos, mram, pending) := Eq.trans rfl rfl

theorem offPair_eta (s : State) : (kSeq s.seq, kClk s.clk, kFab s.fab, Sheet.keep s.sh0, Sheet.keep s.sh1, s.sp, s.sin, kSout s.sout, kMot s.mot, s.col, kYard s.yard, kFlt s.flt, kFarr s.farr, kCp s.cp, kImg s.img, s.spook, s.fifos, s.mram, s.pending) = s.offPair := Eq.trans rfl rfl

theorem foldl_offPair {α : Type} (f : State → α → State) (h : ∀ s a, (f s a).offPair = s.offPair) (l : List α) (s : State) : (l.foldl f s).offPair = s.offPair := foldl_same State.offPair f h l s

theorem offPair_frame {a b : State} (h : a.offPair = b.offPair) :
    { a.keep with now := b.now, pair := b.keep.pair } = b.keep :=
  congrArg (fun x => match x with | (seq, clk, fab, sh0, sh1, sp, sin, sout, mot, col, yard, flt, farr, cp, img, spook, fifos, mram, pending) => (⟨b.now, 0, seq, clk, b.keep.pair, fab, {}, sh0, sh1, sp, sin, sout, mot, col, yard, flt, farr, cp, img, spook, fifos, mram, pending⟩ : State)) h

theorem State.fresh_offPair (s : State) : (State.fresh s).offPair = s.offPair := by
  simp only [State.fresh, foldl_offPair, apply_ite State.offPair, ite_self, implies_true, offPair_mk, offPair_eta]

theorem whenLive_offPair (s : State) (f : State → State) (hf : ∀ x0, (f x0).offPair = x0.offPair) : (whenLive s f).offPair = s.offPair := by
  simp only [whenLive, foldl_offPair, apply_ite State.offPair, ite_self, implies_true, offPair_mk, offPair_eta, *]

theorem State.rotDue_offPair (s : State) : (State.rotDue s).offPair = s.offPair := by
  unfold State.rotDue
  (try dsimp only)
  (repeat' split) <;> first | with_reducible rfl | simp only [foldl_offPair, apply_ite State.offPair, ite_self, implies_true, offPair_mk, offPair_eta]

theorem State.rotLate_offPair (s : State) : (State.rotLate s).offPair = s.offPair := by
  unfold State.rotLate
  (try dsimp only)
  (repeat' split) <;> first | with_reducible rfl | simp only [foldl_offPair, apply_ite State.offPair, ite_self, implies_true, offPair_mk, offPair_eta]

theorem State.tapRefused_offPair (s : State) : (State.tapRefused s).offPair = s.offPair := by
  simp only [State.tapRefused, foldl_offPair, apply_ite State.offPair, ite_self, implies_true, offPair_mk, offPair_eta]

theorem State.setTap_offPair (s : State) (i : TapSel) : (State.setTap s i).offPair = s.offPair := by
  simp only [State.setTap, foldl_offPair, apply_ite State.offPair, ite_self, implies_true, offPair_mk, offPair_eta]

theorem State.takeScan_offPair (s : State) : (State.takeScan s).offPair = s.offPair := by
  simp only [State.takeScan, State.fresh_offPair, foldl_offPair, apply_ite State.offPair, ite_self, implies_true, offPair_mk, offPair_eta]

theorem State.preload_offPair (s : State) (cells : Cells) : (State.preload s cells).offPair = s.offPair := by
  simp only [State.preload, State.tapRefused_offPair, State.setTap_offPair, State.takeScan_offPair, foldl_offPair, apply_ite State.offPair, ite_self, implies_true, offPair_mk, offPair_eta]

theorem State.answer_offPair (s : State) (result : Nat) (data : BitVec 32) : (State.answer s result data).offPair = s.offPair := by
  simp only [State.answer, foldl_offPair, apply_ite State.offPair, ite_self, implies_true, offPair_mk, offPair_eta]

theorem State.dbg_offPair (s : State) (needsHalt : Bool) (f : State → State) (hf : ∀ x0, (f x0).offPair = x0.offPair) : (State.dbg s needsHalt f).offPair = s.offPair := by
  simp only [State.dbg, whenLive_offPair, State.tapRefused_offPair, State.setTap_offPair, State.answer_offPair, foldl_offPair, apply_ite State.offPair, ite_self, implies_true, offPair_mk, offPair_eta, *]

theorem State.dbgRead_offPair (s : State) (a : Nat) : (State.dbgRead s a).offPair = s.offPair := by
  simp only [State.dbgRead, State.fresh_offPair, State.answer_offPair, foldl_offPair, apply_ite State.offPair, ite_self, implies_true, offPair_mk, offPair_eta]

theorem State.journaled_offPair (s : State) (e : Journal) (direct : Pair → Pair) : (State.journaled s e direct).offPair = s.offPair := by
  simp only [State.journaled, foldl_offPair, apply_ite State.offPair, ite_self, implies_true, offPair_mk, offPair_eta]

theorem State.dbgWrite_offPair (s : State) (a : Nat) (v : BitVec 32) : (State.dbgWrite s a v).offPair = s.offPair := by
  simp only [State.dbgWrite, State.answer_offPair, State.dbg_offPair, State.journaled_offPair, foldl_offPair, apply_ite State.offPair, ite_self, implies_true, offPair_mk, offPair_eta]


/-! ## The pair and the control port -/

/-- All but the pair and the control port, and but the fields that `State.keep` blanks. -/
def State.offRot (s : State) := (kSeq s.seq, kClk s.clk, kFab s.fab, Sheet.keep s.sh0, Sheet.keep s.sh1, s.sp, s.sin, kSout s.sout, kMot s.mot, s.col, kYard s.yard, kFlt s.flt, kFarr s.farr, kImg s.img, s.spook, s.fifos, s.mram, s.pending)

theorem offRot_of_keep {a b : State} (h : a.keep = b.keep) : a.offRot = b.offRot := of_keep' (fun s => (kSeq s.seq, kClk s.clk, kFab s.fab, Sheet.keep s.sh0, Sheet.keep s.sh1, s.sp, s.sin, kSout s.sout, kMot s.mot, s.col, kYard s.yard, kFlt s.flt, kFarr s.farr, kImg s.img, s.spook, s.fifos, s.mram, s.pending)) (fun s => by
  have hm : kMot s.keep.mot = kMot s.mot := kMot_keep s
  have ho : kSout s.keep.sout = kSout s.sout := kSout_keep s
  try rw [hm]
  try rw [ho]
  rfl) h

theorem offRot_mk (now free seq clk pair fab logic sh0 sh1 sp sin sout mot col yard flt farr cp img spook fifos mram pending) : State.offRot ⟨now, free, seq, clk, pair, fab, logic, sh0, sh1, sp, sin, sout, mot, col, yard, flt, farr, cp, img, spook, fifos, mram, pending⟩ = (kSeq seq, kClk clk, kFab fab, Sheet.keep sh0, Sheet.keep sh1, sp, sin, kSout sout, kMot mot, col, kYard yard, kFlt flt, kFarr farr, kImg img, spook, fifos, mram, pending) := Eq.trans rfl rfl

theorem offRot_eta (s : State) : (kSeq s.seq, kClk s.clk, kFab s.fab, Sheet.keep s.sh0, Sheet.keep s.sh1, s.sp, s.sin, kSout s.sout, kMot s.mot, s.col, kYard s.yard, kFlt s.flt, kFarr s.farr, kImg s.img, s.spook, s.fifos, s.mram, s.pending) = s.offRot := Eq.trans rfl rfl

theorem foldl_offRot {α : Type} (f : State → α → State) (h : ∀ s a, (f s a).offRot = s.offRot) (l : List α) (s : State) : (l.foldl f s).offRot = s.offRot := foldl_same State.offRot f h l s

theorem offRot_frame {a b : State} (h : a.offRot = b.offRot) :
    { a.keep with now := b.now, pair := b.keep.pair, cp := b.keep.cp } = b.keep :=
  congrArg (fun x => match x with | (seq, clk, fab, sh0, sh1, sp, sin, sout, mot, col, yard, flt, farr, img, spook, fifos, mram, pending) => (⟨b.now, 0, seq, clk, b.keep.pair, fab, {}, sh0, sh1, sp, sin, sout, mot, col, yard, flt, farr, b.keep.cp, img, spook, fifos, mram, pending⟩ : State)) h

theorem State.alert_offRot (s : State) (n : Nat) : (State.alert s n).offRot = s.offRot := offRot_of_keep (by simp)

theorem State.frameBit_offRot (s : State) (n : Nat) : (State.frameBit s n).offRot = s.offRot := by
  simp only [State.frameBit, foldl_offRot, apply_ite State.offRot, ite_self, implies_true, offRot_mk, offRot_eta]

theorem State.err_offRot (s : State) (src : Src) (detail : Nat) : (State.err s src detail).offRot = s.offRot := offRot_of_keep (by simp)

theorem whenLive_offRot (s : State) (f : State → State) (hf : ∀ x0, (f x0).offRot = x0.offRot) : (whenLive s f).offRot = s.offRot := by
  simp only [whenLive, foldl_offRot, apply_ite State.offRot, ite_self, implies_true, offRot_mk, offRot_eta, *]

theorem State.lkRefused_offRot (s : State) (addr : Nat) : (State.lkRefused s addr).offRot = s.offRot := by
  simp only [State.lkRefused, State.alert_offRot, State.frameBit_offRot, State.err_offRot, foldl_offRot, apply_ite State.offRot, ite_self, implies_true, offRot_mk, offRot_eta]

theorem State.rotctlWrite_offRot (s : State) (v : Word) : (State.rotctlWrite s v).offRot = s.offRot := by
  simp only [State.rotctlWrite, State.lkRefused_offRot, foldl_offRot, apply_ite State.offRot, ite_self, implies_true, offRot_mk, offRot_eta]


/-! ## The safe outputs and their FIFO -/

/-- All but the safe outputs and their FIFO, and but the fields that `State.keep` blanks. -/
def State.offSout (s : State) := (kSeq s.seq, kClk s.clk, kPair s.pair, kFab s.fab, Sheet.keep s.sh0, Sheet.keep s.sh1, s.sp, s.sin, kMot s.mot, s.col, kYard s.yard, kFlt s.flt, kFarr s.farr, kCp s.cp, kImg s.img, s.spook, s.mram, s.pending)

theorem offSout_of_keep {a b : State} (h : a.keep = b.keep) : a.offSout = b.offSout := of_keep' (fun s => (kSeq s.seq, kClk s.clk, kPair s.pair, kFab s.fab, Sheet.keep s.sh0, Sheet.keep s.sh1, s.sp, s.sin, kMot s.mot, s.col, kYard s.yard, kFlt s.flt, kFarr s.farr, kCp s.cp, kImg s.img, s.spook, s.mram, s.pending)) (fun s => by
  have hm : kMot s.keep.mot = kMot s.mot := kMot_keep s
  have ho : kSout s.keep.sout = kSout s.sout := kSout_keep s
  try rw [hm]
  try rw [ho]
  rfl) h

theorem offSout_mk (now free seq clk pair fab logic sh0 sh1 sp sin sout mot col yard flt farr cp img spook fifos mram pending) : State.offSout ⟨now, free, seq, clk, pair, fab, logic, sh0, sh1, sp, sin, sout, mot, col, yard, flt, farr, cp, img, spook, fifos, mram, pending⟩ = (kSeq seq, kClk clk, kPair pair, kFab fab, Sheet.keep sh0, Sheet.keep sh1, sp, sin, kMot mot, col, kYard yard, kFlt flt, kFarr farr, kCp cp, kImg img, spook, mram, pending) := Eq.trans rfl rfl

theorem offSout_eta (s : State) : (kSeq s.seq, kClk s.clk, kPair s.pair, kFab s.fab, Sheet.keep s.sh0, Sheet.keep s.sh1, s.sp, s.sin, kMot s.mot, s.col, kYard s.yard, kFlt s.flt, kFarr s.farr, kCp s.cp, kImg s.img, s.spook, s.mram, s.pending) = s.offSout := Eq.trans rfl rfl

theorem foldl_offSout {α : Type} (f : State → α → State) (h : ∀ s a, (f s a).offSout = s.offSout) (l : List α) (s : State) : (l.foldl f s).offSout = s.offSout := foldl_same State.offSout f h l s

theorem offSout_frame {a b : State} (h : a.offSout = b.offSout) :
    { a.keep with now := b.now, sout := b.keep.sout, fifos := b.fifos } = b.keep :=
  congrArg (fun x => match x with | (seq, clk, pair, fab, sh0, sh1, sp, sin, mot, col, yard, flt, farr, cp, img, spook, mram, pending) => (⟨b.now, 0, seq, clk, pair, fab, {}, sh0, sh1, sp, sin, b.keep.sout, mot, col, yard, flt, farr, cp, img, spook, b.fifos, mram, pending⟩ : State)) h

theorem State.modOut_offSout (s : State) (n : Nat) (f : OutSt → OutSt) : (State.modOut s n f).offSout = s.offSout := by
  simp only [State.modOut, foldl_offSout, apply_ite State.offSout, ite_self, implies_true, offSout_mk, offSout_eta]

theorem State.mapOuts_offSout (s : State) (f : Nat → OutSt → OutSt) : (State.mapOuts s f).offSout = s.offSout := by
  simp only [State.mapOuts, foldl_offSout, apply_ite State.offSout, ite_self, implies_true, offSout_mk, offSout_eta]

theorem State.modLeg_offSout (s : State) (n : Nat) (l : Leg) (f : LegSt → LegSt) : (State.modLeg s n l f).offSout = s.offSout := by
  simp only [State.modLeg, State.modOut_offSout, foldl_offSout, apply_ite State.offSout, ite_self, implies_true, offSout_mk, offSout_eta]

theorem State.modFifo_offSout (s : State) (n : Nat) (f : Fifo → Fifo) : (State.modFifo s n f).offSout = s.offSout := by
  simp only [State.modFifo, foldl_offSout, apply_ite State.offSout, ite_self, implies_true, offSout_mk, offSout_eta]

theorem State.err_offSout (s : State) (src : Src) (detail : Nat) : (State.err s src detail).offSout = s.offSout := offSout_of_keep (by simp)

theorem State.line_offSout (s : State) (src : Src) (active : Bool) (detail : Nat) : (State.line s src active detail).offSout = s.offSout := offSout_of_keep (by simp)

theorem State.fifoPush_offSout (s : State) (n : Nat) (d : Datum) : (State.fifoPush s n d).offSout = s.offSout := by
  simp only [State.fifoPush, State.modFifo_offSout, foldl_offSout, apply_ite State.offSout, ite_self, implies_true, offSout_mk, offSout_eta]

theorem State.fifoTake_offSout (s : State) (n : Nat) : (State.fifoTake s n).offSout = s.offSout := by
  simp only [State.fifoTake, State.modFifo_offSout, foldl_offSout, apply_ite State.offSout, ite_self, implies_true, offSout_mk, offSout_eta]

theorem State.soutRb_offSout (s : State) (n : Nat) : (State.soutRb s n).offSout = s.offSout := by
  simp only [State.soutRb, State.modOut_offSout, State.err_offSout, foldl_offSout, apply_ite State.offSout, ite_self, implies_true, offSout_mk, offSout_eta]

theorem State.soutOc_offSout (s : State) (n : Nat) : (State.soutOc s n).offSout = s.offSout := by
  simp only [State.soutOc, State.modOut_offSout, State.err_offSout, foldl_offSout, apply_ite State.offSout, ite_self, implies_true, offSout_mk, offSout_eta]

theorem State.soutShort_offSout (s : State) (n : Nat) : (State.soutShort s n).offSout = s.offSout := by
  simp only [State.soutShort, State.modOut_offSout, State.err_offSout, foldl_offSout, apply_ite State.offSout, ite_self, implies_true, offSout_mk, offSout_eta]

theorem State.rbChange_offSout (s : State) (n : Nat) (l : Leg) (v : Bool) : (State.rbChange s n l v).offSout = s.offSout := by
  simp only [State.rbChange, State.modOut_offSout, State.modLeg_offSout, foldl_offSout, apply_ite State.offSout, ite_self, implies_true, offSout_mk, offSout_eta]

theorem State.windowEnd_offSout (s : State) (n : Nat) : (State.windowEnd s n).offSout = s.offSout := by
  unfold State.windowEnd
  (try dsimp only)
  (repeat' split) <;> first | with_reducible rfl | simp only [State.modOut_offSout, State.soutOc_offSout, foldl_offSout, apply_ite State.offSout, ite_self, implies_true, offSout_mk, offSout_eta]

theorem State.ocLate_offSout (s : State) (n : Nat) (l : Leg) : (State.ocLate s n l).offSout = s.offSout := by
  unfold State.ocLate
  (try dsimp only)
  (repeat' split) <;> first | with_reducible rfl | simp only [State.soutOc_offSout, foldl_offSout, apply_ite State.offSout, ite_self, implies_true, offSout_mk, offSout_eta]

theorem State.offLate_offSout (s : State) (n : Nat) (l : Leg) : (State.offLate s n l).offSout = s.offSout := by
  simp only [State.offLate, State.soutRb_offSout, State.soutShort_offSout, foldl_offSout, apply_ite State.offSout, ite_self, implies_true, offSout_mk, offSout_eta]

theorem State.darkBegin_offSout (s : State) (n : Nat) (l : Leg) : (State.darkBegin s n l).offSout = s.offSout := by
  simp only [State.darkBegin, State.modOut_offSout, State.modLeg_offSout, foldl_offSout, apply_ite State.offSout, ite_self, implies_true, offSout_mk, offSout_eta]

theorem State.sioTakes_offSout (s : State) (d : Datum) : (State.sioTakes s d).offSout = s.offSout := by
  unfold State.sioTakes
  (try dsimp only)
  (repeat' split) <;> first | with_reducible rfl | simp only [State.mapOuts_offSout, State.darkBegin_offSout, foldl_offSout, apply_ite State.offSout, ite_self, implies_true, offSout_mk, offSout_eta]

theorem State.drainSio_offSout (s : State) : (State.drainSio s).offSout = s.offSout := by
  simp only [State.drainSio, State.fifoTake_offSout, State.sioTakes_offSout, foldl_offSout, apply_ite State.offSout, ite_self, implies_true, offSout_mk, offSout_eta]

theorem State.darkStartTest_offSout (s : State) (n : Nat) (l : Leg) : (State.darkStartTest s n l).offSout = s.offSout := by
  unfold State.darkStartTest
  (try dsimp only)
  (repeat' split) <;> first | with_reducible rfl | simp only [State.fifoPush_offSout, State.darkBegin_offSout, State.drainSio_offSout, foldl_offSout, apply_ite State.offSout, ite_self, implies_true, offSout_mk, offSout_eta]

theorem State.darkFallsDue_offSout (s : State) (n : Nat) (l : Leg) : (State.darkFallsDue s n l).offSout = s.offSout := by
  unfold State.darkFallsDue
  (try dsimp only)
  (repeat' split) <;> first | with_reducible rfl | simp only [State.modLeg_offSout, State.darkStartTest_offSout, foldl_offSout, apply_ite State.offSout, ite_self, implies_true, offSout_mk, offSout_eta]

theorem State.darkVerdict_offSout (s : State) (t : DarkTest) (pass : Bool) : (State.darkVerdict s t pass).offSout = s.offSout := by
  simp only [State.darkVerdict, State.modLeg_offSout, foldl_offSout, apply_ite State.offSout, ite_self, implies_true, offSout_mk, offSout_eta]

theorem State.darkPassed_offSout (s : State) : (State.darkPassed s).offSout = s.offSout := by
  unfold State.darkPassed
  (try dsimp only)
  (repeat' split) <;> first | with_reducible rfl | simp only [State.darkVerdict_offSout, foldl_offSout, apply_ite State.offSout, ite_self, implies_true, offSout_mk, offSout_eta]

theorem State.darkFailed_offSout (s : State) : (State.darkFailed s).offSout = s.offSout := by
  unfold State.darkFailed
  (try dsimp only)
  (repeat' split) <;> first | with_reducible rfl | simp only [State.soutRb_offSout, State.darkVerdict_offSout, foldl_offSout, apply_ite State.offSout, ite_self, implies_true, offSout_mk, offSout_eta]

theorem State.barkLook_offSout (s : State) (pin : Chan) : (State.barkLook s pin).offSout = s.offSout := by
  unfold State.barkLook
  (try dsimp only)
  (repeat' split) <;> first | with_reducible rfl | simp only [State.err_offSout, foldl_offSout, apply_ite State.offSout, ite_self, implies_true, offSout_mk, offSout_eta]

theorem State.barkA_offSout (s : State) (was : Bool) : (State.barkA s was).offSout = s.offSout := by
  simp only [State.barkA, State.fifoPush_offSout, State.drainSio_offSout, foldl_offSout, apply_ite State.offSout, ite_self, implies_true, offSout_mk, offSout_eta]


/-! ## The safe inputs and their FIFO -/

/-- All but the safe inputs and their FIFO, and but the fields that `State.keep` blanks. -/
def State.offSin (s : State) := (kSeq s.seq, kClk s.clk, kPair s.pair, kFab s.fab, Sheet.keep s.sh0, Sheet.keep s.sh1, s.sp, kSout s.sout, kMot s.mot, s.col, kYard s.yard, kFlt s.flt, kFarr s.farr, kCp s.cp, kImg s.img, s.spook, s.mram, s.pending)

theorem offSin_of_keep {a b : State} (h : a.keep = b.keep) : a.offSin = b.offSin := of_keep' (fun s => (kSeq s.seq, kClk s.clk, kPair s.pair, kFab s.fab, Sheet.keep s.sh0, Sheet.keep s.sh1, s.sp, kSout s.sout, kMot s.mot, s.col, kYard s.yard, kFlt s.flt, kFarr s.farr, kCp s.cp, kImg s.img, s.spook, s.mram, s.pending)) (fun s => by
  have hm : kMot s.keep.mot = kMot s.mot := kMot_keep s
  have ho : kSout s.keep.sout = kSout s.sout := kSout_keep s
  try rw [hm]
  try rw [ho]
  rfl) h

theorem offSin_mk (now free seq clk pair fab logic sh0 sh1 sp sin sout mot col yard flt farr cp img spook fifos mram pending) : State.offSin ⟨now, free, seq, clk, pair, fab, logic, sh0, sh1, sp, sin, sout, mot, col, yard, flt, farr, cp, img, spook, fifos, mram, pending⟩ = (kSeq seq, kClk clk, kPair pair, kFab fab, Sheet.keep sh0, Sheet.keep sh1, sp, kSout sout, kMot mot, col, kYard yard, kFlt flt, kFarr farr, kCp cp, kImg img, spook, mram, pending) := Eq.trans rfl rfl

theorem offSin_eta (s : State) : (kSeq s.seq, kClk s.clk, kPair s.pair, kFab s.fab, Sheet.keep s.sh0, Sheet.keep s.sh1, s.sp, kSout s.sout, kMot s.mot, s.col, kYard s.yard, kFlt s.flt, kFarr s.farr, kCp s.cp, kImg s.img, s.spook, s.mram, s.pending) = s.offSin := Eq.trans rfl rfl

theorem foldl_offSin {α : Type} (f : State → α → State) (h : ∀ s a, (f s a).offSin = s.offSin) (l : List α) (s : State) : (l.foldl f s).offSin = s.offSin := foldl_same State.offSin f h l s

theorem offSin_frame {a b : State} (h : a.offSin = b.offSin) :
    { a.keep with now := b.now, sin := b.sin, fifos := b.fifos } = b.keep :=
  congrArg (fun x => match x with | (seq, clk, pair, fab, sh0, sh1, sp, sout, mot, col, yard, flt, farr, cp, img, spook, mram, pending) => (⟨b.now, 0, seq, clk, pair, fab, {}, sh0, sh1, sp, b.sin, sout, mot, col, yard, flt, farr, cp, img, spook, b.fifos, mram, pending⟩ : State)) h

theorem State.modPair_offSin (s : State) (n : Nat) (f : InPair → InPair) : (State.modPair s n f).offSin = s.offSin := by
  simp only [State.modPair, foldl_offSin, apply_ite State.offSin, ite_self, implies_true, offSin_mk, offSin_eta]

theorem State.mapPairs_offSin (s : State) (f : Nat → InPair → InPair) : (State.mapPairs s f).offSin = s.offSin := by
  simp only [State.mapPairs, foldl_offSin, apply_ite State.offSin, ite_self, implies_true, offSin_mk, offSin_eta]

theorem State.modTp_offSin (s : State) (n : Nat) (f : TpLine → TpLine) : (State.modTp s n f).offSin = s.offSin := by
  simp only [State.modTp, foldl_offSin, apply_ite State.offSin, ite_self, implies_true, offSin_mk, offSin_eta]

theorem State.modFifo_offSin (s : State) (n : Nat) (f : Fifo → Fifo) : (State.modFifo s n f).offSin = s.offSin := by
  simp only [State.modFifo, foldl_offSin, apply_ite State.offSin, ite_self, implies_true, offSin_mk, offSin_eta]

theorem State.err_offSin (s : State) (src : Src) (detail : Nat) : (State.err s src detail).offSin = s.offSin := offSin_of_keep (by simp)

theorem State.line_offSin (s : State) (src : Src) (active : Bool) (detail : Nat) : (State.line s src active detail).offSin = s.offSin := offSin_of_keep (by simp)

theorem State.fifoPush_offSin (s : State) (n : Nat) (d : Datum) : (State.fifoPush s n d).offSin = s.offSin := by
  simp only [State.fifoPush, State.modFifo_offSin, foldl_offSin, apply_ite State.offSin, ite_self, implies_true, offSin_mk, offSin_eta]

theorem State.copies_offSin (s : State) (n : Nat) (f : InPair → PairV → CopyOut) : (State.copies s n f).offSin = s.offSin := by
  simp only [State.copies, State.modPair_offSin, State.err_offSin, State.fifoPush_offSin, foldl_offSin, apply_ite State.offSin, ite_self, implies_true, offSin_mk, offSin_eta]

theorem State.onPair_offSin (s : State) (n : Nat) (f : State → State) (hf : ∀ x0, (f x0).offSin = x0.offSin) : (State.onPair s n f).offSin = s.offSin := by
  simp only [State.onPair, foldl_offSin, apply_ite State.offSin, ite_self, implies_true, offSin_mk, offSin_eta, *]

theorem State.siChange_offSin (s : State) (n : Nat) (ch : Chan) (v : Bool) : (State.siChange s n ch v).offSin = s.offSin := by
  simp only [State.siChange, State.modPair_offSin, State.copies_offSin, State.onPair_offSin, foldl_offSin, apply_ite State.offSin, ite_self, implies_true, offSin_mk, offSin_eta]

theorem State.blankOver_offSin (s : State) (n : Nat) (ch : Chan) : (State.blankOver s n ch).offSin = s.offSin := by
  simp only [State.blankOver, State.modPair_offSin, State.copies_offSin, foldl_offSin, apply_ite State.offSin, ite_self, implies_true, offSin_mk, offSin_eta]

theorem State.fedByLine_offSin (s : State) (line : Nat) (f : InPair → Bool → ChanV → ChanV) : (State.fedByLine s line f).offSin = s.offSin := by
  simp only [State.fedByLine, State.mapPairs_offSin, State.line_offSin, foldl_offSin, apply_ite State.offSin, ite_self, implies_true, offSin_mk, offSin_eta]

theorem State.darkStart_offSin (s : State) (n : Nat) : (State.darkStart s n).offSin = s.offSin := by
  simp only [State.darkStart, State.modTp_offSin, State.fedByLine_offSin, foldl_offSin, apply_ite State.offSin, ite_self, implies_true, offSin_mk, offSin_eta]

theorem State.checkSample_offSin (s : State) (n : Nat) : (State.checkSample s n).offSin = s.offSin := by
  unfold State.checkSample
  (try dsimp only)
  (repeat' split) <;> first | with_reducible rfl | simp only [State.fedByLine_offSin, foldl_offSin, apply_ite State.offSin, ite_self, implies_true, offSin_mk, offSin_eta]

theorem State.darkEnd_offSin (s : State) (n : Nat) : (State.darkEnd s n).offSin = s.offSin := by
  unfold State.darkEnd
  (try dsimp only)
  (repeat' split) <;> first | with_reducible rfl | simp only [State.modTp_offSin, foldl_offSin, apply_ite State.offSin, ite_self, implies_true, offSin_mk, offSin_eta]

/-! ## A command of a family -/

/-- A command changes of the kept fields what its effect changes. -/
theorem act_keep {tick : Bool} {t : Nat} {s s' : State} {f : State → State} (h : actAt tick t s f = .next s') :
    s'.keep = (f (s.upTo t)).keep := by
  cases h
  simp

theorem act_offHost {tick : Bool} {t : Nat} {s s' : State} {f : State → State} (h : actAt tick t s f = .next s')
    (k : ∀ x, (f x).offHost = x.offHost) : s'.offHost = s.offHost :=
  (offHost_of_keep (act_keep h)).trans ((k _).trans (Eq.trans rfl rfl))

theorem act_offYard {tick : Bool} {t : Nat} {s s' : State} {f : State → State} (h : actAt tick t s f = .next s')
    (k : ∀ x, (f x).offYard = x.offYard) : s'.offYard = s.offYard :=
  (offYard_of_keep (act_keep h)).trans ((k _).trans (Eq.trans rfl rfl))

theorem act_offCol {tick : Bool} {t : Nat} {s s' : State} {f : State → State} (h : actAt tick t s f = .next s')
    (k : ∀ x, (f x).offCol = x.offCol) : s'.offCol = s.offCol :=
  (offCol_of_keep (act_keep h)).trans ((k _).trans (Eq.trans rfl rfl))

theorem act_offPair {tick : Bool} {t : Nat} {s s' : State} {f : State → State} (h : actAt tick t s f = .next s')
    (k : ∀ x, (f x).offPair = x.offPair) : s'.offPair = s.offPair :=
  (offPair_of_keep (act_keep h)).trans ((k _).trans (Eq.trans rfl rfl))

theorem act_offRot {tick : Bool} {t : Nat} {s s' : State} {f : State → State} (h : actAt tick t s f = .next s')
    (k : ∀ x, (f x).offRot = x.offRot) : s'.offRot = s.offRot :=
  (offRot_of_keep (act_keep h)).trans ((k _).trans (Eq.trans rfl rfl))

theorem act_offSout {tick : Bool} {t : Nat} {s s' : State} {f : State → State} (h : actAt tick t s f = .next s')
    (k : ∀ x, (f x).offSout = x.offSout) : s'.offSout = s.offSout :=
  (offSout_of_keep (act_keep h)).trans ((k _).trans (Eq.trans rfl rfl))

theorem act_offSin {tick : Bool} {t : Nat} {s s' : State} {f : State → State} (h : actAt tick t s f = .next s')
    (k : ∀ x, (f x).offSin = x.offSin) : s'.offSin = s.offSin :=
  (offSin_of_keep (act_keep h)).trans ((k _).trans (Eq.trans rfl rfl))

end Sys2Proof.Machine
end

