-- ==== Sys2Proof/Laws/Memory.lean ====
section
/-!
SUPPORT. The laws of memory by byte address: a write is read back and leaves every other byte alone, and every operation
keeps the canonical form.
-/
namespace Sys2Proof.Machine

/-! ## The canonical form -/

theorem Mem.wfFrom_mono : ∀ (m : Mem) {lo hi : Nat}, lo ≤ hi → Mem.wfFrom hi m = true → Mem.wfFrom lo m = true
  | [], _, _, _, _ => rfl
  | (k, v) :: m, lo, hi, h, w => by
    simp only [Mem.wfFrom, Bool.and_eq_true, decide_eq_true_eq] at w ⊢
    exact ⟨⟨Nat.le_trans h w.1.1, w.1.2⟩, w.2⟩

theorem Mem.write_wfFrom : ∀ (m : Mem) (lo a : Nat) (v : Byte), lo ≤ a → Mem.wfFrom lo m = true →
    Mem.wfFrom lo (m.write a v) = true
  | [], lo, a, v, h, _ => by
    unfold Mem.write
    split
    · rfl
    · rename_i hv
      simp only [Mem.wfFrom, h, decide_true, Bool.true_and, Bool.and_true, bne_iff_ne, ne_eq]
      exact hv
  | (k, w) :: m, lo, a, v, h, hw => by
    have hw' := hw
    simp only [Mem.wfFrom, Bool.and_eq_true, decide_eq_true_eq, bne_iff_ne, ne_eq] at hw
    unfold Mem.write
    split
    · split
      · exact hw'
      · rename_i ha hv
        simp only [Mem.wfFrom, Bool.and_eq_true, decide_eq_true_eq, bne_iff_ne, ne_eq]
        exact ⟨⟨h, hv⟩, ⟨ha, hw.1.2⟩, hw.2⟩
    · split
      · rename_i ha
        subst ha
        split
        · exact Mem.wfFrom_mono m (Nat.le_succ_of_le h) hw.2
        · rename_i hv
          simp only [Mem.wfFrom, Bool.and_eq_true, decide_eq_true_eq, bne_iff_ne, ne_eq]
          exact ⟨⟨h, hv⟩, hw.2⟩
      · rename_i h1 h2
        simp only [Mem.wfFrom, Bool.and_eq_true, decide_eq_true_eq, bne_iff_ne, ne_eq]
        exact ⟨hw.1, Mem.write_wfFrom m (k + 1) a v (by omega) hw.2⟩

/-- A write keeps the canonical form. -/
theorem Mem.write_wf (m : Mem) (a : Nat) (v : Byte) (h : m.wf = true) : (m.write a v).wf = true :=
  Mem.write_wfFrom m 0 a v (Nat.zero_le a) h

/-- A write of several bytes keeps the canonical form. -/
theorem Mem.writeN_wf : ∀ (l : List Byte) (m : Mem) (a : Nat), m.wf = true → (m.writeN a l).wf = true
  | [], _, _, h => h
  | b :: bs, m, a, h => Mem.writeN_wf bs (m.write a b) (a + 1) (Mem.write_wf m a b h)

theorem Mem.filter_wfFrom (p : Host.Cell → Bool) : ∀ (m : Mem) (lo : Nat), Mem.wfFrom lo m = true →
    Mem.wfFrom lo (m.filter p) = true
  | [], _, _ => rfl
  | (k, v) :: m, lo, h => by
    simp only [Mem.wfFrom, Bool.and_eq_true, decide_eq_true_eq] at h
    have ih := Mem.filter_wfFrom p m (k + 1) h.2
    rw [List.filter_cons]
    split
    · simp only [Mem.wfFrom, Bool.and_eq_true, decide_eq_true_eq]
      exact ⟨h.1, ih⟩
    · exact Mem.wfFrom_mono _ (Nat.le_succ_of_le h.1.1) ih

/-- An erasure keeps the canonical form. -/
theorem Mem.erase_wf (m : Mem) (lo hi : Nat) (h : m.wf = true) : (m.erase lo hi).wf = true :=
  Mem.filter_wfFrom _ m 0 h

/-! ## Reads after writes -/

/-- Below its lowest listed address a memory reads as 0. -/
theorem Mem.read_below : ∀ (m : Mem) (lo a : Nat), Mem.wfFrom lo m = true → a < lo → m.read a = 0
  | [], _, _, _, _ => rfl
  | (k, v) :: m, lo, a, h, ha => by
    simp only [Mem.wfFrom, Bool.and_eq_true, decide_eq_true_eq] at h
    have h1 : k ≠ a := by omega
    have h2 : a < k := by omega
    simp [Mem.read, h1, h2]

/-- A byte that is written is read back. -/
theorem Mem.read_write_same : ∀ (m : Mem) (lo a : Nat) (v : Byte), Mem.wfFrom lo m = true → (m.write a v).read a = v
  | [], lo, a, v, _ => by
    unfold Mem.write
    split
    · rename_i hv; simp [Mem.read, hv]
    · simp [Mem.read]
  | (k, w) :: m, lo, a, v, hw => by
    simp only [Mem.wfFrom, Bool.and_eq_true, decide_eq_true_eq] at hw
    unfold Mem.write
    split
    · rename_i ha
      split
      · rename_i hv
        have : k ≠ a := by omega
        simp [Mem.read, ha, this, hv]
      · simp [Mem.read]
    · split
      · rename_i ha
        subst ha
        split
        · rename_i hv
          rw [Mem.read_below m (a + 1) a hw.2 (Nat.lt_succ_self a), hv]
        · simp [Mem.read]
      · rename_i h1 h2
        have h3 : k ≠ a := fun h => h2 h.symm
        simp only [Mem.read, h3, h1, if_false]
        exact Mem.read_write_same m (k + 1) a v hw.2

/-- Every other byte stays. -/
theorem Mem.read_write_other : ∀ (m : Mem) (lo a b : Nat) (v : Byte), Mem.wfFrom lo m = true → b ≠ a →
    (m.write a v).read b = m.read b
  | [], lo, a, b, v, _, hb => by
    unfold Mem.write
    split
    · rfl
    · have : a ≠ b := fun h => hb h.symm
      simp [Mem.read, this]
  | (k, w) :: m, lo, a, b, v, hw, hb => by
    have hab : a ≠ b := fun h => hb h.symm
    simp only [Mem.wfFrom, Bool.and_eq_true, decide_eq_true_eq] at hw
    unfold Mem.write
    split
    · rename_i ha
      split
      · rfl
      · simp only [Mem.read, hab, if_false]
        split
        · rename_i h
          have h1 : k ≠ b := by omega
          have h2 : b < k := by omega
          simp [h1, h2]
        · rfl
    · split
      · rename_i h1 ha
        subst ha
        split
        · simp only [Mem.read, hab, if_false]
          split
          · rename_i h
            exact Mem.read_below m (a + 1) b hw.2 (by omega)
          · rfl
        · simp only [Mem.read, hab, if_false]
      · simp only [Mem.read]
        split
        · rfl
        · split
          · rfl
          · exact Mem.read_write_other m (k + 1) a b v hw.2 hb

/-- Bytes outside the written range stay. -/
theorem Mem.read_writeN_outside : ∀ (l : List Byte) (m : Mem) (a b : Nat), m.wf = true → ¬ (a ≤ b ∧ b < a + l.length) →
    (m.writeN a l).read b = m.read b
  | [], _, _, _, _, _ => rfl
  | x :: xs, m, a, b, h, hb => by
    simp only [List.length_cons, not_and, Nat.not_lt] at hb
    have h1 : b ≠ a := fun e => by have := hb (by omega); omega
    simp only [Mem.writeN]
    rw [Mem.read_writeN_outside xs (m.write a x) (a + 1) b (Mem.write_wf m a x h) (by omega)]
    exact Mem.read_write_other m 0 a b x h h1

/-- Bytes that are written are read back. -/
theorem Mem.read_writeN_inside : ∀ (l : List Byte) (m : Mem) (a i : Nat) (v : Byte), m.wf = true → l[i]? = some v →
    (m.writeN a l).read (a + i) = v
  | [], _, _, _, _, _, h => by simp at h
  | x :: xs, m, a, 0, v, h, hv => by
    simp only [List.getElem?_cons_zero, Option.some.injEq] at hv
    simp only [Mem.writeN, Nat.add_zero]
    rw [Mem.read_writeN_outside xs (m.write a x) (a + 1) a (Mem.write_wf m a x h) (by omega)]
    rw [Mem.read_write_same m 0 a x h, hv]
  | x :: xs, m, a, i + 1, v, h, hv => by
    simp only [List.getElem?_cons_succ] at hv
    simp only [Mem.writeN]
    have := Mem.read_writeN_inside xs (m.write a x) (a + 1) i v (Mem.write_wf m a x h) hv
    rw [Nat.add_assoc, Nat.add_comm 1 i] at this
    exact this

/-- Bytes inside an erased range read as 0, the others stay. -/
theorem Mem.read_erase : ∀ (m : Mem) (lo hi a low : Nat), Mem.wfFrom low m = true →
    (m.erase lo hi).read a = if lo ≤ a ∧ a < hi then 0 else m.read a
  | [], lo, hi, a, _, _ => by simp [Mem.erase, Mem.read]
  | (k, v) :: m, lo, hi, a, low, hw => by
    simp only [Mem.wfFrom, Bool.and_eq_true, decide_eq_true_eq] at hw
    have ih := Mem.read_erase m lo hi a (k + 1) hw.2
    unfold Mem.erase at ih ⊢
    rw [List.filter_cons]
    by_cases hk : k < lo ∨ hi ≤ k
    · have : (decide (k < lo) || decide (hi ≤ k)) = true := by simpa using hk
      simp only [this, if_true, Mem.read]
      rw [ih]
      by_cases hka : k = a
      · subst hka
        have : ¬ (lo ≤ k ∧ k < hi) := by omega
        simp [this]
      · simp only [hka, if_false]
        split
        · simp
        · rfl
    · have : (decide (k < lo) || decide (hi ≤ k)) = false := by simpa using hk
      simp only [this, Bool.false_eq_true, if_false, Mem.read]
      rw [ih]
      by_cases hka : k = a
      · subst hka
        have : lo ≤ k ∧ k < hi := by omega
        simp [this]
      · by_cases hak : a < k
        · have hb := Mem.read_below m (k + 1) a hw.2 (by omega)
          simp [hka, hak, hb]
        · simp [hka, hak]

/-! ## Ranges -/

/-- The bytes of a range are what its addresses read as. -/
theorem Mem.span_eq : ∀ (n a : Nat) (m : Mem), Mem.wfFrom a m = true → Mem.span n a m = (List.range n).map (fun i => m.read (a + i))
  | 0, _, _, _ => rfl
  | n + 1, a, [], _ => by
    simp only [Mem.span]
    rw [Mem.span_eq n (a + 1) [] rfl]
    apply List.ext_getElem
    · simp
    · intro i h1 h2
      cases i <;> simp [Mem.read]
  | n + 1, a, (k, v) :: m, h => by
    have h0 := h
    simp only [Mem.wfFrom, Bool.and_eq_true, decide_eq_true_eq] at h
    simp only [Mem.span]
    rw [List.range_succ_eq_map, List.map_cons, List.map_map]
    split
    · rename_i hk
      subst hk
      rw [Mem.span_eq n (k + 1) m h.2]
      congr 1
      · simp [Mem.read]
      · apply List.map_congr_left
        intro i _
        have h1 : k ≠ k + (i + 1) := by omega
        have h2 : ¬ k + (i + 1) < k := by omega
        simp only [Function.comp, Mem.read, h1, h2, if_false]
        congr 1
        omega
    · rename_i hk
      have hlt : a < k := by omega
      rw [Mem.span_eq n (a + 1) ((k, v) :: m) (by
        simp only [Mem.wfFrom, Bool.and_eq_true, decide_eq_true_eq]
        exact ⟨⟨hlt, h.1.2⟩, h.2⟩)]
      congr 1
      · simp [Mem.read, hk, hlt]
      · apply List.map_congr_left
        intro i _
        simp only [Function.comp]
        congr 1
        omega

theorem Mem.dropWhile_read : ∀ (m : Mem) (a b low : Nat), Mem.wfFrom low m = true → a ≤ b →
    Mem.read (m.dropWhile (fun c => c.1 < a)) b = m.read b
  | [], _, _, _, _, _ => rfl
  | (k, v) :: m, a, b, low, h, hb => by
    simp only [Mem.wfFrom, Bool.and_eq_true, decide_eq_true_eq] at h
    rw [List.dropWhile_cons]
    split
    · rename_i hk
      simp only [decide_eq_true_eq] at hk
      rw [Mem.dropWhile_read m a b (k + 1) h.2 hb]
      have h1 : k ≠ b := by omega
      have h2 : ¬ b < k := by omega
      simp [Mem.read, h1, h2]
    · rfl

theorem Mem.dropWhile_wfFrom : ∀ (m : Mem) (a low : Nat), Mem.wfFrom low m = true →
    Mem.wfFrom a (m.dropWhile (fun c => c.1 < a)) = true
  | [], _, _, _ => rfl
  | (k, v) :: m, a, low, h => by
    have h0 := h
    simp only [Mem.wfFrom, Bool.and_eq_true, decide_eq_true_eq] at h
    rw [List.dropWhile_cons]
    split
    · exact Mem.dropWhile_wfFrom m a (k + 1) h.2
    · rename_i hk
      simp only [decide_eq_true_eq, Nat.not_lt] at hk
      simp only [Mem.wfFrom, Bool.and_eq_true, decide_eq_true_eq]
      exact ⟨⟨hk, h.1.2⟩, h.2⟩

/-- The bytes read from a range are what its addresses read as. -/
theorem Mem.readN_eq (m : Mem) (a n : Nat) (h : m.wf = true) : m.readN a n = (List.range n).map (fun i => m.read (a + i)) := by
  unfold Mem.readN
  rw [Mem.span_eq n a _ (Mem.dropWhile_wfFrom m a 0 h)]
  apply List.map_congr_left
  intro i _
  exact Mem.dropWhile_read m a (a + i) 0 h (Nat.le_add_right a i)

/-- A range that is written is read back. -/
theorem Mem.readN_writeN (m : Mem) (a : Nat) (l : List Byte) (h : m.wf = true) : (m.writeN a l).readN a l.length = l := by
  rw [Mem.readN_eq _ _ _ (Mem.writeN_wf l m a h)]
  apply List.ext_getElem?
  intro i
  rw [List.getElem?_map]
  by_cases hi : i < l.length
  · rw [List.getElem?_range hi, List.getElem?_eq_getElem hi]
    simp only [Option.map_some]
    rw [Mem.read_writeN_inside l m a i l[i] h (List.getElem?_eq_getElem hi)]
  · rw [List.getElem?_eq_none (by simpa using hi), List.getElem?_eq_none (by omega)]
    rfl

end Sys2Proof.Machine
end

