-- ==== Sys2Proof/Laws/PerInstr.lean ====
section
/-!
SUPPORT. The family Timed: every command carries the instant at which it takes place.
-/
namespace Sys2Proof

/-- The command at another instant. -/
def Instr.at_ (u : Nat) : Instr → Instr
  | .powerOnResetRelease _ => .powerOnResetRelease u
  | .powerOnResetAssert _ => .powerOnResetAssert u
  | .upSequenceStart _ => .upSequenceStart u
  | .seqPgRise _ ch obs => .seqPgRise u ch obs
  | .settleExpiry _ ch obs => .settleExpiry u ch obs
  | .pgTimeout _ ch => .pgTimeout u ch
  | .seqPgFall _ ch width => .seqPgFall u ch width
  | .shdn _ value => .shdn u value
  | .dscTimeout _ ch => .dscTimeout u ch
  | .vinWarn _ => .vinWarn u
  | .vinOk _ => .vinOk u
  | .vinAbandon _ snapWriting recWriting => .vinAbandon u snapWriting recWriting
  | .vinAbandonEnd _ => .vinAbandonEnd u
  | .snapshotWrite _ => .snapshotWrite u
  | .resetNAssert _ width => .resetNAssert u width
  | .resetNRelease _ => .resetNRelease u
  | .crystalStartTimeout _ => .crystalStartTimeout u
  | .rcCalibration _ khz => .rcCalibration u khz
  | .bootComplete _ strap gateFail bank0 bank1 => .bootComplete u strap gateFail bank0 bank1
  | .cmpinjEnd _ uncaught falseFlag => .cmpinjEnd u uncaught falseFlag
  | .farrierTestStart _ => .farrierTestStart u
  | .farrierTestEnd _ pass result => .farrierTestEnd u pass result
  | .selftestEnd _ obs => .selftestEnd u obs
  | .loftStart _ => .loftStart u
  | .lockwaitExpiry _ => .lockwaitExpiry u
  | .pllLossDetect _ idx dev => .pllLossDetect u idx dev
  | .clockEdgeMissing _ idx => .clockEdgeMissing u idx
  | .rcstop _ => .rcstop u
  | .handshakeTimeout _ island waiter => .handshakeTimeout u island waiter
  | .fifoTransfer _ fifo => .fifoTransfer u fifo
  | .cycleBoundary _ obs => .cycleBoundary u obs
  | .crossCheckCapture _ upsets => .crossCheckCapture u upsets
  | .commandDeadline _ core => .commandDeadline u core
  | .darkPulseStart _ line => .darkPulseStart u line
  | .checkSample _ line => .checkSample u line
  | .darkPulseEnd _ line => .darkPulseEnd u line
  | .blankingEnd _ pair ch => .blankingEnd u pair ch
  | .filterExpiry _ pair ch => .filterExpiry u pair ch
  | .discrepancyExpiry _ pair => .discrepancyExpiry u pair
  | .ossdtolExpiry _ pair ch => .ossdtolExpiry u pair ch
  | .ossdchkExpiry _ pair ch => .ossdchkExpiry u pair ch
  | .ackActuation _ pin level => .ackActuation u pin level
  | .ackActuationDiscard _ => .ackActuationDiscard u
  | .switchtExpiry _ sheet idx => .switchtExpiry u sheet idx
  | .donExpiry _ sheet idx => .donExpiry u sheet idx
  | .cat1DelayExpiry _ sheet idx => .cat1DelayExpiry u sheet idx
  | .maxtExpiry _ sheet idx => .maxtExpiry u sheet idx
  | .toothEdge _ wheel pin level => .toothEdge u wheel pin level
  | .standstillConfirm _ sheet idx => .standstillConfirm u sheet idx
  | .motionLocalReset _ sheet idx => .motionLocalReset u sheet idx
  | .launchRelease _ => .launchRelease u
  | .readbackChange _ out leg level => .readbackChange u out leg level
  | .switchOnWindowEnd _ out => .switchOnWindowEnd u out
  | .ocfiltExpiry _ out leg => .ocfiltExpiry u out leg
  | .offdlyExpiry _ out leg => .offdlyExpiry u out leg
  | .outputFaultClear _ out => .outputFaultClear u out
  | .darkTestDue _ out leg => .darkTestDue u out leg
  | .darkTestStart _ out leg => .darkTestStart u out leg
  | .darkTestPass _ => .darkTestPass u
  | .darkTestTimeout _ => .darkTestTimeout u
  | .muzzleNLow _ width => .muzzleNLow u width
  | .muzzleNHigh _ => .muzzleNHigh u
  | .barkMon _ pin => .barkMon u pin
  | .kramPatrol _ errs => .kramPatrol u errs
  | .rotationDue _ => .rotationDue u
  | .rotationSplit _ => .rotationSplit u
  | .rotationLate _ => .rotationLate u
  | .rotationRejoin _ => .rotationRejoin u
  | .soloTimeout _ => .soloTimeout u
  | .rotctlNow _ value => .rotctlNow u value
  | .scrubPass _ upsets refError => .scrubPass u upsets refError
  | .scrubReload _ frame => .scrubReload u frame
  | .probeWrite _ addr value => .probeWrite u addr value
  | .radioTransfer _ port irqLow => .radioTransfer u port irqLow
  | .radioPoll _ port => .radioPoll u port
  | .beaconRequest _ port => .beaconRequest u port
  | .pdu _ port frame => .pdu u port frame
  | .beaconReport _ port frame => .beaconReport u port frame
  | .headStatus _ port frame => .headStatus u port frame
  | .portManagementFrame _ port frame => .portManagementFrame u port frame
  | .refreshMissed _ slot => .refreshMissed u slot
  | .maxageExpiry _ conn idx => .maxageExpiry u conn idx
  | .colQrel _ value => .colQrel u value
  | .helloSend _ port => .helloSend u port
  | .hello _ port frame => .hello u port frame
  | .linkFrameSend _ port => .linkFrameSend u port
  | .ackOrderedSet _ port seq compl => .ackOrderedSet u port seq compl
  | .ackTimeout _ port => .ackTimeout u port
  | .safetyDataFrame _ port frame => .safetyDataFrame u port frame
  | .safetyOpenFrame _ port frame => .safetyOpenFrame u port frame
  | .managementFrame _ port frame => .managementFrame u port frame
  | .connectionFrameTake _ conn => .connectionFrameTake u conn
  | .openSend _ conn => .openSend u conn
  | .yardQrel _ value => .yardQrel u value
  | .timeExchangeStart _ port => .timeExchangeStart u port
  | .sync _ frame => .sync u frame
  | .dreq _ port frame => .dreq u port frame
  | .dresp _ frame => .dresp u frame
  | .holdover _ => .holdover u
  | .syncLost _ => .syncLost u
  | .whistle _ port frame aborted => .whistle u port frame aborted
  | .whistleStop _ => .whistleStop u
  | .whistleClear _ => .whistleClear u
  | .faultRecordWrite _ => .faultRecordWrite u
  | .collInterval _ => .collInterval u
  | .localReactionTimeout _ => .localReactionTimeout u
  | .deviceLocalClear _ src => .deviceLocalClear u src
  | .sourceLocalClear _ src => .sourceLocalClear u src
  | .fstatClear _ reg value => .fstatClear u reg value
  | .faultAck _ value => .faultAck u value
  | .ridx _ value => .ridx u value
  | .sidx _ value => .sidx u value
  | .alertSrcClear _ value => .alertSrcClear u value
  | .tempReading _ t0 t1 t2 => .tempReading u t0 t1 t2
  | .groomWdog _ => .groomWdog u
  | .writeFrame _ csFall bytes extraBits => .writeFrame u csFall bytes extraBits
  | .readFrame _ csFall bytes turn bits => .readFrame u csFall bytes turn bits
  | .registerWrite _ addr value => .registerWrite u addr value
  | .echo _ => .echo u
  | .devuid _ => .devuid u
  | .maintEnter _ => .maintEnter u
  | .maintLeave _ => .maintLeave u
  | .imgBegin _ => .imgBegin u
  | .imgWrite _ => .imgWrite u
  | .imgVerify _ => .imgVerify u
  | .imgCommit _ obs => .imgCommit u obs
  | .yardMsend _ => .yardMsend u
  | .yardMrecv _ => .yardMrecv u
  | .lcAdvance _ => .lcAdvance u
  | .erasureComplete _ => .erasureComplete u
  | .erasureRestart _ => .erasureRestart u
  | .go _ value => .go u value
  | .spookEn _ value => .spookEn u value
  | .extest _ obs => .extest u obs
  | .idcode _ => .idcode u
  | .samplePreload _ cells => .samplePreload u cells
  | .bypass _ code => .bypass u code
  | .pairHalt _ digestDiffer => .pairHalt u digestDiffer
  | .leadInspect _ => .leadInspect u
  | .resync _ => .resync u
  | .tapReset _ => .tapReset u
  | .status _ => .status u
  | .readWord _ addr => .readWord u addr
  | .writeWord _ addr data => .writeWord u addr data
  | .readCoreRegister _ reg core => .readCoreRegister u reg core
  | .writeCoreRegister _ reg core data => .writeCoreRegister u reg core data
  | .step _ obs => .step u obs
  | .resume _ replayBad digestDiffer => .resume u replayBad digestDiffer
  | .siPinChange _ pair ch level => .siPinChange u pair ch level
  | .crystalRunning _ => .crystalRunning u
  | .pllLock _ => .pllLock u
  | .linkError _ port => .linkError u port
  | .yardTick _ => .yardTick u
  | .vinSample _ microvolts => .vinSample u microvolts

namespace Laws

/-- A command moved to another instant takes place there and is otherwise the same command. -/
def Timed.Statement (i : Instr) : Prop := ∀ u, (i.at_ u).time = u ∧ (i.at_ u).at_ i.time = i

theorem Timed.powerOnResetRelease (t : Nat) : Timed.Statement (.powerOnResetRelease t) := fun _ => ⟨rfl, rfl⟩
theorem Timed.powerOnResetAssert (t : Nat) : Timed.Statement (.powerOnResetAssert t) := fun _ => ⟨rfl, rfl⟩
theorem Timed.upSequenceStart (t : Nat) : Timed.Statement (.upSequenceStart t) := fun _ => ⟨rfl, rfl⟩
theorem Timed.seqPgRise (t : Nat) (ch : Fin 8) (obs : LoadObs) : Timed.Statement (.seqPgRise t ch obs) := fun _ => ⟨rfl, rfl⟩
theorem Timed.settleExpiry (t : Nat) (ch : Fin 8) (obs : LoadObs) : Timed.Statement (.settleExpiry t ch obs) := fun _ => ⟨rfl, rfl⟩
theorem Timed.pgTimeout (t : Nat) (ch : Fin 8) : Timed.Statement (.pgTimeout t ch) := fun _ => ⟨rfl, rfl⟩
theorem Timed.seqPgFall (t : Nat) (ch : Fin 8) (width : Nat) : Timed.Statement (.seqPgFall t ch width) := fun _ => ⟨rfl, rfl⟩
theorem Timed.shdn (t : Nat) (value : Word) : Timed.Statement (.shdn t value) := fun _ => ⟨rfl, rfl⟩
theorem Timed.dscTimeout (t : Nat) (ch : Fin 8) : Timed.Statement (.dscTimeout t ch) := fun _ => ⟨rfl, rfl⟩
theorem Timed.vinWarn (t : Nat) : Timed.Statement (.vinWarn t) := fun _ => ⟨rfl, rfl⟩
theorem Timed.vinOk (t : Nat) : Timed.Statement (.vinOk t) := fun _ => ⟨rfl, rfl⟩
theorem Timed.vinAbandon (t : Nat) (snapWriting : Bool) (recWriting : Bool) : Timed.Statement (.vinAbandon t snapWriting recWriting) := fun _ => ⟨rfl, rfl⟩
theorem Timed.vinAbandonEnd (t : Nat) : Timed.Statement (.vinAbandonEnd t) := fun _ => ⟨rfl, rfl⟩
theorem Timed.snapshotWrite (t : Nat) : Timed.Statement (.snapshotWrite t) := fun _ => ⟨rfl, rfl⟩
theorem Timed.resetNAssert (t : Nat) (width : Nat) : Timed.Statement (.resetNAssert t width) := fun _ => ⟨rfl, rfl⟩
theorem Timed.resetNRelease (t : Nat) : Timed.Statement (.resetNRelease t) := fun _ => ⟨rfl, rfl⟩
theorem Timed.crystalStartTimeout (t : Nat) : Timed.Statement (.crystalStartTimeout t) := fun _ => ⟨rfl, rfl⟩
theorem Timed.rcCalibration (t : Nat) (khz : Nat) : Timed.Statement (.rcCalibration t khz) := fun _ => ⟨rfl, rfl⟩
theorem Timed.bootComplete (t : Nat) (strap gateFail bank0 bank1 : Bool) : Timed.Statement (.bootComplete t strap gateFail bank0 bank1) := fun _ => ⟨rfl, rfl⟩
theorem Timed.cmpinjEnd (t : Nat) (uncaught : Option (Fin 264)) (falseFlag : Bool) : Timed.Statement (.cmpinjEnd t uncaught falseFlag) := fun _ => ⟨rfl, rfl⟩
theorem Timed.farrierTestStart (t : Nat) : Timed.Statement (.farrierTestStart t) := fun _ => ⟨rfl, rfl⟩
theorem Timed.farrierTestEnd (t : Nat) (pass : Bool) (result : BitVec 32) : Timed.Statement (.farrierTestEnd t pass result) := fun _ => ⟨rfl, rfl⟩
theorem Timed.selftestEnd (t : Nat) (obs : LoadObs) : Timed.Statement (.selftestEnd t obs) := fun _ => ⟨rfl, rfl⟩
theorem Timed.loftStart (t : Nat) : Timed.Statement (.loftStart t) := fun _ => ⟨rfl, rfl⟩
theorem Timed.lockwaitExpiry (t : Nat) : Timed.Statement (.lockwaitExpiry t) := fun _ => ⟨rfl, rfl⟩
theorem Timed.pllLossDetect (t : Nat) (idx : Fin 6) (dev : Int) : Timed.Statement (.pllLossDetect t idx dev) := fun _ => ⟨rfl, rfl⟩
theorem Timed.clockEdgeMissing (t : Nat) (idx : Fin 6) : Timed.Statement (.clockEdgeMissing t idx) := fun _ => ⟨rfl, rfl⟩
theorem Timed.rcstop (t : Nat) : Timed.Statement (.rcstop t) := fun _ => ⟨rfl, rfl⟩
theorem Timed.handshakeTimeout (t : Nat) (island : Fin 11) (waiter : Fin 11) : Timed.Statement (.handshakeTimeout t island waiter) := fun _ => ⟨rfl, rfl⟩
theorem Timed.fifoTransfer (t : Nat) (fifo : Fin 10) : Timed.Statement (.fifoTransfer t fifo) := fun _ => ⟨rfl, rfl⟩
theorem Timed.cycleBoundary (t : Nat) (obs : CycleObs) : Timed.Statement (.cycleBoundary t obs) := fun _ => ⟨rfl, rfl⟩
theorem Timed.crossCheckCapture (t : Nat) (upsets : List (Fin 2 × Fin 512)) : Timed.Statement (.crossCheckCapture t upsets) := fun _ => ⟨rfl, rfl⟩
theorem Timed.commandDeadline (t : Nat) (core : Fin 2) : Timed.Statement (.commandDeadline t core) := fun _ => ⟨rfl, rfl⟩
theorem Timed.darkPulseStart (t : Nat) (line : Fin 8) : Timed.Statement (.darkPulseStart t line) := fun _ => ⟨rfl, rfl⟩
theorem Timed.checkSample (t : Nat) (line : Fin 8) : Timed.Statement (.checkSample t line) := fun _ => ⟨rfl, rfl⟩
theorem Timed.darkPulseEnd (t : Nat) (line : Fin 8) : Timed.Statement (.darkPulseEnd t line) := fun _ => ⟨rfl, rfl⟩
theorem Timed.blankingEnd (t : Nat) (pair : Fin 32) (ch : Chan) : Timed.Statement (.blankingEnd t pair ch) := fun _ => ⟨rfl, rfl⟩
theorem Timed.filterExpiry (t : Nat) (pair : Fin 32) (ch : Chan) : Timed.Statement (.filterExpiry t pair ch) := fun _ => ⟨rfl, rfl⟩
theorem Timed.discrepancyExpiry (t : Nat) (pair : Fin 32) : Timed.Statement (.discrepancyExpiry t pair) := fun _ => ⟨rfl, rfl⟩
theorem Timed.ossdtolExpiry (t : Nat) (pair : Fin 32) (ch : Chan) : Timed.Statement (.ossdtolExpiry t pair ch) := fun _ => ⟨rfl, rfl⟩
theorem Timed.ossdchkExpiry (t : Nat) (pair : Fin 32) (ch : Chan) : Timed.Statement (.ossdchkExpiry t pair ch) := fun _ => ⟨rfl, rfl⟩
theorem Timed.ackActuation (t : Nat) (pin : Chan) (level : Bool) : Timed.Statement (.ackActuation t pin level) := fun _ => ⟨rfl, rfl⟩
theorem Timed.ackActuationDiscard (t : Nat) : Timed.Statement (.ackActuationDiscard t) := fun _ => ⟨rfl, rfl⟩
theorem Timed.switchtExpiry (t : Nat) (sheet : Fin 2) (idx : Fin 512) : Timed.Statement (.switchtExpiry t sheet idx) := fun _ => ⟨rfl, rfl⟩
theorem Timed.donExpiry (t : Nat) (sheet : Fin 2) (idx : Fin 512) : Timed.Statement (.donExpiry t sheet idx) := fun _ => ⟨rfl, rfl⟩
theorem Timed.cat1DelayExpiry (t : Nat) (sheet : Fin 2) (idx : Fin 512) : Timed.Statement (.cat1DelayExpiry t sheet idx) := fun _ => ⟨rfl, rfl⟩
theorem Timed.maxtExpiry (t : Nat) (sheet : Fin 2) (idx : Fin 512) : Timed.Statement (.maxtExpiry t sheet idx) := fun _ => ⟨rfl, rfl⟩
theorem Timed.toothEdge (t : Nat) (wheel : Fin 2) (pin : Chan) (level : Bool) : Timed.Statement (.toothEdge t wheel pin level) := fun _ => ⟨rfl, rfl⟩
theorem Timed.standstillConfirm (t : Nat) (sheet : Fin 2) (idx : Fin 512) : Timed.Statement (.standstillConfirm t sheet idx) := fun _ => ⟨rfl, rfl⟩
theorem Timed.motionLocalReset (t : Nat) (sheet : Fin 2) (idx : Fin 512) : Timed.Statement (.motionLocalReset t sheet idx) := fun _ => ⟨rfl, rfl⟩
theorem Timed.launchRelease (t : Nat) : Timed.Statement (.launchRelease t) := fun _ => ⟨rfl, rfl⟩
theorem Timed.readbackChange (t : Nat) (out : Fin 16) (leg : Leg) (level : Bool) : Timed.Statement (.readbackChange t out leg level) := fun _ => ⟨rfl, rfl⟩
theorem Timed.switchOnWindowEnd (t : Nat) (out : Fin 16) : Timed.Statement (.switchOnWindowEnd t out) := fun _ => ⟨rfl, rfl⟩
theorem Timed.ocfiltExpiry (t : Nat) (out : Fin 16) (leg : Leg) : Timed.Statement (.ocfiltExpiry t out leg) := fun _ => ⟨rfl, rfl⟩
theorem Timed.offdlyExpiry (t : Nat) (out : Fin 16) (leg : Leg) : Timed.Statement (.offdlyExpiry t out leg) := fun _ => ⟨rfl, rfl⟩
theorem Timed.outputFaultClear (t : Nat) (out : Fin 16) : Timed.Statement (.outputFaultClear t out) := fun _ => ⟨rfl, rfl⟩
theorem Timed.darkTestDue (t : Nat) (out : Fin 16) (leg : Leg) : Timed.Statement (.darkTestDue t out leg) := fun _ => ⟨rfl, rfl⟩
theorem Timed.darkTestStart (t : Nat) (out : Fin 16) (leg : Leg) : Timed.Statement (.darkTestStart t out leg) := fun _ => ⟨rfl, rfl⟩
theorem Timed.darkTestPass (t : Nat) : Timed.Statement (.darkTestPass t) := fun _ => ⟨rfl, rfl⟩
theorem Timed.darkTestTimeout (t : Nat) : Timed.Statement (.darkTestTimeout t) := fun _ => ⟨rfl, rfl⟩
theorem Timed.muzzleNLow (t : Nat) (width : Nat) : Timed.Statement (.muzzleNLow t width) := fun _ => ⟨rfl, rfl⟩
theorem Timed.muzzleNHigh (t : Nat) : Timed.Statement (.muzzleNHigh t) := fun _ => ⟨rfl, rfl⟩
theorem Timed.barkMon (t : Nat) (pin : Chan) : Timed.Statement (.barkMon t pin) := fun _ => ⟨rfl, rfl⟩
theorem Timed.kramPatrol (t : Nat) (errs : List EccEvent) : Timed.Statement (.kramPatrol t errs) := fun _ => ⟨rfl, rfl⟩
theorem Timed.rotationDue (t : Nat) : Timed.Statement (.rotationDue t) := fun _ => ⟨rfl, rfl⟩
theorem Timed.rotationSplit (t : Nat) : Timed.Statement (.rotationSplit t) := fun _ => ⟨rfl, rfl⟩
theorem Timed.rotationLate (t : Nat) : Timed.Statement (.rotationLate t) := fun _ => ⟨rfl, rfl⟩
theorem Timed.rotationRejoin (t : Nat) : Timed.Statement (.rotationRejoin t) := fun _ => ⟨rfl, rfl⟩
theorem Timed.soloTimeout (t : Nat) : Timed.Statement (.soloTimeout t) := fun _ => ⟨rfl, rfl⟩
theorem Timed.rotctlNow (t : Nat) (value : Word) : Timed.Statement (.rotctlNow t value) := fun _ => ⟨rfl, rfl⟩
theorem Timed.scrubPass (t : Nat) (upsets : List (Fin 1162 × Fin 1024)) (refError : Bool) : Timed.Statement (.scrubPass t upsets refError) := fun _ => ⟨rfl, rfl⟩
theorem Timed.scrubReload (t : Nat) (frame : Fin 1162) : Timed.Statement (.scrubReload t frame) := fun _ => ⟨rfl, rfl⟩
theorem Timed.probeWrite (t : Nat) (addr : Byte) (value : Word) : Timed.Statement (.probeWrite t addr value) := fun _ => ⟨rfl, rfl⟩
theorem Timed.radioTransfer (t : Nat) (port : Fin 2) (irqLow : Bool) : Timed.Statement (.radioTransfer t port irqLow) := fun _ => ⟨rfl, rfl⟩
theorem Timed.radioPoll (t : Nat) (port : Fin 2) : Timed.Statement (.radioPoll t port) := fun _ => ⟨rfl, rfl⟩
theorem Timed.beaconRequest (t : Nat) (port : Fin 2) : Timed.Statement (.beaconRequest t port) := fun _ => ⟨rfl, rfl⟩
theorem Timed.pdu (t : Nat) (port : Fin 2) (frame : List Byte) : Timed.Statement (.pdu t port frame) := fun _ => ⟨rfl, rfl⟩
theorem Timed.beaconReport (t : Nat) (port : Fin 2) (frame : List Byte) : Timed.Statement (.beaconReport t port frame) := fun _ => ⟨rfl, rfl⟩
theorem Timed.headStatus (t : Nat) (port : Fin 2) (frame : List Byte) : Timed.Statement (.headStatus t port frame) := fun _ => ⟨rfl, rfl⟩
theorem Timed.portManagementFrame (t : Nat) (port : Fin 2) (frame : List Byte) : Timed.Statement (.portManagementFrame t port frame) := fun _ => ⟨rfl, rfl⟩
theorem Timed.refreshMissed (t : Nat) (slot : Fin 64) : Timed.Statement (.refreshMissed t slot) := fun _ => ⟨rfl, rfl⟩
theorem Timed.maxageExpiry (t : Nat) (conn : Bool) (idx : Fin 64) : Timed.Statement (.maxageExpiry t conn idx) := fun _ => ⟨rfl, rfl⟩
theorem Timed.colQrel (t : Nat) (value : Word) : Timed.Statement (.colQrel t value) := fun _ => ⟨rfl, rfl⟩
theorem Timed.helloSend (t : Nat) (port : Fin 3) : Timed.Statement (.helloSend t port) := fun _ => ⟨rfl, rfl⟩
theorem Timed.hello (t : Nat) (port : Fin 3) (frame : List Byte) : Timed.Statement (.hello t port frame) := fun _ => ⟨rfl, rfl⟩
theorem Timed.linkFrameSend (t : Nat) (port : Fin 3) : Timed.Statement (.linkFrameSend t port) := fun _ => ⟨rfl, rfl⟩
theorem Timed.ackOrderedSet (t : Nat) (port : Fin 3) (seq : Byte) (compl : Byte) : Timed.Statement (.ackOrderedSet t port seq compl) := fun _ => ⟨rfl, rfl⟩
theorem Timed.ackTimeout (t : Nat) (port : Fin 3) : Timed.Statement (.ackTimeout t port) := fun _ => ⟨rfl, rfl⟩
theorem Timed.safetyDataFrame (t : Nat) (port : Fin 3) (frame : List Byte) : Timed.Statement (.safetyDataFrame t port frame) := fun _ => ⟨rfl, rfl⟩
theorem Timed.safetyOpenFrame (t : Nat) (port : Fin 3) (frame : List Byte) : Timed.Statement (.safetyOpenFrame t port frame) := fun _ => ⟨rfl, rfl⟩
theorem Timed.managementFrame (t : Nat) (port : Fin 3) (frame : List Byte) : Timed.Statement (.managementFrame t port frame) := fun _ => ⟨rfl, rfl⟩
theorem Timed.connectionFrameTake (t : Nat) (conn : Fin 64) : Timed.Statement (.connectionFrameTake t conn) := fun _ => ⟨rfl, rfl⟩
theorem Timed.openSend (t : Nat) (conn : Fin 64) : Timed.Statement (.openSend t conn) := fun _ => ⟨rfl, rfl⟩
theorem Timed.yardQrel (t : Nat) (value : Word) : Timed.Statement (.yardQrel t value) := fun _ => ⟨rfl, rfl⟩
theorem Timed.timeExchangeStart (t : Nat) (port : Fin 3) : Timed.Statement (.timeExchangeStart t port) := fun _ => ⟨rfl, rfl⟩
theorem Timed.sync (t : Nat) (frame : List Byte) : Timed.Statement (.sync t frame) := fun _ => ⟨rfl, rfl⟩
theorem Timed.dreq (t : Nat) (port : Fin 3) (frame : List Byte) : Timed.Statement (.dreq t port frame) := fun _ => ⟨rfl, rfl⟩
theorem Timed.dresp (t : Nat) (frame : List Byte) : Timed.Statement (.dresp t frame) := fun _ => ⟨rfl, rfl⟩
theorem Timed.holdover (t : Nat) : Timed.Statement (.holdover t) := fun _ => ⟨rfl, rfl⟩
theorem Timed.syncLost (t : Nat) : Timed.Statement (.syncLost t) := fun _ => ⟨rfl, rfl⟩
theorem Timed.whistle (t : Nat) (port : Fin 3) (frame : List Byte) (aborted : Bool) : Timed.Statement (.whistle t port frame aborted) := fun _ => ⟨rfl, rfl⟩
theorem Timed.whistleStop (t : Nat) : Timed.Statement (.whistleStop t) := fun _ => ⟨rfl, rfl⟩
theorem Timed.whistleClear (t : Nat) : Timed.Statement (.whistleClear t) := fun _ => ⟨rfl, rfl⟩
theorem Timed.faultRecordWrite (t : Nat) : Timed.Statement (.faultRecordWrite t) := fun _ => ⟨rfl, rfl⟩
theorem Timed.collInterval (t : Nat) : Timed.Statement (.collInterval t) := fun _ => ⟨rfl, rfl⟩
theorem Timed.localReactionTimeout (t : Nat) : Timed.Statement (.localReactionTimeout t) := fun _ => ⟨rfl, rfl⟩
theorem Timed.deviceLocalClear (t : Nat) (src : Src) : Timed.Statement (.deviceLocalClear t src) := fun _ => ⟨rfl, rfl⟩
theorem Timed.sourceLocalClear (t : Nat) (src : Src) : Timed.Statement (.sourceLocalClear t src) := fun _ => ⟨rfl, rfl⟩
theorem Timed.fstatClear (t : Nat) (reg : Fin 4) (value : Word) : Timed.Statement (.fstatClear t reg value) := fun _ => ⟨rfl, rfl⟩
theorem Timed.faultAck (t : Nat) (value : Word) : Timed.Statement (.faultAck t value) := fun _ => ⟨rfl, rfl⟩
theorem Timed.ridx (t : Nat) (value : Word) : Timed.Statement (.ridx t value) := fun _ => ⟨rfl, rfl⟩
theorem Timed.sidx (t : Nat) (value : Word) : Timed.Statement (.sidx t value) := fun _ => ⟨rfl, rfl⟩
theorem Timed.alertSrcClear (t : Nat) (value : Word) : Timed.Statement (.alertSrcClear t value) := fun _ => ⟨rfl, rfl⟩
theorem Timed.tempReading (t : Nat) (t0 : Int) (t1 : Int) (t2 : Int) : Timed.Statement (.tempReading t t0 t1 t2) := fun _ => ⟨rfl, rfl⟩
theorem Timed.groomWdog (t : Nat) : Timed.Statement (.groomWdog t) := fun _ => ⟨rfl, rfl⟩
theorem Timed.writeFrame (t : Nat) (csFall : Nat) (bytes : List Byte) (extraBits : Nat) : Timed.Statement (.writeFrame t csFall bytes extraBits) := fun _ => ⟨rfl, rfl⟩
theorem Timed.readFrame (t : Nat) (csFall : Nat) (bytes : List Byte) (turn : Nat) (bits : Nat) : Timed.Statement (.readFrame t csFall bytes turn bits) := fun _ => ⟨rfl, rfl⟩
theorem Timed.registerWrite (t : Nat) (addr : Byte) (value : Word) : Timed.Statement (.registerWrite t addr value) := fun _ => ⟨rfl, rfl⟩
theorem Timed.echo (t : Nat) : Timed.Statement (.echo t) := fun _ => ⟨rfl, rfl⟩
theorem Timed.devuid (t : Nat) : Timed.Statement (.devuid t) := fun _ => ⟨rfl, rfl⟩
theorem Timed.maintEnter (t : Nat) : Timed.Statement (.maintEnter t) := fun _ => ⟨rfl, rfl⟩
theorem Timed.maintLeave (t : Nat) : Timed.Statement (.maintLeave t) := fun _ => ⟨rfl, rfl⟩
theorem Timed.imgBegin (t : Nat) : Timed.Statement (.imgBegin t) := fun _ => ⟨rfl, rfl⟩
theorem Timed.imgWrite (t : Nat) : Timed.Statement (.imgWrite t) := fun _ => ⟨rfl, rfl⟩
theorem Timed.imgVerify (t : Nat) : Timed.Statement (.imgVerify t) := fun _ => ⟨rfl, rfl⟩
theorem Timed.imgCommit (t : Nat) (obs : LoadObs) : Timed.Statement (.imgCommit t obs) := fun _ => ⟨rfl, rfl⟩
theorem Timed.yardMsend (t : Nat) : Timed.Statement (.yardMsend t) := fun _ => ⟨rfl, rfl⟩
theorem Timed.yardMrecv (t : Nat) : Timed.Statement (.yardMrecv t) := fun _ => ⟨rfl, rfl⟩
theorem Timed.lcAdvance (t : Nat) : Timed.Statement (.lcAdvance t) := fun _ => ⟨rfl, rfl⟩
theorem Timed.erasureComplete (t : Nat) : Timed.Statement (.erasureComplete t) := fun _ => ⟨rfl, rfl⟩
theorem Timed.erasureRestart (t : Nat) : Timed.Statement (.erasureRestart t) := fun _ => ⟨rfl, rfl⟩
theorem Timed.go (t : Nat) (value : Word) : Timed.Statement (.go t value) := fun _ => ⟨rfl, rfl⟩
theorem Timed.spookEn (t : Nat) (value : Word) : Timed.Statement (.spookEn t value) := fun _ => ⟨rfl, rfl⟩
theorem Timed.extest (t : Nat) (obs : ExtestIn) : Timed.Statement (.extest t obs) := fun _ => ⟨rfl, rfl⟩
theorem Timed.idcode (t : Nat) : Timed.Statement (.idcode t) := fun _ => ⟨rfl, rfl⟩
theorem Timed.samplePreload (t : Nat) (cells : Cells) : Timed.Statement (.samplePreload t cells) := fun _ => ⟨rfl, rfl⟩
theorem Timed.bypass (t : Nat) (code : BitVec 5) : Timed.Statement (.bypass t code) := fun _ => ⟨rfl, rfl⟩
theorem Timed.pairHalt (t : Nat) (digestDiffer : Bool) : Timed.Statement (.pairHalt t digestDiffer) := fun _ => ⟨rfl, rfl⟩
theorem Timed.leadInspect (t : Nat) : Timed.Statement (.leadInspect t) := fun _ => ⟨rfl, rfl⟩
theorem Timed.resync (t : Nat) : Timed.Statement (.resync t) := fun _ => ⟨rfl, rfl⟩
theorem Timed.tapReset (t : Nat) : Timed.Statement (.tapReset t) := fun _ => ⟨rfl, rfl⟩
theorem Timed.status (t : Nat) : Timed.Statement (.status t) := fun _ => ⟨rfl, rfl⟩
theorem Timed.readWord (t : Nat) (addr : BitVec 28) : Timed.Statement (.readWord t addr) := fun _ => ⟨rfl, rfl⟩
theorem Timed.writeWord (t : Nat) (addr : BitVec 28) (data : BitVec 32) : Timed.Statement (.writeWord t addr data) := fun _ => ⟨rfl, rfl⟩
theorem Timed.readCoreRegister (t : Nat) (reg : CoreReg) (core : Fin 2) : Timed.Statement (.readCoreRegister t reg core) := fun _ => ⟨rfl, rfl⟩
theorem Timed.writeCoreRegister (t : Nat) (reg : CoreReg) (core : Fin 2) (data : BitVec 32) : Timed.Statement (.writeCoreRegister t reg core data) := fun _ => ⟨rfl, rfl⟩
theorem Timed.step (t : Nat) (obs : StepIn) : Timed.Statement (.step t obs) := fun _ => ⟨rfl, rfl⟩
theorem Timed.resume (t : Nat) (replayBad : Option (Fin 64)) (digestDiffer : Bool) : Timed.Statement (.resume t replayBad digestDiffer) := fun _ => ⟨rfl, rfl⟩
theorem Timed.siPinChange (t : Nat) (pair : Fin 32) (ch : Chan) (level : Bool) : Timed.Statement (.siPinChange t pair ch level) := fun _ => ⟨rfl, rfl⟩
theorem Timed.crystalRunning (t : Nat) : Timed.Statement (.crystalRunning t) := fun _ => ⟨rfl, rfl⟩
theorem Timed.pllLock (t : Nat) : Timed.Statement (.pllLock t) := fun _ => ⟨rfl, rfl⟩
theorem Timed.linkError (t : Nat) (port : Fin 3) : Timed.Statement (.linkError t port) := fun _ => ⟨rfl, rfl⟩
theorem Timed.yardTick (t : Nat) : Timed.Statement (.yardTick t) := fun _ => ⟨rfl, rfl⟩
theorem Timed.vinSample (t : Nat) (microvolts : Nat) : Timed.Statement (.vinSample t microvolts) := fun _ => ⟨rfl, rfl⟩

end Laws

end Sys2Proof
end

