-- ==== Sys2Proof/Laws/Reactions.lean ====
section
/-!
SUPPORT. What a raised error and the settling of the part may do to the run state, the sequencer, the latched errors and the bark:
only what `State.Worse` admits, never back.
-/
namespace Sys2Proof.Machine

/-- The second state came from the first by reactions only: the run state stays, goes from ARMED, RUN or MAINT to SAFE, or goes to
CUT; without a CUT the sequencer, the control port's power and the images stay; no latched error clears. -/
structure State.Worse (s s' : State) : Prop where
  rs : s'.clk.rs = s.clk.rs ∨ s'.clk.rs = .cut ∨ (s'.clk.rs = .safe ∧ (s.clk.rs = .armed ∨ s.clk.rs = .run ∨ s.clk.rs = .maint))
  seq : s'.clk.rs = .cut ∨ s'.seq = s.seq
  cpOn : (s'.clk.rs = .cut ∧ s'.cp.on = false) ∨ s'.cp.on = s.cp.on
  img : s'.clk.rs = .cut ∨ s'.img = s.img
  en : s'.seq.en = s.seq.en ∨ s'.seq.en = List.replicate 8 false
  held : s.clk.held = true → s'.clk.held = true ∨ s'.clk.rs = .cut
  fstat : ∀ b, bit s.flt.fstat b = true → bit s'.flt.fstat b = true
  bark : s.sout.barkHold = true → s'.sout.barkHold = true

theorem State.Worse.refl (s : State) : s.Worse s :=
  ⟨.inl rfl, .inr rfl, .inr rfl, .inr rfl, .inl rfl, .inl, fun _ => id, id⟩

theorem State.Worse.trans {s t u : State} (h : s.Worse t) (k : t.Worse u) : s.Worse u where
  rs := by
    rcases k.rs with k1 | k1 | ⟨k1, k2⟩
    · rw [k1]; exact h.rs
    · exact .inr (.inl k1)
    · rcases h.rs with h1 | h1 | ⟨h1, _⟩
      · rw [h1] at k2; exact .inr (.inr ⟨k1, k2⟩)
      · rw [h1] at k2; rcases k2 with k2 | k2 | k2 <;> cases k2
      · rw [h1] at k2; rcases k2 with k2 | k2 | k2 <;> cases k2
  seq := by
    rcases k.seq with k1 | k1
    · exact .inl k1
    · rcases h.seq with h1 | h1
      · have k2 := k.rs; rw [h1] at k2; rcases k2 with k2 | k2 | ⟨_, k2 | k2 | k2⟩ <;> first | exact .inl k2 | cases k2
      · exact .inr (k1.trans h1)
  cpOn := by
    rcases k.cpOn with k1 | k1
    · exact .inl k1
    · rcases h.cpOn with ⟨h1, h2⟩ | h1
      · have k2 := k.rs; rw [h1] at k2; rcases k2 with k2 | k2 | ⟨_, k2 | k2 | k2⟩ <;> first | exact .inl ⟨k2, k1.trans h2⟩ | cases k2
      · exact .inr (k1.trans h1)
  img := by
    rcases k.img with k1 | k1
    · exact .inl k1
    · rcases h.img with h1 | h1
      · have k2 := k.rs; rw [h1] at k2; rcases k2 with k2 | k2 | ⟨_, k2 | k2 | k2⟩ <;> first | exact .inl k2 | cases k2
      · exact .inr (k1.trans h1)
  en := by
    rcases k.en with k1 | k1
    · rw [k1]; exact h.en
    · exact .inr k1
  held := by
    intro a
    rcases h.held a with h1 | h1
    · exact k.held h1
    · have k2 := k.rs; rw [h1] at k2; rcases k2 with k2 | k2 | ⟨_, k2 | k2 | k2⟩ <;> first | exact .inr k2 | cases k2
  fstat := fun b x => k.fstat b (h.fstat b x)
  bark := fun x => k.bark (h.bark x)

theorem State.Worse.foldl {α : Type} (f : State → α → State) (h : ∀ (s : State) (a : α), s.Worse (f s a)) : ∀ (l : List α) (s : State), s.Worse (l.foldl f s)
  | [], s => .refl s
  | a :: l, s => (h s a).trans (State.Worse.foldl f h l (f s a))

/-- What leaves clk, seq, cp.on, img, fstat and the bark alone. -/
theorem State.Worse.of_same {s s' : State} (h1 : s'.clk = s.clk) (h2 : s'.seq = s.seq) (h3 : s'.cp.on = s.cp.on) (h4 : s'.img = s.img)
    (h5 : s'.flt.fstat = s.flt.fstat) (h6 : s'.sout.barkHold = s.sout.barkHold) : s.Worse s' :=
  ⟨.inl (by rw [h1]), .inr h2, .inr h3, .inr h4, .inl (by rw [h2]), fun h => .inl (by rw [h1]; exact h),
    fun b => by rw [h5]; exact id, fun h => by rw [h6]; exact h⟩

theorem State.alert_worse (s : State) (n : Nat) : s.Worse (s.alert n) := by
  unfold State.alert; split
  · exact .refl s
  · exact .of_same rfl rfl rfl rfl rfl rfl

theorem State.Worse.alert {s x : State} (h : s.Worse x) (n : Nat) : s.Worse (x.alert n) := h.trans (State.alert_worse _ _)

theorem State.Worse.err {s x : State} (h : s.Worse x) (k : ∀ (x : State) (src : Src) (d : Nat), x.Worse (x.err src d)) (src : Src) (d : Nat) :
    s.Worse (x.err src d) := h.trans (k _ _ _)

theorem State.trigger_worse (s : State) (n : Nat) : s.Worse (s.trigger n) := .of_same rfl rfl rfl rfl rfl rfl

theorem State.cancelLaunch_worse (s : State) (k g : Nat) : s.Worse (s.cancelLaunch k g) := .of_same rfl rfl rfl rfl rfl rfl

theorem State.farrStop_worse (s : State) (src : Src) : s.Worse (s.farrStop src) := by
  have h : ∀ x : State, x.Worse x.hostRestore := fun x => by
    unfold State.hostRestore; split
    · exact .of_same rfl rfl rfl rfl rfl rfl
    · exact .refl x
  unfold State.farrStop; dsimp only; split
  · split
    · refine State.Worse.trans (?_ : s.Worse _) (h _)
      exact .of_same rfl rfl rfl rfl rfl rfl
    · exact .of_same rfl rfl rfl rfl rfl rfl
  · exact .refl s

theorem State.snap_frame (s : State) (a b : Nat) :
    (s.snap a b).clk = s.clk ∧ (s.snap a b).cp = s.cp ∧ (s.snap a b).flt = s.flt ∧ (s.snap a b).sout = s.sout ∧ (s.snap a b).seq.en = s.seq.en := by
  unfold State.snap; (repeat' split) <;> simp

theorem State.cut_rs (s : State) (a b : Nat) : (s.cut a b).clk.rs = .cut ∧ (s.cut a b).seq.en = List.replicate 8 false ∧
    (s.cut a b).sout.open_ = true ∧ (s.cut a b).sout.barkHold = true ∧ (s.cut a b).cp.on = false ∧ (s.cut a b).flt = s.flt := by
  unfold State.cut
  exact ⟨rfl, rfl, rfl, rfl, rfl, (s.snap_frame a b).2.2.1⟩

theorem State.cut_worse (s : State) (a b : Nat) : s.Worse (s.cut a b) :=
  have h := s.cut_rs a b
  ⟨.inr (.inl h.1), .inl h.1, .inl ⟨h.1, h.2.2.2.2.1⟩, .inl h.1, .inr h.2.1, fun _ => .inr h.1, fun b => by rw [h.2.2.2.2.2]; exact id,
    fun _ => h.2.2.2.1⟩

theorem State.holdBark_worse (s : State) : s.Worse s.holdBark :=
  ⟨.inl rfl, .inr rfl, .inr rfl, .inr rfl, .inl rfl, .inl, fun _ => id, fun _ => rfl⟩

theorem State.toSafe_worse (s : State) : s.Worse s.toSafe := by
  have hold : s.Worse (if s.clk.held then s else ({ s with clk := { s.clk with held := true } }).alert 2) := by
    split
    · exact .refl s
    · refine State.Worse.alert ?_ _
      exact ⟨.inl rfl, .inr rfl, .inr rfl, .inr rfl, .inl rfl, fun _ => .inl rfl, fun _ => id, id⟩
  unfold State.toSafe
  dsimp only
  split
  case h_5 h => exact ⟨.inr (.inr ⟨rfl, .inr (.inl h)⟩), .inr rfl, .inr rfl, .inr rfl, .inl rfl, .inl, fun _ => id, id⟩
  case h_6 h => exact ⟨.inr (.inr ⟨rfl, .inr (.inr h)⟩), .inr rfl, .inr rfl, .inr rfl, .inl rfl, .inl, fun _ => id, id⟩
  case h_4 h =>
    split
    · exact hold
    · exact ⟨.inr (.inr ⟨rfl, .inl h⟩), .inr rfl, .inr rfl, .inr rfl, .inl rfl, .inl, fun _ => id, id⟩
  all_goals first
    | exact hold
    | exact .refl s

theorem State.stop_worse (s : State) : s.Worse s.stop :=
  ((s.trigger_worse _).trans (State.holdBark_worse _)).trans (State.toSafe_worse _)

/-- After the STOP reaction the run state is not ARMED, RUN or MAINT, or the state is held. -/
theorem State.toSafe_open (s : State) : s.toSafe.clk.held = true ∨ (s.toSafe.clk.rs ≠ .armed ∧ s.toSafe.clk.rs ≠ .run ∧ s.toSafe.clk.rs ≠ .maint) := by
  have hold : (if s.clk.held then s else ({ s with clk := { s.clk with held := true } }).alert 2).clk.held = true := by
    split
    · assumption
    · unfold State.alert; split <;> rfl
  unfold State.toSafe
  dsimp only
  split
  case h_4 h =>
    split
    · exact .inl hold
    · exact .inr ⟨nofun, nofun, nofun⟩
  case h_7 h1 h2 h3 h4 h5 h6 => exact .inr ⟨h4, h5, h6⟩
  all_goals first
    | exact .inl hold
    | exact .inr ⟨nofun, nofun, nofun⟩

theorem State.toSafe_sout (s : State) : s.toSafe.sout = s.sout := by
  unfold State.toSafe State.alert; dsimp only; (repeat' split) <;> rfl

theorem State.stop_sout (s : State) : s.stop.sout.open_ = true ∧ s.stop.sout.barkHold = true := by
  simp [State.stop, State.toSafe_sout, State.holdBark, State.trigger]

theorem State.modCom_worse (s : State) (k i : Nat) (f : InstCom → InstCom) : s.Worse (s.modCom k i f) := by
  unfold State.modCom State.modSheet; split <;> exact .of_same rfl rfl rfl rfl rfl rfl

theorem State.addLocal_worse (s : State) (src : Src) (d r : Nat) (e : Nat × Nat) : s.Worse (s.addLocal src d r e) := by
  unfold State.addLocal; dsimp only; split
  · exact (State.modCom_worse _ _ _ _).trans (State.alert_worse _ _)
  · exact State.modCom_worse _ _ _ _

theorem State.localReact_worse (s : State) (src : Src) (d r : Nat) : s.Worse (s.localReact src d r) := by
  unfold State.localReact State.cancelAffected
  dsimp only
  exact (State.Worse.foldl _ (fun s e => s.addLocal_worse src d r e) _ _).trans
    (State.Worse.foldl _ (fun s e => by exact .of_same rfl rfl rfl rfl rfl rfl) _ _)

theorem State.record_worse (s : State) (b d : Nat) (c : Cls) : s.Worse (s.record b d c) := by
  unfold State.record State.suppress State.openRecord State.mergeRecord
  dsimp only
  (repeat' split) <;> first | exact .refl s | exact .of_same rfl rfl rfl rfl rfl rfl | (refine State.Worse.alert ?_ _; exact .of_same rfl rfl rfl rfl rfl rfl)

theorem bit_or (a b n : Nat) : bit (a ||| b) n = (bit a n || bit b n) := by simp [bit]

theorem State.record_fstat (s : State) (b d : Nat) (c : Cls) : (s.record b d c).flt.fstat = s.flt.fstat := by
  unfold State.record State.suppress State.openRecord State.mergeRecord State.alert
  dsimp only
  (repeat' split) <;> rfl

/-- The latch of an error. -/
def State.latch (s : State) (src : Src) (c : Cls) : State :=
  { s with flt := { s.flt with
      fstat := s.flt.fstat ||| 2 ^ src.bit, occ := setAt s.flt.occ src.bit (some s.now)
      smp := (if s.flt.smpAt == s.now then s.flt.smp else 0) ||| 2 ^ src.bit, smpAt := s.now
      smpStop := (if s.flt.smpAt == s.now then s.flt.smpStop else 0) ||| (if 2 ≤ c.code then 2 ^ src.bit else 0)
      item1 := if 2 ≤ c.code then some s.now else s.flt.item1 } }

/-- The reaction of an error's effective class. -/
def State.reactTo (s : State) (src : Src) (d : Nat) (c : Cls) : State :=
  match c with
    | .note => s
    | .loc => s.localReact src d (match s.flt.rec? with | some o => o.r.recno | none => 0)
    | .stop =>
      let s := s.farrStop src
      match ownTrigger src with
      | some n => (s.trigger n).stop
      | none => s.stop
    | .cut => if src = .seqPg then s.trigger trigColl else (s.trigger trigColl).cut 0x07 src.bit

/-- Raising is latching, recording and reacting. -/
theorem State.raise_eq (s : State) (src : Src) (d : Nat) (c : Cls) : s.raise src d c =
    if !s.flt.on then s else
      ((s.latch src (Cls.max (s.mapEntry src) c)).record src.bit d (Cls.max (s.mapEntry src) c)).reactTo src d (Cls.max (s.mapEntry src) c) := rfl

theorem State.latch_worse (s : State) (src : Src) (c : Cls) : s.Worse (s.latch src c) :=
  ⟨.inl rfl, .inr rfl, .inr rfl, .inr rfl, .inl rfl, .inl, fun b h => by
    show bit (_ ||| _) b = true
    rw [bit_or, h]; rfl, id⟩

theorem State.reactTo_worse (s : State) (src : Src) (d : Nat) (c : Cls) : s.Worse (s.reactTo src d c) := by
  unfold State.reactTo
  dsimp only
  split
  · exact .refl s
  · exact State.localReact_worse _ _ _ _
  · split
    · exact ((State.farrStop_worse _ _).trans (State.trigger_worse _ _)).trans (State.stop_worse _)
    · exact (State.farrStop_worse _ _).trans (State.stop_worse _)
  · split
    · exact State.trigger_worse _ _
    · exact (State.trigger_worse _ _).trans (State.cut_worse _ _ _)

theorem State.raise_worse (s : State) (src : Src) (d : Nat) (c : Cls) : s.Worse (s.raise src d c) := by
  rw [State.raise_eq]
  split
  · exact .refl s
  · exact ((State.latch_worse _ _ _).trans (State.record_worse _ _ _ _)).trans (State.reactTo_worse _ _ _ _)

theorem State.err_worse (s : State) (src : Src) (d : Nat) : s.Worse (s.err src d) := s.raise_worse _ _ _

theorem State.line_worse (s : State) (src : Src) (a : Bool) (d : Nat) : s.Worse (s.line src a d) := by
  unfold State.line
  dsimp only
  (repeat' split)
  · exact .refl s
  · refine State.Worse.err ?_ State.err_worse _ _; exact .of_same rfl rfl rfl rfl rfl rfl
  · exact .of_same rfl rfl rfl rfl rfl rfl
  · exact .refl s

theorem State.raiseAll_worse (s : State) (l : List (Src × Nat)) : s.Worse (s.raiseAll l) := by
  unfold State.raiseAll
  refine State.Worse.foldl _ (fun s e => ?_) _ _
  exact s.err_worse e.1 e.2

/-! ## Settling -/

theorem State.refs_worse (s : State) : s.Worse s.refs := .of_same rfl rfl rfl rfl rfl rfl
theorem State.openings_worse (s : State) : s.Worse s.openings := .of_same rfl rfl rfl rfl rfl rfl

theorem State.evalB_worse (s : State) (t : Bool) : s.Worse (s.evalB t).1 := by
  unfold State.evalB
  split
  · dsimp only
    refine State.Worse.trans ?_ (State.Worse.foldl _ (fun s e => by exact s.cancelLaunch_worse _ _) _ _)
    exact .of_same rfl rfl rfl rfl rfl rfl
  · exact .refl s

theorem State.runB_worse (s : State) (t : Bool) : s.Worse (s.runB t) := by
  unfold State.runB
  dsimp only
  split
  · exact s.evalB_worse t
  · exact ((s.evalB_worse t).trans (State.raiseAll_worse _ _)).trans (State.evalB_worse _ _)

theorem State.mapOuts_worse (s : State) (f : Nat → OutSt → OutSt) : s.Worse (s.mapOuts f) := .of_same rfl rfl rfl rfl rfl rfl

theorem State.mCommands_worse (s : State) : s.Worse s.mCommands := by
  unfold State.mCommands; split
  · exact .refl s
  · exact .of_same rfl rfl rfl rfl rfl rfl

theorem State.monitor_worse (s : State) : s.Worse s.monitor := by
  unfold State.monitor; split <;> exact .of_same rfl rfl rfl rfl rfl rfl

theorem State.holdLine_worse (s : State) (src : Src) (a : Bool) : s.Worse (s.holdLine src a) := by
  unfold State.holdLine; split
  · exact .of_same rfl rfl rfl rfl rfl rfl
  · exact s.line_worse _ _ _

theorem State.shortLine_worse (s : State) : s.Worse s.shortLine := (s.holdLine_worse _ _).trans (State.holdLine_worse _ _ _)
theorem State.muzzle_worse (s : State) : s.Worse s.muzzle := .of_same rfl rfl rfl rfl rfl rfl

theorem State.darkAbort_worse (s : State) : s.Worse s.darkAbort := by
  unfold State.darkAbort
  split
  · split
    · exact .refl s
    · exact .of_same rfl rfl rfl rfl rfl rfl
  · exact .refl s

theorem State.pads_worse (s : State) : s.Worse s.pads := by
  unfold State.pads
  dsimp only
  exact ((State.mapOuts_worse _ _).trans (State.darkAbort_worse _)).trans (State.mapOuts_worse _ _)

theorem State.closeRecord_worse (s : State) : s.Worse s.closeRecord := by
  unfold State.closeRecord
  split
  · (refine State.Worse.alert ?_ _; exact .of_same rfl rfl rfl rfl rfl rfl)
  · exact .refl s

theorem State.closing_worse (s : State) : s.Worse s.closing := by
  unfold State.closing
  (repeat' split) <;> first | exact .refl s | exact State.closeRecord_worse _

theorem State.item1_worse (s : State) : s.Worse s.item1 := by
  unfold State.item1; dsimp only; split <;> split <;> exact .of_same rfl rfl rfl rfl rfl rfl

/-- Everything that settling may do to the run state, the sequencer, the latched errors and the bark. -/
theorem State.settleAt_worse (s : State) (t : Bool) : s.Worse (s.settleAt t) := by
  unfold State.settleAt
  exact (((((((((s.refs_worse.trans (State.openings_worse _)).trans (State.runB_worse _ _)).trans (State.openings_worse _)).trans
    (State.mCommands_worse _)).trans (State.monitor_worse _)).trans (State.shortLine_worse _)).trans (State.muzzle_worse _)).trans
    (State.pads_worse _)).trans (State.closing_worse _)).trans (State.item1_worse _)

end Sys2Proof.Machine
end

