-- ==== Sys2Proof/Laws/Quiet.lean ====
section
/-!
SUPPORT. Settling where channel B does not evaluate: no error is raised, and only the openings, the outputs, the closing of a record
and item 1 move.
-/
namespace Sys2Proof.Machine

/-- What settling leaves as it was where channel B does not evaluate. -/
structure State.Quiet (s s' : State) : Prop where
  clk : s'.clk = s.clk
  seq : s'.seq = s.seq
  img : s'.img = s.img
  farr : s'.farr = s.farr
  yard : s'.yard = s.yard
  on : s'.cp.on = s.cp.on
  fstat : s'.flt.fstat = s.flt.fstat
  pair : s'.pair = s.pair
  recno : s'.flt.recno = s.flt.recno
  opened : s'.flt.opened = s.flt.opened
  bark : s'.sout.barkHold = s.sout.barkHold
  barkA : s'.sout.barkA = s.sout.barkA
  barkB : s'.sout.barkB = s.sout.barkB
  locals : ∀ k i e, e ∈ (s'.com k i).locals → e ∈ (s.com k i).locals

theorem State.Quiet.refl (s : State) : s.Quiet s := ⟨rfl, rfl, rfl, rfl, rfl, rfl, rfl, rfl, rfl, rfl, rfl, rfl, rfl, fun _ _ _ h => h⟩

theorem State.Quiet.trans {s t u : State} (h : s.Quiet t) (k : t.Quiet u) : s.Quiet u :=
  ⟨k.clk.trans h.clk, k.seq.trans h.seq, k.img.trans h.img, k.farr.trans h.farr, k.yard.trans h.yard, k.on.trans h.on,
    k.fstat.trans h.fstat, k.pair.trans h.pair, k.recno.trans h.recno, k.opened.trans h.opened, k.bark.trans h.bark,
    k.barkA.trans h.barkA, k.barkB.trans h.barkB, fun a b c d => h.locals a b c (k.locals a b c d)⟩

/-- What leaves all of it alone, LOCALs included. -/
theorem State.Quiet.of_same {s s' : State} (h1 : s'.clk = s.clk) (h2 : s'.seq = s.seq) (h3 : s'.img = s.img) (h4 : s'.farr = s.farr)
    (h5 : s'.yard = s.yard) (h6 : s'.cp.on = s.cp.on) (h7 : s'.flt.fstat = s.flt.fstat) (h8 : s'.pair = s.pair)
    (h9 : s'.flt.recno = s.flt.recno) (h10 : s'.flt.opened = s.flt.opened) (h11 : s'.sout.barkHold = s.sout.barkHold)
    (h12 : s'.sout.barkA = s.sout.barkA) (h13 : s'.sout.barkB = s.sout.barkB)
    (h14 : s'.sh0.com = s.sh0.com) (h15 : s'.sh1.com = s.sh1.com) : s.Quiet s' :=
  ⟨h1, h2, h3, h4, h5, h6, h7, h8, h9, h10, h11, h12, h13, fun k i e h => by
    have h' : s'.com k i = s.com k i := by
      unfold State.com State.sheet
      split
      · rw [h14]
      · rw [h15]
    rwa [h'] at h⟩

theorem State.progress_locals (s : State) (r : List Byte) (a b : InstSt) (c : InstCom) (e : LocalEnt) :
    e ∈ (s.progress r a b c).locals → e ∈ c.locals := by
  unfold State.progress
  dsimp only
  intro h
  exact (List.mem_filter.1 h).1

theorem State.progressRecs_locals (s : State) (e : LocalEnt) : ∀ (rs : List (List Byte)) (as bs : List InstSt) (cs : List InstCom) (i : Nat),
    e ∈ (nth {} (s.progressRecs rs as bs cs) i).locals → e ∈ (nth {} cs i).locals
  | r :: rs, as, bs, c :: cs, 0, h => s.progress_locals _ _ _ _ _ h
  | r :: rs, as, bs, c :: cs, i + 1, h => State.progressRecs_locals s e rs as.tail bs.tail cs i h
  | [], as, bs, cs, i, h => by cases as <;> cases bs <;> cases cs <;> cases i <;> simp [State.progressRecs, nth] at h
  | r :: rs, as, bs, [], i, h => by cases i <;> simp [State.progressRecs, nth] at h

theorem State.progressSheet_locals (s : State) (h : Sheet) (i : Nat) (e : LocalEnt) :
    e ∈ (nth {} (s.progressSheet h).com i).locals → e ∈ (nth {} h.com i).locals := by
  unfold State.progressSheet
  split
  · exact State.progressRecs_locals s e _ _ _ _ _
  · exact id

theorem State.openings_quiet (s : State) : s.Quiet s.openings :=
  ⟨rfl, rfl, rfl, rfl, rfl, rfl, rfl, rfl, rfl, rfl, rfl, rfl, rfl, fun k i e h => by
    revert h
    unfold State.com State.sheet
    by_cases hk : k = 0
    · simp only [hk, if_true]; exact State.progressSheet_locals s s.sh0 i e
    · simp only [hk, if_false]; exact State.progressSheet_locals s s.sh1 i e⟩

theorem State.runB_quiet (s : State) (t : Bool) (h : s.chanB = false) : s.runB t = s := by
  simp [State.runB, State.evalB, h]

theorem State.alert_quiet (s : State) (n : Nat) : s.Quiet (s.alert n) := by
  unfold State.alert; split
  · exact .refl s
  · exact .of_same rfl rfl rfl rfl rfl rfl rfl rfl rfl rfl rfl rfl rfl rfl rfl

theorem State.mapOuts_quiet (s : State) (f : Nat → OutSt → OutSt) : s.Quiet (s.mapOuts f) :=
  .of_same rfl rfl rfl rfl rfl rfl rfl rfl rfl rfl rfl rfl rfl rfl rfl

theorem State.mCommands_quiet (s : State) : s.Quiet s.mCommands := by
  unfold State.mCommands; split
  · exact .refl s
  · exact State.mapOuts_quiet _ _

theorem State.monitor_quiet (s : State) : s.Quiet s.monitor := by
  unfold State.monitor; split <;> exact .of_same rfl rfl rfl rfl rfl rfl rfl rfl rfl rfl rfl rfl rfl rfl rfl

theorem State.darkAbort_quiet (s : State) : s.Quiet s.darkAbort := by
  unfold State.darkAbort
  split
  · split
    · exact .refl s
    · exact .of_same rfl rfl rfl rfl rfl rfl rfl rfl rfl rfl rfl rfl rfl rfl rfl
  · exact .refl s

theorem State.pads_quiet (s : State) : s.Quiet s.pads := by
  unfold State.pads
  dsimp only
  exact ((State.mapOuts_quiet _ _).trans (State.darkAbort_quiet _)).trans (State.mapOuts_quiet _ _)

theorem State.closeRecord_quiet (s : State) : s.Quiet s.closeRecord := by
  unfold State.closeRecord
  split
  · refine State.Quiet.trans ?_ (State.alert_quiet _ _)
    exact .of_same rfl rfl rfl rfl rfl rfl rfl rfl rfl rfl rfl rfl rfl rfl rfl
  · exact .refl s

theorem State.closing_quiet (s : State) : s.Quiet s.closing := by
  unfold State.closing
  (repeat' split) <;> first | exact .refl s | exact State.closeRecord_quiet _

theorem State.item1_quiet (s : State) : s.Quiet s.item1 := by
  unfold State.item1; dsimp only; split <;> split <;> exact .of_same rfl rfl rfl rfl rfl rfl rfl rfl rfl rfl rfl rfl rfl rfl rfl

/-- The run state, the hold and the arrangement decide whether channel B evaluates. -/
theorem chanB_same {s s' : State} (h : s'.clk = s.clk) (k : s'.pair = s.pair) : s'.chanB = s.chanB := by
  unfold State.chanB; rw [h, k]

/-- Settling where channel B does not evaluate. -/
theorem State.settleAt_quiet (s : State) (t : Bool) (h : s.chanB = false) : s.Quiet (s.settleAt t) := by
  unfold State.settleAt
  have h1 : s.Quiet s.refs := .of_same rfl rfl rfl rfl rfl rfl rfl rfl rfl rfl rfl rfl rfl rfl rfl
  have h2 : (s.refs.openings).chanB = false := h
  rw [State.runB_quiet _ _ h2]
  have h5 : ∀ (x : State) (src : Src) (a : Bool), x.Quiet (x.holdLine src a) := fun x src a => by
    unfold State.holdLine State.line
    dsimp only
    (repeat' split) <;> first | exact .refl x | exact .of_same rfl rfl rfl rfl rfl rfl rfl rfl rfl rfl rfl rfl rfl rfl rfl | contradiction
  have h3 : ∀ x : State, x.Quiet x.shortLine := fun x => (h5 x _ _).trans (h5 _ _ _)
  have h4 : ∀ x : State, x.Quiet x.muzzle := fun _ => .of_same rfl rfl rfl rfl rfl rfl rfl rfl rfl rfl rfl rfl rfl rfl rfl
  exact (((((((((h1.trans (State.openings_quiet _)).trans (State.openings_quiet _)).trans
    (State.mCommands_quiet _)).trans (State.monitor_quiet _)).trans (h3 _)).trans (h4 _)).trans
    (State.pads_quiet _)).trans (State.closing_quiet _)).trans (State.item1_quiet _))

end Sys2Proof.Machine
end

