-- ==== Sys2Proof/Laws/State.lean ====
section
/-!
SUPPORT. One lemma per field per update: the named updates of State change their own block and leave every other field as it was.
-/
namespace Sys2Proof.Machine

@[simp] theorem State.upTo_free (s : State) (t : Nat) : (s.upTo t).free = s.free := rfl
@[simp] theorem State.upTo_seq (s : State) (t : Nat) : (s.upTo t).seq = s.seq := rfl
@[simp] theorem State.upTo_clk (s : State) (t : Nat) : (s.upTo t).clk = s.clk := rfl
@[simp] theorem State.upTo_pair (s : State) (t : Nat) : (s.upTo t).pair = s.pair := rfl
@[simp] theorem State.upTo_fab (s : State) (t : Nat) : (s.upTo t).fab = s.fab := rfl
@[simp] theorem State.upTo_sh0 (s : State) (t : Nat) : (s.upTo t).sh0 = s.sh0 := rfl
@[simp] theorem State.upTo_sh1 (s : State) (t : Nat) : (s.upTo t).sh1 = s.sh1 := rfl
@[simp] theorem State.upTo_sp (s : State) (t : Nat) : (s.upTo t).sp = s.sp := rfl
@[simp] theorem State.upTo_sin (s : State) (t : Nat) : (s.upTo t).sin = s.sin := rfl
@[simp] theorem State.upTo_sout (s : State) (t : Nat) : (s.upTo t).sout = s.sout := rfl
@[simp] theorem State.upTo_mot (s : State) (t : Nat) : (s.upTo t).mot = s.mot := rfl
@[simp] theorem State.upTo_col (s : State) (t : Nat) : (s.upTo t).col = s.col := rfl
@[simp] theorem State.upTo_yard (s : State) (t : Nat) : (s.upTo t).yard = s.yard := rfl
@[simp] theorem State.upTo_flt (s : State) (t : Nat) : (s.upTo t).flt = s.flt := rfl
@[simp] theorem State.upTo_farr (s : State) (t : Nat) : (s.upTo t).farr = s.farr := rfl
@[simp] theorem State.upTo_cp (s : State) (t : Nat) : (s.upTo t).cp = s.cp := rfl
@[simp] theorem State.upTo_img (s : State) (t : Nat) : (s.upTo t).img = s.img := rfl
@[simp] theorem State.upTo_spook (s : State) (t : Nat) : (s.upTo t).spook = s.spook := rfl
@[simp] theorem State.upTo_fifos (s : State) (t : Nat) : (s.upTo t).fifos = s.fifos := rfl
@[simp] theorem State.upTo_mram (s : State) (t : Nat) : (s.upTo t).mram = s.mram := rfl
@[simp] theorem State.upTo_pending (s : State) (t : Nat) : (s.upTo t).pending = s.pending := rfl

@[simp] theorem State.fresh_now (s : State) : (s.fresh).now = s.now := rfl
@[simp] theorem State.fresh_seq (s : State) : (s.fresh).seq = s.seq := rfl
@[simp] theorem State.fresh_clk (s : State) : (s.fresh).clk = s.clk := rfl
@[simp] theorem State.fresh_pair (s : State) : (s.fresh).pair = s.pair := rfl
@[simp] theorem State.fresh_fab (s : State) : (s.fresh).fab = s.fab := rfl
@[simp] theorem State.fresh_logic (s : State) : (s.fresh).logic = s.logic := rfl
@[simp] theorem State.fresh_sh0 (s : State) : (s.fresh).sh0 = s.sh0 := rfl
@[simp] theorem State.fresh_sh1 (s : State) : (s.fresh).sh1 = s.sh1 := rfl
@[simp] theorem State.fresh_sp (s : State) : (s.fresh).sp = s.sp := rfl
@[simp] theorem State.fresh_sin (s : State) : (s.fresh).sin = s.sin := rfl
@[simp] theorem State.fresh_sout (s : State) : (s.fresh).sout = s.sout := rfl
@[simp] theorem State.fresh_mot (s : State) : (s.fresh).mot = s.mot := rfl
@[simp] theorem State.fresh_col (s : State) : (s.fresh).col = s.col := rfl
@[simp] theorem State.fresh_yard (s : State) : (s.fresh).yard = s.yard := rfl
@[simp] theorem State.fresh_flt (s : State) : (s.fresh).flt = s.flt := rfl
@[simp] theorem State.fresh_farr (s : State) : (s.fresh).farr = s.farr := rfl
@[simp] theorem State.fresh_cp (s : State) : (s.fresh).cp = s.cp := rfl
@[simp] theorem State.fresh_img (s : State) : (s.fresh).img = s.img := rfl
@[simp] theorem State.fresh_spook (s : State) : (s.fresh).spook = s.spook := rfl
@[simp] theorem State.fresh_fifos (s : State) : (s.fresh).fifos = s.fifos := rfl
@[simp] theorem State.fresh_mram (s : State) : (s.fresh).mram = s.mram := rfl
@[simp] theorem State.fresh_pending (s : State) : (s.fresh).pending = s.pending := rfl

@[simp] theorem State.modSheet_now (s : State) (k : Nat) (f : Sheet → Sheet) : (s.modSheet k f).now = s.now := by unfold State.modSheet; split <;> rfl
@[simp] theorem State.modSheet_free (s : State) (k : Nat) (f : Sheet → Sheet) : (s.modSheet k f).free = s.free := by unfold State.modSheet; split <;> rfl
@[simp] theorem State.modSheet_seq (s : State) (k : Nat) (f : Sheet → Sheet) : (s.modSheet k f).seq = s.seq := by unfold State.modSheet; split <;> rfl
@[simp] theorem State.modSheet_clk (s : State) (k : Nat) (f : Sheet → Sheet) : (s.modSheet k f).clk = s.clk := by unfold State.modSheet; split <;> rfl
@[simp] theorem State.modSheet_pair (s : State) (k : Nat) (f : Sheet → Sheet) : (s.modSheet k f).pair = s.pair := by unfold State.modSheet; split <;> rfl
@[simp] theorem State.modSheet_fab (s : State) (k : Nat) (f : Sheet → Sheet) : (s.modSheet k f).fab = s.fab := by unfold State.modSheet; split <;> rfl
@[simp] theorem State.modSheet_logic (s : State) (k : Nat) (f : Sheet → Sheet) : (s.modSheet k f).logic = s.logic := by unfold State.modSheet; split <;> rfl
@[simp] theorem State.modSheet_sp (s : State) (k : Nat) (f : Sheet → Sheet) : (s.modSheet k f).sp = s.sp := by unfold State.modSheet; split <;> rfl
@[simp] theorem State.modSheet_sin (s : State) (k : Nat) (f : Sheet → Sheet) : (s.modSheet k f).sin = s.sin := by unfold State.modSheet; split <;> rfl
@[simp] theorem State.modSheet_sout (s : State) (k : Nat) (f : Sheet → Sheet) : (s.modSheet k f).sout = s.sout := by unfold State.modSheet; split <;> rfl
@[simp] theorem State.modSheet_mot (s : State) (k : Nat) (f : Sheet → Sheet) : (s.modSheet k f).mot = s.mot := by unfold State.modSheet; split <;> rfl
@[simp] theorem State.modSheet_col (s : State) (k : Nat) (f : Sheet → Sheet) : (s.modSheet k f).col = s.col := by unfold State.modSheet; split <;> rfl
@[simp] theorem State.modSheet_yard (s : State) (k : Nat) (f : Sheet → Sheet) : (s.modSheet k f).yard = s.yard := by unfold State.modSheet; split <;> rfl
@[simp] theorem State.modSheet_flt (s : State) (k : Nat) (f : Sheet → Sheet) : (s.modSheet k f).flt = s.flt := by unfold State.modSheet; split <;> rfl
@[simp] theorem State.modSheet_farr (s : State) (k : Nat) (f : Sheet → Sheet) : (s.modSheet k f).farr = s.farr := by unfold State.modSheet; split <;> rfl
@[simp] theorem State.modSheet_cp (s : State) (k : Nat) (f : Sheet → Sheet) : (s.modSheet k f).cp = s.cp := by unfold State.modSheet; split <;> rfl
@[simp] theorem State.modSheet_img (s : State) (k : Nat) (f : Sheet → Sheet) : (s.modSheet k f).img = s.img := by unfold State.modSheet; split <;> rfl
@[simp] theorem State.modSheet_spook (s : State) (k : Nat) (f : Sheet → Sheet) : (s.modSheet k f).spook = s.spook := by unfold State.modSheet; split <;> rfl
@[simp] theorem State.modSheet_fifos (s : State) (k : Nat) (f : Sheet → Sheet) : (s.modSheet k f).fifos = s.fifos := by unfold State.modSheet; split <;> rfl
@[simp] theorem State.modSheet_mram (s : State) (k : Nat) (f : Sheet → Sheet) : (s.modSheet k f).mram = s.mram := by unfold State.modSheet; split <;> rfl
@[simp] theorem State.modSheet_pending (s : State) (k : Nat) (f : Sheet → Sheet) : (s.modSheet k f).pending = s.pending := by unfold State.modSheet; split <;> rfl

@[simp] theorem State.modCom_now (s : State) (k i : Nat) (f : InstCom → InstCom) : (s.modCom k i f).now = s.now := by unfold State.modCom State.modSheet; split <;> rfl
@[simp] theorem State.modCom_free (s : State) (k i : Nat) (f : InstCom → InstCom) : (s.modCom k i f).free = s.free := by unfold State.modCom State.modSheet; split <;> rfl
@[simp] theorem State.modCom_seq (s : State) (k i : Nat) (f : InstCom → InstCom) : (s.modCom k i f).seq = s.seq := by unfold State.modCom State.modSheet; split <;> rfl
@[simp] theorem State.modCom_clk (s : State) (k i : Nat) (f : InstCom → InstCom) : (s.modCom k i f).clk = s.clk := by unfold State.modCom State.modSheet; split <;> rfl
@[simp] theorem State.modCom_pair (s : State) (k i : Nat) (f : InstCom → InstCom) : (s.modCom k i f).pair = s.pair := by unfold State.modCom State.modSheet; split <;> rfl
@[simp] theorem State.modCom_fab (s : State) (k i : Nat) (f : InstCom → InstCom) : (s.modCom k i f).fab = s.fab := by unfold State.modCom State.modSheet; split <;> rfl
@[simp] theorem State.modCom_logic (s : State) (k i : Nat) (f : InstCom → InstCom) : (s.modCom k i f).logic = s.logic := by unfold State.modCom State.modSheet; split <;> rfl
@[simp] theorem State.modCom_sp (s : State) (k i : Nat) (f : InstCom → InstCom) : (s.modCom k i f).sp = s.sp := by unfold State.modCom State.modSheet; split <;> rfl
@[simp] theorem State.modCom_sin (s : State) (k i : Nat) (f : InstCom → InstCom) : (s.modCom k i f).sin = s.sin := by unfold State.modCom State.modSheet; split <;> rfl
@[simp] theorem State.modCom_sout (s : State) (k i : Nat) (f : InstCom → InstCom) : (s.modCom k i f).sout = s.sout := by unfold State.modCom State.modSheet; split <;> rfl
@[simp] theorem State.modCom_mot (s : State) (k i : Nat) (f : InstCom → InstCom) : (s.modCom k i f).mot = s.mot := by unfold State.modCom State.modSheet; split <;> rfl
@[simp] theorem State.modCom_col (s : State) (k i : Nat) (f : InstCom → InstCom) : (s.modCom k i f).col = s.col := by unfold State.modCom State.modSheet; split <;> rfl
@[simp] theorem State.modCom_yard (s : State) (k i : Nat) (f : InstCom → InstCom) : (s.modCom k i f).yard = s.yard := by unfold State.modCom State.modSheet; split <;> rfl
@[simp] theorem State.modCom_flt (s : State) (k i : Nat) (f : InstCom → InstCom) : (s.modCom k i f).flt = s.flt := by unfold State.modCom State.modSheet; split <;> rfl
@[simp] theorem State.modCom_farr (s : State) (k i : Nat) (f : InstCom → InstCom) : (s.modCom k i f).farr = s.farr := by unfold State.modCom State.modSheet; split <;> rfl
@[simp] theorem State.modCom_cp (s : State) (k i : Nat) (f : InstCom → InstCom) : (s.modCom k i f).cp = s.cp := by unfold State.modCom State.modSheet; split <;> rfl
@[simp] theorem State.modCom_img (s : State) (k i : Nat) (f : InstCom → InstCom) : (s.modCom k i f).img = s.img := by unfold State.modCom State.modSheet; split <;> rfl
@[simp] theorem State.modCom_spook (s : State) (k i : Nat) (f : InstCom → InstCom) : (s.modCom k i f).spook = s.spook := by unfold State.modCom State.modSheet; split <;> rfl
@[simp] theorem State.modCom_fifos (s : State) (k i : Nat) (f : InstCom → InstCom) : (s.modCom k i f).fifos = s.fifos := by unfold State.modCom State.modSheet; split <;> rfl
@[simp] theorem State.modCom_mram (s : State) (k i : Nat) (f : InstCom → InstCom) : (s.modCom k i f).mram = s.mram := by unfold State.modCom State.modSheet; split <;> rfl
@[simp] theorem State.modCom_pending (s : State) (k i : Nat) (f : InstCom → InstCom) : (s.modCom k i f).pending = s.pending := by unfold State.modCom State.modSheet; split <;> rfl

@[simp] theorem State.modOut_now (s : State) (n : Nat) (f : OutSt → OutSt) : (s.modOut n f).now = s.now := rfl
@[simp] theorem State.modOut_free (s : State) (n : Nat) (f : OutSt → OutSt) : (s.modOut n f).free = s.free := rfl
@[simp] theorem State.modOut_seq (s : State) (n : Nat) (f : OutSt → OutSt) : (s.modOut n f).seq = s.seq := rfl
@[simp] theorem State.modOut_clk (s : State) (n : Nat) (f : OutSt → OutSt) : (s.modOut n f).clk = s.clk := rfl
@[simp] theorem State.modOut_pair (s : State) (n : Nat) (f : OutSt → OutSt) : (s.modOut n f).pair = s.pair := rfl
@[simp] theorem State.modOut_fab (s : State) (n : Nat) (f : OutSt → OutSt) : (s.modOut n f).fab = s.fab := rfl
@[simp] theorem State.modOut_logic (s : State) (n : Nat) (f : OutSt → OutSt) : (s.modOut n f).logic = s.logic := rfl
@[simp] theorem State.modOut_sh0 (s : State) (n : Nat) (f : OutSt → OutSt) : (s.modOut n f).sh0 = s.sh0 := rfl
@[simp] theorem State.modOut_sh1 (s : State) (n : Nat) (f : OutSt → OutSt) : (s.modOut n f).sh1 = s.sh1 := rfl
@[simp] theorem State.modOut_sp (s : State) (n : Nat) (f : OutSt → OutSt) : (s.modOut n f).sp = s.sp := rfl
@[simp] theorem State.modOut_sin (s : State) (n : Nat) (f : OutSt → OutSt) : (s.modOut n f).sin = s.sin := rfl
@[simp] theorem State.modOut_mot (s : State) (n : Nat) (f : OutSt → OutSt) : (s.modOut n f).mot = s.mot := rfl
@[simp] theorem State.modOut_col (s : State) (n : Nat) (f : OutSt → OutSt) : (s.modOut n f).col = s.col := rfl
@[simp] theorem State.modOut_yard (s : State) (n : Nat) (f : OutSt → OutSt) : (s.modOut n f).yard = s.yard := rfl
@[simp] theorem State.modOut_flt (s : State) (n : Nat) (f : OutSt → OutSt) : (s.modOut n f).flt = s.flt := rfl
@[simp] theorem State.modOut_farr (s : State) (n : Nat) (f : OutSt → OutSt) : (s.modOut n f).farr = s.farr := rfl
@[simp] theorem State.modOut_cp (s : State) (n : Nat) (f : OutSt → OutSt) : (s.modOut n f).cp = s.cp := rfl
@[simp] theorem State.modOut_img (s : State) (n : Nat) (f : OutSt → OutSt) : (s.modOut n f).img = s.img := rfl
@[simp] theorem State.modOut_spook (s : State) (n : Nat) (f : OutSt → OutSt) : (s.modOut n f).spook = s.spook := rfl
@[simp] theorem State.modOut_fifos (s : State) (n : Nat) (f : OutSt → OutSt) : (s.modOut n f).fifos = s.fifos := rfl
@[simp] theorem State.modOut_mram (s : State) (n : Nat) (f : OutSt → OutSt) : (s.modOut n f).mram = s.mram := rfl
@[simp] theorem State.modOut_pending (s : State) (n : Nat) (f : OutSt → OutSt) : (s.modOut n f).pending = s.pending := rfl

@[simp] theorem State.mapOuts_now (s : State) (f : Nat → OutSt → OutSt) : (s.mapOuts f).now = s.now := rfl
@[simp] theorem State.mapOuts_free (s : State) (f : Nat → OutSt → OutSt) : (s.mapOuts f).free = s.free := rfl
@[simp] theorem State.mapOuts_seq (s : State) (f : Nat → OutSt → OutSt) : (s.mapOuts f).seq = s.seq := rfl
@[simp] theorem State.mapOuts_clk (s : State) (f : Nat → OutSt → OutSt) : (s.mapOuts f).clk = s.clk := rfl
@[simp] theorem State.mapOuts_pair (s : State) (f : Nat → OutSt → OutSt) : (s.mapOuts f).pair = s.pair := rfl
@[simp] theorem State.mapOuts_fab (s : State) (f : Nat → OutSt → OutSt) : (s.mapOuts f).fab = s.fab := rfl
@[simp] theorem State.mapOuts_logic (s : State) (f : Nat → OutSt → OutSt) : (s.mapOuts f).logic = s.logic := rfl
@[simp] theorem State.mapOuts_sh0 (s : State) (f : Nat → OutSt → OutSt) : (s.mapOuts f).sh0 = s.sh0 := rfl
@[simp] theorem State.mapOuts_sh1 (s : State) (f : Nat → OutSt → OutSt) : (s.mapOuts f).sh1 = s.sh1 := rfl
@[simp] theorem State.mapOuts_sp (s : State) (f : Nat → OutSt → OutSt) : (s.mapOuts f).sp = s.sp := rfl
@[simp] theorem State.mapOuts_sin (s : State) (f : Nat → OutSt → OutSt) : (s.mapOuts f).sin = s.sin := rfl
@[simp] theorem State.mapOuts_mot (s : State) (f : Nat → OutSt → OutSt) : (s.mapOuts f).mot = s.mot := rfl
@[simp] theorem State.mapOuts_col (s : State) (f : Nat → OutSt → OutSt) : (s.mapOuts f).col = s.col := rfl
@[simp] theorem State.mapOuts_yard (s : State) (f : Nat → OutSt → OutSt) : (s.mapOuts f).yard = s.yard := rfl
@[simp] theorem State.mapOuts_flt (s : State) (f : Nat → OutSt → OutSt) : (s.mapOuts f).flt = s.flt := rfl
@[simp] theorem State.mapOuts_farr (s : State) (f : Nat → OutSt → OutSt) : (s.mapOuts f).farr = s.farr := rfl
@[simp] theorem State.mapOuts_cp (s : State) (f : Nat → OutSt → OutSt) : (s.mapOuts f).cp = s.cp := rfl
@[simp] theorem State.mapOuts_img (s : State) (f : Nat → OutSt → OutSt) : (s.mapOuts f).img = s.img := rfl
@[simp] theorem State.mapOuts_spook (s : State) (f : Nat → OutSt → OutSt) : (s.mapOuts f).spook = s.spook := rfl
@[simp] theorem State.mapOuts_fifos (s : State) (f : Nat → OutSt → OutSt) : (s.mapOuts f).fifos = s.fifos := rfl
@[simp] theorem State.mapOuts_mram (s : State) (f : Nat → OutSt → OutSt) : (s.mapOuts f).mram = s.mram := rfl
@[simp] theorem State.mapOuts_pending (s : State) (f : Nat → OutSt → OutSt) : (s.mapOuts f).pending = s.pending := rfl

@[simp] theorem State.modLeg_now (s : State) (n : Nat) (l : Leg) (f : LegSt → LegSt) : (s.modLeg n l f).now = s.now := rfl
@[simp] theorem State.modLeg_free (s : State) (n : Nat) (l : Leg) (f : LegSt → LegSt) : (s.modLeg n l f).free = s.free := rfl
@[simp] theorem State.modLeg_seq (s : State) (n : Nat) (l : Leg) (f : LegSt → LegSt) : (s.modLeg n l f).seq = s.seq := rfl
@[simp] theorem State.modLeg_clk (s : State) (n : Nat) (l : Leg) (f : LegSt → LegSt) : (s.modLeg n l f).clk = s.clk := rfl
@[simp] theorem State.modLeg_pair (s : State) (n : Nat) (l : Leg) (f : LegSt → LegSt) : (s.modLeg n l f).pair = s.pair := rfl
@[simp] theorem State.modLeg_fab (s : State) (n : Nat) (l : Leg) (f : LegSt → LegSt) : (s.modLeg n l f).fab = s.fab := rfl
@[simp] theorem State.modLeg_logic (s : State) (n : Nat) (l : Leg) (f : LegSt → LegSt) : (s.modLeg n l f).logic = s.logic := rfl
@[simp] theorem State.modLeg_sh0 (s : State) (n : Nat) (l : Leg) (f : LegSt → LegSt) : (s.modLeg n l f).sh0 = s.sh0 := rfl
@[simp] theorem State.modLeg_sh1 (s : State) (n : Nat) (l : Leg) (f : LegSt → LegSt) : (s.modLeg n l f).sh1 = s.sh1 := rfl
@[simp] theorem State.modLeg_sp (s : State) (n : Nat) (l : Leg) (f : LegSt → LegSt) : (s.modLeg n l f).sp = s.sp := rfl
@[simp] theorem State.modLeg_sin (s : State) (n : Nat) (l : Leg) (f : LegSt → LegSt) : (s.modLeg n l f).sin = s.sin := rfl
@[simp] theorem State.modLeg_mot (s : State) (n : Nat) (l : Leg) (f : LegSt → LegSt) : (s.modLeg n l f).mot = s.mot := rfl
@[simp] theorem State.modLeg_col (s : State) (n : Nat) (l : Leg) (f : LegSt → LegSt) : (s.modLeg n l f).col = s.col := rfl
@[simp] theorem State.modLeg_yard (s : State) (n : Nat) (l : Leg) (f : LegSt → LegSt) : (s.modLeg n l f).yard = s.yard := rfl
@[simp] theorem State.modLeg_flt (s : State) (n : Nat) (l : Leg) (f : LegSt → LegSt) : (s.modLeg n l f).flt = s.flt := rfl
@[simp] theorem State.modLeg_farr (s : State) (n : Nat) (l : Leg) (f : LegSt → LegSt) : (s.modLeg n l f).farr = s.farr := rfl
@[simp] theorem State.modLeg_cp (s : State) (n : Nat) (l : Leg) (f : LegSt → LegSt) : (s.modLeg n l f).cp = s.cp := rfl
@[simp] theorem State.modLeg_img (s : State) (n : Nat) (l : Leg) (f : LegSt → LegSt) : (s.modLeg n l f).img = s.img := rfl
@[simp] theorem State.modLeg_spook (s : State) (n : Nat) (l : Leg) (f : LegSt → LegSt) : (s.modLeg n l f).spook = s.spook := rfl
@[simp] theorem State.modLeg_fifos (s : State) (n : Nat) (l : Leg) (f : LegSt → LegSt) : (s.modLeg n l f).fifos = s.fifos := rfl
@[simp] theorem State.modLeg_mram (s : State) (n : Nat) (l : Leg) (f : LegSt → LegSt) : (s.modLeg n l f).mram = s.mram := rfl
@[simp] theorem State.modLeg_pending (s : State) (n : Nat) (l : Leg) (f : LegSt → LegSt) : (s.modLeg n l f).pending = s.pending := rfl

@[simp] theorem State.modPair_now (s : State) (n : Nat) (f : InPair → InPair) : (s.modPair n f).now = s.now := rfl
@[simp] theorem State.modPair_free (s : State) (n : Nat) (f : InPair → InPair) : (s.modPair n f).free = s.free := rfl
@[simp] theorem State.modPair_seq (s : State) (n : Nat) (f : InPair → InPair) : (s.modPair n f).seq = s.seq := rfl
@[simp] theorem State.modPair_clk (s : State) (n : Nat) (f : InPair → InPair) : (s.modPair n f).clk = s.clk := rfl
@[simp] theorem State.modPair_pair (s : State) (n : Nat) (f : InPair → InPair) : (s.modPair n f).pair = s.pair := rfl
@[simp] theorem State.modPair_fab (s : State) (n : Nat) (f : InPair → InPair) : (s.modPair n f).fab = s.fab := rfl
@[simp] theorem State.modPair_logic (s : State) (n : Nat) (f : InPair → InPair) : (s.modPair n f).logic = s.logic := rfl
@[simp] theorem State.modPair_sh0 (s : State) (n : Nat) (f : InPair → InPair) : (s.modPair n f).sh0 = s.sh0 := rfl
@[simp] theorem State.modPair_sh1 (s : State) (n : Nat) (f : InPair → InPair) : (s.modPair n f).sh1 = s.sh1 := rfl
@[simp] theorem State.modPair_sp (s : State) (n : Nat) (f : InPair → InPair) : (s.modPair n f).sp = s.sp := rfl
@[simp] theorem State.modPair_sout (s : State) (n : Nat) (f : InPair → InPair) : (s.modPair n f).sout = s.sout := rfl
@[simp] theorem State.modPair_mot (s : State) (n : Nat) (f : InPair → InPair) : (s.modPair n f).mot = s.mot := rfl
@[simp] theorem State.modPair_col (s : State) (n : Nat) (f : InPair → InPair) : (s.modPair n f).col = s.col := rfl
@[simp] theorem State.modPair_yard (s : State) (n : Nat) (f : InPair → InPair) : (s.modPair n f).yard = s.yard := rfl
@[simp] theorem State.modPair_flt (s : State) (n : Nat) (f : InPair → InPair) : (s.modPair n f).flt = s.flt := rfl
@[simp] theorem State.modPair_farr (s : State) (n : Nat) (f : InPair → InPair) : (s.modPair n f).farr = s.farr := rfl
@[simp] theorem State.modPair_cp (s : State) (n : Nat) (f : InPair → InPair) : (s.modPair n f).cp = s.cp := rfl
@[simp] theorem State.modPair_img (s : State) (n : Nat) (f : InPair → InPair) : (s.modPair n f).img = s.img := rfl
@[simp] theorem State.modPair_spook (s : State) (n : Nat) (f : InPair → InPair) : (s.modPair n f).spook = s.spook := rfl
@[simp] theorem State.modPair_fifos (s : State) (n : Nat) (f : InPair → InPair) : (s.modPair n f).fifos = s.fifos := rfl
@[simp] theorem State.modPair_mram (s : State) (n : Nat) (f : InPair → InPair) : (s.modPair n f).mram = s.mram := rfl
@[simp] theorem State.modPair_pending (s : State) (n : Nat) (f : InPair → InPair) : (s.modPair n f).pending = s.pending := rfl

@[simp] theorem State.mapPairs_now (s : State) (f : Nat → InPair → InPair) : (s.mapPairs f).now = s.now := rfl
@[simp] theorem State.mapPairs_free (s : State) (f : Nat → InPair → InPair) : (s.mapPairs f).free = s.free := rfl
@[simp] theorem State.mapPairs_seq (s : State) (f : Nat → InPair → InPair) : (s.mapPairs f).seq = s.seq := rfl
@[simp] theorem State.mapPairs_clk (s : State) (f : Nat → InPair → InPair) : (s.mapPairs f).clk = s.clk := rfl
@[simp] theorem State.mapPairs_pair (s : State) (f : Nat → InPair → InPair) : (s.mapPairs f).pair = s.pair := rfl
@[simp] theorem State.mapPairs_fab (s : State) (f : Nat → InPair → InPair) : (s.mapPairs f).fab = s.fab := rfl
@[simp] theorem State.mapPairs_logic (s : State) (f : Nat → InPair → InPair) : (s.mapPairs f).logic = s.logic := rfl
@[simp] theorem State.mapPairs_sh0 (s : State) (f : Nat → InPair → InPair) : (s.mapPairs f).sh0 = s.sh0 := rfl
@[simp] theorem State.mapPairs_sh1 (s : State) (f : Nat → InPair → InPair) : (s.mapPairs f).sh1 = s.sh1 := rfl
@[simp] theorem State.mapPairs_sp (s : State) (f : Nat → InPair → InPair) : (s.mapPairs f).sp = s.sp := rfl
@[simp] theorem State.mapPairs_sout (s : State) (f : Nat → InPair → InPair) : (s.mapPairs f).sout = s.sout := rfl
@[simp] theorem State.mapPairs_mot (s : State) (f : Nat → InPair → InPair) : (s.mapPairs f).mot = s.mot := rfl
@[simp] theorem State.mapPairs_col (s : State) (f : Nat → InPair → InPair) : (s.mapPairs f).col = s.col := rfl
@[simp] theorem State.mapPairs_yard (s : State) (f : Nat → InPair → InPair) : (s.mapPairs f).yard = s.yard := rfl
@[simp] theorem State.mapPairs_flt (s : State) (f : Nat → InPair → InPair) : (s.mapPairs f).flt = s.flt := rfl
@[simp] theorem State.mapPairs_farr (s : State) (f : Nat → InPair → InPair) : (s.mapPairs f).farr = s.farr := rfl
@[simp] theorem State.mapPairs_cp (s : State) (f : Nat → InPair → InPair) : (s.mapPairs f).cp = s.cp := rfl
@[simp] theorem State.mapPairs_img (s : State) (f : Nat → InPair → InPair) : (s.mapPairs f).img = s.img := rfl
@[simp] theorem State.mapPairs_spook (s : State) (f : Nat → InPair → InPair) : (s.mapPairs f).spook = s.spook := rfl
@[simp] theorem State.mapPairs_fifos (s : State) (f : Nat → InPair → InPair) : (s.mapPairs f).fifos = s.fifos := rfl
@[simp] theorem State.mapPairs_mram (s : State) (f : Nat → InPair → InPair) : (s.mapPairs f).mram = s.mram := rfl
@[simp] theorem State.mapPairs_pending (s : State) (f : Nat → InPair → InPair) : (s.mapPairs f).pending = s.pending := rfl

@[simp] theorem State.modTp_now (s : State) (n : Nat) (f : TpLine → TpLine) : (s.modTp n f).now = s.now := rfl
@[simp] theorem State.modTp_free (s : State) (n : Nat) (f : TpLine → TpLine) : (s.modTp n f).free = s.free := rfl
@[simp] theorem State.modTp_seq (s : State) (n : Nat) (f : TpLine → TpLine) : (s.modTp n f).seq = s.seq := rfl
@[simp] theorem State.modTp_clk (s : State) (n : Nat) (f : TpLine → TpLine) : (s.modTp n f).clk = s.clk := rfl
@[simp] theorem State.modTp_pair (s : State) (n : Nat) (f : TpLine → TpLine) : (s.modTp n f).pair = s.pair := rfl
@[simp] theorem State.modTp_fab (s : State) (n : Nat) (f : TpLine → TpLine) : (s.modTp n f).fab = s.fab := rfl
@[simp] theorem State.modTp_logic (s : State) (n : Nat) (f : TpLine → TpLine) : (s.modTp n f).logic = s.logic := rfl
@[simp] theorem State.modTp_sh0 (s : State) (n : Nat) (f : TpLine → TpLine) : (s.modTp n f).sh0 = s.sh0 := rfl
@[simp] theorem State.modTp_sh1 (s : State) (n : Nat) (f : TpLine → TpLine) : (s.modTp n f).sh1 = s.sh1 := rfl
@[simp] theorem State.modTp_sp (s : State) (n : Nat) (f : TpLine → TpLine) : (s.modTp n f).sp = s.sp := rfl
@[simp] theorem State.modTp_sout (s : State) (n : Nat) (f : TpLine → TpLine) : (s.modTp n f).sout = s.sout := rfl
@[simp] theorem State.modTp_mot (s : State) (n : Nat) (f : TpLine → TpLine) : (s.modTp n f).mot = s.mot := rfl
@[simp] theorem State.modTp_col (s : State) (n : Nat) (f : TpLine → TpLine) : (s.modTp n f).col = s.col := rfl
@[simp] theorem State.modTp_yard (s : State) (n : Nat) (f : TpLine → TpLine) : (s.modTp n f).yard = s.yard := rfl
@[simp] theorem State.modTp_flt (s : State) (n : Nat) (f : TpLine → TpLine) : (s.modTp n f).flt = s.flt := rfl
@[simp] theorem State.modTp_farr (s : State) (n : Nat) (f : TpLine → TpLine) : (s.modTp n f).farr = s.farr := rfl
@[simp] theorem State.modTp_cp (s : State) (n : Nat) (f : TpLine → TpLine) : (s.modTp n f).cp = s.cp := rfl
@[simp] theorem State.modTp_img (s : State) (n : Nat) (f : TpLine → TpLine) : (s.modTp n f).img = s.img := rfl
@[simp] theorem State.modTp_spook (s : State) (n : Nat) (f : TpLine → TpLine) : (s.modTp n f).spook = s.spook := rfl
@[simp] theorem State.modTp_fifos (s : State) (n : Nat) (f : TpLine → TpLine) : (s.modTp n f).fifos = s.fifos := rfl
@[simp] theorem State.modTp_mram (s : State) (n : Nat) (f : TpLine → TpLine) : (s.modTp n f).mram = s.mram := rfl
@[simp] theorem State.modTp_pending (s : State) (n : Nat) (f : TpLine → TpLine) : (s.modTp n f).pending = s.pending := rfl

@[simp] theorem State.modWheel_now (s : State) (n : Nat) (f : Wheel → Wheel) : (s.modWheel n f).now = s.now := rfl
@[simp] theorem State.modWheel_free (s : State) (n : Nat) (f : Wheel → Wheel) : (s.modWheel n f).free = s.free := rfl
@[simp] theorem State.modWheel_seq (s : State) (n : Nat) (f : Wheel → Wheel) : (s.modWheel n f).seq = s.seq := rfl
@[simp] theorem State.modWheel_clk (s : State) (n : Nat) (f : Wheel → Wheel) : (s.modWheel n f).clk = s.clk := rfl
@[simp] theorem State.modWheel_pair (s : State) (n : Nat) (f : Wheel → Wheel) : (s.modWheel n f).pair = s.pair := rfl
@[simp] theorem State.modWheel_fab (s : State) (n : Nat) (f : Wheel → Wheel) : (s.modWheel n f).fab = s.fab := rfl
@[simp] theorem State.modWheel_logic (s : State) (n : Nat) (f : Wheel → Wheel) : (s.modWheel n f).logic = s.logic := rfl
@[simp] theorem State.modWheel_sh0 (s : State) (n : Nat) (f : Wheel → Wheel) : (s.modWheel n f).sh0 = s.sh0 := rfl
@[simp] theorem State.modWheel_sh1 (s : State) (n : Nat) (f : Wheel → Wheel) : (s.modWheel n f).sh1 = s.sh1 := rfl
@[simp] theorem State.modWheel_sp (s : State) (n : Nat) (f : Wheel → Wheel) : (s.modWheel n f).sp = s.sp := rfl
@[simp] theorem State.modWheel_sin (s : State) (n : Nat) (f : Wheel → Wheel) : (s.modWheel n f).sin = s.sin := rfl
@[simp] theorem State.modWheel_sout (s : State) (n : Nat) (f : Wheel → Wheel) : (s.modWheel n f).sout = s.sout := rfl
@[simp] theorem State.modWheel_col (s : State) (n : Nat) (f : Wheel → Wheel) : (s.modWheel n f).col = s.col := rfl
@[simp] theorem State.modWheel_yard (s : State) (n : Nat) (f : Wheel → Wheel) : (s.modWheel n f).yard = s.yard := rfl
@[simp] theorem State.modWheel_flt (s : State) (n : Nat) (f : Wheel → Wheel) : (s.modWheel n f).flt = s.flt := rfl
@[simp] theorem State.modWheel_farr (s : State) (n : Nat) (f : Wheel → Wheel) : (s.modWheel n f).farr = s.farr := rfl
@[simp] theorem State.modWheel_cp (s : State) (n : Nat) (f : Wheel → Wheel) : (s.modWheel n f).cp = s.cp := rfl
@[simp] theorem State.modWheel_img (s : State) (n : Nat) (f : Wheel → Wheel) : (s.modWheel n f).img = s.img := rfl
@[simp] theorem State.modWheel_spook (s : State) (n : Nat) (f : Wheel → Wheel) : (s.modWheel n f).spook = s.spook := rfl
@[simp] theorem State.modWheel_fifos (s : State) (n : Nat) (f : Wheel → Wheel) : (s.modWheel n f).fifos = s.fifos := rfl
@[simp] theorem State.modWheel_mram (s : State) (n : Nat) (f : Wheel → Wheel) : (s.modWheel n f).mram = s.mram := rfl
@[simp] theorem State.modWheel_pending (s : State) (n : Nat) (f : Wheel → Wheel) : (s.modWheel n f).pending = s.pending := rfl

@[simp] theorem State.modSlot_now (s : State) (n : Nat) (f : Slot → Slot) : (s.modSlot n f).now = s.now := rfl
@[simp] theorem State.modSlot_free (s : State) (n : Nat) (f : Slot → Slot) : (s.modSlot n f).free = s.free := rfl
@[simp] theorem State.modSlot_seq (s : State) (n : Nat) (f : Slot → Slot) : (s.modSlot n f).seq = s.seq := rfl
@[simp] theorem State.modSlot_clk (s : State) (n : Nat) (f : Slot → Slot) : (s.modSlot n f).clk = s.clk := rfl
@[simp] theorem State.modSlot_pair (s : State) (n : Nat) (f : Slot → Slot) : (s.modSlot n f).pair = s.pair := rfl
@[simp] theorem State.modSlot_fab (s : State) (n : Nat) (f : Slot → Slot) : (s.modSlot n f).fab = s.fab := rfl
@[simp] theorem State.modSlot_logic (s : State) (n : Nat) (f : Slot → Slot) : (s.modSlot n f).logic = s.logic := rfl
@[simp] theorem State.modSlot_sh0 (s : State) (n : Nat) (f : Slot → Slot) : (s.modSlot n f).sh0 = s.sh0 := rfl
@[simp] theorem State.modSlot_sh1 (s : State) (n : Nat) (f : Slot → Slot) : (s.modSlot n f).sh1 = s.sh1 := rfl
@[simp] theorem State.modSlot_sp (s : State) (n : Nat) (f : Slot → Slot) : (s.modSlot n f).sp = s.sp := rfl
@[simp] theorem State.modSlot_sin (s : State) (n : Nat) (f : Slot → Slot) : (s.modSlot n f).sin = s.sin := rfl
@[simp] theorem State.modSlot_sout (s : State) (n : Nat) (f : Slot → Slot) : (s.modSlot n f).sout = s.sout := rfl
@[simp] theorem State.modSlot_mot (s : State) (n : Nat) (f : Slot → Slot) : (s.modSlot n f).mot = s.mot := rfl
@[simp] theorem State.modSlot_yard (s : State) (n : Nat) (f : Slot → Slot) : (s.modSlot n f).yard = s.yard := rfl
@[simp] theorem State.modSlot_flt (s : State) (n : Nat) (f : Slot → Slot) : (s.modSlot n f).flt = s.flt := rfl
@[simp] theorem State.modSlot_farr (s : State) (n : Nat) (f : Slot → Slot) : (s.modSlot n f).farr = s.farr := rfl
@[simp] theorem State.modSlot_cp (s : State) (n : Nat) (f : Slot → Slot) : (s.modSlot n f).cp = s.cp := rfl
@[simp] theorem State.modSlot_img (s : State) (n : Nat) (f : Slot → Slot) : (s.modSlot n f).img = s.img := rfl
@[simp] theorem State.modSlot_spook (s : State) (n : Nat) (f : Slot → Slot) : (s.modSlot n f).spook = s.spook := rfl
@[simp] theorem State.modSlot_fifos (s : State) (n : Nat) (f : Slot → Slot) : (s.modSlot n f).fifos = s.fifos := rfl
@[simp] theorem State.modSlot_mram (s : State) (n : Nat) (f : Slot → Slot) : (s.modSlot n f).mram = s.mram := rfl
@[simp] theorem State.modSlot_pending (s : State) (n : Nat) (f : Slot → Slot) : (s.modSlot n f).pending = s.pending := rfl

@[simp] theorem State.modRadio_now (s : State) (n : Nat) (f : RadioPort → RadioPort) : (s.modRadio n f).now = s.now := rfl
@[simp] theorem State.modRadio_free (s : State) (n : Nat) (f : RadioPort → RadioPort) : (s.modRadio n f).free = s.free := rfl
@[simp] theorem State.modRadio_seq (s : State) (n : Nat) (f : RadioPort → RadioPort) : (s.modRadio n f).seq = s.seq := rfl
@[simp] theorem State.modRadio_clk (s : State) (n : Nat) (f : RadioPort → RadioPort) : (s.modRadio n f).clk = s.clk := rfl
@[simp] theorem State.modRadio_pair (s : State) (n : Nat) (f : RadioPort → RadioPort) : (s.modRadio n f).pair = s.pair := rfl
@[simp] theorem State.modRadio_fab (s : State) (n : Nat) (f : RadioPort → RadioPort) : (s.modRadio n f).fab = s.fab := rfl
@[simp] theorem State.modRadio_logic (s : State) (n : Nat) (f : RadioPort → RadioPort) : (s.modRadio n f).logic = s.logic := rfl
@[simp] theorem State.modRadio_sh0 (s : State) (n : Nat) (f : RadioPort → RadioPort) : (s.modRadio n f).sh0 = s.sh0 := rfl
@[simp] theorem State.modRadio_sh1 (s : State) (n : Nat) (f : RadioPort → RadioPort) : (s.modRadio n f).sh1 = s.sh1 := rfl
@[simp] theorem State.modRadio_sp (s : State) (n : Nat) (f : RadioPort → RadioPort) : (s.modRadio n f).sp = s.sp := rfl
@[simp] theorem State.modRadio_sin (s : State) (n : Nat) (f : RadioPort → RadioPort) : (s.modRadio n f).sin = s.sin := rfl
@[simp] theorem State.modRadio_sout (s : State) (n : Nat) (f : RadioPort → RadioPort) : (s.modRadio n f).sout = s.sout := rfl
@[simp] theorem State.modRadio_mot (s : State) (n : Nat) (f : RadioPort → RadioPort) : (s.modRadio n f).mot = s.mot := rfl
@[simp] theorem State.modRadio_yard (s : State) (n : Nat) (f : RadioPort → RadioPort) : (s.modRadio n f).yard = s.yard := rfl
@[simp] theorem State.modRadio_flt (s : State) (n : Nat) (f : RadioPort → RadioPort) : (s.modRadio n f).flt = s.flt := rfl
@[simp] theorem State.modRadio_farr (s : State) (n : Nat) (f : RadioPort → RadioPort) : (s.modRadio n f).farr = s.farr := rfl
@[simp] theorem State.modRadio_cp (s : State) (n : Nat) (f : RadioPort → RadioPort) : (s.modRadio n f).cp = s.cp := rfl
@[simp] theorem State.modRadio_img (s : State) (n : Nat) (f : RadioPort → RadioPort) : (s.modRadio n f).img = s.img := rfl
@[simp] theorem State.modRadio_spook (s : State) (n : Nat) (f : RadioPort → RadioPort) : (s.modRadio n f).spook = s.spook := rfl
@[simp] theorem State.modRadio_fifos (s : State) (n : Nat) (f : RadioPort → RadioPort) : (s.modRadio n f).fifos = s.fifos := rfl
@[simp] theorem State.modRadio_mram (s : State) (n : Nat) (f : RadioPort → RadioPort) : (s.modRadio n f).mram = s.mram := rfl
@[simp] theorem State.modRadio_pending (s : State) (n : Nat) (f : RadioPort → RadioPort) : (s.modRadio n f).pending = s.pending := rfl

@[simp] theorem State.modConn_now (s : State) (n : Nat) (f : Conn → Conn) : (s.modConn n f).now = s.now := rfl
@[simp] theorem State.modConn_free (s : State) (n : Nat) (f : Conn → Conn) : (s.modConn n f).free = s.free := rfl
@[simp] theorem State.modConn_seq (s : State) (n : Nat) (f : Conn → Conn) : (s.modConn n f).seq = s.seq := rfl
@[simp] theorem State.modConn_clk (s : State) (n : Nat) (f : Conn → Conn) : (s.modConn n f).clk = s.clk := rfl
@[simp] theorem State.modConn_pair (s : State) (n : Nat) (f : Conn → Conn) : (s.modConn n f).pair = s.pair := rfl
@[simp] theorem State.modConn_fab (s : State) (n : Nat) (f : Conn → Conn) : (s.modConn n f).fab = s.fab := rfl
@[simp] theorem State.modConn_logic (s : State) (n : Nat) (f : Conn → Conn) : (s.modConn n f).logic = s.logic := rfl
@[simp] theorem State.modConn_sh0 (s : State) (n : Nat) (f : Conn → Conn) : (s.modConn n f).sh0 = s.sh0 := rfl
@[simp] theorem State.modConn_sh1 (s : State) (n : Nat) (f : Conn → Conn) : (s.modConn n f).sh1 = s.sh1 := rfl
@[simp] theorem State.modConn_sp (s : State) (n : Nat) (f : Conn → Conn) : (s.modConn n f).sp = s.sp := rfl
@[simp] theorem State.modConn_sin (s : State) (n : Nat) (f : Conn → Conn) : (s.modConn n f).sin = s.sin := rfl
@[simp] theorem State.modConn_sout (s : State) (n : Nat) (f : Conn → Conn) : (s.modConn n f).sout = s.sout := rfl
@[simp] theorem State.modConn_mot (s : State) (n : Nat) (f : Conn → Conn) : (s.modConn n f).mot = s.mot := rfl
@[simp] theorem State.modConn_col (s : State) (n : Nat) (f : Conn → Conn) : (s.modConn n f).col = s.col := rfl
@[simp] theorem State.modConn_flt (s : State) (n : Nat) (f : Conn → Conn) : (s.modConn n f).flt = s.flt := rfl
@[simp] theorem State.modConn_farr (s : State) (n : Nat) (f : Conn → Conn) : (s.modConn n f).farr = s.farr := rfl
@[simp] theorem State.modConn_cp (s : State) (n : Nat) (f : Conn → Conn) : (s.modConn n f).cp = s.cp := rfl
@[simp] theorem State.modConn_img (s : State) (n : Nat) (f : Conn → Conn) : (s.modConn n f).img = s.img := rfl
@[simp] theorem State.modConn_spook (s : State) (n : Nat) (f : Conn → Conn) : (s.modConn n f).spook = s.spook := rfl
@[simp] theorem State.modConn_fifos (s : State) (n : Nat) (f : Conn → Conn) : (s.modConn n f).fifos = s.fifos := rfl
@[simp] theorem State.modConn_mram (s : State) (n : Nat) (f : Conn → Conn) : (s.modConn n f).mram = s.mram := rfl
@[simp] theorem State.modConn_pending (s : State) (n : Nat) (f : Conn → Conn) : (s.modConn n f).pending = s.pending := rfl

@[simp] theorem State.modYport_now (s : State) (n : Nat) (f : YPort → YPort) : (s.modYport n f).now = s.now := rfl
@[simp] theorem State.modYport_free (s : State) (n : Nat) (f : YPort → YPort) : (s.modYport n f).free = s.free := rfl
@[simp] theorem State.modYport_seq (s : State) (n : Nat) (f : YPort → YPort) : (s.modYport n f).seq = s.seq := rfl
@[simp] theorem State.modYport_clk (s : State) (n : Nat) (f : YPort → YPort) : (s.modYport n f).clk = s.clk := rfl
@[simp] theorem State.modYport_pair (s : State) (n : Nat) (f : YPort → YPort) : (s.modYport n f).pair = s.pair := rfl
@[simp] theorem State.modYport_fab (s : State) (n : Nat) (f : YPort → YPort) : (s.modYport n f).fab = s.fab := rfl
@[simp] theorem State.modYport_logic (s : State) (n : Nat) (f : YPort → YPort) : (s.modYport n f).logic = s.logic := rfl
@[simp] theorem State.modYport_sh0 (s : State) (n : Nat) (f : YPort → YPort) : (s.modYport n f).sh0 = s.sh0 := rfl
@[simp] theorem State.modYport_sh1 (s : State) (n : Nat) (f : YPort → YPort) : (s.modYport n f).sh1 = s.sh1 := rfl
@[simp] theorem State.modYport_sp (s : State) (n : Nat) (f : YPort → YPort) : (s.modYport n f).sp = s.sp := rfl
@[simp] theorem State.modYport_sin (s : State) (n : Nat) (f : YPort → YPort) : (s.modYport n f).sin = s.sin := rfl
@[simp] theorem State.modYport_sout (s : State) (n : Nat) (f : YPort → YPort) : (s.modYport n f).sout = s.sout := rfl
@[simp] theorem State.modYport_mot (s : State) (n : Nat) (f : YPort → YPort) : (s.modYport n f).mot = s.mot := rfl
@[simp] theorem State.modYport_col (s : State) (n : Nat) (f : YPort → YPort) : (s.modYport n f).col = s.col := rfl
@[simp] theorem State.modYport_flt (s : State) (n : Nat) (f : YPort → YPort) : (s.modYport n f).flt = s.flt := rfl
@[simp] theorem State.modYport_farr (s : State) (n : Nat) (f : YPort → YPort) : (s.modYport n f).farr = s.farr := rfl
@[simp] theorem State.modYport_cp (s : State) (n : Nat) (f : YPort → YPort) : (s.modYport n f).cp = s.cp := rfl
@[simp] theorem State.modYport_img (s : State) (n : Nat) (f : YPort → YPort) : (s.modYport n f).img = s.img := rfl
@[simp] theorem State.modYport_spook (s : State) (n : Nat) (f : YPort → YPort) : (s.modYport n f).spook = s.spook := rfl
@[simp] theorem State.modYport_fifos (s : State) (n : Nat) (f : YPort → YPort) : (s.modYport n f).fifos = s.fifos := rfl
@[simp] theorem State.modYport_mram (s : State) (n : Nat) (f : YPort → YPort) : (s.modYport n f).mram = s.mram := rfl
@[simp] theorem State.modYport_pending (s : State) (n : Nat) (f : YPort → YPort) : (s.modYport n f).pending = s.pending := rfl

@[simp] theorem State.modFifo_now (s : State) (n : Nat) (f : Fifo → Fifo) : (s.modFifo n f).now = s.now := rfl
@[simp] theorem State.modFifo_free (s : State) (n : Nat) (f : Fifo → Fifo) : (s.modFifo n f).free = s.free := rfl
@[simp] theorem State.modFifo_seq (s : State) (n : Nat) (f : Fifo → Fifo) : (s.modFifo n f).seq = s.seq := rfl
@[simp] theorem State.modFifo_clk (s : State) (n : Nat) (f : Fifo → Fifo) : (s.modFifo n f).clk = s.clk := rfl
@[simp] theorem State.modFifo_pair (s : State) (n : Nat) (f : Fifo → Fifo) : (s.modFifo n f).pair = s.pair := rfl
@[simp] theorem State.modFifo_fab (s : State) (n : Nat) (f : Fifo → Fifo) : (s.modFifo n f).fab = s.fab := rfl
@[simp] theorem State.modFifo_logic (s : State) (n : Nat) (f : Fifo → Fifo) : (s.modFifo n f).logic = s.logic := rfl
@[simp] theorem State.modFifo_sh0 (s : State) (n : Nat) (f : Fifo → Fifo) : (s.modFifo n f).sh0 = s.sh0 := rfl
@[simp] theorem State.modFifo_sh1 (s : State) (n : Nat) (f : Fifo → Fifo) : (s.modFifo n f).sh1 = s.sh1 := rfl
@[simp] theorem State.modFifo_sp (s : State) (n : Nat) (f : Fifo → Fifo) : (s.modFifo n f).sp = s.sp := rfl
@[simp] theorem State.modFifo_sin (s : State) (n : Nat) (f : Fifo → Fifo) : (s.modFifo n f).sin = s.sin := rfl
@[simp] theorem State.modFifo_sout (s : State) (n : Nat) (f : Fifo → Fifo) : (s.modFifo n f).sout = s.sout := rfl
@[simp] theorem State.modFifo_mot (s : State) (n : Nat) (f : Fifo → Fifo) : (s.modFifo n f).mot = s.mot := rfl
@[simp] theorem State.modFifo_col (s : State) (n : Nat) (f : Fifo → Fifo) : (s.modFifo n f).col = s.col := rfl
@[simp] theorem State.modFifo_yard (s : State) (n : Nat) (f : Fifo → Fifo) : (s.modFifo n f).yard = s.yard := rfl
@[simp] theorem State.modFifo_flt (s : State) (n : Nat) (f : Fifo → Fifo) : (s.modFifo n f).flt = s.flt := rfl
@[simp] theorem State.modFifo_farr (s : State) (n : Nat) (f : Fifo → Fifo) : (s.modFifo n f).farr = s.farr := rfl
@[simp] theorem State.modFifo_cp (s : State) (n : Nat) (f : Fifo → Fifo) : (s.modFifo n f).cp = s.cp := rfl
@[simp] theorem State.modFifo_img (s : State) (n : Nat) (f : Fifo → Fifo) : (s.modFifo n f).img = s.img := rfl
@[simp] theorem State.modFifo_spook (s : State) (n : Nat) (f : Fifo → Fifo) : (s.modFifo n f).spook = s.spook := rfl
@[simp] theorem State.modFifo_mram (s : State) (n : Nat) (f : Fifo → Fifo) : (s.modFifo n f).mram = s.mram := rfl
@[simp] theorem State.modFifo_pending (s : State) (n : Nat) (f : Fifo → Fifo) : (s.modFifo n f).pending = s.pending := rfl

@[simp] theorem State.mramWrite_now (s : State) (a : Nat) (l : List Byte) : (s.mramWrite a l).now = s.now := rfl
@[simp] theorem State.mramWrite_free (s : State) (a : Nat) (l : List Byte) : (s.mramWrite a l).free = s.free := rfl
@[simp] theorem State.mramWrite_seq (s : State) (a : Nat) (l : List Byte) : (s.mramWrite a l).seq = s.seq := rfl
@[simp] theorem State.mramWrite_clk (s : State) (a : Nat) (l : List Byte) : (s.mramWrite a l).clk = s.clk := rfl
@[simp] theorem State.mramWrite_pair (s : State) (a : Nat) (l : List Byte) : (s.mramWrite a l).pair = s.pair := rfl
@[simp] theorem State.mramWrite_fab (s : State) (a : Nat) (l : List Byte) : (s.mramWrite a l).fab = s.fab := rfl
@[simp] theorem State.mramWrite_logic (s : State) (a : Nat) (l : List Byte) : (s.mramWrite a l).logic = s.logic := rfl
@[simp] theorem State.mramWrite_sh0 (s : State) (a : Nat) (l : List Byte) : (s.mramWrite a l).sh0 = s.sh0 := rfl
@[simp] theorem State.mramWrite_sh1 (s : State) (a : Nat) (l : List Byte) : (s.mramWrite a l).sh1 = s.sh1 := rfl
@[simp] theorem State.mramWrite_sp (s : State) (a : Nat) (l : List Byte) : (s.mramWrite a l).sp = s.sp := rfl
@[simp] theorem State.mramWrite_sin (s : State) (a : Nat) (l : List Byte) : (s.mramWrite a l).sin = s.sin := rfl
@[simp] theorem State.mramWrite_sout (s : State) (a : Nat) (l : List Byte) : (s.mramWrite a l).sout = s.sout := rfl
@[simp] theorem State.mramWrite_mot (s : State) (a : Nat) (l : List Byte) : (s.mramWrite a l).mot = s.mot := rfl
@[simp] theorem State.mramWrite_col (s : State) (a : Nat) (l : List Byte) : (s.mramWrite a l).col = s.col := rfl
@[simp] theorem State.mramWrite_yard (s : State) (a : Nat) (l : List Byte) : (s.mramWrite a l).yard = s.yard := rfl
@[simp] theorem State.mramWrite_flt (s : State) (a : Nat) (l : List Byte) : (s.mramWrite a l).flt = s.flt := rfl
@[simp] theorem State.mramWrite_farr (s : State) (a : Nat) (l : List Byte) : (s.mramWrite a l).farr = s.farr := rfl
@[simp] theorem State.mramWrite_cp (s : State) (a : Nat) (l : List Byte) : (s.mramWrite a l).cp = s.cp := rfl
@[simp] theorem State.mramWrite_img (s : State) (a : Nat) (l : List Byte) : (s.mramWrite a l).img = s.img := rfl
@[simp] theorem State.mramWrite_spook (s : State) (a : Nat) (l : List Byte) : (s.mramWrite a l).spook = s.spook := rfl
@[simp] theorem State.mramWrite_fifos (s : State) (a : Nat) (l : List Byte) : (s.mramWrite a l).fifos = s.fifos := rfl
@[simp] theorem State.mramWrite_pending (s : State) (a : Nat) (l : List Byte) : (s.mramWrite a l).pending = s.pending := rfl

@[simp] theorem State.trigger_now (s : State) (n : Nat) : (s.trigger n).now = s.now := rfl
@[simp] theorem State.trigger_free (s : State) (n : Nat) : (s.trigger n).free = s.free := rfl
@[simp] theorem State.trigger_seq (s : State) (n : Nat) : (s.trigger n).seq = s.seq := rfl
@[simp] theorem State.trigger_clk (s : State) (n : Nat) : (s.trigger n).clk = s.clk := rfl
@[simp] theorem State.trigger_pair (s : State) (n : Nat) : (s.trigger n).pair = s.pair := rfl
@[simp] theorem State.trigger_fab (s : State) (n : Nat) : (s.trigger n).fab = s.fab := rfl
@[simp] theorem State.trigger_logic (s : State) (n : Nat) : (s.trigger n).logic = s.logic := rfl
@[simp] theorem State.trigger_sh0 (s : State) (n : Nat) : (s.trigger n).sh0 = s.sh0 := rfl
@[simp] theorem State.trigger_sh1 (s : State) (n : Nat) : (s.trigger n).sh1 = s.sh1 := rfl
@[simp] theorem State.trigger_sp (s : State) (n : Nat) : (s.trigger n).sp = s.sp := rfl
@[simp] theorem State.trigger_sin (s : State) (n : Nat) : (s.trigger n).sin = s.sin := rfl
@[simp] theorem State.trigger_mot (s : State) (n : Nat) : (s.trigger n).mot = s.mot := rfl
@[simp] theorem State.trigger_col (s : State) (n : Nat) : (s.trigger n).col = s.col := rfl
@[simp] theorem State.trigger_yard (s : State) (n : Nat) : (s.trigger n).yard = s.yard := rfl
@[simp] theorem State.trigger_flt (s : State) (n : Nat) : (s.trigger n).flt = s.flt := rfl
@[simp] theorem State.trigger_farr (s : State) (n : Nat) : (s.trigger n).farr = s.farr := rfl
@[simp] theorem State.trigger_cp (s : State) (n : Nat) : (s.trigger n).cp = s.cp := rfl
@[simp] theorem State.trigger_img (s : State) (n : Nat) : (s.trigger n).img = s.img := rfl
@[simp] theorem State.trigger_spook (s : State) (n : Nat) : (s.trigger n).spook = s.spook := rfl
@[simp] theorem State.trigger_fifos (s : State) (n : Nat) : (s.trigger n).fifos = s.fifos := rfl
@[simp] theorem State.trigger_mram (s : State) (n : Nat) : (s.trigger n).mram = s.mram := rfl
@[simp] theorem State.trigger_pending (s : State) (n : Nat) : (s.trigger n).pending = s.pending := rfl

@[simp] theorem State.holdBark_now (s : State) : (s.holdBark).now = s.now := rfl
@[simp] theorem State.holdBark_free (s : State) : (s.holdBark).free = s.free := rfl
@[simp] theorem State.holdBark_seq (s : State) : (s.holdBark).seq = s.seq := rfl
@[simp] theorem State.holdBark_clk (s : State) : (s.holdBark).clk = s.clk := rfl
@[simp] theorem State.holdBark_pair (s : State) : (s.holdBark).pair = s.pair := rfl
@[simp] theorem State.holdBark_fab (s : State) : (s.holdBark).fab = s.fab := rfl
@[simp] theorem State.holdBark_logic (s : State) : (s.holdBark).logic = s.logic := rfl
@[simp] theorem State.holdBark_sh0 (s : State) : (s.holdBark).sh0 = s.sh0 := rfl
@[simp] theorem State.holdBark_sh1 (s : State) : (s.holdBark).sh1 = s.sh1 := rfl
@[simp] theorem State.holdBark_sp (s : State) : (s.holdBark).sp = s.sp := rfl
@[simp] theorem State.holdBark_sin (s : State) : (s.holdBark).sin = s.sin := rfl
@[simp] theorem State.holdBark_mot (s : State) : (s.holdBark).mot = s.mot := rfl
@[simp] theorem State.holdBark_col (s : State) : (s.holdBark).col = s.col := rfl
@[simp] theorem State.holdBark_yard (s : State) : (s.holdBark).yard = s.yard := rfl
@[simp] theorem State.holdBark_flt (s : State) : (s.holdBark).flt = s.flt := rfl
@[simp] theorem State.holdBark_farr (s : State) : (s.holdBark).farr = s.farr := rfl
@[simp] theorem State.holdBark_cp (s : State) : (s.holdBark).cp = s.cp := rfl
@[simp] theorem State.holdBark_img (s : State) : (s.holdBark).img = s.img := rfl
@[simp] theorem State.holdBark_spook (s : State) : (s.holdBark).spook = s.spook := rfl
@[simp] theorem State.holdBark_fifos (s : State) : (s.holdBark).fifos = s.fifos := rfl
@[simp] theorem State.holdBark_mram (s : State) : (s.holdBark).mram = s.mram := rfl
@[simp] theorem State.holdBark_pending (s : State) : (s.holdBark).pending = s.pending := rfl

@[simp] theorem State.dropLaunches_now (s : State) : (s.dropLaunches).now = s.now := rfl
@[simp] theorem State.dropLaunches_free (s : State) : (s.dropLaunches).free = s.free := rfl
@[simp] theorem State.dropLaunches_seq (s : State) : (s.dropLaunches).seq = s.seq := rfl
@[simp] theorem State.dropLaunches_clk (s : State) : (s.dropLaunches).clk = s.clk := rfl
@[simp] theorem State.dropLaunches_pair (s : State) : (s.dropLaunches).pair = s.pair := rfl
@[simp] theorem State.dropLaunches_fab (s : State) : (s.dropLaunches).fab = s.fab := rfl
@[simp] theorem State.dropLaunches_logic (s : State) : (s.dropLaunches).logic = s.logic := rfl
@[simp] theorem State.dropLaunches_sh0 (s : State) : (s.dropLaunches).sh0 = s.sh0 := rfl
@[simp] theorem State.dropLaunches_sh1 (s : State) : (s.dropLaunches).sh1 = s.sh1 := rfl
@[simp] theorem State.dropLaunches_sp (s : State) : (s.dropLaunches).sp = s.sp := rfl
@[simp] theorem State.dropLaunches_sin (s : State) : (s.dropLaunches).sin = s.sin := rfl
@[simp] theorem State.dropLaunches_sout (s : State) : (s.dropLaunches).sout = s.sout := rfl
@[simp] theorem State.dropLaunches_mot (s : State) : (s.dropLaunches).mot = s.mot := rfl
@[simp] theorem State.dropLaunches_col (s : State) : (s.dropLaunches).col = s.col := rfl
@[simp] theorem State.dropLaunches_flt (s : State) : (s.dropLaunches).flt = s.flt := rfl
@[simp] theorem State.dropLaunches_farr (s : State) : (s.dropLaunches).farr = s.farr := rfl
@[simp] theorem State.dropLaunches_cp (s : State) : (s.dropLaunches).cp = s.cp := rfl
@[simp] theorem State.dropLaunches_img (s : State) : (s.dropLaunches).img = s.img := rfl
@[simp] theorem State.dropLaunches_spook (s : State) : (s.dropLaunches).spook = s.spook := rfl
@[simp] theorem State.dropLaunches_fifos (s : State) : (s.dropLaunches).fifos = s.fifos := rfl
@[simp] theorem State.dropLaunches_mram (s : State) : (s.dropLaunches).mram = s.mram := rfl
@[simp] theorem State.dropLaunches_pending (s : State) : (s.dropLaunches).pending = s.pending := rfl

@[simp] theorem State.cancelLaunch_now (s : State) (k g : Nat) : (s.cancelLaunch k g).now = s.now := rfl
@[simp] theorem State.cancelLaunch_free (s : State) (k g : Nat) : (s.cancelLaunch k g).free = s.free := rfl
@[simp] theorem State.cancelLaunch_seq (s : State) (k g : Nat) : (s.cancelLaunch k g).seq = s.seq := rfl
@[simp] theorem State.cancelLaunch_clk (s : State) (k g : Nat) : (s.cancelLaunch k g).clk = s.clk := rfl
@[simp] theorem State.cancelLaunch_pair (s : State) (k g : Nat) : (s.cancelLaunch k g).pair = s.pair := rfl
@[simp] theorem State.cancelLaunch_fab (s : State) (k g : Nat) : (s.cancelLaunch k g).fab = s.fab := rfl
@[simp] theorem State.cancelLaunch_logic (s : State) (k g : Nat) : (s.cancelLaunch k g).logic = s.logic := rfl
@[simp] theorem State.cancelLaunch_sh0 (s : State) (k g : Nat) : (s.cancelLaunch k g).sh0 = s.sh0 := rfl
@[simp] theorem State.cancelLaunch_sh1 (s : State) (k g : Nat) : (s.cancelLaunch k g).sh1 = s.sh1 := rfl
@[simp] theorem State.cancelLaunch_sp (s : State) (k g : Nat) : (s.cancelLaunch k g).sp = s.sp := rfl
@[simp] theorem State.cancelLaunch_sin (s : State) (k g : Nat) : (s.cancelLaunch k g).sin = s.sin := rfl
@[simp] theorem State.cancelLaunch_sout (s : State) (k g : Nat) : (s.cancelLaunch k g).sout = s.sout := rfl
@[simp] theorem State.cancelLaunch_mot (s : State) (k g : Nat) : (s.cancelLaunch k g).mot = s.mot := rfl
@[simp] theorem State.cancelLaunch_col (s : State) (k g : Nat) : (s.cancelLaunch k g).col = s.col := rfl
@[simp] theorem State.cancelLaunch_flt (s : State) (k g : Nat) : (s.cancelLaunch k g).flt = s.flt := rfl
@[simp] theorem State.cancelLaunch_farr (s : State) (k g : Nat) : (s.cancelLaunch k g).farr = s.farr := rfl
@[simp] theorem State.cancelLaunch_cp (s : State) (k g : Nat) : (s.cancelLaunch k g).cp = s.cp := rfl
@[simp] theorem State.cancelLaunch_img (s : State) (k g : Nat) : (s.cancelLaunch k g).img = s.img := rfl
@[simp] theorem State.cancelLaunch_spook (s : State) (k g : Nat) : (s.cancelLaunch k g).spook = s.spook := rfl
@[simp] theorem State.cancelLaunch_fifos (s : State) (k g : Nat) : (s.cancelLaunch k g).fifos = s.fifos := rfl
@[simp] theorem State.cancelLaunch_mram (s : State) (k g : Nat) : (s.cancelLaunch k g).mram = s.mram := rfl
@[simp] theorem State.cancelLaunch_pending (s : State) (k g : Nat) : (s.cancelLaunch k g).pending = s.pending := rfl

@[simp] theorem State.discardAck_now (s : State) : (s.discardAck).now = s.now := rfl
@[simp] theorem State.discardAck_free (s : State) : (s.discardAck).free = s.free := rfl
@[simp] theorem State.discardAck_seq (s : State) : (s.discardAck).seq = s.seq := rfl
@[simp] theorem State.discardAck_clk (s : State) : (s.discardAck).clk = s.clk := rfl
@[simp] theorem State.discardAck_pair (s : State) : (s.discardAck).pair = s.pair := rfl
@[simp] theorem State.discardAck_fab (s : State) : (s.discardAck).fab = s.fab := rfl
@[simp] theorem State.discardAck_logic (s : State) : (s.discardAck).logic = s.logic := rfl
@[simp] theorem State.discardAck_sp (s : State) : (s.discardAck).sp = s.sp := rfl
@[simp] theorem State.discardAck_sin (s : State) : (s.discardAck).sin = s.sin := rfl
@[simp] theorem State.discardAck_sout (s : State) : (s.discardAck).sout = s.sout := rfl
@[simp] theorem State.discardAck_mot (s : State) : (s.discardAck).mot = s.mot := rfl
@[simp] theorem State.discardAck_col (s : State) : (s.discardAck).col = s.col := rfl
@[simp] theorem State.discardAck_yard (s : State) : (s.discardAck).yard = s.yard := rfl
@[simp] theorem State.discardAck_flt (s : State) : (s.discardAck).flt = s.flt := rfl
@[simp] theorem State.discardAck_farr (s : State) : (s.discardAck).farr = s.farr := rfl
@[simp] theorem State.discardAck_cp (s : State) : (s.discardAck).cp = s.cp := rfl
@[simp] theorem State.discardAck_img (s : State) : (s.discardAck).img = s.img := rfl
@[simp] theorem State.discardAck_spook (s : State) : (s.discardAck).spook = s.spook := rfl
@[simp] theorem State.discardAck_fifos (s : State) : (s.discardAck).fifos = s.fifos := rfl
@[simp] theorem State.discardAck_mram (s : State) : (s.discardAck).mram = s.mram := rfl
@[simp] theorem State.discardAck_pending (s : State) : (s.discardAck).pending = s.pending := rfl

@[simp] theorem State.alertPin_now (s : State) : (s.alertPin).now = s.now := rfl
@[simp] theorem State.alertPin_free (s : State) : (s.alertPin).free = s.free := rfl
@[simp] theorem State.alertPin_seq (s : State) : (s.alertPin).seq = s.seq := rfl
@[simp] theorem State.alertPin_clk (s : State) : (s.alertPin).clk = s.clk := rfl
@[simp] theorem State.alertPin_pair (s : State) : (s.alertPin).pair = s.pair := rfl
@[simp] theorem State.alertPin_fab (s : State) : (s.alertPin).fab = s.fab := rfl
@[simp] theorem State.alertPin_logic (s : State) : (s.alertPin).logic = s.logic := rfl
@[simp] theorem State.alertPin_sh0 (s : State) : (s.alertPin).sh0 = s.sh0 := rfl
@[simp] theorem State.alertPin_sh1 (s : State) : (s.alertPin).sh1 = s.sh1 := rfl
@[simp] theorem State.alertPin_sp (s : State) : (s.alertPin).sp = s.sp := rfl
@[simp] theorem State.alertPin_sin (s : State) : (s.alertPin).sin = s.sin := rfl
@[simp] theorem State.alertPin_sout (s : State) : (s.alertPin).sout = s.sout := rfl
@[simp] theorem State.alertPin_mot (s : State) : (s.alertPin).mot = s.mot := rfl
@[simp] theorem State.alertPin_col (s : State) : (s.alertPin).col = s.col := rfl
@[simp] theorem State.alertPin_yard (s : State) : (s.alertPin).yard = s.yard := rfl
@[simp] theorem State.alertPin_flt (s : State) : (s.alertPin).flt = s.flt := rfl
@[simp] theorem State.alertPin_farr (s : State) : (s.alertPin).farr = s.farr := rfl
@[simp] theorem State.alertPin_img (s : State) : (s.alertPin).img = s.img := rfl
@[simp] theorem State.alertPin_spook (s : State) : (s.alertPin).spook = s.spook := rfl
@[simp] theorem State.alertPin_fifos (s : State) : (s.alertPin).fifos = s.fifos := rfl
@[simp] theorem State.alertPin_mram (s : State) : (s.alertPin).mram = s.mram := rfl
@[simp] theorem State.alertPin_pending (s : State) : (s.alertPin).pending = s.pending := rfl

@[simp] theorem State.alert_now (s : State) (n : Nat) : (s.alert n).now = s.now := by unfold State.alert; (repeat' split) <;> rfl
@[simp] theorem State.alert_free (s : State) (n : Nat) : (s.alert n).free = s.free := by unfold State.alert; (repeat' split) <;> rfl
@[simp] theorem State.alert_seq (s : State) (n : Nat) : (s.alert n).seq = s.seq := by unfold State.alert; (repeat' split) <;> rfl
@[simp] theorem State.alert_clk (s : State) (n : Nat) : (s.alert n).clk = s.clk := by unfold State.alert; (repeat' split) <;> rfl
@[simp] theorem State.alert_pair (s : State) (n : Nat) : (s.alert n).pair = s.pair := by unfold State.alert; (repeat' split) <;> rfl
@[simp] theorem State.alert_fab (s : State) (n : Nat) : (s.alert n).fab = s.fab := by unfold State.alert; (repeat' split) <;> rfl
@[simp] theorem State.alert_logic (s : State) (n : Nat) : (s.alert n).logic = s.logic := by unfold State.alert; (repeat' split) <;> rfl
@[simp] theorem State.alert_sh0 (s : State) (n : Nat) : (s.alert n).sh0 = s.sh0 := by unfold State.alert; (repeat' split) <;> rfl
@[simp] theorem State.alert_sh1 (s : State) (n : Nat) : (s.alert n).sh1 = s.sh1 := by unfold State.alert; (repeat' split) <;> rfl
@[simp] theorem State.alert_sp (s : State) (n : Nat) : (s.alert n).sp = s.sp := by unfold State.alert; (repeat' split) <;> rfl
@[simp] theorem State.alert_sin (s : State) (n : Nat) : (s.alert n).sin = s.sin := by unfold State.alert; (repeat' split) <;> rfl
@[simp] theorem State.alert_sout (s : State) (n : Nat) : (s.alert n).sout = s.sout := by unfold State.alert; (repeat' split) <;> rfl
@[simp] theorem State.alert_mot (s : State) (n : Nat) : (s.alert n).mot = s.mot := by unfold State.alert; (repeat' split) <;> rfl
@[simp] theorem State.alert_col (s : State) (n : Nat) : (s.alert n).col = s.col := by unfold State.alert; (repeat' split) <;> rfl
@[simp] theorem State.alert_yard (s : State) (n : Nat) : (s.alert n).yard = s.yard := by unfold State.alert; (repeat' split) <;> rfl
@[simp] theorem State.alert_flt (s : State) (n : Nat) : (s.alert n).flt = s.flt := by unfold State.alert; (repeat' split) <;> rfl
@[simp] theorem State.alert_farr (s : State) (n : Nat) : (s.alert n).farr = s.farr := by unfold State.alert; (repeat' split) <;> rfl
@[simp] theorem State.alert_img (s : State) (n : Nat) : (s.alert n).img = s.img := by unfold State.alert; (repeat' split) <;> rfl
@[simp] theorem State.alert_spook (s : State) (n : Nat) : (s.alert n).spook = s.spook := by unfold State.alert; (repeat' split) <;> rfl
@[simp] theorem State.alert_fifos (s : State) (n : Nat) : (s.alert n).fifos = s.fifos := by unfold State.alert; (repeat' split) <;> rfl
@[simp] theorem State.alert_mram (s : State) (n : Nat) : (s.alert n).mram = s.mram := by unfold State.alert; (repeat' split) <;> rfl
@[simp] theorem State.alert_pending (s : State) (n : Nat) : (s.alert n).pending = s.pending := by unfold State.alert; (repeat' split) <;> rfl

@[simp] theorem State.snap_now (s : State) (a b : Nat) : (s.snap a b).now = s.now := by unfold State.snap; (repeat' split) <;> rfl
@[simp] theorem State.snap_free (s : State) (a b : Nat) : (s.snap a b).free = s.free := by unfold State.snap; (repeat' split) <;> rfl
@[simp] theorem State.snap_clk (s : State) (a b : Nat) : (s.snap a b).clk = s.clk := by unfold State.snap; (repeat' split) <;> rfl
@[simp] theorem State.snap_pair (s : State) (a b : Nat) : (s.snap a b).pair = s.pair := by unfold State.snap; (repeat' split) <;> rfl
@[simp] theorem State.snap_fab (s : State) (a b : Nat) : (s.snap a b).fab = s.fab := by unfold State.snap; (repeat' split) <;> rfl
@[simp] theorem State.snap_logic (s : State) (a b : Nat) : (s.snap a b).logic = s.logic := by unfold State.snap; (repeat' split) <;> rfl
@[simp] theorem State.snap_sh0 (s : State) (a b : Nat) : (s.snap a b).sh0 = s.sh0 := by unfold State.snap; (repeat' split) <;> rfl
@[simp] theorem State.snap_sh1 (s : State) (a b : Nat) : (s.snap a b).sh1 = s.sh1 := by unfold State.snap; (repeat' split) <;> rfl
@[simp] theorem State.snap_sp (s : State) (a b : Nat) : (s.snap a b).sp = s.sp := by unfold State.snap; (repeat' split) <;> rfl
@[simp] theorem State.snap_sin (s : State) (a b : Nat) : (s.snap a b).sin = s.sin := by unfold State.snap; (repeat' split) <;> rfl
@[simp] theorem State.snap_sout (s : State) (a b : Nat) : (s.snap a b).sout = s.sout := by unfold State.snap; (repeat' split) <;> rfl
@[simp] theorem State.snap_mot (s : State) (a b : Nat) : (s.snap a b).mot = s.mot := by unfold State.snap; (repeat' split) <;> rfl
@[simp] theorem State.snap_col (s : State) (a b : Nat) : (s.snap a b).col = s.col := by unfold State.snap; (repeat' split) <;> rfl
@[simp] theorem State.snap_yard (s : State) (a b : Nat) : (s.snap a b).yard = s.yard := by unfold State.snap; (repeat' split) <;> rfl
@[simp] theorem State.snap_flt (s : State) (a b : Nat) : (s.snap a b).flt = s.flt := by unfold State.snap; (repeat' split) <;> rfl
@[simp] theorem State.snap_farr (s : State) (a b : Nat) : (s.snap a b).farr = s.farr := by unfold State.snap; (repeat' split) <;> rfl
@[simp] theorem State.snap_cp (s : State) (a b : Nat) : (s.snap a b).cp = s.cp := by unfold State.snap; (repeat' split) <;> rfl
@[simp] theorem State.snap_img (s : State) (a b : Nat) : (s.snap a b).img = s.img := by unfold State.snap; (repeat' split) <;> rfl
@[simp] theorem State.snap_spook (s : State) (a b : Nat) : (s.snap a b).spook = s.spook := by unfold State.snap; (repeat' split) <;> rfl
@[simp] theorem State.snap_fifos (s : State) (a b : Nat) : (s.snap a b).fifos = s.fifos := by unfold State.snap; (repeat' split) <;> rfl
@[simp] theorem State.snap_mram (s : State) (a b : Nat) : (s.snap a b).mram = s.mram := by unfold State.snap; (repeat' split) <;> rfl
@[simp] theorem State.snap_pending (s : State) (a b : Nat) : (s.snap a b).pending = s.pending := by unfold State.snap; (repeat' split) <;> rfl

@[simp] theorem State.seqWait_now (s : State) (w : SeqWait) (ch : Nat) : (s.seqWait w ch).now = s.now := rfl
@[simp] theorem State.seqWait_free (s : State) (w : SeqWait) (ch : Nat) : (s.seqWait w ch).free = s.free := rfl
@[simp] theorem State.seqWait_clk (s : State) (w : SeqWait) (ch : Nat) : (s.seqWait w ch).clk = s.clk := rfl
@[simp] theorem State.seqWait_pair (s : State) (w : SeqWait) (ch : Nat) : (s.seqWait w ch).pair = s.pair := rfl
@[simp] theorem State.seqWait_fab (s : State) (w : SeqWait) (ch : Nat) : (s.seqWait w ch).fab = s.fab := rfl
@[simp] theorem State.seqWait_logic (s : State) (w : SeqWait) (ch : Nat) : (s.seqWait w ch).logic = s.logic := rfl
@[simp] theorem State.seqWait_sh0 (s : State) (w : SeqWait) (ch : Nat) : (s.seqWait w ch).sh0 = s.sh0 := rfl
@[simp] theorem State.seqWait_sh1 (s : State) (w : SeqWait) (ch : Nat) : (s.seqWait w ch).sh1 = s.sh1 := rfl
@[simp] theorem State.seqWait_sp (s : State) (w : SeqWait) (ch : Nat) : (s.seqWait w ch).sp = s.sp := rfl
@[simp] theorem State.seqWait_sin (s : State) (w : SeqWait) (ch : Nat) : (s.seqWait w ch).sin = s.sin := rfl
@[simp] theorem State.seqWait_sout (s : State) (w : SeqWait) (ch : Nat) : (s.seqWait w ch).sout = s.sout := rfl
@[simp] theorem State.seqWait_mot (s : State) (w : SeqWait) (ch : Nat) : (s.seqWait w ch).mot = s.mot := rfl
@[simp] theorem State.seqWait_col (s : State) (w : SeqWait) (ch : Nat) : (s.seqWait w ch).col = s.col := rfl
@[simp] theorem State.seqWait_yard (s : State) (w : SeqWait) (ch : Nat) : (s.seqWait w ch).yard = s.yard := rfl
@[simp] theorem State.seqWait_flt (s : State) (w : SeqWait) (ch : Nat) : (s.seqWait w ch).flt = s.flt := rfl
@[simp] theorem State.seqWait_farr (s : State) (w : SeqWait) (ch : Nat) : (s.seqWait w ch).farr = s.farr := rfl
@[simp] theorem State.seqWait_cp (s : State) (w : SeqWait) (ch : Nat) : (s.seqWait w ch).cp = s.cp := rfl
@[simp] theorem State.seqWait_img (s : State) (w : SeqWait) (ch : Nat) : (s.seqWait w ch).img = s.img := rfl
@[simp] theorem State.seqWait_spook (s : State) (w : SeqWait) (ch : Nat) : (s.seqWait w ch).spook = s.spook := rfl
@[simp] theorem State.seqWait_fifos (s : State) (w : SeqWait) (ch : Nat) : (s.seqWait w ch).fifos = s.fifos := rfl
@[simp] theorem State.seqWait_mram (s : State) (w : SeqWait) (ch : Nat) : (s.seqWait w ch).mram = s.mram := rfl
@[simp] theorem State.seqWait_pending (s : State) (w : SeqWait) (ch : Nat) : (s.seqWait w ch).pending = s.pending := rfl

@[simp] theorem State.running_now (s : State) (ch : Nat) : (s.running ch).now = s.now := rfl
@[simp] theorem State.running_free (s : State) (ch : Nat) : (s.running ch).free = s.free := rfl
@[simp] theorem State.running_clk (s : State) (ch : Nat) : (s.running ch).clk = s.clk := rfl
@[simp] theorem State.running_pair (s : State) (ch : Nat) : (s.running ch).pair = s.pair := rfl
@[simp] theorem State.running_fab (s : State) (ch : Nat) : (s.running ch).fab = s.fab := rfl
@[simp] theorem State.running_logic (s : State) (ch : Nat) : (s.running ch).logic = s.logic := rfl
@[simp] theorem State.running_sh0 (s : State) (ch : Nat) : (s.running ch).sh0 = s.sh0 := rfl
@[simp] theorem State.running_sh1 (s : State) (ch : Nat) : (s.running ch).sh1 = s.sh1 := rfl
@[simp] theorem State.running_sp (s : State) (ch : Nat) : (s.running ch).sp = s.sp := rfl
@[simp] theorem State.running_sin (s : State) (ch : Nat) : (s.running ch).sin = s.sin := rfl
@[simp] theorem State.running_sout (s : State) (ch : Nat) : (s.running ch).sout = s.sout := rfl
@[simp] theorem State.running_mot (s : State) (ch : Nat) : (s.running ch).mot = s.mot := rfl
@[simp] theorem State.running_col (s : State) (ch : Nat) : (s.running ch).col = s.col := rfl
@[simp] theorem State.running_yard (s : State) (ch : Nat) : (s.running ch).yard = s.yard := rfl
@[simp] theorem State.running_flt (s : State) (ch : Nat) : (s.running ch).flt = s.flt := rfl
@[simp] theorem State.running_farr (s : State) (ch : Nat) : (s.running ch).farr = s.farr := rfl
@[simp] theorem State.running_cp (s : State) (ch : Nat) : (s.running ch).cp = s.cp := rfl
@[simp] theorem State.running_img (s : State) (ch : Nat) : (s.running ch).img = s.img := rfl
@[simp] theorem State.running_spook (s : State) (ch : Nat) : (s.running ch).spook = s.spook := rfl
@[simp] theorem State.running_fifos (s : State) (ch : Nat) : (s.running ch).fifos = s.fifos := rfl
@[simp] theorem State.running_mram (s : State) (ch : Nat) : (s.running ch).mram = s.mram := rfl
@[simp] theorem State.running_pending (s : State) (ch : Nat) : (s.running ch).pending = s.pending := rfl

@[simp] theorem State.snap_seq_por (s : State) (a b : Nat) : (s.snap a b).seq.por = s.seq.por := by unfold State.snap; (repeat' split) <;> rfl
@[simp] theorem State.snap_seq_porAt (s : State) (a b : Nat) : (s.snap a b).seq.porAt = s.seq.porAt := by unfold State.snap; (repeat' split) <;> rfl
@[simp] theorem State.snap_seq_phase (s : State) (a b : Nat) : (s.snap a b).seq.phase = s.seq.phase := by unfold State.snap; (repeat' split) <;> rfl
@[simp] theorem State.snap_seq_wait (s : State) (a b : Nat) : (s.snap a b).seq.wait = s.seq.wait := by unfold State.snap; (repeat' split) <;> rfl
@[simp] theorem State.snap_seq_chan (s : State) (a b : Nat) : (s.snap a b).seq.chan = s.seq.chan := by unfold State.snap; (repeat' split) <;> rfl
@[simp] theorem State.snap_seq_waitAt (s : State) (a b : Nat) : (s.snap a b).seq.waitAt = s.seq.waitAt := by unfold State.snap; (repeat' split) <;> rfl
@[simp] theorem State.snap_seq_todo (s : State) (a b : Nat) : (s.snap a b).seq.todo = s.seq.todo := by unfold State.snap; (repeat' split) <;> rfl
@[simp] theorem State.snap_seq_en (s : State) (a b : Nat) : (s.snap a b).seq.en = s.seq.en := by unfold State.snap; (repeat' split) <;> rfl
@[simp] theorem State.snap_seq_pg (s : State) (a b : Nat) : (s.snap a b).seq.pg = s.seq.pg := by unfold State.snap; (repeat' split) <;> rfl
@[simp] theorem State.snap_seq_run (s : State) (a b : Nat) : (s.snap a b).seq.run = s.seq.run := by unfold State.snap; (repeat' split) <;> rfl
@[simp] theorem State.snap_seq_ramp (s : State) (a b : Nat) : (s.snap a b).seq.ramp = s.seq.ramp := by unfold State.snap; (repeat' split) <;> rfl
@[simp] theorem State.snap_seq_mode (s : State) (a b : Nat) : (s.snap a b).seq.mode = s.seq.mode := by unfold State.snap; (repeat' split) <;> rfl
@[simp] theorem State.snap_seq_step (s : State) (a b : Nat) : (s.snap a b).seq.step = s.seq.step := by unfold State.snap; (repeat' split) <;> rfl
@[simp] theorem State.snap_seq_pgto (s : State) (a b : Nat) : (s.snap a b).seq.pgto = s.seq.pgto := by unfold State.snap; (repeat' split) <;> rfl
@[simp] theorem State.snap_seq_settle (s : State) (a b : Nat) : (s.snap a b).seq.settle = s.seq.settle := by unfold State.snap; (repeat' split) <;> rfl
@[simp] theorem State.snap_seq_dscto (s : State) (a b : Nat) : (s.snap a b).seq.dscto = s.seq.dscto := by unfold State.snap; (repeat' split) <;> rfl
@[simp] theorem State.snap_seq_dscLast (s : State) (a b : Nat) : (s.snap a b).seq.dscLast = s.seq.dscLast := by unfold State.snap; (repeat' split) <;> rfl
@[simp] theorem State.snap_seq_planOk (s : State) (a b : Nat) : (s.snap a b).seq.planOk = s.seq.planOk := by unfold State.snap; (repeat' split) <;> rfl
@[simp] theorem State.snap_seq_boardDone (s : State) (a b : Nat) : (s.snap a b).seq.boardDone = s.seq.boardDone := by unfold State.snap; (repeat' split) <;> rfl
@[simp] theorem State.snap_seq_downDone (s : State) (a b : Nat) : (s.snap a b).seq.downDone = s.seq.downDone := by unfold State.snap; (repeat' split) <;> rfl
@[simp] theorem State.snap_seq_holdup (s : State) (a b : Nat) : (s.snap a b).seq.holdup = s.seq.holdup := by unfold State.snap; (repeat' split) <;> rfl
@[simp] theorem State.snap_seq_belowWarn (s : State) (a b : Nat) : (s.snap a b).seq.belowWarn = s.seq.belowWarn := by unfold State.snap; (repeat' split) <;> rfl
@[simp] theorem State.snap_seq_vinLow (s : State) (a b : Nat) : (s.snap a b).seq.vinLow = s.seq.vinLow := by unfold State.snap; (repeat' split) <;> rfl
@[simp] theorem State.snap_seq_belowAbandon (s : State) (a b : Nat) : (s.snap a b).seq.belowAbandon = s.seq.belowAbandon := by unfold State.snap; (repeat' split) <;> rfl
@[simp] theorem State.snap_seq_vin (s : State) (a b : Nat) : (s.snap a b).seq.vin = s.seq.vin := by unfold State.snap; (repeat' split) <;> rfl
@[simp] theorem State.snap_seq_vinMin (s : State) (a b : Nat) : (s.snap a b).seq.vinMin = s.seq.vinMin := by unfold State.snap; (repeat' split) <;> rfl
@[simp] theorem State.snap_seq_vinWarns (s : State) (a b : Nat) : (s.snap a b).seq.vinWarns = s.seq.vinWarns := by unfold State.snap; (repeat' split) <;> rfl
@[simp] theorem State.snap_seq_vinAbandons (s : State) (a b : Nat) : (s.snap a b).seq.vinAbandons = s.seq.vinAbandons := by unfold State.snap; (repeat' split) <;> rfl
@[simp] theorem State.snap_seq_snapNo (s : State) (a b : Nat) : (s.snap a b).seq.snapNo = s.seq.snapNo := by unfold State.snap; (repeat' split) <;> rfl
@[simp] theorem State.snap_seq_snapTop (s : State) (a b : Nat) : (s.snap a b).seq.snapTop = s.seq.snapTop := by unfold State.snap; (repeat' split) <;> rfl
@[simp] theorem State.snap_seq_upStartNo (s : State) (a b : Nat) : (s.snap a b).seq.upStartNo = s.seq.upStartNo := by unfold State.snap; (repeat' split) <;> rfl
@[simp] theorem State.snap_seq_snapInv (s : State) (a b : Nat) : (s.snap a b).seq.snapInv = s.seq.snapInv := by unfold State.snap; (repeat' split) <;> rfl
@[simp] theorem State.snap_seq_snapAborted (s : State) (a b : Nat) : (s.snap a b).seq.snapAborted = s.seq.snapAborted := by unfold State.snap; (repeat' split) <;> rfl
@[simp] theorem State.snap_seq_snapBuf (s : State) (a b : Nat) : (s.snap a b).seq.snapBuf = s.seq.snapBuf := by unfold State.snap; (repeat' split) <;> rfl
@[simp] theorem State.snap_seq_chsel (s : State) (a b : Nat) : (s.snap a b).seq.chsel = s.seq.chsel := by unfold State.snap; (repeat' split) <;> rfl
@[simp] theorem State.snap_seq_sidx (s : State) (a b : Nat) : (s.snap a b).seq.sidx = s.seq.sidx := by unfold State.snap; (repeat' split) <;> rfl
@[simp] theorem State.snap_seq_swsel (s : State) (a b : Nat) : (s.snap a b).seq.swsel = s.seq.swsel := by unfold State.snap; (repeat' split) <;> rfl
@[simp] theorem State.snap_seq_cfgerr (s : State) (a b : Nat) : (s.snap a b).seq.cfgerr = s.seq.cfgerr := by unfold State.snap; (repeat' split) <;> rfl
@[simp] theorem State.snap_seq_rstcause (s : State) (a b : Nat) : (s.snap a b).seq.rstcause = s.seq.rstcause := by unfold State.snap; (repeat' split) <;> rfl
@[simp] theorem State.snap_seq_warmcnt (s : State) (a b : Nat) : (s.snap a b).seq.warmcnt = s.seq.warmcnt := by unfold State.snap; (repeat' split) <;> rfl
@[simp] theorem State.snap_seq_ytick (s : State) (a b : Nat) : (s.snap a b).seq.ytick = s.seq.ytick := by unfold State.snap; (repeat' split) <;> rfl
@[simp] theorem State.snap_seq_ytickAt (s : State) (a b : Nat) : (s.snap a b).seq.ytickAt = s.seq.ytickAt := by unfold State.snap; (repeat' split) <;> rfl
@[simp] theorem State.snap_seq_temps (s : State) (a b : Nat) : (s.snap a b).seq.temps = s.seq.temps := by unfold State.snap; (repeat' split) <;> rfl

@[simp] theorem State.alert_cp_on (s : State) (n : Nat) : (s.alert n).cp.on = s.cp.on := by unfold State.alert; split <;> rfl
@[simp] theorem State.alert_cp_st (s : State) (n : Nat) : (s.alert n).cp.st = s.cp.st := by unfold State.alert; split <;> rfl
@[simp] theorem State.alert_cp_wrEnd (s : State) (n : Nat) : (s.alert n).cp.wrEnd = s.cp.wrEnd := by unfold State.alert; split <;> rfl
@[simp] theorem State.alert_cp_sdo (s : State) (n : Nat) : (s.alert n).cp.sdo = s.cp.sdo := by unfold State.alert; split <;> rfl
@[simp] theorem State.alert_cp_alertEn (s : State) (n : Nat) : (s.alert n).cp.alertEn = s.cp.alertEn := by unfold State.alert; split <;> rfl
@[simp] theorem State.alert_cp_alertN (s : State) (n : Nat) : (s.alert n).cp.alertN = s.cp.alertN := by unfold State.alert; split <;> rfl
@[simp] theorem State.alert_cp_ylatch (s : State) (n : Nat) : (s.alert n).cp.ylatch = s.cp.ylatch := by unfold State.alert; split <;> rfl
@[simp] theorem State.alert_cp_cycle (s : State) (n : Nat) : (s.alert n).cp.cycle = s.cp.cycle := by unfold State.alert; split <;> rfl
@[simp] theorem State.alert_cp_hostcmd (s : State) (n : Nat) : (s.alert n).cp.hostcmd = s.cp.hostcmd := by unfold State.alert; split <;> rfl
@[simp] theorem State.alert_cp_arg0 (s : State) (n : Nat) : (s.alert n).cp.arg0 = s.cp.arg0 := by unfold State.alert; split <;> rfl
@[simp] theorem State.alert_cp_arg1 (s : State) (n : Nat) : (s.alert n).cp.arg1 = s.cp.arg1 := by unfold State.alert; split <;> rfl
@[simp] theorem State.alert_cp_resp (s : State) (n : Nat) : (s.alert n).cp.resp = s.cp.resp := by unfold State.alert; split <;> rfl
@[simp] theorem State.alert_cp_crcErr (s : State) (n : Nat) : (s.alert n).cp.crcErr = s.cp.crcErr := by unfold State.alert; split <;> rfl
@[simp] theorem State.alert_cp_frmErr (s : State) (n : Nat) : (s.alert n).cp.frmErr = s.cp.frmErr := by unfold State.alert; split <;> rfl
@[simp] theorem State.alert_cp_mbuf (s : State) (n : Nat) : (s.alert n).cp.mbuf = s.cp.mbuf := by unfold State.alert; split <;> rfl
@[simp] theorem State.alert_cp_page (s : State) (n : Nat) : (s.alert n).cp.page = s.cp.page := by unfold State.alert; split <;> rfl
@[simp] theorem State.alert_cp_mbx (s : State) (n : Nat) : (s.alert n).cp.mbx = s.cp.mbx := by unfold State.alert; split <;> rfl
@[simp] theorem State.alert_cp_maint (s : State) (n : Nat) : (s.alert n).cp.maint = s.cp.maint := by unfold State.alert; split <;> rfl

/-! ## What an update leaves at its own place -/

@[simp] theorem State.upTo_now (s : State) (t : Nat) : (s.upTo t).now = Nat.max s.now t := rfl
@[simp] theorem State.upTo_logic (s : State) (t : Nat) : (s.upTo t).logic = s.runFabric t := rfl

theorem State.modOut_outs (s : State) (n : Nat) (f : OutSt → OutSt) : (s.modOut n f).sout.outs = updAt f s.sout.outs n := rfl
theorem State.modPair_pairs (s : State) (n : Nat) (f : InPair → InPair) : (s.modPair n f).sin.pairs = updAt f s.sin.pairs n := rfl
theorem State.modTp_tp (s : State) (n : Nat) (f : TpLine → TpLine) : (s.modTp n f).sin.tp = updAt f s.sin.tp n := rfl
theorem State.modWheel_wheels (s : State) (n : Nat) (f : Wheel → Wheel) : (s.modWheel n f).mot.wheels = updAt f s.mot.wheels n := rfl
theorem State.modSlot_slots (s : State) (n : Nat) (f : Slot → Slot) : (s.modSlot n f).col.slots = updAt f s.col.slots n := rfl
theorem State.modRadio_ports (s : State) (n : Nat) (f : RadioPort → RadioPort) : (s.modRadio n f).col.ports = updAt f s.col.ports n := rfl
theorem State.modConn_conns (s : State) (n : Nat) (f : Conn → Conn) : (s.modConn n f).yard.conns = updAt f s.yard.conns n := rfl
theorem State.modYport_ports (s : State) (n : Nat) (f : YPort → YPort) : (s.modYport n f).yard.ports = updAt f s.yard.ports n := rfl

end Sys2Proof.Machine
end

