-- ==== Sys2Proof/Laws/Writers.lean ====
section
/-!
SUPPORT. The operations that write the MRAM or the antifuses: the canonical form is kept, an antifuse that is burnt stays
burnt, and the time and the queue stay.
-/
namespace Sys2Proof.Machine

/-- What an operation that may write the MRAM or burn antifuses leaves. -/
structure State.Tidy (s s' : State) : Prop where
  now : s'.now = s.now
  pending : s'.pending = s.pending
  mram : s.mram.wf = true → s'.mram.wf = true
  fuses : rowsOfThree s.img.fuses → fusesIn s.img.fuses s'.img.fuses ∧ rowsOfThree s'.img.fuses

/-- The time, the MRAM, the queue and the antifuses, one by one. -/
theorem core_parts {s s' : State} (h : s'.core = s.core) :
    s'.now = s.now ∧ s'.mram = s.mram ∧ s'.pending = s.pending ∧ s'.img.fuses = s.img.fuses := by
  unfold State.core at h
  simpa only [Prod.mk.injEq] using h

theorem State.Tidy.of_core {s s' : State} (h : s'.core = s.core) : s.Tidy s' := by
  obtain ⟨h1, h2, h3, h4⟩ := core_parts h
  exact ⟨h1, h3, fun w => by rw [h2]; exact w, fun w => by rw [h4]; exact ⟨fun _ _ k => k, w⟩⟩

theorem State.Tidy.refl (s : State) : s.Tidy s := .of_core rfl

theorem State.Tidy.trans {s t u : State} (h : s.Tidy t) (k : t.Tidy u) : s.Tidy u :=
  ⟨k.now.trans h.now, k.pending.trans h.pending, fun w => k.mram (h.mram w), fun w => ⟨fun i j x => (k.fuses (h.fuses w).2).1 i j ((h.fuses w).1 i j x), (k.fuses (h.fuses w).2).2⟩⟩

theorem State.Tidy.ite {s a b : State} {c : Prop} [Decidable c] (h : s.Tidy a) (k : s.Tidy b) : s.Tidy (if c then a else b) := by
  split
  · exact h
  · exact k

/-- A new memory in canonical form is tidy. -/
theorem State.Tidy.of_mem {s s' : State} (h1 : s'.now = s.now) (h2 : s'.pending = s.pending)
    (h3 : s.mram.wf = true → s'.mram.wf = true) (h4 : s'.img.fuses = s.img.fuses) : s.Tidy s' :=
  ⟨h1, h2, h3, fun w => by rw [h4]; exact ⟨fun _ _ k => k, w⟩⟩

theorem State.mramWrite_tidy (s : State) (a : Nat) (l : List Byte) : s.Tidy (s.mramWrite a l) :=
  .of_mem rfl rfl (fun w => Mem.writeN_wf l s.mram a w) rfl

theorem State.tearSnap_tidy (s : State) : s.Tidy s.tearSnap := by
  unfold State.tearSnap
  split
  · exact .trans (.of_core (by rw [core_mk, core_eta])) (State.mramWrite_tidy _ _ _)
  · exact .refl s

theorem State.tearRec_tidy (s : State) : s.Tidy s.tearRec := by
  unfold State.tearRec
  split
  · dsimp only
    have h : ∀ (x : State) (c : Bool), x.Tidy (if c then (x.alert 6).alert 5 else x.alert 6) := fun x c =>
      .of_core (by simp only [apply_ite State.core, State.alert_core, ite_self])
    refine .trans (.trans (?_ : s.Tidy _) (State.mramWrite_tidy _ (faultAddr _) _)) (h _ _)
    exact .of_core (by rw [core_mk, core_eta])
  · exact .refl s

theorem State.abandon_tidy (s : State) (a b : Bool) : s.Tidy (s.abandon a b) := by
  unfold State.abandon
  split
  · exact .refl s
  · dsimp only
    have h1 : s.Tidy (if a then s.tearSnap.fresh else s) := .ite (.trans s.tearSnap_tidy (.of_core (State.fresh_core _))) (.refl s)
    generalize (if a then s.tearSnap.fresh else s) = x at h1 ⊢
    have h2 : x.Tidy (if b then x.tearRec.fresh else x) := .ite (.trans x.tearRec_tidy (.of_core (State.fresh_core _))) (.refl x)
    generalize (if b then x.tearRec.fresh else x) = y at h2 ⊢
    exact (h1.trans h2).trans (.of_core (by rw [State.err_core, core_mk, core_eta]))

theorem State.snapWrite_tidy (s : State) : s.Tidy s.snapWrite := by
  unfold State.snapWrite
  split
  · split
    · exact .refl s
    · exact .trans (.of_core (by rw [core_mk, core_eta])) (State.mramWrite_tidy _ _ _)
  · exact .refl s

theorem State.recordWrite_tidy (s : State) : s.Tidy s.recordWrite := by
  unfold State.recordWrite
  split
  · split
    · exact .refl s
    · split
      · exact .of_core (by rw [State.alert_core, core_mk, core_eta])
      · dsimp only
        refine .ite ?_ ?_
        · exact .trans (.trans (State.mramWrite_tidy _ _ _) (.of_core (by rw [core_mk, core_eta]))) (.of_core (State.alert_core _ _))
        · exact .trans (State.mramWrite_tidy _ _ _) (.of_core (by rw [core_mk, core_eta]))
  · exact .refl s

theorem State.eraseNow_tidy (s : State) : s.Tidy s.eraseNow := by
  refine .of_mem rfl rfl (fun w => ?_) rfl
  unfold State.eraseNow
  dsimp only
  apply Mem.write_wf
  have h := Mem.erase_wf _ logsBase logsEnd (Mem.erase_wf _ 0x600000 0x600040 (Mem.erase_wf _ 0x000000 0x300000 w))
  split
  · exact Mem.erase_wf _ _ _ h
  · exact h

theorem State.erasureDone_tidy (s : State) : s.Tidy s.erasureDone := by
  unfold State.erasureDone
  split
  · exact .trans (.trans s.eraseNow_tidy (.of_core (by rw [core_mk, core_eta]))) (.of_core (State.mbxEnd_core _ _))
  · exact .refl s

theorem State.eraseLoad_tidy {s t : State} (b : LoadObs) (h : t.core = s.core) :
    s.Tidy ((if t.eraseOwed then t.eraseNow else t).kramAnew.cutRecord.load b) := by
  have h1 : t.Tidy (if t.eraseOwed then t.eraseNow else t) := .ite t.eraseNow_tidy (.refl t)
  exact ((State.Tidy.of_core h).trans h1).trans (.of_core (by rw [State.load_core, State.cutRecord_core, State.kramAnew_core]))

theorem State.selftestDone_tidy (s : State) (b : LoadObs) : s.Tidy (s.selftestDone b) := by
  unfold State.selftestDone
  split
  · exact State.eraseLoad_tidy b (by rw [core_mk, core_eta])
  · exact .refl s

theorem State.inSequence_tidy (s : State) (f : Nat → State → State) (h : ∀ k t, State.Tidy t (f k t)) : s.Tidy (s.inSequence f) := by
  unfold State.inSequence
  split
  · exact .of_core (State.mbxEnd_core _ _)
  · split
    · exact .ite (.of_core (State.mbxEnd_core _ _)) (h _ _)
    · exact .of_core (State.noSequence_core _)

theorem State.imgWrites_tidy (m : Mbx) (s : State) : s.Tidy (State.imgWrites m s) := by
  unfold State.imgWrites
  refine State.inSequence_tidy s _ (fun k t => ?_)
  dsimp only
  refine .ite (.of_core (State.mbxEnd_core _ _)) ?_
  exact .trans (.trans (State.mramWrite_tidy _ _ _) (.of_core (by rw [core_mk, core_eta]))) (.of_core (State.mbxEnd_core _ _))

theorem State.commitBank_tidy (s : State) (k : Nat) : s.Tidy (s.commitBank k) := State.mramWrite_tidy _ _ _

theorem State.imgCommits_tidy (b : LoadObs) (m : Mbx) (s : State) : s.Tidy (State.imgCommits b m s) := by
  unfold State.imgCommits
  split
  · exact .of_core (State.mbxEnd_core _ _)
  · split
    · split
      · exact .of_core (State.mbxEnd_core _ _)
      · split
        · exact .of_core (by rw [State.mbxEnd_core, State.showCode_core])
        · rename_i kind _ _ _
          dsimp only
          refine .trans (s.commitBank_tidy kind) (.of_core ?_)
          simp only [apply_ite State.core, State.mbxEnd_core, State.load_core, core_mk, core_eta, ite_self]
    · exact .of_core (by rw [State.mbxEnd_core, State.showCode_core])

/-! ## Antifuses -/

theorem nth_updAt_same {α : Type} (d : α) (f : α → α) : ∀ (l : List α) (i : Nat), i < l.length →
    nth d (updAt f l i) i = f (nth d l i)
  | x :: _, 0, _ => rfl
  | x :: xs, i + 1, h => by
    simp only [updAt, nth]
    exact nth_updAt_same d f xs i (by simpa using h)

theorem nth_updAt_other {α : Type} (d : α) (f : α → α) : ∀ (l : List α) (i j : Nat), j ≠ i →
    nth d (updAt f l i) j = nth d l j
  | [], _, _, _ => rfl
  | x :: _, 0, 0, h => absurd rfl h
  | x :: _, 0, j + 1, _ => rfl
  | x :: _, i + 1, 0, _ => rfl
  | x :: xs, i + 1, j + 1, h => by
    simp only [updAt, nth]
    exact nth_updAt_other d f xs i j (by omega)

theorem updAt_length {α : Type} (f : α → α) : ∀ (l : List α) (i : Nat), (updAt f l i).length = l.length
  | [], _ => rfl
  | _ :: _, 0 => rfl
  | _ :: xs, i + 1 => by simp [updAt, updAt_length f xs i]

theorem nth_beyond {α : Type} (d : α) : ∀ (l : List α) (i : Nat), l.length ≤ i → nth d l i = d
  | [], _, _ => rfl
  | _ :: xs, i + 1, h => by
    simp only [nth]
    exact nth_beyond d xs i (by simpa using h)

/-- Three antifuses are burnt; no other row changes (R495). -/
theorem fusesIn_burn (l : List (List Bool)) (n : Nat) (h : rowsOfThree l) :
    fusesIn l (setAt l n [true, true, true]) ∧ rowsOfThree (setAt l n [true, true, true]) := by
  constructor
  · intro i j w
    by_cases hi : i = n
    · subst hi
      by_cases hl : i < l.length
      · rw [setAt, nth_updAt_same [] _ l i hl]
        have hj : j < 3 := by
          by_cases hj : j < (nth [] l i).length
          · exact Nat.lt_of_lt_of_le hj (h i)
          · rw [nth_beyond false _ j (Nat.le_of_not_lt hj)] at w
            exact nomatch w
        match j, hj with
        | 0, _ => rfl
        | 1, _ => rfl
        | 2, _ => rfl
      · rw [nth_beyond [] l i (Nat.le_of_not_lt hl)] at w
        exact nomatch w
    · rw [setAt, nth_updAt_other [] _ l n i hi]
      exact w
  · intro i
    by_cases hi : i = n
    · subst hi
      by_cases hl : i < l.length
      · rw [setAt, nth_updAt_same [] _ l i hl]
        decide
      · rw [nth_beyond [] _ i (by rw [setAt, updAt_length]; exact Nat.le_of_not_lt hl)]
        decide
    · rw [setAt, nth_updAt_other [] _ l n i hi]
      exact h i

theorem State.burn_tidy (s : State) (n : Nat) : s.Tidy (s.burn n) := ⟨rfl, rfl, fun w => w, fun w => fusesIn_burn _ _ w⟩

theorem State.enterField_tidy (s : State) : s.Tidy s.enterField := by
  unfold State.enterField
  dsimp only
  generalize hx : ({ s with img := { s.img with keyFuse := s.img.keyEnr } } : State) = x
  have h : x.core = s.core := by rw [← hx, core_mk, core_eta]
  refine (((State.Tidy.of_core h).trans (x.burn_tidy 2)).trans (.of_core (State.spookClear_core _))).trans (.of_core ?_)
  rw [core_mk, core_eta]

theorem State.lcErase_tidy (s : State) (c n : Nat) : s.Tidy (s.lcErase c n) := by
  unfold State.lcErase
  exact (s.burn_tidy n).trans (.of_core (by rw [State.lcResult_core, core_mk, core_eta]))

theorem State.advance_tidy (m : Mbx) (s : State) : s.Tidy (State.advance m s) := by
  unfold State.advance
  dsimp only
  refine .ite (.of_core (State.mbxEnd_core _ _)) ?_
  refine (State.Tidy.of_core (s.err_core .lifecycle (m.arg0.toNat % 16))).trans ?_
  generalize s.err .lifecycle (m.arg0.toNat % 16) = x
  refine .ite ((x.burn_tidy 1).trans (.of_core (State.lcEnd_core _ _ _))) (.ite (.ite ?_ (.of_core (State.lcEnd_core _ _ _))) (.ite (.ite (x.lcErase_tidy _ _) (.of_core (State.lcEnd_core _ _ _))) (.ite (x.lcErase_tidy _ _) (.of_core (State.lcEnd_core _ _ _)))))
  exact x.enterField_tidy.trans (.of_core (State.lcEnd_core _ _ _))

/-! ## The outcome of a command -/

/-- A command whose operation is tidy leaves a tidy state, at the command's instant. -/
theorem act_tidy {tick : Bool} {t : Nat} {s s' : State} {f : State → State} (h : actAt tick t s f = .next s')
    (k : ∀ x, State.Tidy x (f x)) : (s.upTo t).Tidy s' := by
  unfold actAt at h
  injection h with h
  subst h
  exact (k (s.upTo t)).trans (.of_core (by rw [State.watch_core, State.settleAt_core]))

theorem whenLive_tidy (s : State) (f : State → State) (h : ∀ x, State.Tidy x (f x)) : s.Tidy (whenLive s f) := by
  unfold whenLive
  exact .ite (h s) (.refl s)

theorem State.serve_tidy (s : State) (c : Nat) (b : Bool) (f : Mbx → State → State) (h : ∀ m x, State.Tidy x (f m x)) :
    s.Tidy (s.serve c b f) := by
  unfold State.serve
  refine whenLive_tidy s _ (fun x => ?_)
  split
  · split
    · exact .refl x
    · dsimp only
      exact .ite ((State.Tidy.of_core (State.modFifo_core _ _ _)).trans (h _ _)) (.of_core (by rw [State.mbxEnd_core, State.modFifo_core]))
  · exact .refl x

end Sys2Proof.Machine
end

