-- ==== Sys2Proof/WellFormed.lean ====
section
/-!
DEFINITION. Well-formed commands: operands as the wires of the part can carry them. A frame has no more bytes than its link
carries, a control-port frame begins before it ends, and the debugger's bypass codes are those that name no other
instruction. A first difference of the comparator names one of the 248 compared signals.
-/
namespace Sys2Proof

/-- A port frame is a transfer of 40 bytes (R256). -/
def portFrameWf (l : List Byte) : Bool := l.length == 40

/-- A link frame has an eight-byte header, at most 128 bytes of payload, and LCRC (R292). -/
def linkFrameWf (l : List Byte) : Bool := decide (l.length ≤ 140)

/-- A whistle has 20 bytes (R324). -/
def whistleWf (l : List Byte) : Bool := decide (l.length ≤ 20)

/-- A write frame begins before it ends; the bits beyond its whole bytes are fewer than eight (R456). -/
def writeFrameWf (t csFall extraBits : Nat) : Bool := decide (csFall ≤ t) && decide (extraBits < 8)

/-- A read frame begins before it ends; the host sends at most CMD, ADDR and CRC_H, within the bits it clocks (R456). -/
def readFrameWf (t csFall : Nat) (bytes : List Byte) (bits : Nat) : Bool :=
  decide (csFall ≤ t) && decide (bytes.length ≤ 3) && decide (8 * bytes.length ≤ bits)

/-- A code that selects BYPASS (R192). -/
def bypassWf (code : BitVec 5) : Bool := !([0b00000, 0b00001, 0b00010, 0b01000, 0b01001, 0b01010, 0b01011].any (· == code.toNat))

/-- No entry of a list is listed again: an upset flips a cell once in a pass. -/
def onceWf {α : Type} [DecidableEq α] : List α → Bool
  | [] => true
  | x :: xs => !xs.any (· == x) && onceWf xs

/-- A command is well-formed. -/
def Instr.wf : Instr → Bool
  | .pdu _ _ frame => portFrameWf frame
  | .beaconReport _ _ frame => portFrameWf frame
  | .headStatus _ _ frame => portFrameWf frame
  | .portManagementFrame _ _ frame => portFrameWf frame
  | .hello _ _ frame => linkFrameWf frame
  | .safetyDataFrame _ _ frame => linkFrameWf frame
  | .safetyOpenFrame _ _ frame => linkFrameWf frame
  | .managementFrame _ _ frame => linkFrameWf frame
  | .sync _ frame => linkFrameWf frame
  | .dreq _ _ frame => linkFrameWf frame
  | .dresp _ frame => linkFrameWf frame
  | .whistle _ _ frame _ => whistleWf frame
  | .writeFrame t csFall _ extraBits => writeFrameWf t csFall extraBits
  | .readFrame t csFall bytes _ bits => readFrameWf t csFall bytes bits
  | .bypass _ code => bypassWf code
  | .crossCheckCapture _ upsets => onceWf upsets
  | .scrubPass _ upsets _ => onceWf upsets
  | .cycleBoundary _ obs => signalWf obs.mismatch
  | .step _ obs => signalWf obs.mismatch
  | .powerOnResetRelease _ | .powerOnResetAssert _ | .upSequenceStart _ | .seqPgRise _ _ _ | .settleExpiry _ _ _
  | .pgTimeout _ _ | .seqPgFall _ _ _ | .shdn _ _ | .dscTimeout _ _ | .vinWarn _ | .vinOk _ | .vinAbandon _ _ _
  | .vinAbandonEnd _ | .snapshotWrite _ | .resetNAssert _ _ | .resetNRelease _ | .crystalStartTimeout _
  | .rcCalibration _ _ | .bootComplete _ _ _ _ _ | .cmpinjEnd _ _ _ | .farrierTestStart _ | .farrierTestEnd _ _ _
  | .selftestEnd _ _ | .loftStart _ | .lockwaitExpiry _ | .pllLossDetect _ _ _ | .clockEdgeMissing _ _ | .rcstop _
  | .handshakeTimeout _ _ _ | .fifoTransfer _ _ | .commandDeadline _ _ | .darkPulseStart _ _
  | .checkSample _ _ | .darkPulseEnd _ _ | .blankingEnd _ _ _ | .filterExpiry _ _ _ | .discrepancyExpiry _ _
  | .ossdtolExpiry _ _ _ | .ossdchkExpiry _ _ _ | .ackActuation _ _ _ | .ackActuationDiscard _ | .switchtExpiry _ _ _
  | .donExpiry _ _ _ | .cat1DelayExpiry _ _ _ | .maxtExpiry _ _ _ | .toothEdge _ _ _ _ | .standstillConfirm _ _ _
  | .motionLocalReset _ _ _ | .launchRelease _ | .readbackChange _ _ _ _ | .switchOnWindowEnd _ _
  | .ocfiltExpiry _ _ _ | .offdlyExpiry _ _ _ | .outputFaultClear _ _ | .darkTestDue _ _ _ | .darkTestStart _ _ _
  | .darkTestPass _ | .darkTestTimeout _ | .muzzleNLow _ _ | .muzzleNHigh _ | .barkMon _ _ | .kramPatrol _ _
  | .rotationDue _ | .rotationSplit _ | .rotationLate _ | .rotationRejoin _ | .soloTimeout _ | .rotctlNow _ _
  | .scrubReload _ _ | .probeWrite _ _ _ | .radioTransfer _ _ _ | .radioPoll _ _ | .beaconRequest _ _
  | .refreshMissed _ _ | .maxageExpiry _ _ _ | .colQrel _ _ | .helloSend _ _ | .linkFrameSend _ _
  | .ackOrderedSet _ _ _ _ | .ackTimeout _ _ | .connectionFrameTake _ _ | .openSend _ _ | .yardQrel _ _
  | .timeExchangeStart _ _ | .holdover _ | .syncLost _ | .whistleStop _ | .whistleClear _ | .faultRecordWrite _
  | .collInterval _ | .localReactionTimeout _ | .deviceLocalClear _ _ | .sourceLocalClear _ _ | .fstatClear _ _ _
  | .faultAck _ _ | .ridx _ _ | .sidx _ _ | .alertSrcClear _ _ | .tempReading _ _ _ _ | .groomWdog _
  | .registerWrite _ _ _ | .echo _ | .devuid _ | .maintEnter _ | .maintLeave _ | .imgBegin _ | .imgWrite _
  | .imgVerify _ | .imgCommit _ _ | .yardMsend _ | .yardMrecv _ | .lcAdvance _ | .erasureComplete _
  | .erasureRestart _ | .go _ _ | .spookEn _ _ | .extest _ _ | .idcode _ | .samplePreload _ _ | .pairHalt _ _
  | .leadInspect _ | .resync _ | .tapReset _ | .status _ | .readWord _ _ | .writeWord _ _ _ | .readCoreRegister _ _ _
  | .writeCoreRegister _ _ _ _ | .resume _ _ _ | .siPinChange _ _ _ _ | .crystalRunning _ | .pllLock _
  | .linkError _ _ | .yardTick _ | .vinSample _ _ => true

end Sys2Proof
end

