-- ==== Sys2Proof/Tests/Slice0.lean ====
section
/-!
SUPPORT. The model's own tests: ill-formed commands that the check refuses, a few commands with results from the manual's tables, and
for every clause of every obligation that has hypotheses a state and operands that meet them all.
-/
set_option maxRecDepth 20000
set_option linter.unusedVariables false

namespace Sys2Proof.Tests
open Sys2Proof.Machine

/-! ## Small states -/

/-- The part out of power-on reset, in a run state, with COLL and the control port at work. -/
def base (rs : RunState) : State := { seq := { por := false }, clk := { rs := rs }, flt := { on := true }, cp := { on := true } }

/-- The antifuses of the life-cycle state that n rows burnt stand for: 1 BLANK, 2 DEVELOP, 3 FIELD, 4 RETURN. -/
def fuses (n : Nat) : List (List Bool) := (List.range 5).map (fun k => List.replicate 3 (decide (k < n)))

def inLife (rs : RunState) (n : Nat) : State := { base rs with img := { fuses := fuses n } }

def radioOf (rs : RunState) (r : RadioPort) : State := { base rs with col := { ports := [r, {}] } }

def slotOf (s : Slot) : State := { base .run with col := { slots := [s] }, yard := { runs := true } }

/-- The yard committed, with two ports. -/
def yardOf (rs : RunState) (p q : YPort) : State := { base rs with yard := { committed := true, runs := true, ports := [p, q, {}] } }

def connOf (c : Conn) : State := { base .run with yard := { committed := true, runs := true, conns := [c] } }

def outOf (o : OutSt) : State := { base .run with sout := { outs := [o], checks := true, open_ := false } }

def pairOf (p : InPair) : State := { base .run with sin := { pairs := [p] } }

def lineOf (l : TpLine) (p : InPair) : State := { base .run with sin := { pairs := [p], tp := [l] } }

/-- One record in sheet 0, loaded, with channel B's state of it. -/
def sheetOf (rs : RunState) (r : List Byte) (st : InstSt) : State :=
  { base rs with sh0 := { loaded := true, recs := [r], com := [{}], b := [st] } }

def mailOf (rs : RunState) (m : Mbx) : State := { base rs with cp := { on := true, mbx := some m }, img := { loft := true } }

def mbx (code : Nat) : Mbx := { code := code, tag := 5, arg0 := 0, arg1 := 1, buf := List.replicate 128 0 }

def openRec (cls : Cls) : OpenRec :=
  { r := { recno := 1, ytime := 0, srcmap := 1, first := 0, cls := cls, closed := false, fromSnap := false, solo := false
           perturbed := false, syncLost := false, merges := 0, detail := 0, rstate := 0, dur := 0 }
    at_ := 0, written := true, dirty := false, locAt := 0 }

def snap0 : Snap :=
  { cause := 1, csrc := 0xFF, ytime := 0, localTime := true, pgmap := 0, enmap := 0, ramps := [], vin := 0, temps := [], fstat := 0
    rstate := 0, holdup := false, syncLost := false, perturbed := false, cut := false, at_ := 0 }

def link (typ : Nat) (payload : List Byte) : LinkFrame :=
  { typ := typ, bcast := false, pert := false, dst := 0, src := 1, lseq := 0, payload := payload }

/-- A PDU of slot 1 with its SCRC for node 0 and binding 0: one sample at time 0. -/
def pdu1 : List Byte :=
  let b := [0x10, 1] ++ List.replicate 26 0
  b ++ toBytes 4 (crc32c (toBytes 2 0 ++ toBytes 4 0 ++ b)).toNat

/-- An OPEN of connection 0 from node 1 to node 0 with the nonce 1. -/
def open1 : List Byte := safetyPayload kindOpen 0 1 0 0 1 0 0 0 0 []


/-! ## Ill-formed commands -/

theorem test_wf_portFrame : (Instr.pdu 0 0 (List.replicate 39 0)).wf = false := by decide
theorem test_wf_linkFrame : (Instr.hello 0 0 (List.replicate 141 0)).wf = false := by decide
theorem test_wf_whistle : (Instr.whistle 0 0 (List.replicate 21 0) false).wf = false := by decide
theorem test_wf_writeFrame_before : (Instr.writeFrame 5 6 [] 0).wf = false := by decide
theorem test_wf_writeFrame_bits : (Instr.writeFrame 5 5 [] 8).wf = false := by decide
theorem test_wf_readFrame_long : (Instr.readFrame 5 5 [0x80, 0, 0, 0] 0 48).wf = false := by decide
theorem test_wf_readFrame_bits : (Instr.readFrame 5 5 [0x80, 0, 0] 0 23).wf = false := by decide
theorem test_wf_bypass : (Instr.bypass 0 0b01000).wf = false := by decide
theorem test_wf_bypass_ones : (Instr.bypass 0 0b11111).wf = true := by decide
theorem test_wf_capture : (Instr.crossCheckCapture 0 [(0, 3), (0, 3)]).wf = false := by decide
theorem test_wf_scrub : (Instr.scrubPass 0 [(3, 4), (3, 4)] false).wf = false := by decide
theorem test_wf_scrub_apart : (Instr.scrubPass 0 [(3, 4), (3, 5)] false).wf = true := by decide

/-! ## Single steps; the expected values are the manual's -/

/-- The state after a command. -/
def after (c : Instr) (s : State) : State :=
  match exec c s with
  | .next s' => s'
  | .fault _ => State.reset
  | .refused _ => State.reset

/-- R386: channel 0 rises 950 µs after the power-on reset's release, not before. -/
theorem test_up_sequence : (after (.upSequenceStart 950000) (base .off)).seq.en = [true, false, false, false, false, false, false, false] := by
  decide
theorem test_up_sequence_early : (after (.upSequenceStart 949999) (base .off)).seq.en = List.replicate 8 false := by decide
/-- R393: a deglitched fall of a running rail is the cut. -/
theorem test_pg_fall : (after (.seqPgFall 0 6 2000) { base .run with seq := { por := false, run := List.replicate 8 true } }).clk.rs = .cut := by
  decide
/-- R393: below 1 µs a fall is no fall. -/
theorem test_pg_glitch : (after (.seqPgFall 0 6 999) { base .run with seq := { por := false, run := List.replicate 8 true } }).clk.rs = .run := by
  decide
/-- R115: below 50 ns MUZZLE_N is not recognised. -/
theorem test_muzzle_glitch : (after (.muzzleNLow 0 49) (base .run)).sout.ext = false := by decide
theorem test_muzzle_low : (after (.muzzleNLow 0 100) (base .run)).clk.rs = .safe := by decide
/-- R416: PLL index 2 more than 3 % off is CLK_MON, whose class is STOP. -/
theorem test_clock_off : (after (.pllLossDetect 0 2 301) { base .run with clk := { rs := .run, mon := true } }).clk.rs = .safe := by decide
/-- R458: with the initial value 0xFF a first byte of 0xFF leaves a register of 0. -/
theorem test_crc8 : crc8 [0xFF] = 0 := by decide
/-- R457, R460: a read of HOSTARG0 with the shortest turnaround; one nanosecond less is too short. -/
theorem test_read : (after (.readFrame 0 0 ([0x80, 0x18] ++ [crc8 [0x80, 0x18]]) 1050 48) (base .run)).cp.st = 1 := by decide
theorem test_read_short : (after (.readFrame 0 0 ([0x80, 0x18] ++ [crc8 [0x80, 0x18]]) 1049 48) (base .run)).cp.st = 4 := by decide
/-- R474: ECHO answers RESULT 0 with the command's TAG. -/
theorem test_echo : (after (.echo 0) (mailOf .run (mbx 1))).cp.resp = 0x0500 := by decide
/-- R495: BLANK to DEVELOP burns the antifuses of bit 1. -/
theorem test_lc_advance : (after (.lcAdvance 0) (mailOf .maint { mbx 0x40 with arg0 := 3 })).img.lc = 3 := by decide
/-- R269: a good first sample is kept; R258: with a wrong PCRC it is not. -/
theorem test_pdu : ((after (.pdu 0 0 (portFrame 1 1 pdu1)) { radioOf .run { on := true } with
    col := { ports := [{ on := true, inAt := some 0 }, {}], slots := [{}, { bound := true, b := { ds := .joining } }] }, yard := { runs := true } }).slot 1).b.has = true := by
  decide
theorem test_pdu_pcrc : (after (.pdu 0 0 (List.replicate 40 1)) (radioOf .run { on := true, inAt := some 0 })).col.ports = [{ on := true, err := 1 }, {}] := by
  decide
/-- R72: a dark pulse takes its line low and is counted. -/
theorem test_dark_pulse : (after (.darkPulseStart 0 0) (lineOf { on := true, level := true } {})).sin.tp = [{ on := true, dark := some 0, next := 1, cnt := 1 }] := by
  decide
/-- R102: a leg live for longer than OFFDLY with its drive low closes the force-off gate. -/
theorem test_offdly : ((after (.offdlyExpiry 1 0 .p) (outOf { used := true, p := { live := some 0 } })).out 0).force = true := by decide
/-- R294: a hello that matches the yard table brings the port up. -/
theorem test_hello : ((after (.hello 0 0 (link typHello [0, 0, 0, 0]).bytes)
    { base .run with yard := { committed := true, depth := 1, ports := [{ on := true }, {}, {}] } }).yport 0).up = true := by decide
/-- R301: 3,000 µs without an exchange. -/
theorem test_holdover : (after (.holdover 3000000) { base .run with yard := { sync := .locked } }).yard.sync = .holdover := by decide
/-- R193: in FIELD the TAP refuses PAIR_HALT, counts it and acts as BYPASS. -/
theorem test_tap_field : (after (.pairHalt 0 false) (inLife .run 3)).pair.refcnt = 1 := by decide
/-- R259: a frame that no transfer brought in is none. -/
theorem test_pdu_no_transfer : (after (.pdu 0 0 (List.replicate 40 1)) (radioOf .run { on := true })).col.ports = [{ on := true }, {}] := by
  decide
/-- R192: the value of the IDCODE register. -/
theorem test_idcode : (after (.idcode 0) (base .run)).pair.dr = 0xB006434F := by decide
/-- R161: group 7 of the compared signals has 7 bits. -/
theorem test_wf_signal : (Instr.cycleBoundary 0 { mismatch := some (7, 7) }).wf = false := by decide
theorem test_wf_signal_last : (Instr.cycleBoundary 0 { mismatch := some (7, 6) }).wf = true := by decide
/-- R430: the pins of the outputs before VIO33 is good, once it is, in BOOT, and in a cut with VIO33 still good. -/
theorem test_drv_unpowered : (base .off).drvPin 0 .p = .unpowered := by decide
theorem test_drv_off : ({ base .off with seq := { por := false, pg := List.replicate 8 true } } : State).drvPin 0 .p = .highZ := by decide
theorem test_drv_boot : (base .boot).drvPin 0 .p = .low := by decide
theorem test_drv_cut : ({ base .cut with seq := { por := false, pg := List.replicate 8 true } } : State).drvPin 0 .m = .low := by decide
/-- R430: a yard port that is not enabled transmits differential 0. -/
theorem test_tx_disabled : (base .run).txPin 1 = .differential0 := by decide
/-- An empty queue before the fabric is committed. -/
theorem test_idle : step State.reset = .next State.reset := rfl


/-! ## States that meet the hypotheses of the obligations -/

theorem witness_PowerAndPinReset_1 : ∃ (t : Nat) (s : State), s.seq.por = true :=
  ⟨0, State.reset, by decide⟩

theorem witness_PowerAndPinReset_3 : ∃ (t width : Nat) (s : State), s.seq.por = false ∧ 10000 ≤ width ∧ s.resetHonoured = true :=
  ⟨0, 10000, base .run, by decide⟩

theorem witness_PowerAndPinReset_4 : ∃ (t : Nat) (s : State), s.clk.rstLow = true ∧ s.clk.warm = true ∧
    (s.sout.ext = false ∨ s.srcClass .muzzleExt = .stop) :=
  ⟨0, { base .off with clk := { rstLow := true, warm := true } }, by decide⟩

theorem witness_UpSequence_1 : ∃ (t : Nat) (s : State), s.seq.por = false ∧ s.clk.rcstop = false ∧ s.seq.phase = .off ∧
    s.clk.rs = .off ∧ s.seq.downDone = false ∧ s.clk.warm = false ∧ s.seq.porAt + 950 * us ≤ t ∧
    nth false s.seq.pg 0 = false :=
  ⟨950000, base .off, by decide⟩

theorem witness_UpSequence_2 : ∃ (t : Nat) (ch : Fin 8) (b : LoadObs) (s : State), s.seq.por = false ∧ s.clk.rcstop = false ∧
    (s.clk.rs = .off ∨ s.clk.rs = .load) ∧ s.seq.boardDone = false ∧ s.seq.wait = .pgHigh ∧ s.seq.chan = ch :=
  ⟨0, 0, {}, { seq := { por := false, wait := .pgHigh } }, by decide⟩

theorem witness_UpSequence_3 : ∃ (t : Nat) (ch : Fin 8) (b : LoadObs) (next : Nat) (rest : List Nat) (s : State), s.seq.por = false ∧
    s.clk.rcstop = false ∧ (s.clk.rs = .off ∨ s.clk.rs = .load) ∧ s.seq.boardDone = false ∧ s.seq.wait = .settling ∧
    s.seq.chan = ch ∧ s.seq.waitAt + s.settleNs ch ≤ t ∧ s.seq.todo = next :: rest ∧ s.chMode next ≠ 2 ∧
    nth false s.seq.pg next = false :=
  ⟨1000000, 0, {}, 1, [2, 3, 4], { seq := { por := false, wait := .settling, todo := [1, 2, 3, 4] } }, by decide⟩

theorem witness_UpSequence_4 : ∃ (t : Nat) (ch : Fin 8) (b : LoadObs) (next : Nat) (rest : List Nat) (s : State), s.seq.por = false ∧
    s.clk.rcstop = false ∧ (s.clk.rs = .off ∨ s.clk.rs = .load) ∧ s.seq.boardDone = false ∧ s.seq.wait = .settling ∧
    s.seq.chan = ch ∧ s.seq.waitAt + s.settleNs ch ≤ t ∧ s.seq.todo = next :: rest ∧
    nth false s.seq.pg next = (s.chMode next != 2) :=
  ⟨1000000, 0, {}, 1, [2, 3, 4], { seq := { por := false, wait := .settling, todo := [1, 2, 3, 4], pg := [true, true] } }, by decide⟩

theorem witness_UpSequence_5 : ∃ (t : Nat) (ch : Fin 8) (b : LoadObs) (s : State), s.seq.por = false ∧ s.clk.rcstop = false ∧
    s.clk.rs = .off ∧ s.seq.phase = .core ∧ s.seq.wait = .settling ∧ s.seq.chan = ch ∧ s.seq.waitAt + s.settleNs ch ≤ t ∧
    s.seq.todo = [] ∧ (s.sout.ext = false ∨ s.srcClass .muzzleExt = .stop) :=
  ⟨1000000, 0, {}, { seq := { por := false, wait := .settling, phase := .core } }, by decide⟩

theorem witness_SequencerCut_1 : ∃ (t : Nat) (ch : Fin 8) (s : State), s.seq.por = false ∧ s.clk.rcstop = false ∧
    (s.seq.wait = .pgHigh ∨ s.seq.wait = .monitorHigh) ∧ s.seq.chan = ch ∧ s.seq.waitAt + s.pgtoNs ch ≤ t :=
  ⟨5000000, 0, { seq := { por := false, wait := .pgHigh } }, by decide⟩

theorem witness_SequencerCut_2 : ∃ (t : Nat) (ch : Fin 8) (width : Nat) (s : State), s.seq.por = false ∧ s.clk.rcstop = false ∧
    2000 ≤ width ∧ nth false s.seq.run ch = true :=
  ⟨0, 0, 2000, { base .run with seq := { por := false, run := List.replicate 8 true } }, by decide⟩

theorem witness_PowerDown_1 : ∃ (t : Nat) (s : State), s.clk.rs = .maint ∧ s.seq.phase = .running :=
  ⟨0, { base .maint with seq := { por := false, phase := .running, pg := List.replicate 8 true } }, by decide⟩

theorem witness_PowerDown_2 : ∃ (t : Nat) (v : Word) (s : State), (s.clk.rs ≠ .maint ∨ v ≠ 0x005A ∨ s.seq.phase ≠ .running) :=
  ⟨0, 0, base .run, by decide⟩

theorem witness_PowerDown_3 : ∃ (t : Nat) (ch : Fin 8) (s : State), s.seq.por = false ∧ s.clk.rcstop = false ∧
    s.seq.wait = .discharge ∧ s.seq.chan = ch ∧ s.seq.waitAt + nth 0 s.seq.dscto ch * ms ≤ t :=
  ⟨0, 0, { seq := { por := false, wait := .discharge, todo := [1, 2] } }, by decide⟩

theorem witness_PowerDown_4 : ∃ (t width : Nat) (ch : Fin 8) (s : State), s.seq.por = false ∧ s.clk.rcstop = false ∧
    2000 ≤ width ∧ nth false s.seq.run ch = false ∧ s.seq.wait = .discharge ∧ s.seq.chan = ch :=
  ⟨0, 2000, 0, { seq := { por := false, wait := .discharge, todo := [1, 2], pg := List.replicate 8 true } }, by decide⟩

theorem witness_SupplySupervision_1 : ∃ (t : Nat) (s : State), s.seq.por = false ∧ s.clk.rcstop = false :=
  ⟨0, base .run, by decide⟩

theorem witness_SupplySupervision_2 : ∃ (t : Nat) (s : State), s.seq.por = false ∧ s.clk.rcstop = false ∧ s.seq.holdup = true ∧
    s.seq.vinLow + 10 * ms ≤ t :=
  ⟨10000000, { base .run with seq := { por := false, holdup := true } }, by decide⟩

theorem witness_SupplySupervision_3 : ∃ (t : Nat) (a b : Bool) (s : State), s.seq.por = false ∧ s.clk.rcstop = false ∧
    s.seq.belowAbandon = false :=
  ⟨0, false, false, base .run, by decide⟩

theorem witness_SupplySupervision_4 : ∃ (t : Nat) (s : State), s.seq.por = false ∧ s.clk.rcstop = false :=
  ⟨0, base .run, by decide⟩

theorem witness_SupplySupervision_5 : ∃ (t uv : Nat) (s : State), s.seq.por = false ∧ s.clk.rcstop = false :=
  ⟨0, 12000000, base .run, by decide⟩

theorem witness_SupplySupervision_6 : ∃ (t : Nat) (e : Snap) (q : List Snap) (s : State), s.seq.por = false ∧
    s.clk.rcstop = false ∧ s.mram.wf = true ∧ s.seq.snapQ = e :: q ∧ s.seq.belowAbandon = false :=
  ⟨0, snap0, [], { base .run with seq := { por := false, snapQ := [snap0] } }, by decide⟩

theorem witness_SupplySupervision_7 : ∃ (t : Nat) (s : State), s.yard.runs = true ∧ s.live = true ∧
    s.seq.ytick ≠ (s.upTo t).ytime / 125000 * 125000 :=
  ⟨125000, { base .run with yard := { runs := true } }, by decide⟩

theorem witness_ClockStart_1 : ∃ (t : Nat) (s : State), s.live = true :=
  ⟨0, base .boot, by decide⟩

theorem witness_ClockStart_2 : ∃ (t : Nat) (s : State), s.clk.rs = .boot ∧ s.clk.xtal = true ∧ s.clk.pll = false :=
  ⟨0, { base .boot with clk := { rs := .boot, xtal := true } }, by decide⟩

theorem witness_ClockStart_3 : ∃ (t : Nat) (s : State), s.clk.rs = .boot ∧ s.clk.xtal = false ∧ s.clk.bootAt + 10 * ms ≤ t ∧
    nth false s.clk.bad 0 = false :=
  ⟨10000000, base .boot, by decide⟩

theorem witness_ClockStart_4 : ∃ (t khz : Nat) (s : State), s.clk.rs = .boot ∧ s.clk.pll = true ∧ s.clk.rcOk = false ∧
    s.clk.pllAt + ms ≤ t :=
  ⟨1000000, 1000, { base .boot with clk := { rs := .boot, pll := true } }, by decide⟩

theorem witness_ClockMonitor_1 : ∃ (t : Nat) (i : Fin 6) (d : Int) (s : State), s.live = true ∧ s.clk.mon = true ∧
    s.spook.en = false ∧ d.natAbs ≤ 200 :=
  ⟨0, 0, 200, { base .run with clk := { rs := .run, mon := true } }, by decide⟩

theorem witness_ClockMonitor_2 : ∃ (t : Nat) (i : Fin 6) (d : Int) (s : State), s.live = true ∧ s.clk.mon = true ∧
    s.spook.en = false ∧ 300 < d.natAbs ∧ nth false s.clk.bad i = false :=
  ⟨0, 0, -301, { base .run with clk := { rs := .run, mon := true } }, by decide⟩

theorem witness_ClockMonitor_3 : ∃ (t : Nat) (i : Fin 6) (s : State), s.live = true ∧ s.clk.mon = true ∧
    nth false s.clk.bad i = false :=
  ⟨0, 0, { base .run with clk := { rs := .run, mon := true } }, by decide⟩

theorem witness_ClockMonitor_4 : ∃ (t : Nat) (i w : Fin 11) (s : State), s.live = true :=
  ⟨0, 0, 10, base .boot, by decide⟩

theorem witness_SupervisionEvents_1 : ∃ (t : Nat) (s : State), s.live = true ∧ s.clk.pll = true ∧ s.clk.rcstop = false :=
  ⟨0, { base .run with clk := { rs := .run, pll := true } }, by decide⟩

theorem witness_SupervisionEvents_2 : ∃ (t : Nat) (a b c : Int) (s : State), s.live = true :=
  ⟨0, 0, 0, 0, base .run, by decide⟩

theorem witness_SupervisionEvents_3 : ∃ (t : Nat) (s : State), s.img.loft = true :=
  ⟨0, mailOf .run (mbx 1), by decide⟩

theorem witness_BootEnds_1 : ∃ (t : Nat) (strap b0 b1 : Bool) (s : State), s.clk.rs = .boot ∧ s.clk.held = false ∧
    s.clk.rcOk = true :=
  ⟨0, true, true, false, { base .boot with clk := { rs := .boot, rcOk := true } }, by decide⟩

theorem witness_BootEnds_2 : ∃ (t : Nat) (strap b0 b1 : Bool) (s : State), s.clk.rs = .boot ∧ s.clk.held = false ∧
    s.clk.rcOk = true ∧ s.farr.firstFail = 0 :=
  ⟨0, true, false, true, { base .boot with clk := { rs := .boot, rcOk := true } }, by decide⟩

theorem witness_Loading_1 : ∃ (t : Nat) (b : LoadObs) (s : State), s.clk.rs = .selftest ∧ s.clk.held = false ∧
    s.farr.setOk = true ∧ s.sout.gateOk = true ∧ s.pair.cmpArmed = true ∧ s.eraseOwed = false ∧ s.governing 0 = none :=
  ⟨0, {}, { base .selftest with farr := { setOk := true }, sout := { gateOk := true }, pair := { cmpArmed := true } }, by decide⟩

theorem witness_Loading_2 : ∃ (t : Nat) (s : State), s.clk.rs = .load ∧ s.clk.held = false ∧ s.clk.loadStep = 7 ∧
    s.clk.lockAt + s.yard.lockwait * ms ≤ t :=
  ⟨0, { base .load with clk := { rs := .load, loadStep := 7 } }, by decide⟩

theorem witness_Loading_3 : ∃ (t b : Nat) (s : State), s.groomFree = true ∧ s.govBank 1 = some b :=
  ⟨0, 1, { base .load with mram := Mem.writeN [] (commitSlot 1 0) (commitRecBytes 1 1 1 0 []) }, by decide⟩

theorem witness_Loading_4 : ∃ (t : Nat) (s : State), s.groomFree = true ∧ s.govBank 1 = none :=
  ⟨0, base .load, by decide⟩

theorem witness_Erasure_1 : ∃ (t : Nat) (s : State), s.mram.wf = true ∧ s.live = true ∧ s.img.erasing = true :=
  ⟨0, { base .maint with img := { erasing := true } }, by decide⟩

theorem witness_Erasure_2 : ∃ (t a : Nat) (s : State), s.img.erasedAt = some a ∧ s.live = true ∧ a + ms ≤ t ∧
    (s.sout.ext = false ∨ s.srcClass .muzzleExt = .stop) :=
  ⟨1000000, 0, { base .maint with img := { erasedAt := some 0 } }, by decide⟩

theorem witness_FarrierTests_1 : ∃ (t code : Nat) (rest : List Nat) (s : State), s.farr.todo = code :: rest ∧ s.live = true ∧
    s.farr.cur = 0 ∧ s.farr.endAt + 100 * us ≤ t ∧ farrMa code ≤ 10 * s.farr.budget :=
  ⟨100000, 1, [], { base .selftest with farr := { todo := [1] } }, by decide⟩

theorem witness_FarrierTests_2 : ∃ (t : Nat) (r : BitVec 32) (s : State), s.live = true ∧ s.farr.cur ≠ 0 ∧ s.farr.cur ≠ 8 ∧
    s.farr.startAt + farrUs s.farr.cur * us ≤ t :=
  ⟨1000000000, 0, { base .selftest with farr := { cur := 1 } }, by decide⟩

theorem witness_FarrierTests_3 : ∃ (t : Nat) (r : BitVec 32) (s : State), s.live = true ∧ s.farr.cur ≠ 0 ∧ s.farr.cur ≠ 8 ∧
    s.farr.startAt + farrUs s.farr.cur * us ≤ t :=
  ⟨1000000000, 0, { base .maint with farr := { cur := 13 } }, by decide⟩

theorem witness_FarrierTests_4 : ∃ (t : Nat) (s : State), s.live = true ∧ s.farr.cur = 8 ∧ s.farr.startAt + 22 * us ≤ t :=
  ⟨1000000000, { base .selftest with farr := { cur := 8, origin := .startup } }, by decide⟩

theorem witness_FarrierTests_5 : ∃ (t : Nat) (f : Bool) (i : Fin 264) (s : State), s.live = true ∧ s.farr.cur = 8 ∧
    s.farr.startAt + 22 * us ≤ t :=
  ⟨1000000000, false, 5, { base .selftest with farr := { cur := 8, origin := .startup } }, by decide⟩

theorem witness_FarrierTests_6 : ∃ (t : Nat) (s : State), s.live = true ∧ s.farr.cur = 8 ∧ s.farr.startAt + 22 * us ≤ t :=
  ⟨1000000000, { base .selftest with farr := { cur := 8, origin := .startup } }, by decide⟩

theorem witness_FarrierTests_7 : ∃ (t : Nat) (v : Word) (s : State), s.live = true ∧ s.field = false ∧ bit v.toNat 0 = true :=
  ⟨0, 1, { base .maint with farr := { sel := 4 } }, by decide⟩

theorem witness_FarrierTests_8 : ∃ (t : Nat) (v : Word) (s : State), s.live = true ∧ s.field = true :=
  ⟨0, 1, inLife .maint 3, by decide⟩

theorem witness_KennelRamErrors_1 : ∃ (t : Nat) (a : Fin 262144) (s : State), s.kennelRuns = true :=
  ⟨0, 0, base .run, by decide⟩

theorem witness_KennelRamErrors_2 : ∃ (t : Nat) (a : Fin 262144) (s : State), s.kennelRuns = true :=
  ⟨0, 0, base .run, by decide⟩

theorem witness_KennelRamErrors_3 : ∃ (t : Nat) (a : Fin 65536) (s : State), s.kennelRuns = true :=
  ⟨0, 0, base .run, by decide⟩

theorem witness_KennelRamErrors_4 : ∃ (t : Nat) (k : Fin 2) (i : Fin 512) (s : State), s.kennelRuns = true ∧ s.flt.on = true ∧
    s.srcClass .kramEcc = .note ∧ i.val < (s.sheet k).com.length :=
  ⟨0, 0, 0, { base .run with sh0 := { recs := [[]], com := [{}], a := [{ res := 1 }], b := [{}] } }, by decide⟩

theorem witness_Rotation_1 : ∃ (t a : Nat) (s : State), s.pair.rotFrom = some a ∧ s.live = true ∧ s.pair.arr = false ∧
    s.pair.rotint ≠ 0 ∧ s.pair.due = none ∧ s.pair.solo = false ∧ a + s.pair.rotint * 3600 * 1000 * ms ≤ t :=
  ⟨3600000000000, 0, { base .run with pair := { rotFrom := some 0, rotint := 1 } }, by decide⟩

theorem witness_Rotation_2 : ∃ (t : Nat) (v : Word) (s : State), s.live = true ∧ (s.img.lc = lcDevelop ∨ s.img.lc = lcReturn) ∧
    bit v.toNat 0 = true ∧ s.pair.rotint ≠ 0 ∧ s.pair.due = none ∧ s.pair.arr = false :=
  ⟨0, 1, { inLife .run 2 with pair := { rotint := 1 } }, by decide⟩

theorem witness_Rotation_3 : ∃ (t : Nat) (v : Word) (s : State), s.live = true ∧ s.field = true :=
  ⟨0, 1, inLife .run 3, by decide⟩

theorem witness_Rotation_4 : ∃ (t : Nat) (s : State), (s.upTo t).atBoundary = true ∧ s.pair.due.isSome = true ∧
    (s.upTo t).defCause = 0 ∧ s.pair.solo = false ∧ s.pair.arr = false ∧ s.sh0.com.any (·.diff) = false :=
  ⟨100000, { base .run with pair := { due := some 0 }, sp := { rdAt := 100000 } }, by decide⟩

theorem witness_Rotation_5 : ∃ (t a : Nat) (s : State), s.pair.due = some a ∧ a + 3600 * 1000 * ms < t :=
  ⟨3600000000001, 0, { base .run with pair := { due := some 0 } }, by decide⟩

theorem witness_Rotation_6 : ∃ (t : Nat) (s : State), (s.upTo t).atBoundary = true ∧ s.pair.solo = true ∧ s.pair.ready = true ∧
    t ≤ s.pair.splitAt + 40 * ms ∧ s.now ≤ s.pair.splitAt + 40 * ms :=
  ⟨0, { base .run with pair := { solo := true, ready := true } }, by decide⟩

theorem witness_Rotation_7 : ∃ (t : Nat) (s : State), s.pair.solo = true ∧ s.pair.out0 = false ∧ s.pair.out1 = false ∧
    s.pair.splitAt + 40 * ms < t :=
  ⟨40000001, { base .run with pair := { solo := true } }, by decide⟩

theorem witness_TapInstructions_1 : ∃ (t : Nat) (s : State), s.live = true :=
  ⟨0, base .run, by decide⟩

theorem witness_TapInstructions_2 : ∃ (t : Nat) (c : BitVec 5) (s : State), s.live = true ∧ tapListed c.toNat = false :=
  ⟨0, 0b10101, base .run, by decide⟩

theorem witness_TapInstructions_3 : ∃ (t : Nat) (s : State), s.live = true :=
  ⟨0, base .run, by decide⟩

theorem witness_TapInstructions_4 : ∃ (t : Nat) (c : Cells) (s : State), s.live = true ∧ s.img.lc ≠ 0 :=
  ⟨0, {}, base .run, by decide⟩

theorem witness_TapInstructions_5 : ∃ (t : Nat) (c : Cells) (d : Bool) (s : State), s.clk.rs = .halted ∧ s.img.lc ≠ lcField ∧
    s.img.lc ≠ 0 :=
  ⟨0, {}, false, base .halted, by decide⟩

theorem witness_TapInstructions_6 : ∃ (t : Nat) (c : Cells) (d : Bool) (s : State), s.lcDebug = true ∧ s.haltable = true ∧
    s.pair.solo = false ∧ s.farr.cur ≠ 8 ∧ s.srcClass .debugHalt = .stop :=
  ⟨0, {}, false, inLife .run 2, by decide⟩

theorem witness_TapInstructions_7 : ∃ (t : Nat) (c : Cells) (d : Bool) (s : State), s.live = true ∧
    (s.img.lc = lcField ∨ s.img.lc = 0) :=
  ⟨0, {}, false, inLife .run 3, by decide⟩

theorem witness_TapInstructions_8 : ∃ (t : Nat) (c : Cells) (s : State), s.live = true ∧ s.img.lc = 0 :=
  ⟨0, {}, inLife .run 5, by decide⟩

theorem witness_Halting_1 : ∃ (t : Nat) (s : State), s.lcDebug = true ∧ s.haltable = true ∧ s.pair.solo = false ∧
    s.farr.cur ≠ 8 ∧ s.srcClass .debugHalt = .stop :=
  ⟨0, inLife .run 2, by decide⟩

theorem witness_Halting_2 : ∃ (t : Nat) (s : State), s.lcDebug = true ∧ s.haltable = true ∧ s.pair.solo = false ∧
    s.farr.cur ≠ 8 ∧ s.srcClass .debugHalt = .stop ∧ s.srcClass .cmp = .stop ∧ s.pair.split = false :=
  ⟨0, inLife .run 2, by decide⟩

theorem witness_Halting_3 : ∃ (t : Nat) (s : State), s.lcDebug = true ∧ s.haltable = true ∧ s.pair.solo = false ∧
    s.farr.cur ≠ 8 ∧ s.srcClass .debugHalt = .stop ∧ s.pair.arr = false :=
  ⟨0, inLife .run 2, by decide⟩

theorem witness_Halting_4 : ∃ (t : Nat) (s : State), s.lcDebug = true ∧ s.haltable = true ∧ s.pair.solo = true ∧
    s.srcClass .debugHalt = .stop :=
  ⟨0, { inLife .run 2 with pair := { solo := true } }, by decide⟩

theorem witness_Halting_5 : ∃ (t : Nat) (s : State), s.lcDebug = true ∧ s.live = true ∧ s.pair.arr = false :=
  ⟨0, inLife .safe 2, by decide⟩

theorem witness_AccessRegister_1 : ∃ (t : Nat) (s : State), s.lcDebug = true ∧ s.live = true :=
  ⟨0, inLife .run 2, by decide⟩

theorem witness_AccessRegister_2 : ∃ (t : Nat) (a : BitVec 28) (v : BitVec 32) (r : CoreReg) (c : Fin 2) (n : Word) (m : Option (Fin 8 × Fin 70)) (b : Option (Fin 64)) (d : Bool) (s : State), s.lcDebug = true ∧
    s.live = true ∧ s.clk.rs ≠ .halted :=
  ⟨0, 0, 0, 33, 1, 1, none, none, false, inLife .run 2, by decide⟩

theorem witness_AccessRegister_3 : ∃ (t : Nat) (a : BitVec 28) (v : BitVec 32) (s : State), s.lcDebug = true ∧
    s.clk.rs = .halted ∧ a.toNat % 4 ≠ 0 :=
  ⟨0, 1, 0, inLife .halted 2, by decide⟩

theorem witness_AccessRegister_4 : ∃ (t : Nat) (a : BitVec 28) (s : State), s.lcDebug = true ∧ s.clk.rs = .halted ∧
    a.toNat % 4 = 0 ∧ (a.toNat < 0x10000 ∨ (kramBase ≤ a.toNat ∧ a.toNat < kramTop)) :=
  ⟨0, 0xFFFC, inLife .halted 2, by decide⟩

theorem witness_AccessRegister_5 : ∃ (t : Nat) (a : BitVec 28) (v : BitVec 32) (s : State), s.lcDebug = true ∧
    s.clk.rs = .halted ∧ a.toNat % 4 = 0 ∧ kramBase ≤ a.toNat ∧ a.toNat < kramTop ∧ s.pair.dbg ≠ .leadInspect :=
  ⟨0, BitVec.ofNat 28 kramBase, 1, { inLife .halted 2 with pair := { dbg := .pairHalt } }, by decide⟩

theorem witness_AccessRegister_6 : ∃ (t : Nat) (a : BitVec 28) (v : BitVec 32) (s : State), s.lcDebug = true ∧
    s.clk.rs = .halted ∧ a.toNat % 4 = 0 ∧ kramBase ≤ a.toNat ∧ a.toNat < kramTop ∧ s.pair.dbg = .leadInspect ∧
    s.pair.journal.length < 64 ∧ s.pair.jovf = false :=
  ⟨0, BitVec.ofNat 28 kramBase, 1, { inLife .halted 2 with pair := { dbg := .leadInspect, journal := [.ram 0 2] } }, by decide⟩

theorem witness_AccessRegister_7 : ∃ (t : Nat) (r : CoreReg) (c : Fin 2) (s : State), s.lcDebug = true ∧ s.clk.rs = .halted :=
  ⟨0, 33, 1, inLife .halted 2, by decide⟩

theorem witness_AccessRegister_8 : ∃ (t : Nat) (r : CoreReg) (v : BitVec 32) (s : State), s.lcDebug = true ∧
    s.clk.rs = .halted ∧ s.pair.split = false :=
  ⟨0, 0, 1, { inLife .halted 2 with pair := { dbg := .pairHalt } }, by decide⟩

theorem witness_AccessRegister_9 : ∃ (t : Nat) (n : Word) (s : State), s.lcDebug = true ∧ s.clk.rs = .halted ∧ n ≠ 0 ∧
    s.pair.dbg ≠ .leadInspect ∧ s.pair.split = false ∧ s.pair.regs0 = s.pair.regs1 :=
  ⟨0, 1, { inLife .halted 2 with pair := { dbg := .pairHalt } }, by decide⟩

theorem witness_AccessRegister_10 : ∃ (t : Nat) (n : Word) (m : Fin 8 × Fin 70) (s : State), s.lcDebug = true ∧
    s.clk.rs = .halted ∧ n ≠ 0 ∧ s.pair.dbg ≠ .leadInspect ∧ s.pair.split = false ∧ s.pair.cmpArmed = true ∧
    s.flt.on = true :=
  ⟨0, 1, (0, 0), { inLife .halted 2 with pair := { dbg := .pairHalt, cmpArmed := true } }, by decide⟩

theorem witness_AccessRegister_11 : ∃ (t : Nat) (n : Word) (s : State), s.lcDebug = true ∧ s.clk.rs = .halted ∧ n ≠ 0 ∧
    s.pair.dbg = .leadInspect ∧ s.pair.journal.length < 64 ∧ s.pair.jovf = false :=
  ⟨0, 1, { inLife .halted 2 with pair := { dbg := .leadInspect } }, by decide⟩

theorem witness_AccessRegister_12 : ∃ (t : Nat) (s : State), s.lcDebug = true ∧ s.clk.rs = .halted ∧ s.pair.dbg ≠ .leadInspect :=
  ⟨0, { inLife .halted 2 with pair := { dbg := .pairHalt } }, by decide⟩

theorem witness_AccessRegister_13 : ∃ (t : Nat) (b : Option (Fin 64)) (s : State), s.lcDebug = true ∧ s.clk.rs = .halted ∧
    s.pair.dbg = .leadInspect ∧ s.pair.jovf = false :=
  ⟨0, some 1, { inLife .halted 2 with pair := { dbg := .leadInspect, journal := [.ram 0 1, .ram 1 2, .reg 0 5] } }, by decide⟩

theorem witness_FabricChecks_1 : ∃ (t : Nat) (ups : List (Fin 1162 × Fin 1024)) (e : Bool) (s : State), s.live = true ∧
    s.fab.committed = true ∧ s.fab.passAt ≤ t :=
  ⟨0, [(0, 0)], false, { base .run with fab := { committed := true, cells := [[0], [1]], refs := [0, 0] } }, by decide⟩

theorem witness_FabricChecks_2 : ∃ (t : Nat) (ups : List (Fin 1162 × Fin 1024)) (s : State), s.live = true ∧
    s.fab.committed = true ∧ s.fab.passAt ≤ t ∧ s.flt.on = true :=
  ⟨0, [], { base .run with fab := { committed := true } }, by decide⟩

theorem witness_FabricChecks_3 : ∃ (t : Nat) (i : Fin 1162) (s : State), s.live = true ∧ s.fab.committed = true ∧
    s.fab.reload.any (· == i.val) = true ∧ ((s.upTo t).captureNear = false ∨ (576 ≤ i.val ∧ (i.val < 1152 ∨ 1154 < i.val))) :=
  ⟨0, 0, { base .run with fab := { committed := true, reload := [0], refs := [(crc32c ((base .run).bankFrame 0)).toNat] } }, by decide⟩

theorem witness_FabricChecks_4 : ∃ (t : Nat) (v : Word) (s : State), s.live = true ∧ s.field = false ∧ v.toNat % 2048 ≤ 0x5FF :=
  ⟨0, 0x5FF, base .run, by decide⟩

theorem witness_FabricChecks_5 : ∃ (t : Nat) (v : Word) (s : State), s.live = true ∧ s.field = false ∧ 0x5FF < v.toNat % 2048 :=
  ⟨0, 0x600, base .run, by decide⟩

theorem witness_FabricChecks_6 : ∃ (t : Nat) (v : Word) (ps : List Probe) (s : State), s.live = true ∧ s.field = false ∧
    ps = updAt (fun (p : Probe) => { p with fio := v.toNat % 128 }) s.fab.probes s.fab.prbsel ∧
    probesBad s.fab.cells ps [s.fab.prbsel] = none :=
  ⟨0, 5, updAt (fun (p : Probe) => { p with fio := 5 }) (List.replicate 8 {}) 0, base .run, by decide⟩

theorem witness_FabricChecks_7 : ∃ (t n c : Nat) (v : Word) (s : State), s.live = true ∧ s.field = false ∧
    probesBad s.fab.cells (updAt (fun (p : Probe) => { p with fio := v.toNat % 128 }) s.fab.probes s.fab.prbsel) [s.fab.prbsel] = some (n, c) :=
  ⟨0, 0, 1, 127, base .run, by decide⟩

theorem witness_FabricChecks_8 : ∃ (t : Nat) (v : Word) (s : State), s.live = true ∧ s.field = false ∧ s.fab.committed = true ∧
    probesBad s.fab.cells (mapIdx (fun k (p : Probe) => { p with on := bit v.toNat k }) s.fab.probes) ((List.range 8).filter (fun k => bit v.toNat k)) = none :=
  ⟨0, 5, { base .run with fab := { committed := true, probes := (List.range 8).map (fun i => { fio := i }) } }, by decide⟩

theorem witness_FabricChecks_9 : ∃ (t : Nat) (v : Word) (s : State), s.live = true ∧ s.field = true :=
  ⟨0, 0, inLife .run 3, by decide⟩

theorem witness_RadioPorts_1 : ∃ (t : Nat) (p : Fin 2) (irq : Bool) (b : List Byte) (rest : List (List Byte)) (s : State), s.live = true ∧
    (s.radio p).on = true ∧ (s.radio p).last ≤ t ∧ (s.radio p).bhold ≤ (s.upTo t).ytime ∧ (s.radio p).beacons = b :: rest :=
  ⟨0, 0, false, [], [], radioOf .run { on := true, beacons := [[]] }, by decide⟩

theorem witness_RadioPorts_2 : ∃ (t : Nat) (p : Fin 2) (irq : Bool) (m : List Byte) (rest : List (List Byte)) (s : State), s.live = true ∧
    (s.radio p).on = true ∧ (s.radio p).last ≤ t ∧
    ((s.radio p).beacons = [] ∨ (s.upTo t).ytime + transferNs ≤ (s.radio p).bhold) ∧ (s.radio p).mgmt = m :: rest :=
  ⟨0, 0, false, [], [], radioOf .run { on := true, mgmt := [[]] }, by decide⟩

theorem witness_RadioPorts_3 : ∃ (t : Nat) (p : Fin 2) (s : State), s.live = true ∧ (s.radio p).on = true ∧
    (s.radio p).last ≤ t ∧ ((s.radio p).beacons = [] ∨ (s.upTo t).ytime + transferNs ≤ (s.radio p).bhold) ∧
    (s.radio p).mgmt = [] :=
  ⟨0, 0, radioOf .run { on := true }, by decide⟩

theorem witness_RadioPorts_4 : ∃ (t : Nat) (p : Fin 2) (s : State), s.live = true ∧ (s.radio p).on = true ∧
    (s.radio p).last + (125 * us - transferNs) ≤ t ∧ (s.radio p).beacons = [] ∧ (s.radio p).mgmt = [] :=
  ⟨117940, 0, radioOf .run { on := true }, by decide⟩

theorem witness_RadioPorts_5 : ∃ (t : Nat) (p : Fin 2) (ref : Nat) (s : State), s.live = true ∧ (s.radio p).on = true ∧
    ref = nextRef p ((s.upTo t).ytime + ((s.radio p).headdly * us + frameNs)) ∧ (s.radio p).bref ≠ ref :=
  ⟨1, 0, 1000000, { radioOf .run { on := true } with yard := { runs := true } }, by decide⟩

theorem witness_RadioPorts_6 : ∃ (t a : Nat) (p : Fin 2) (l : List Byte) (s : State), s.live = true ∧ (s.radio p).on = true ∧
    (s.radio p).inAt = some a ∧ a ≤ t ∧ portOk l = true ∧ byteAt l 0 = 3 :=
  ⟨0, 0, 0, portFrame 3 0 [], radioOf .run { on := true, inAt := some 0 }, by decide⟩

theorem witness_RadioPorts_7 : ∃ (t a : Nat) (p : Fin 2) (l : List Byte) (s : State), s.live = true ∧ (s.radio p).on = true ∧
    (s.radio p).inAt = some a ∧ a ≤ t ∧ portOk l = true ∧ byteAt l 0 = 5 :=
  ⟨0, 0, 0, portFrame 5 0 [], radioOf .run { on := true, inAt := some 0 }, by decide⟩

theorem witness_RadioPorts_8 : ∃ (t a : Nat) (p : Fin 2) (l : List Byte) (s : State), s.live = true ∧ (s.radio p).on = true ∧
    (s.radio p).inAt = some a ∧ a ≤ t ∧ portOk l = true ∧ byteAt l 0 = 4 :=
  ⟨0, 0, 0, portFrame 4 0 [], radioOf .run { on := true, inAt := some 0 }, by decide⟩

theorem witness_BadFramesDiscarded_1 : ∃ (t a : Nat) (p : Fin 2) (l : List Byte) (s : State), s.live = true ∧
    (s.radio p).on = true ∧ (s.radio p).inAt = some a ∧ a ≤ t ∧ portOk l = false :=
  ⟨0, 0, 0, [], radioOf .load { on := true, inAt := some 0 }, by decide⟩

theorem witness_BadFramesDiscarded_2 : ∃ (t : Nat) (p : Fin 3) (l : List Byte) (s : State), s.live = true ∧ s.portOn p = true ∧
    (parseLink l).all (·.reservedSet) = true :=
  ⟨0, 0, [], yardOf .load { on := true } {}, by decide⟩

theorem witness_BadFramesDiscarded_3 : ∃ (t : Nat) (l : List Byte) (s : State), s.live = true ∧ s.portOn 0 = true ∧
    s.yard.root = false ∧ (parseLink l).all (·.reservedSet) = true :=
  ⟨0, [], yardOf .load { on := true } {}, by decide⟩

theorem witness_BadFramesDiscarded_4 : ∃ (t : Nat) (p : Fin 3) (l : List Byte) (s : State), s.live = true ∧ s.portOn p = true ∧
    p ≠ 0 ∧ (parseLink l).all (·.reservedSet) = true :=
  ⟨0, 1, [], yardOf .load {} { on := true }, by decide⟩

theorem witness_PduAccepted_1 : ∃ (t a n : Nat) (p : Fin 2) (l pdu : List Byte) (st : Nat) (s : State), s.live = true ∧
    (s.radio p).on = true ∧ (s.radio p).inAt = some a ∧ a ≤ t ∧ portOk l = true ∧ byteAt l 0 = 1 ∧
    (s.radioDrop p (byteAt l 1)).2 = false ∧ n = byteAt l 1 ∧ n ≠ 0 ∧ n < s.col.slots.length ∧ (s.slot n).bound = true ∧
    (s.slot n).head = p ∧ pdu = portPdu l ∧ st = (s.upTo t).sampleTime l ∧ pduForm n pdu = true ∧
    pduScrcOk s.yard.node (s.slot n) pdu = true ∧
    ((s.slot n).b.has = false ∨ (s.slot n).b.ds = .lost ∨ (1 ≤ (beAt pdu 2 2 + 65536 - (s.slot n).b.seq0) % 65536 ∧
    (beAt pdu 2 2 + 65536 - (s.slot n).b.seq0) % 65536 ≤ 16 ∧
    (bit (byteAt pdu 0) 3 = true ∨ st = (s.slot n).b.t0 + (beAt pdu 2 2 + 65536 - (s.slot n).b.seq0) % 65536 * (s.slot n).refUs))) ∧
    (bit (byteAt pdu 0) 3 = true ∨ (s.col.sampofs * 125 ≤ st ∧ (st - s.col.sampofs * 125) % (s.slot n).refUs = 0 ∧
    st * us ≤ (s.upTo t).ytime + 4 * us)) ∧
    (s.slot n).b.missed.any (· == s.pduTick (s.slot n) (bit (byteAt pdu 0) 3) (nearTime ((s.upTo t).ytime / us) (beAt pdu 4 4))) = false ∧
    (s.upTo t).ytime ≤ st * us + (s.slot n).maxage * ms ∧ byteAt pdu 25 % 4 = 0 ∧
    s.pduAgrees n (pduData pdu 8) (pduData pdu 16) = true :=
  ⟨0, 0, 1, 0, portFrame 1 1 pdu1, pdu1, 0, { radioOf .run { on := true } with col := { ports := [{ on := true, inAt := some 0 }, {}], slots := [{}, { bound := true, b := { ds := .joining } }] }, yard := { runs := true } }, by decide⟩

theorem witness_PduAccepted_2 : ∃ (t a n : Nat) (p : Fin 2) (l : List Byte) (s : State), s.live = true ∧ s.flt.on = true ∧
    (s.radio p).on = true ∧ (s.radio p).inAt = some a ∧ a ≤ t ∧ portOk l = true ∧ byteAt l 0 = 1 ∧
    (s.radioDrop p (byteAt l 1)).2 = false ∧ n = byteAt l 1 ∧ n ≠ 0 ∧ (s.slot n).bound = true ∧ (s.slot n).head = p ∧
    (pduForm n (portPdu l) = false ∨ pduScrcOk s.yard.node (s.slot n) (portPdu l) = false) :=
  ⟨0, 0, 1, 0, portFrame 1 1 [], { radioOf .run { on := true } with col := { ports := [{ on := true, inAt := some 0 }, {}], slots := [{}, { bound := true, b := { ds := .live } }] }, yard := { runs := true } }, by decide⟩

theorem witness_SlotStates_1 : ∃ (t : Nat) (n : Fin 64) (s : State), s.live = true ∧ n.val < s.col.slots.length ∧
    (s.slot n).bound = true ∧ ((s.slot n).b.ds = .live ∨ (s.slot n).b.ds = .stale) ∧
    (s.slot n).b.gotTicks.any (· == (s.slot n).b.next) = false ∧ (s.slot n).k ≤ (s.slot n).b.misses + 1 ∧
    ((s.slot n).b.next + 2000) * us ≤ (s.upTo t).ytime ∧
    (s.upTo t).ytime < ((s.slot n).b.next + 2000 + (s.slot n).refUs) * us :=
  ⟨2000000, 0, slotOf { bound := true, k := 1, b := { ds := .live } }, by decide⟩

theorem witness_SlotStates_2 : ∃ (t : Nat) (n : Fin 64) (s : State), s.live = true ∧ n.val < s.col.slots.length ∧
    (s.slot n).b.ds = .live ∧ (s.slot n).b.at_ * us + (s.slot n).maxage * ms < (s.upTo t).ytime :=
  ⟨1, 0, slotOf { b := { ds := .live } }, by decide⟩

theorem witness_SlotStates_3 : ∃ (t : Nat) (n : Fin 64) (s : State), s.live = true ∧ n.val < s.yard.conns.length ∧
    (s.conn n).b.ds = .live ∧ (s.conn n).b.ts + (s.conn n).maxage * us < (s.upTo t).ytime :=
  ⟨1, 0, connOf { b := { ds := .live } }, by decide⟩

theorem witness_SlotStates_4 : ∃ (t : Nat) (v : Word) (s : State), s.live = true ∧ bit v.toNat 6 = true ∧
    v.toNat % 64 < s.col.slots.length :=
  ⟨0, 64, slotOf { a := { ds := .quarantined }, b := { ds := .quarantined } }, by decide⟩

theorem witness_SlotStates_5 : ∃ (t : Nat) (d : Datum) (rest : List Datum) (s : State), s.live = true ∧ (s.backP 4).1 = 0 ∧
    (s.fifo 4).held = d :: rest ∧ (s.fifo 4).q.length < fifoDepth 4 :=
  ⟨0, .request 0, [], { base .run with fifos := List.replicate 10 { held := [.request 0] } }, by decide⟩

theorem witness_LinkLayer_1 : ∃ (t : Nat) (p : Fin 3) (w : List Byte × Bool) (rest : List (List Byte × Bool)) (s : State), s.live = true ∧
    s.portOn p = true ∧ s.spook.en = false ∧ (s.yport p).qw = w :: rest ∧ (s.yport p).lineTill ≤ t :=
  ⟨0, 0, ([], false), [], yardOf .run { on := true, qw := [([], false)] } {}, by decide⟩

theorem witness_LinkLayer_2 : ∃ (t : Nat) (p : Fin 3) (w : List Byte × Bool) (rest : List (List Byte × Bool)) (l : List Byte) (s : State), s.live = true ∧
    s.portOn p = true ∧ s.spook.en = false ∧ (s.yport p).qw = w :: rest ∧ (s.upTo t).now < (s.yport p).lineTill ∧
    (s.yport p).onLine = some (true, l) :=
  ⟨0, 0, ([], false), [], [1], yardOf .run { on := true, qw := [([], false)], lineTill := 1, onLine := some (true, [1]) } {}, by decide⟩

theorem witness_LinkLayer_3 : ∃ (t : Nat) (p : Fin 3) (a : Nat) (rest : List Nat) (s : State), s.live = true ∧
    s.portOn p = true ∧ (s.yport p).qw = [] ∧ (s.yport p).qa = a :: rest ∧ (s.yport p).lineTill ≤ t :=
  ⟨0, 0, 5, [], yardOf .run { on := true, qa := [5] } {}, by decide⟩

theorem witness_LinkLayer_4 : ∃ (t : Nat) (p : Fin 3) (f : List Byte) (rest : List (List Byte)) (s : State), s.live = true ∧
    s.portOn p = true ∧ s.spook.en = false ∧ (s.yport p).lineTill ≤ t ∧ (s.yport p).qw = [] ∧ (s.yport p).qa = [] ∧
    (s.yport p).qt = f :: rest ∧ p.val < s.yard.ports.length :=
  ⟨0, 0, [], [], yardOf .run { on := true, qt := [[]] } {}, by decide⟩

theorem witness_LinkLayer_5 : ∃ (t : Nat) (p : Fin 3) (f : List Byte) (rest : List (List Byte)) (s : State), s.live = true ∧
    s.portOn p = true ∧ s.spook.en = false ∧ (s.yport p).lineTill ≤ t ∧ (s.yport p).qw = [] ∧ (s.yport p).qa = [] ∧
    (s.yport p).qt = [] ∧ (s.yport p).redo = none ∧ (s.yport p).again = [] ∧ (s.yport p).unack.length < 8 ∧
    (s.yport p).qs = f :: rest ∧ p.val < s.yard.ports.length :=
  ⟨0, 0, [], [], yardOf .run { on := true, qs := [[]] } {}, by decide⟩

theorem witness_LinkLayer_6 : ∃ (t : Nat) (p : Fin 3) (n : Byte) (s : State), s.live = true ∧ (s.yport p).up = true ∧
    p.val < s.yard.ports.length :=
  ⟨0, 0, 7, yardOf .run { up := true } {}, by decide⟩

theorem witness_LinkLayer_7 : ∃ (t : Nat) (p : Fin 3) (n c : Byte) (s : State), s.live = true ∧ (s.yport p).up = true ∧
    c ≠ ~~~ n :=
  ⟨0, 0, 7, 7, yardOf .run { up := true } {}, by decide⟩

theorem witness_LinkLayer_8 : ∃ (t : Nat) (p : Fin 3) (u : Unack) (rest : List Unack) (s : State), s.live = true ∧
    (s.yport p).unack = u :: rest ∧ (s.yport p).again = [] ∧ u.sentAt + 12 * us ≤ t ∧ u.attempts < 4 :=
  ⟨12000, 0, { bytes := [], attempts := 3, sentAt := 0 }, [], yardOf .run { unack := [{ bytes := [], attempts := 3, sentAt := 0 }] } {}, by decide⟩

theorem witness_LinkLayer_9 : ∃ (t : Nat) (p : Fin 3) (u : Unack) (rest : List Unack) (s : State), s.live = true ∧
    (s.yport p).unack = u :: rest ∧ (s.yport p).again = [] ∧ u.sentAt + 12 * us ≤ t ∧ 4 ≤ u.attempts :=
  ⟨12000, 0, { bytes := [], attempts := 4, sentAt := 0 }, [], yardOf .run { unack := [{ bytes := [], attempts := 4, sentAt := 0 }] } {}, by decide⟩

theorem witness_LinkLayer_10 : ∃ (t : Nat) (p : Fin 3) (s : State), s.live = true ∧ (s.yport p).on = true :=
  ⟨0, 0, yardOf .run { on := true } {}, by decide⟩

theorem witness_SequencedFrames_1 : ∃ (t : Nat) (p : Fin 3) (l : List Byte) (fr : LinkFrame) (s : State), s.live = true ∧
    s.portOn p = true ∧ parseLink l = some fr ∧ fr.typ = typSafety ∧ byteAt fr.payload 0 ≠ kindOpen ∧ (s.yport p).up = true ∧
    (s.yport p).lexp = fr.lseq ∧ p.val < s.yard.ports.length :=
  ⟨0, 0, (link typSafety [1]).bytes, link typSafety [1], yardOf .run { on := true, up := true } {}, by decide⟩

theorem witness_SequencedFrames_2 : ∃ (t : Nat) (p : Fin 3) (l : List Byte) (fr : LinkFrame) (s : State), s.live = true ∧
    s.portOn p = true ∧ parseLink l = some fr ∧ fr.typ = typSafety ∧ byteAt fr.payload 0 = kindOpen ∧ (s.yport p).up = true ∧
    (s.yport p).lexp = fr.lseq ∧ p.val < s.yard.ports.length :=
  ⟨0, 0, (link typSafety [2]).bytes, link typSafety [2], yardOf .run { on := true, up := true } {}, by decide⟩

theorem witness_SequencedFrames_3 : ∃ (t i : Nat) (p : Fin 3) (l : List Byte) (fr : LinkFrame) (s : State), s.live = true ∧
    s.portOn p = true ∧ parseLink l = some fr ∧ fr.typ = typSafety ∧ byteAt fr.payload 0 = kindOpen ∧ (s.yport p).up = true ∧
    (s.yport p).lexp = fr.lseq ∧ s.forUs fr = true ∧ s.produceIdx (pConnid fr.payload) = some i ∧ i < s.yard.conns.length ∧
    fr.payload.length = 28 ∧ byteAt fr.payload 22 = 0 ∧ byteAt fr.payload 23 = 0 ∧ pSflags fr.payload < 4 ∧
    pDst fr.payload = s.yard.node ∧ pSeq fr.payload ≠ 0 ∧ ((s.conn i).bcast = true ∨ pSrc fr.payload = (s.conn i).peer) ∧
    scrcOk (s.conn i).ctag fr.payload = true :=
  ⟨0, 0, 0, (link typSafety open1).bytes, link typSafety open1, { yardOf .run { on := true, up := true } {} with yard := { (yardOf .run { on := true, up := true } {}).yard with conns := [{ mode := 2, id := 0, bcast := true }] } }, by decide⟩

theorem witness_SequencedFrames_4 : ∃ (t : Nat) (p : Fin 3) (l : List Byte) (fr : LinkFrame) (s : State), s.live = true ∧
    s.portOn p = true ∧ parseLink l = some fr ∧ fr.typ = typMgmt ∧ (s.yport p).up = true ∧ (s.yport p).lexp = fr.lseq ∧
    p.val < s.yard.ports.length :=
  ⟨0, 0, (link typMgmt []).bytes, link typMgmt [], yardOf .run { on := true, up := true } {}, by decide⟩

theorem witness_SequencedFrames_5 : ∃ (t : Nat) (p : Fin 3) (l : List Byte) (fr : LinkFrame) (s : State), s.live = true ∧
    s.portOn p = true ∧ parseLink l = some fr ∧ fr.typ = typMgmt ∧ (s.yport p).up = true ∧ (s.yport p).lexp = fr.lseq ∧
    (s.forUs fr = true ∨ s.forCollar fr = true) ∧ s.img.loft = true ∧ 7 ≤ s.fifos.length ∧ (s.fifo 6).q = [] ∧
    (s.fifo 6).held = [] ∧ (s.backP 6).1 = 0 ∧ s.yard.mrecv.length < 16 :=
  ⟨0, 0, (link typMgmt []).bytes, link typMgmt [], { yardOf .run { on := true, up := true } {} with img := { loft := true } }, by decide⟩

theorem witness_Connections_1 : ∃ (t : Nat) (n : Fin 64) (f : SFrame) (s : State), s.live = true ∧ n.val < s.yard.conns.length ∧
    (s.conn n).b.wait = [f] ∧ f.due ≤ (s.upTo t).ytime ∧ (s.conn n).b.ds ≠ .absent ∧ ((s.conn n).b.has = true ∨ f.echo = true) ∧
    connAccepts (s.conn n) (s.conn n).b f (s.upTo t).ytime = true :=
  ⟨0, 0, { seq := 0, tstamp := 1, unsync := false, data := [], echo := true, arr := 0, due := 0 }, connOf { b := { ds := .joining, wait := [{ seq := 0, tstamp := 1, unsync := false, data := [], echo := true, arr := 0, due := 0 }] } }, by decide⟩

theorem witness_Connections_2 : ∃ (t : Nat) (n : Fin 64) (f : SFrame) (s : State), s.live = true ∧ s.flt.on = true ∧
    n.val < s.yard.conns.length ∧ (s.conn n).b.wait = [f] ∧ f.due ≤ (s.upTo t).ytime ∧ (s.conn n).b.ds ≠ .absent ∧
    (((s.conn n).b.has = false ∧ f.echo = false) ∨ connAccepts (s.conn n) (s.conn n).b f (s.upTo t).ytime = false) :=
  ⟨0, 0, { seq := 0, tstamp := 1, unsync := false, data := [], echo := false, arr := 0, due := 0 }, connOf { b := { ds := .joining, wait := [{ seq := 0, tstamp := 1, unsync := false, data := [], echo := false, arr := 0, due := 0 }] } }, by decide⟩

theorem witness_Connections_3 : ∃ (t : Nat) (n : Fin 64) (s : State), s.live = true ∧ n.val < s.yard.conns.length ∧
    s.yard.committed = true ∧ (s.conn n).mode = 1 ∧ ((s.conn n).a.ds = .joining ∨ (s.conn n).b.ds = .joining) ∧
    (s.conn n).openAt.all (fun a => decide (a + 10 * ms ≤ t)) = true ∧ (s.backP 5).1 = 0 ∧ 5 < s.fifos.length ∧
    (s.fifo 5).q = [] ∧ (s.fifo 5).held = [] :=
  ⟨0, 0, { connOf { mode := 1, a := { ds := .joining } } with fifos := List.replicate 10 {} }, by decide⟩

theorem witness_Connections_4 : ∃ (t : Nat) (v : Word) (s : State), s.live = true ∧ bit v.toNat 6 = true ∧
    v.toNat % 64 < s.yard.conns.length :=
  ⟨0, 64, connOf { a := { ds := .quarantined }, b := { ds := .quarantined } }, by decide⟩

theorem witness_Hellos_1 : ∃ (t : Nat) (p : Fin 3) (s : State), s.live = true ∧ s.portOn p = true ∧ (s.yport p).up = false ∧
    (s.yport p).helloAt.all (fun a => decide (a + 1000 * us ≤ t)) = true ∧ p.val < s.yard.ports.length :=
  ⟨0, 0, yardOf .run { on := true } {}, by decide⟩

theorem witness_Hellos_2 : ∃ (t : Nat) (p : Fin 3) (l : List Byte) (fr : LinkFrame) (s : State), s.live = true ∧
    s.portOn p = true ∧ parseLink l = some fr ∧ fr.typ = typHello ∧ fr.payload.length = 4 ∧ byteAt fr.payload 3 < 2 ∧
    (s.yport p).up = false ∧ p.val < s.yard.ports.length ∧ s.helloOk p (beAt fr.payload 0 2) (byteAt fr.payload 2) = true :=
  ⟨0, 0, (link typHello [0, 0, 0, 0]).bytes, link typHello [0, 0, 0, 0], { base .run with yard := { committed := true, depth := 1, ports := [{ on := true }, {}, {}] } }, by decide⟩

theorem witness_Hellos_3 : ∃ (t : Nat) (p : Fin 3) (l : List Byte) (fr : LinkFrame) (s : State), s.live = true ∧
    s.portOn p = true ∧ parseLink l = some fr ∧ fr.typ = typHello ∧ fr.payload.length = 4 ∧ byteAt fr.payload 3 < 2 ∧
    (s.yport p).up = false ∧ p.val < s.yard.ports.length ∧ s.helloOk p (beAt fr.payload 0 2) (byteAt fr.payload 2) = false :=
  ⟨0, 0, (link typHello [0, 0, 0, 0]).bytes, link typHello [0, 0, 0, 0], yardOf .run { on := true } {}, by decide⟩

theorem witness_TimeTransfer_1 : ∃ (t : Nat) (p : Fin 3) (s : State), s.live = true ∧ p.val ≠ 0 ∧ (s.yport p).up = true ∧
    (s.yport p).exchAt.all (fun a => decide (a + 990 * us ≤ t)) = true :=
  ⟨0, 1, yardOf .run {} { up := true }, by decide⟩

theorem witness_TimeTransfer_2 : ∃ (t : Nat) (l : List Byte) (fr : LinkFrame) (s : State), s.yard.root = false ∧ s.live = true ∧
    s.portOn 0 = true ∧ parseLink l = some fr ∧ fr.typ = typTime ∧ (s.yport 0).up = true ∧ fr.payload.length = 16 ∧
    byteAt fr.payload 0 = 1 ∧ byteAt fr.payload 1 < 4 ∧ byteAt fr.payload 3 = 0 ∧ zeroIn fr.payload 6 7 = true ∧
    0 < s.yard.ports.length :=
  ⟨0, (link typTime (timePayload 1 0 0 0 0)).bytes, link typTime (timePayload 1 0 0 0 0), yardOf .run { on := true, up := true } {}, by decide⟩

theorem witness_TimeTransfer_3 : ∃ (t : Nat) (p : Fin 3) (l : List Byte) (fr : LinkFrame) (s : State), p.val ≠ 0 ∧
    s.live = true ∧ s.portOn p = true ∧ parseLink l = some fr ∧ fr.typ = typTime ∧ (s.yport p).up = true ∧
    fr.payload.length = 16 ∧ byteAt fr.payload 0 = 2 ∧ byteAt fr.payload 1 < 4 ∧ byteAt fr.payload 3 = 0 ∧
    zeroIn fr.payload 6 7 = true :=
  ⟨0, 1, (link typTime (timePayload 2 0 0 0 0)).bytes, link typTime (timePayload 2 0 0 0 0), yardOf .run {} { on := true, up := true }, by decide⟩

theorem witness_TimeTransfer_4 : ∃ (t x t1 t2 t3 : Nat) (l : List Byte) (fr : LinkFrame) (s : State), s.yard.root = false ∧
    s.live = true ∧ s.portOn 0 = true ∧ parseLink l = some fr ∧ fr.typ = typTime ∧ (s.yport 0).up = true ∧
    fr.payload.length = 16 ∧ byteAt fr.payload 0 = 3 ∧ byteAt fr.payload 1 < 4 ∧ byteAt fr.payload 3 = 0 ∧
    zeroIn fr.payload 6 7 = true ∧ s.yard.xch = some (x, t1, t2, t3) ∧ x = beAt fr.payload 4 2 ∧ t3 ≠ 0 :=
  ⟨0, 0, 0, 0, 1, (link typTime (timePayload 3 0 0 0 0)).bytes, link typTime (timePayload 3 0 0 0 0), { base .run with yard := { committed := true, xch := some (0, 0, 0, 1), ports := [{ on := true, up := true }, {}, {}] } }, by decide⟩

theorem witness_TimeTransfer_5 : ∃ (t : Nat) (s : State), s.live = true ∧ s.yard.sync = .locked ∧ s.yard.root = false ∧
    s.yard.lastExch + 3000 * us ≤ t :=
  ⟨3000000, { base .run with yard := { sync := .locked } }, by decide⟩

theorem witness_TimeTransfer_6 : ∃ (t : Nat) (s : State), s.live = true ∧ s.yard.sync = .holdover ∧
    s.yard.holdAt + 500 * ms ≤ t :=
  ⟨500000000, { base .run with yard := { sync := .holdover } }, by decide⟩

theorem witness_Whistles_1 : ∃ (t : Nat) (p : Fin 3) (l : List Byte) (s : State), s.live = true ∧ s.yard.committed = true ∧
    (s.yport p).up = true ∧ whistleOk l = true ∧
    s.yard.seen.all (fun e => !(e.1 == beAt l 2 2 && e.2.1 == beAt l 4 2) || decide (e.2.2 + 1000 * ms ≤ t)) = true ∧
    s.yard.wpend = none ∧ (s.yard.sync = .locked ∨ s.yard.sync = .holdover) ∧ (s.upTo t).ytime < beAt l 6 8 :=
  ⟨0, 0, whistleBytes 0 0 0 1, { base .run with yard := { committed := true, sync := .locked, ports := [{ up := true }, {}, { up := true }] } }, by decide⟩

theorem witness_Whistles_2 : ∃ (t : Nat) (p : Fin 3) (l : List Byte) (s : State), s.live = true ∧ s.yard.committed = true ∧
    (s.yport p).up = true ∧ whistleOk l = true ∧
    s.yard.seen.all (fun e => !(e.1 == beAt l 2 2 && e.2.1 == beAt l 4 2) || decide (e.2.2 + 1000 * ms ≤ t)) = true ∧
    s.yard.wpend = none ∧ (s.yard.sync = .unlocked ∨ s.yard.sync = .syncLost ∨ beAt l 6 8 ≤ (s.upTo t).ytime) :=
  ⟨0, 0, whistleBytes 0 0 0 1, { base .run with yard := { committed := true, sync := .unlocked, ports := [{ up := true }, {}, {}] } }, by decide⟩

theorem witness_Whistles_3 : ∃ (t : Nat) (p : Fin 3) (l : List Byte) (s : State), s.live = true ∧ s.yard.committed = true ∧
    (s.yport p).up = true ∧ whistleOk l = true ∧
    s.yard.seen.any (fun e => e.1 == beAt l 2 2 && e.2.1 == beAt l 4 2 && decide (Nat.max s.now t < e.2.2 + 1000 * ms)) = true :=
  ⟨0, 0, whistleBytes 0 0 0 1, { base .run with yard := { committed := true, seen := [(0, 0, 0)], ports := [{ up := true }, {}, {}] } }, by decide⟩

theorem witness_Whistles_4 : ∃ (t : Nat) (p : Fin 3) (l : List Byte) (a : Bool) (s : State), s.live = true ∧
    s.yard.committed = true ∧ (s.yport p).up = true ∧ p.val < s.yard.ports.length ∧ (a = true ∨ whistleOk l = false) :=
  ⟨0, 0, whistleBytes 0 0 0 1, true, { base .run with yard := { committed := true, ports := [{ up := true }, {}, {}] } }, by decide⟩

theorem witness_Whistles_5 : ∃ (t ltime origin : Nat) (s : State), s.yard.wpend = some (ltime, origin) ∧ s.live = true ∧
    ltime ≤ (s.upTo t).ytime :=
  ⟨0, 0, 0, { base .run with yard := { wpend := some (0, 0) } }, by decide⟩

theorem witness_Whistles_6 : ∃ (t a : Nat) (s : State), s.yard.wforce = some a ∧ a + 100 * ms ≤ t ∧ s.yard.wpend = none :=
  ⟨100000000, 0, { base .run with yard := { wforce := some 0 } }, by decide⟩

theorem witness_Cycle_1 : ∃ (t : Nat) (o : CycleObs) (s : State), s.cycles = true ∧ (s.upTo t).boundaryDue = true :=
  ⟨250000, {}, { base .run with yard := { runs := true } }, by decide⟩

theorem witness_Cycle_2 : ∃ (t : Nat) (s : State), s.cycles = true ∧ (s.upTo t).boundaryDue = true ∧ (s.fifo 0).q = [] ∧
    (s.fifo 0).held = [] :=
  ⟨250000, { base .run with yard := { runs := true } }, by decide⟩

theorem witness_Cycle_3 : ∃ (t : Nat) (o : CycleObs) (s : State), s.clk.rs = .load ∧ s.clk.held = false ∧ s.clk.loadStep = 9 ∧
    (s.upTo t).boundaryDue = true ∧ o.mismatch = none ∧ o.soloFail = false ∧ o.partition = false ∧ o.ecc = [] :=
  ⟨250000, {}, { base .load with clk := { rs := .load, loadStep := 9 }, yard := { runs := true } }, by decide⟩

theorem witness_Cycle_4 : ∃ (t i : Nat) (ups : List (Fin 2 × Fin 512)) (s : State), s.pair.split = false ∧ s.cycles = true ∧
    s.sh0.com.any (·.capOk) = false ∧ s.sp.rdAt + 12 * us ≤ t ∧ i < s.sh0.recs.length ∧ i < s.sh0.com.length ∧
    i < s.sh0.b.length ∧ rCheck (nth [] s.sh0.recs i) = true :=
  ⟨12000, 0, [], sheetOf .run [0x01, 0x80] {}, by decide⟩

theorem witness_Cycle_5 : ∃ (t : Nat) (k : Fin 2) (s : State), s.pair.split = true ∧ s.cycles = true ∧ s.sp.rdAt + 20 * us ≤ t :=
  ⟨20000, 0, { base .run with pair := { split := true } }, by decide⟩

theorem witness_OutputChecks_1 : ∃ (t : Nat) (n : Fin 16) (l : Leg) (v : Bool) (s : State), n.val < s.sout.outs.length :=
  ⟨0, 0, .p, false, base .run, by decide⟩

theorem witness_OutputChecks_2 : ∃ (t a : Nat) (n : Fin 16) (l : Leg) (s : State), n.val < s.sout.outs.length ∧
    s.checked n = true ∧ ((s.out n).leg l).live = some a ∧ a + (s.out n).offdlyNs < t :=
  ⟨1, 0, 0, .p, outOf { used := true, p := { live := some 0 } }, by decide⟩

theorem witness_OutputChecks_3 : ∃ (t a : Nat) (n : Fin 16) (l : Leg) (s : State), n.val < s.sout.outs.length ∧
    s.checked n = true ∧ ((s.out n).leg l).oc = some a ∧ (s.out n).inWindow (Nat.max s.now t) = false ∧
    Nat.max a ((s.out n).leg l).susp + (s.out n).ocfiltNs < t :=
  ⟨1, 0, 0, .m, outOf { used := true, m := { oc := some 0 } }, by decide⟩

theorem witness_OutputChecks_4 : ∃ (t e : Nat) (n : Fin 16) (s : State), n.val < s.sout.outs.length ∧ (s.out n).win = some e ∧
    e ≤ t :=
  ⟨0, 0, 0, outOf { used := true, win := some 0 }, by decide⟩

theorem witness_OutputChecks_5 : ∃ (t a : Nat) (n : Fin 16) (s : State), n.val < s.sout.outs.length ∧ (s.out n).off = some a ∧
    ((s.out n).rbFlt = true ∨ (s.out n).ocFlt = true) ∧ a + 100 * ms ≤ t :=
  ⟨100000000, 0, 0, outOf { used := true, off := some 0, rbFlt := true }, by decide⟩

theorem witness_DarkTests_1 : ∃ (t d : Nat) (n : Fin 16) (l : Leg) (s : State), n.val < s.sout.outs.length ∧
    (s.out n).darkDue l = some d ∧ s.checked n = true ∧ d ≤ t :=
  ⟨0, 0, 0, .p, outOf { used := true, sched := some 0 }, by decide⟩

theorem witness_DarkTests_2 : ∃ (t : Nat) (n : Fin 16) (l : Leg) (s : State), n.val < s.sout.outs.length ∧
    ((s.out n).leg l).deferred = true ∧ s.checked n = true ∧ s.energised n (s.out n) = true ∧ s.sout.test = none ∧
    s.sout.testEnd.all (fun e => decide (e + ms ≤ t)) = true ∧ (s.out n).inWindow (Nat.max s.now t) = false ∧
    (l = .m ∨ ((s.fifo 1).q = [] ∧ (s.fifo 1).held = [] ∧ (s.backP 1).1 = 0 ∧ 1 < s.fifos.length)) :=
  ⟨0, 0, .p, outOf { used := true, p := { cmd := true, gate := true, deferred := true }, m := { cmd := true, gate := true } }, by decide⟩

theorem witness_DarkTests_3 : ∃ (t e : Nat) (d : DarkTest) (s : State), d.out < s.sout.outs.length ∧ s.sout.test = some d ∧
    d.done (s.out d.out).darkwNs = some e ∧ e ≤ t :=
  ⟨10000, 10000, { out := 0, leg := .p, start := 0, zero := some 0, first := some 0 }, { base .run with sout := { outs := [{ used := true, darkw := 100 }], test := some { out := 0, leg := .p, start := 0, zero := some 0, first := some 0 } } }, by decide⟩

theorem witness_DarkTests_4 : ∃ (t : Nat) (d : DarkTest) (s : State), d.out < s.sout.outs.length ∧ s.sout.test = some d ∧
    d.done (s.out d.out).darkwNs = none ∧ d.start + (s.out d.out).darkwNs ≤ t :=
  ⟨1000000000, { out := 0, leg := .p, start := 0, zero := none, first := none }, { base .run with sout := { outs := [{ used := true, darkw := 100 }], test := some { out := 0, leg := .p, start := 0, zero := none, first := none } } }, by decide⟩

theorem witness_MuzzleBarkLaunch_1 : ∃ (t width : Nat) (s : State), 100 ≤ width :=
  ⟨0, 100, base .run, by decide⟩

theorem witness_MuzzleBarkLaunch_3 : ∃ (t : Nat) (s : State), s.barks = true ∧ s.sout.barkAat + 3 * s.tcyc / 2 < t :=
  ⟨1000000000, base .run, by decide⟩

theorem witness_MuzzleBarkLaunch_4 : ∃ (t : Nat) (s : State), s.barks = true ∧ s.sout.barkBat + 3 * s.tcyc / 2 < t :=
  ⟨1000000000, base .run, by decide⟩

theorem witness_MuzzleBarkLaunch_5 : ∃ (t : Nat) (l : Launch) (n : Fin 16) (s : State), n.val < s.sout.outs.length ∧
    s.yard.pend = [l] ∧ l.time ≤ (s.upTo t).ytime ∧ (s.upTo t).handoverFirst = false ∧
    (s.upTo t).launchBlocked l.sheet l.group = none ∧
    bit (rOutmask (nth [] (s.sheet l.sheet).recs (nth 512 (ogRecs (s.sheet l.sheet).recs) l.group))) n = true ∧
    (s.out n).used = true :=
  ⟨0, { sheet := 0, group := 0, time := 0 }, 0, { outOf { used := true } with sh0 := { recs := [[0x40, 0, 0, 0, 0, 0, 0, 0, 0, 1]] }, yard := { sync := .locked, pend := [{ sheet := 0, group := 0, time := 0 }] } }, by decide⟩

theorem witness_MuzzleBarkLaunch_6 : ∃ (t c : Nat) (l : Launch) (s : State), s.yard.pend = [l] ∧ l.time ≤ (s.upTo t).ytime ∧
    (s.upTo t).handoverFirst = false ∧ (s.upTo t).launchBlocked l.sheet l.group = some c :=
  ⟨0, 3, { sheet := 0, group := 0, time := 0 }, { base .run with yard := { pend := [{ sheet := 0, group := 0, time := 0 }] } }, by decide⟩

theorem witness_InputValidation_1 : ∃ (t : Nat) (n : Fin 32) (ch : Chan) (v c : Bool) (s : State), n.val < s.sin.pairs.length :=
  ⟨0, 0, .a, true, true, base .run, by decide⟩

theorem witness_InputValidation_2 : ∃ (t a : Nat) (n : Fin 32) (ch : Chan) (c : Bool) (s : State), n.val < s.sin.pairs.length ∧
    s.sampling = true ∧ (s.inPair n).mode ≠ 0 ∧ (((s.inPair n).copy c).ch ch).run = some a ∧
    (((s.inPair n).copy c).ch ch).blank = none ∧
    (s.inPair n).filtNs ≤ (((s.inPair n).copy c).ch ch).acc + (Nat.max s.now t - a) :=
  ⟨0, 0, 0, .b, true, pairOf { mode := 1, va := { b := { run := some 0 } } }, by decide⟩

theorem witness_InputValidation_3 : ∃ (t a : Nat) (n : Fin 32) (c : Bool) (s : State), n.val < s.sin.pairs.length ∧
    s.sampling = true ∧ (s.inPair n).mode ≠ 0 ∧ ((s.inPair n).copy c).disc = some a ∧ a + (s.inPair n).discNs < t ∧
    ((s.inPair n).copy c).fired = false :=
  ⟨1000000000, 0, 0, true, pairOf { mode := 1, va := { disc := some 0 }, vb := { disc := some 0 } }, by decide⟩

theorem witness_InputValidation_4 : ∃ (t a : Nat) (n : Fin 32) (ch : Chan) (c : Bool) (s : State), n.val < s.sin.pairs.length ∧
    s.sampling = true ∧ (s.inPair n).mode ≠ 0 ∧ (((s.inPair n).copy c).ch ch).low = some a ∧ a + (s.inPair n).tolNs < t :=
  ⟨1000000000, 0, 0, .a, true, pairOf { mode := 1, va := { a := { low := some 0 } } }, by decide⟩

theorem witness_InputValidation_5 : ∃ (t a : Nat) (n : Fin 32) (ch : Chan) (c : Bool) (s : State), n.val < s.sin.pairs.length ∧
    s.sampling = true ∧ (s.inPair n).mode ≠ 0 ∧ (s.inPair n).ossdchk ≠ 0 ∧ (((s.inPair n).copy c).ch ch).high = some a ∧
    a + (s.inPair n).chkNs < t :=
  ⟨1000000000000, 0, 0, .a, true, pairOf { mode := 1, ossdchk := 1, va := { a := { high := some 0 } } }, by decide⟩

theorem witness_DarkPulses_1 : ∃ (t : Nat) (n : Fin 8) (s : State), n.val < s.sin.tp.length ∧ s.sampling = true ∧
    (s.tp n).on = true ∧ (s.tp n).dark = none ∧ (s.tp n).startNs (s.tp n).next ≤ (s.upTo t).ytime :=
  ⟨0, 0, lineOf { on := true } { mode := modeTp, settle := 2 }, by decide⟩

theorem witness_DarkPulses_2 : ∃ (t a : Nat) (n : Fin 8) (k : Fin 32) (ch : Chan) (c : Bool) (s : State), k.val < s.sin.pairs.length ∧
    s.sampling = true ∧ (s.tp n).dark = some a ∧ a + (s.tp n).widthNs ≤ t + us ∧ (s.inPair k).mode = modeTp ∧
    (s.inPair k).src ch = n :=
  ⟨0, 0, 0, 0, .b, false, lineOf { dark := some 0 } { mode := modeTp }, by decide⟩

theorem witness_DarkPulses_3 : ∃ (t a : Nat) (n : Fin 8) (s : State), n.val < s.sin.tp.length ∧ s.sampling = true ∧
    (s.tp n).dark = some a ∧ a + (s.tp n).widthNs ≤ t :=
  ⟨0, 0, 0, lineOf { dark := some 0 } {}, by decide⟩

theorem witness_DarkPulses_4 : ∃ (t e : Nat) (n : Fin 32) (s : State), n.val < s.sin.pairs.length ∧ s.sampling = true ∧
    (s.inPair n).mode ≠ 0 ∧ (s.inPair n).va.a.blank = some e ∧ e ≤ t ∧ (s.inPair n).va.a.chk = some true :=
  ⟨0, 0, 0, pairOf { mode := modeTp, va := { a := { blank := some 0, chk := some true } } }, by decide⟩

theorem witness_DarkPulses_5 : ∃ (t e : Nat) (n : Fin 32) (s : State), n.val < s.sin.pairs.length ∧ s.sampling = true ∧
    (s.inPair n).mode ≠ 0 ∧ (s.inPair n).va.b.blank = some e ∧ e ≤ t ∧ (s.inPair n).va.b.chk = some true :=
  ⟨0, 0, 0, pairOf { mode := modeTp, va := { b := { blank := some 0, chk := some true } } }, by decide⟩

theorem witness_ResetsAndTimers_3 : ∃ (t f : Nat) (s : State), s.sampling = true ∧ s.sp.ackA = false ∧ s.sp.ackB = false ∧
    s.sp.ackFirst = some f ∧ s.sh0.loaded = true ∧ s.sh0.ackBad = false ∧ (s.upTo t).ackOver s.sh0 = false ∧
    (s.sp.setAck (Nat.max s.now t) .b true).valid s.sh0 = true :=
  ⟨0, 0, { base .run with sp := { ackA := false, ackB := false, ackFirst := some 0, ackOnA := some 0, ackOnB := some 0, ackOffA := some 0 }, sh0 := { loaded := true } }, by decide⟩

theorem witness_ResetsAndTimers_4 : ∃ (t : Nat) (s : State), s.sp.ackFirst.isSome = true ∧ (s.upTo t).ackOver s.sh0 = true :=
  ⟨20000001, { base .run with sp := { ackA := true, ackFirst := some 0 } }, by decide⟩

theorem witness_ResetsAndTimers_5 : ∃ (t a : Nat) (i : Fin 512) (s : State), s.chanB = true ∧ s.sh0.loaded = true ∧
    rIs .modesel (s.recAt 0 i) = true ∧ (nth {} s.sh0.b i).since = some a ∧ (nth {} s.sh0.b i).fired = false ∧
    a + rW (s.recAt 0 i) 10 * ms < t ∧
    (s.com 0 i).locals.any (fun x => x.cause == LocalCause.catalogue Src.sinDisc) = false :=
  ⟨1, 0, 0, sheetOf .run [0x06] { since := some 0 }, by decide⟩

theorem witness_ResetsAndTimers_6 : ∃ (t a : Nat) (i : Fin 512) (s : State), s.chanB = true ∧ s.sh0.loaded = true ∧
    rIs .delay (s.recAt 0 i) = true ∧ (nth {} s.sh0.b i).since = some a ∧ (nth {} s.sh0.b i).fired = false ∧
    a + rW (s.recAt 0 i) 8 * ms ≤ t :=
  ⟨0, 0, 0, sheetOf .run [0x23] { since := some 0 }, by decide⟩

theorem witness_ResetsAndTimers_7 : ∃ (t a : Nat) (i : Fin 512) (s : State), s.chanB = true ∧ s.sh0.loaded = true ∧
    rIs .outgroup (s.recAt 0 i) = true ∧ (nth {} s.sh0.b i).since = some a ∧ (nth {} s.sh0.b i).fired = false ∧
    a + rDelayNs (s.recAt 0 i) ≤ t :=
  ⟨0, 0, 0, sheetOf .run [0x40] { since := some 0 }, by decide⟩

theorem witness_ResetsAndTimers_8 : ∃ (t a : Nat) (i : Fin 512) (s : State), s.chanB = true ∧ s.sh0.loaded = true ∧
    rIs .mute (s.recAt 0 i) = true ∧ (nth {} s.sh0.b i).since = some a ∧ (nth {} s.sh0.b i).fired = false ∧
    a + rB (s.recAt 0 i) 15 * 100 * ms ≤ t :=
  ⟨0, 0, 0, sheetOf .run [0x08] { since := some 0 }, by decide⟩

theorem witness_ResetsAndTimers_9 : ∃ (s : State), s.clk.rs = .armed ∧ s.sp.hold = true ∧ s.allSheets (·.pulse) = true ∧
    s.sheets.any (fun k => (s.sheet k).com.any (·.stPend)) = false :=
  ⟨{ base .armed with sh0 := { loaded := true, pulse := true } }, by decide⟩

theorem witness_ResetsAndTimers_10 : ∃ (s : State), s.clk.rs = .safe ∧ s.sh0.from_ ≤ s.now ∧ s.sh1.from_ ≤ s.now ∧
    s.pulseEnd.clk.rs ≠ .safe ∧ s.pulseEnd.clk.rs ≠ .cut :=
  ⟨{ base .safe with now := 1, sh0 := { loaded := true, pulse := true, from_ := 1 } }, by decide⟩

theorem witness_WheelEvents_1 : ∃ (t : Nat) (w : Fin 2) (pin : Chan) (v : Bool) (s : State), w.val < s.mot.wheels.length ∧
    s.sampling = true ∧ (s.wheel w).used = true :=
  ⟨0, 0, .a, true, { base .run with mot := { wheels := [{ used := true, teeth := 8 }, {}] } }, by decide⟩

theorem witness_WheelEvents_2 : ∃ (t : Nat) (w : Fin 2) (pin : Chan) (v : Bool) (s : State), w.val < s.mot.wheels.length ∧
    (s.sampling = false ∨ (s.wheel w).used = false) :=
  ⟨0, 0, .a, true, base .run, by decide⟩

theorem witness_WheelEvents_3 : ∃ (t : Nat) (k : Fin 2) (i : Fin 512) (s : State), s.sampling = true ∧
    i.val < (s.sheet k).b.length ∧ rIs .sstill (s.recAt k i) = true ∧ (s.wheel (rWheel (s.recAt k i))).used = true ∧
    (s.wheel (rWheel (s.recAt k i))).b.last + stillNs (s.wheel (rWheel (s.recAt k i))).teeth (s.recAt k i) ≤ t :=
  ⟨1000000000000, 0, 0, { sheetOf .run [0x13] {} with mot := { wheels := [{ used := true }, {}] } }, by decide⟩

theorem witness_WheelEvents_4 : ∃ (t a : Nat) (k : Fin 2) (i : Fin 512) (s : State), (s.com k i).motSince = some a ∧
    a + 1000 * ms ≤ t :=
  ⟨1000000000, 0, 0, 0, { base .load with sh0 := { com := [{ motSince := some 0, locals := [⟨.motion .motLimit, 0⟩] }] } }, by decide⟩

theorem witness_FaultRecords_1 : ∃ (t : Nat) (r : FRec) (b : Bool) (q : List (FRec × Bool)) (s : State), s.mram.wf = true ∧
    s.live = true ∧ s.flt.on = true ∧ s.seq.belowAbandon = false ∧ s.flt.due = (r, b) :: q :=
  ⟨0, (openRec .note).r, true, [], { base .run with flt := { on := true, due := [((openRec .note).r, true)] } }, by decide⟩

theorem witness_FaultRecords_2 : ∃ (t : Nat) (r : FRec) (b : Bool) (q : List (FRec × Bool)) (s : State), s.live = true ∧
    s.flt.on = true ∧ s.seq.belowAbandon = true ∧ s.flt.due = (r, b) :: q :=
  ⟨0, (openRec .note).r, true, [], { base .run with seq := { por := false, belowAbandon := true }, flt := { on := true, due := [((openRec .note).r, true)] } }, by decide⟩

theorem witness_FaultRecords_3 : ∃ (t : Nat) (o : OpenRec) (s : State), s.live = true ∧ s.flt.on = true ∧ s.cycles = false ∧
    s.flt.onAt + (s.flt.coll + 1) * ms ≤ t ∧ s.flt.rec? = some o ∧ o.r.cls = .note ∧ o.written = true ∧
    s.linkOpen o = false :=
  ⟨1000000, openRec .note, { base .load with flt := { on := true, rec? := some (openRec .note) } }, by decide⟩

theorem witness_FaultRecords_4 : ∃ (t : Nat) (o : OpenRec) (s : State), s.flt.rec? = some o ∧ o.r.cls = .loc ∧
    o.locAt + 100 * ms ≤ t ∧ s.localDone o.r.recno = false :=
  ⟨100000000, openRec .loc, { base .run with flt := { on := true, rec? := some (openRec .loc) }, sh0 := { loaded := true, recs := [[0x01]], com := [{ locals := [{ cause := .launch, recno := 1 }] }], a := [{ res := 1 }], b := [{}] } }, by decide⟩

theorem witness_FaultRecords_5 : ∃ (t : Nat) (src : Src) (s : State), deviceScope src = true ∧ (s.upTo t).quiet src = true :=
  ⟨0, .groomWdog, { base .load with sh0 := { com := [{ locals := [⟨.device .groomWdog, 0⟩] }] } }, by decide⟩

theorem witness_FaultRecords_6 : ∃ (t : Nat) (src : Src) (s : State), (s.upTo t).quiet src = true :=
  ⟨0, .sinDisc, { base .load with sh0 := { com := [{ locals := [⟨.mapped .sinDisc, 0⟩] }], recs := [[1]] } }, by decide⟩

theorem witness_FaultRecords_7 : ∃ (t : Nat) (v : Word) (s : State), s.cp.on = true :=
  ⟨0, 4095, base .run, by decide⟩

theorem witness_FaultRecords_8 : ∃ (t : Nat) (v : Word) (s : State), s.cp.on = true :=
  ⟨0, 255, base .run, by decide⟩

theorem witness_FstatClear_1 : ∃ (t : Nat) (r : Fin 4) (v : Word) (s : State), s.cp.on = true :=
  ⟨0, 0, 1, base .run, by decide⟩

theorem witness_FstatClear_2 : ∃ (b : Nat) (r : Fin 4) (v : Word) (s : State), b < 41 :=
  ⟨40, 2, 0x100, base .run, by decide⟩

theorem witness_FstatClear_4 : ∃ (t b : Nat) (r : Fin 4) (v : Word) (s : State), s.cp.on = true ∧ b < 64 :=
  ⟨0, 40, 2, 0x100, base .load, by decide⟩

theorem witness_FaultAck_1 : ∃ (t : Nat) (v : Word) (s : State), s.cp.on = true :=
  ⟨0, 1, base .run, by decide⟩

theorem witness_FaultAck_2 : ∃ (v : Word) (o : OpenRec) (s : State), s.flt.rec? = some o ∧ ((o.r.cls = .note ∧
    o.written = true) ∨ (o.r.cls = .loc ∧ s.localDone o.r.recno = true)) ∧ v.toNat = o.r.recno % 65536 :=
  ⟨1, openRec .note, { base .run with flt := { on := true, rec? := some (openRec .note) } }, by decide⟩

theorem witness_FaultAck_3 : ∃ (v : Word) (s : State), s.flt.rec? = none :=
  ⟨1, base .run, by decide⟩

theorem witness_FaultAck_4 : ∃ (v : Word) (o : OpenRec) (s : State), s.flt.rec? = some o ∧
    (v.toNat ≠ o.r.recno % 65536 ∨ o.r.cls = .stop ∨ o.r.cls = .cut ∨ (o.r.cls = .note ∧ o.written = false) ∨ (o.r.cls = .loc ∧
    s.localDone o.r.recno = false)) :=
  ⟨1, openRec .stop, { base .run with flt := { on := true, rec? := some (openRec .stop) } }, by decide⟩

theorem witness_FaultAck_6 : ∃ (t : Nat) (v : Word) (o : OpenRec) (s : State), s.cp.on = true ∧ s.flt.rec? = some o ∧
    ((o.r.cls = .note ∧ o.written = true) ∨ (o.r.cls = .loc ∧ s.localDone o.r.recno = true)) ∧ v.toNat = o.r.recno % 65536 :=
  ⟨0, 1, openRec .note, { base .load with flt := { on := true, rec? := some (openRec .note) } }, by decide⟩

theorem witness_AlertClear_1 : ∃ (t : Nat) (v : Word) (n : Fin 16) (s : State), s.cp.on = true ∧ bit s.cp.alertSrc n = true ∧
    ((s.cp.alertAt = Nat.max s.now t ∧ bit s.cp.alertNow n = true) ∨ bit v.toNat n = false) :=
  ⟨0, 1, 0, { base .run with cp := { on := true, alertSrc := 1, alertNow := 1 } }, by decide⟩

theorem witness_AlertClear_2 : ∃ (t : Nat) (v : Word) (n : Fin 16) (s : State), s.cp.on = true :=
  ⟨0, 1, 0, { base .load with cp := { on := true, alertSrc := 1 } }, by decide⟩

theorem witness_RegisterWrites_1 : ∃ (t : Nat) (v : Word) (s : State), s.cp.on = true :=
  ⟨0, 7, base .run, by decide⟩

theorem witness_RegisterWrites_2 : ∃ (t : Nat) (v : Word) (s : State), s.cp.on = true :=
  ⟨0, 7, base .run, by decide⟩

theorem witness_RegisterWrites_3 : ∃ (t : Nat) (w : Fin 64) (v : Word) (s : State), s.cp.on = true :=
  ⟨0, 5, 0x1234, base .run, by decide⟩

theorem witness_RegisterWrites_4 : ∃ (t : Nat) (v : Word) (s : State), s.cp.on = true :=
  ⟨0, 0x8001, base .run, by decide⟩

theorem witness_RegisterWrites_5 : ∃ (t : Nat) (v : Word) (s : State), s.cp.on = true :=
  ⟨0, 15, base .run, by decide⟩

theorem witness_RegisterWrites_6 : ∃ (t : Nat) (v : Word) (s : State), s.cp.on = true ∧ s.cp.mbx = none ∧
    mbxCodes.any (· == v.toNat % 256) = true :=
  ⟨0, 1, base .run, by decide⟩

theorem witness_RegisterWrites_7 : ∃ (t : Nat) (v : Word) (m : Mbx) (s : State), s.cp.on = true ∧ s.cp.mbx = some m :=
  ⟨0, 1, mbx 1, mailOf .run (mbx 1), by decide⟩

theorem witness_RegisterWrites_8 : ∃ (t : Nat) (a : Byte) (v : Word) (s : State), s.cp.on = true ∧ s.field = true ∧
    0x80 ≤ a.toNat ∧ lkReg s.cp.page a.toNat = true :=
  ⟨0, 0x86, 0, { inLife .run 3 with cp := { on := true, page := 2 } }, by decide⟩

theorem witness_RegisterWrites_9 : ∃ (t : Nat) (v : Word) (s : State), s.cp.on = true ∧ s.cp.page = 11 ∧ s.field = false ∧
    s.clk.rs ≠ .maint :=
  ⟨0, 45, { base .run with cp := { on := true, page := 11 } }, by decide⟩

theorem witness_RegisterWrites_10 : ∃ (t : Nat) (v : Word) (s : State), s.cp.on = true ∧ s.cp.page = 0 ∧ s.clk.rs ≠ .maint :=
  ⟨0, 0x5AFE, { base .run with cp := { on := true, page := 0 } }, by decide⟩

theorem witness_RegisterWrites_11 : ∃ (t : Nat) (a : Byte) (v : Word) (s : State), s.cp.on = true ∧ 14 ≤ s.cp.page ∧
    0x80 ≤ a.toNat :=
  ⟨0, 0x80, 1, { base .run with cp := { on := true, page := 14 } }, by decide⟩

theorem witness_Frames_1 : ∃ (t c : Nat) (h l h2 l2 : Byte) (s : State), s.cp.on = true ∧ (s.upTo t).frameEarly c = false :=
  ⟨0, 0, 1, 2, 3, 4, base .run, by decide⟩

theorem witness_Frames_2 : ∃ (t c : Nat) (h l h2 l2 : Byte) (s : State), s.cp.on = true ∧ (s.upTo t).frameEarly c = false :=
  ⟨0, 0, 1, 2, 3, 4, base .run, by decide⟩

theorem witness_Frames_3 : ∃ (t c : Nat) (h l k : Byte) (s : State), s.cp.on = true ∧ k ≠ crc8 [0x00, 0x18, h, l] :=
  ⟨0, 0, 1, 2, ~~~ (crc8 [0x00, 0x18, 1, 2]), base .run, by decide⟩

theorem witness_Frames_4 : ∃ (t c x : Nat) (bytes : List Byte) (s : State), s.cp.on = true ∧
    (x ≠ 0 ∨ bytes.length ≠ 3 + 2 * frameN (byteAt bytes 0) ∨ frameRd (byteAt bytes 0) = true) :=
  ⟨0, 0, 1, [], base .run, by decide⟩

theorem witness_Frames_5 : ∃ (t c n e : Nat) (h l : Byte) (s : State), s.cp.on = true ∧ s.cp.wrEnd = some (e, n) ∧
    c < e + 200 + 50 * n :=
  ⟨10, 5, 1, 0, 1, 2, { base .run with cp := { on := true, wrEnd := some (0, 1) } }, by decide⟩

theorem witness_Frames_6 : ∃ (t c turn : Nat) (s : State), s.cp.on = true ∧ (s.upTo t).frameEarly c = false ∧ 1100 ≤ turn :=
  ⟨0, 0, 1100, base .run, by decide⟩

theorem witness_Frames_7 : ∃ (t c turn bits : Nat) (k : Byte) (s : State), s.cp.on = true ∧ k ≠ crc8 [0x80, 0x18] :=
  ⟨0, 0, 0, 0, ~~~ (crc8 [0x80, 0x18]), base .run, by decide⟩

theorem witness_ShortTurnaround_1 : ∃ (t c turn bits cmd : Nat) (a : Byte) (s : State), s.cp.on = true ∧
    (s.upTo t).frameEarly c = false ∧ 0x80 ≤ cmd ∧ cmd < 0x100 ∧ frameOver cmd a.toNat = false ∧
    turn < 1000 + 50 * frameN cmd :=
  ⟨0, 0, 1049, 48, 0x80, 0x18, base .run, by decide⟩

theorem witness_MailboxCommands_1 : ∃ (t : Nat) (m : Mbx) (s : State), s.inHand 0x01 m :=
  ⟨0, mbx 1, mailOf .run (mbx 1), by unfold State.inHand; decide⟩

theorem witness_MailboxCommands_2 : ∃ (t : Nat) (m : Mbx) (s : State), s.inHand 0x02 m :=
  ⟨0, mbx 2, mailOf .run (mbx 2), by unfold State.inHand; decide⟩

theorem witness_MailboxCommands_3 : ∃ (t : Nat) (m : Mbx) (s : State), s.inHand 0x10 m :=
  ⟨0, mbx 0x10, mailOf .run (mbx 0x10), by unfold State.inHand; decide⟩

theorem witness_MailboxCommands_4 : ∃ (t : Nat) (m : Mbx) (s : State), s.inHand 0x11 m :=
  ⟨0, mbx 0x11, mailOf .maint (mbx 0x11), by unfold State.inHand; decide⟩

theorem witness_MailboxCommands_5 : ∃ (t : Nat) (m : Mbx) (s : State), s.inHand 0x30 m ∧ s.yard.committed = true :=
  ⟨0, { mbx 0x30 with arg1 := 0x101 }, { mailOf .run { mbx 0x30 with arg1 := 0x101 } with yard := { committed := true, ports := [{ on := true, up := true }, {}, {}] } }, by unfold State.inHand; decide⟩

theorem witness_MailboxCommands_6 : ∃ (t src : Nat) (l : List Byte) (rest : List (Nat × List Byte)) (m : Mbx) (s : State), s.inHand 0x31 m ∧
    s.yard.committed = true ∧ s.yard.mrecv = (src, l) :: rest :=
  ⟨0, 0, [], [], mbx 0x31, { mailOf .run (mbx 0x31) with yard := { committed := true, mrecv := [(0, [])] } }, by unfold State.inHand; decide⟩

theorem witness_MailboxCommands_7 : ∃ (t : Nat) (m : Mbx) (s : State), s.inHand 0x31 m ∧ s.yard.committed = true ∧
    s.yard.mrecv = [] :=
  ⟨0, mbx 0x31, { mailOf .run (mbx 0x31) with yard := { committed := true } }, by unfold State.inHand; decide⟩

theorem witness_ImageCommands_1 : ∃ (t : Nat) (m : Mbx) (s : State), s.inHand 0x20 m ∧ s.clk.rs = .maint :=
  ⟨0, mbx 0x20, mailOf .maint (mbx 0x20), by unfold State.inHand; decide⟩

theorem witness_ImageCommands_2 : ∃ (t kind : Nat) (m : Mbx) (s : State), s.inHand 0x21 m ∧ s.mram.wf = true ∧
    s.clk.rs = .maint ∧ s.img.seqOpen = some kind ∧ 1 ≤ m.arg1.toNat % 256 ∧ m.arg1.toNat % 256 ≤ 128 ∧
    m.arg1.toNat % 256 ≤ m.buf.length ∧ m.arg0.toNat * 128 + m.arg1.toNat % 256 ≤ bankSize kind :=
  ⟨0, 0, mbx 0x21, { mailOf .maint (mbx 0x21) with img := { loft := true, seqOpen := some 0 } }, by unfold State.inHand; decide⟩

theorem witness_ImageCommands_3 : ∃ (t kind : Nat) (m : Mbx) (s : State), s.inHand 0x21 m ∧ s.clk.rs = .maint ∧
    s.img.seqOpen = some kind ∧
    (m.arg1.toNat % 256 = 0 ∨ 128 < m.arg1.toNat % 256 ∨ bankSize kind < m.arg0.toNat * 128 + m.arg1.toNat % 256) :=
  ⟨0, 0, { mbx 0x21 with arg1 := 0 }, { mailOf .maint { mbx 0x21 with arg1 := 0 } with img := { loft := true, seqOpen := some 0, verified := true } }, by unfold State.inHand; decide⟩

theorem witness_ImageCommands_4 : ∃ (t kind : Nat) (m : Mbx) (s : State), s.inHand 0x22 m ∧ s.clk.rs = .maint ∧
    s.img.seqOpen = some kind :=
  ⟨0, 0, mbx 0x22, { mailOf .maint (mbx 0x22) with img := { loft := true, seqOpen := some 0 } }, by unfold State.inHand; decide⟩

theorem witness_ImageCommands_5 : ∃ (t : Nat) (kind : Fin 2) (b : LoadObs) (m : Mbx) (s : State), s.inHand 0x23 m ∧
    s.mram.wf = true ∧ s.clk.rs = .maint ∧ s.img.seqOpen = some kind.val ∧ s.img.verified = true :=
  ⟨0, 0, {}, mbx 0x23, { mailOf .maint (mbx 0x23) with img := { loft := true, seqOpen := some 0, verified := true } }, by unfold State.inHand; decide⟩

theorem witness_ImageCommands_6 : ∃ (t kind : Nat) (b : LoadObs) (m : Mbx) (s : State), s.inHand 0x23 m ∧ s.clk.rs = .maint ∧
    s.img.seqOpen = some kind ∧ s.img.verified = false :=
  ⟨0, 1, {}, mbx 0x23, { mailOf .maint (mbx 0x23) with img := { loft := true, seqOpen := some 1 } }, by unfold State.inHand; decide⟩

theorem witness_ImageCommands_7 : ∃ (t : Nat) (m : Mbx) (s : State), s.inHand 0x20 m ∧ (s.clk.rs = .run ∨ s.clk.rs = .safe) :=
  ⟨0, mbx 0x20, mailOf .run (mbx 0x20), by unfold State.inHand; decide⟩

theorem witness_ImageCommands_8 : ∃ (t : Nat) (m : Mbx) (s : State), s.inHand 0x21 m ∧ (s.clk.rs = .run ∨ s.clk.rs = .safe) :=
  ⟨0, mbx 0x21, mailOf .run (mbx 0x21), by unfold State.inHand; decide⟩

theorem witness_ImageCommands_9 : ∃ (t : Nat) (m : Mbx) (s : State), s.inHand 0x22 m ∧ (s.clk.rs = .run ∨ s.clk.rs = .safe) :=
  ⟨0, mbx 0x22, mailOf .run (mbx 0x22), by unfold State.inHand; decide⟩

theorem witness_ImageCommands_10 : ∃ (t : Nat) (b : LoadObs) (m : Mbx) (s : State), s.inHand 0x23 m ∧
    (s.clk.rs = .run ∨ s.clk.rs = .safe) :=
  ⟨0, {}, mbx 0x23, mailOf .run (mbx 0x23), by unfold State.inHand; decide⟩

theorem witness_LifeCycle_1 : ∃ (t : Nat) (m : Mbx) (s : State), s.inHand 0x40 m ∧ s.img.erasing = false ∧ s.clk.rs = .maint ∧
    s.img.lc = lcBlank ∧ m.arg0.toNat % 16 = lcDevelop :=
  ⟨0, { mbx 0x40 with arg0 := 3 }, mailOf .maint { mbx 0x40 with arg0 := 3 }, by unfold State.inHand; decide⟩

theorem witness_LifeCycle_2 : ∃ (t : Nat) (m : Mbx) (s : State), s.inHand 0x40 m ∧ s.img.erasing = false ∧ s.clk.rs = .maint ∧
    s.img.lc = lcDevelop ∧ m.arg0.toNat % 16 = lcField ∧ s.keyBurnable = true :=
  ⟨0, { mbx 0x40 with arg0 := 7 }, { mailOf .maint { mbx 0x40 with arg0 := 7 } with img := { loft := true, fuses := fuses 2, keyEnr := some [] }, mram := Mem.writeN [] (commitSlot 0 0) (commitRecBytes 0 0 1 0 []) }, by unfold State.inHand; decide⟩

theorem witness_LifeCycle_3 : ∃ (t : Nat) (m : Mbx) (s : State), s.inHand 0x40 m ∧ s.img.erasing = false ∧ s.clk.rs = .maint ∧
    s.img.lc = lcDevelop ∧ m.arg0.toNat % 16 = lcField ∧ s.keyBurnable = false :=
  ⟨0, { mbx 0x40 with arg0 := 7 }, { mailOf .maint { mbx 0x40 with arg0 := 7 } with img := { loft := true, fuses := fuses 2 } }, by unfold State.inHand; decide⟩

theorem witness_LifeCycle_4 : ∃ (t : Nat) (m : Mbx) (s : State), s.inHand 0x40 m ∧ s.img.erasing = false ∧ s.clk.rs = .maint ∧
    s.img.lc = lcField ∧ m.arg0.toNat % 16 = lcReturn :=
  ⟨0, { mbx 0x40 with arg0 := 0xF }, { mailOf .maint { mbx 0x40 with arg0 := 0xF } with img := { loft := true, fuses := fuses 3 } }, by unfold State.inHand; decide⟩

theorem witness_LifeCycle_5 : ∃ (t : Nat) (m : Mbx) (s : State), s.inHand 0x40 m ∧ s.img.erasing = false ∧ s.clk.rs = .maint ∧
    s.img.lc ≠ 0 ∧ m.arg0.toNat % 16 = 0 :=
  ⟨0, mbx 0x40, mailOf .maint (mbx 0x40), by unfold State.inHand; decide⟩

theorem witness_LifeCycle_6 : ∃ (t : Nat) (m : Mbx) (s : State), s.inHand 0x40 m ∧ s.img.erasing = false ∧ s.clk.rs = .maint ∧
    m.arg0.toNat % 16 ≠ 0 ∧ ¬ (s.img.lc = lcBlank ∧ m.arg0.toNat % 16 = lcDevelop) ∧ ¬ (s.img.lc = lcDevelop ∧
    m.arg0.toNat % 16 = lcField) ∧ ¬ (s.img.lc = lcField ∧ m.arg0.toNat % 16 = lcReturn) :=
  ⟨0, { mbx 0x40 with arg0 := 9 }, mailOf .maint { mbx 0x40 with arg0 := 9 }, by unfold State.inHand; decide⟩

theorem witness_LifeCycle_7 : ∃ (t : Nat) (m : Mbx) (s : State), s.inHand 0x40 m ∧ s.img.erasing = false ∧ s.clk.rs ≠ .maint :=
  ⟨0, mbx 0x40, mailOf .run (mbx 0x40), by unfold State.inHand; decide⟩

theorem witness_LifeCycle_8 : ∃ (t : Nat) (v : Word) (s : State), s.live = true ∧ s.lcDebug = true ∧ s.spookState = true ∧
    bit v.toNat 0 = true :=
  ⟨0, 1, inLife .run 2, by decide⟩

theorem witness_LifeCycle_9 : ∃ (t : Nat) (v : Word) (s : State), s.live = true ∧ s.lcDebug = true ∧ bit v.toNat 0 = false :=
  ⟨0, 0, inLife .run 2, by decide⟩

theorem witness_LifeCycle_10 : ∃ (t : Nat) (v : Word) (s : State), s.lcDebug = false :=
  ⟨0, 1, base .run, by decide⟩

theorem witness_StepRunsFront_2 : ∃ (s : State), s.pending = [] :=
  ⟨State.reset, by decide⟩

theorem witness_OutputsAlwaysFollow_1 : ∃ s', exec (.tapReset 0) (outOf { used := true, p := { cmd := true, gate := true } }) = .next s' ∧
0 < s'.sout.outs.length ∧ ((s'.out 0).leg .p).pad = true := ⟨_, rfl, by decide⟩

theorem witness_StepKeeps_1 : ∃ s', step { base .run with pending := [.idcode 7] } = .next s' := ⟨_, rfl⟩

theorem witness_SafeHolds_1 : ∃ s', (Instr.idcode 0).fromOutside = true ∧ (base .safe).clk.rs = .safe ∧
exec (.idcode 0) (base .safe) = .next s' := ⟨_, rfl, rfl, rfl⟩

theorem witness_RegfileCorrected_2 : ∃ (t : Nat) (c : Fin 2) (s : State), s.kennelRuns = true ∧ s.chanB = false :=
  ⟨0, 0, base .load, by decide⟩

theorem witness_FrameInputs_1 : ∃ s', exec (.filterExpiry 0 0 .a) (pairOf { mode := 1, va := { a := { run := some 0 } } }) = .next s' := ⟨_, rfl⟩

theorem witness_FrameInputs_2 : ∃ s', exec (.darkPulseStart 0 0) (lineOf { on := true } {}) = .next s' := ⟨_, rfl⟩

theorem witness_FrameOutputs_1 : ∃ s', exec (.switchOnWindowEnd 0 0) (outOf { used := true, win := some 0 }) = .next s' := ⟨_, rfl⟩

theorem witness_FrameOutputs_2 : ∃ s', exec (.outputFaultClear 100000001 0) (outOf { used := true, force := true, off := some 0 }) = .next s' := ⟨_, rfl⟩

theorem witness_FrameOutputs_3 : ∃ s', exec (.barkMon 375001 .a) (base .run) = .next s' := ⟨_, rfl⟩

theorem witness_FrameOutputs_4 : ∃ s', exec (.donExpiry 0 0 0) (sheetOf .run [0x23] { since := some 0 }) = .next s' := ⟨_, rfl⟩

theorem witness_FrameCollar_1 : ∃ s', exec (.beaconReport 0 0 (portFrame 3 0 [])) (radioOf .run { on := true }) = .next s' := ⟨_, rfl⟩

theorem witness_FrameCollar_2 : ∃ s', exec (.radioPoll 125000 0) (radioOf .run { on := true }) = .next s' := ⟨_, rfl⟩

theorem witness_FrameCollar_3 : ∃ s', exec (.refreshMissed 2000000 0) (slotOf { bound := true, k := 1, b := { ds := .live } }) = .next s' := ⟨_, rfl⟩

theorem witness_FrameYard_1 : ∃ s', exec (.linkError 0 0) (yardOf .run { on := true } {}) = .next s' := ⟨_, rfl⟩

theorem witness_FrameYard_2 : ∃ s', exec (.timeExchangeStart 0 1) (yardOf .run {} { up := true }) = .next s' := ⟨_, rfl⟩

theorem witness_FramePair_1 : ∃ s', exec (.status 0) (inLife .run 2) = .next s' := ⟨_, rfl⟩

theorem witness_FramePair_2 : ∃ s', exec (.rotctlNow 0 1) (inLife .run 2) = .next s' := ⟨_, rfl⟩

theorem witness_FramePair_3 : (base .load).chanB = false ∧ ∃ s', exec (.idcode 0) (base .load) = .next s' := ⟨by decide, _, rfl⟩

theorem witness_FramePair_4 : ∃ s', exec (.vinWarn 0) (base .run) = .next s' := ⟨_, rfl⟩

theorem witness_FramePair_5 : ∃ s', exec (.crystalRunning 0) (base .boot) = .next s' := ⟨_, rfl⟩

theorem witness_FrameHost_1 : ∃ s', exec (.imgBegin 0) (mailOf .maint (mbx 0x20)) = .next s' := ⟨_, rfl⟩

theorem witness_FrameHost_2 : ∃ s', exec (.echo 0) (mailOf .run (mbx 1)) = .next s' := ⟨_, rfl⟩

theorem witness_FrameHost_3 : ∃ s', exec (.ridx 0 4) (base .run) = .next s' := ⟨_, rfl⟩

theorem witness_FrameHost_4 : ∃ s', exec (.go 0 1) ({ base .maint with farr := { sel := 4 } }) = .next s' := ⟨_, rfl⟩

theorem witness_FrameHost_5 : ∃ s', exec (.probeWrite 0 0x90 5) (base .run) = .next s' := ⟨_, rfl⟩

theorem witness_FrameHost_6 : ∃ s', exec (.spookEn 0 1) (inLife .run 2) = .next s' := ⟨_, rfl⟩

theorem witness_FrameHost_7 : ∃ s', exec (.scrubReload 0 3) (base .run) = .next s' := ⟨_, rfl⟩
end Sys2Proof.Tests
end

section
/-!
PROOF. O54: a corrected register-file error counts in ECCCNT of its core and does nothing else (R210).
-/
namespace Sys2Proof.Machine

/-! ## A command's whole outcome where channel B does not evaluate -/

theorem State.alertIf_quiet (s : State) (b : Bool) (n : Nat) : s.Quiet (if b then s.alert n else s) := by
  split
  · exact s.alert_quiet n
  · exact .refl s

theorem State.alertPin_quiet (s : State) : s.Quiet s.alertPin :=
  .of_same rfl rfl rfl rfl rfl rfl rfl rfl rfl rfl rfl rfl rfl rfl rfl

/-- The alerts of a change of state reach the control port alone. -/
theorem State.watch_quiet (old s : State) : s.Quiet (old.watch s) := by
  unfold State.watch
  exact (((((((s.alertIf_quiet _ 2).trans (State.alertIf_quiet _ _ 3)).trans (State.alertIf_quiet _ _ 12)).trans
    (State.alertIf_quiet _ _ 13)).trans (State.alertIf_quiet _ _ 14)).trans (State.alertIf_quiet _ _ 15)).trans
    (State.alertPin_quiet _))

/-- A command's effect passes into the next state through settling and the alerts, both quiet where channel B does not
evaluate after the effect. -/
theorem actAt_quiet (tick : Bool) (t : Nat) (s : State) (f : State → State) (h : (f (s.upTo t)).chanB = false) :
    ∃ s', actAt tick t s f = .next s' ∧ (f (s.upTo t)).Quiet s' :=
  ⟨_, rfl, (State.settleAt_quiet _ tick h).trans (State.watch_quiet s _)⟩

/-- KRAM_PATROL where the kennel runs: the next state keeps what the errors met have made of the quiet fields. -/
theorem exec_kramPatrol_quiet (t : Nat) (errs : List EccEvent) (s : State) (hk : s.kennelRuns = true)
    (hb : ((s.upTo t).eccAll errs).chanB = false) :
    ∃ s', exec (.kramPatrol t errs) s = .next s' ∧ ((s.upTo t).eccAll errs).Quiet s' := by
  have hrun : (s.upTo t).kennelRuns = true := hk
  have hact := actAt_quiet false t s (fun s => if s.kennelRuns then s.eccAll errs else s)
  simp only [hrun, if_true] at hact
  exact hact hb

/-! ## ECCCNT -/

/-- A corrected register-file error of a core, counted in its byte of PAIR.ECCCNT. -/
def Pair.countEcc (p : Pair) (c : Fin 2) : Pair :=
  if c.val = 0 then { p with ecc0 := sat8 p.ecc0 } else { p with ecc1 := sat8 p.ecc1 }

/-- Counting leaves the arrangement as it was. -/
@[simp] theorem Pair.countEcc_split (p : Pair) (c : Fin 2) : (p.countEcc c).split = p.split := by
  unfold Pair.countEcc
  split <;> rfl

/-- A corrected register-file error is its count and nothing else (R210). -/
theorem State.ecc_regfile_corrected (s : State) (c : Fin 2) :
    s.ecc { place := .regfile c, corrected := true } = { s with pair := s.pair.countEcc c } := by
  unfold Pair.countEcc
  by_cases hc : c.val = 0
  · simp [State.ecc, hc]
  · simp [State.ecc, hc]

/-- Counting does not set channel B going. -/
theorem State.chanB_countEcc (s : State) (c : Fin 2) :
    State.chanB { s with pair := s.pair.countEcc c } = s.chanB := by
  simp [State.chanB]

/-- KRAM_PATROL with one corrected register-file error counts it, and raises nothing. -/
theorem exec_kramPatrol_regfile_corrected (t : Nat) (c : Fin 2) (s : State) (hk : s.kennelRuns = true) (hb : s.chanB = false) :
    ∃ s', exec (.kramPatrol t [{ place := .regfile c, corrected := true }]) s = .next s' ∧ s'.flt.fstat = s.flt.fstat ∧
      s'.pair = s.pair.countEcc c := by
  have hecc : (s.upTo t).eccAll [{ place := .regfile c, corrected := true }] = { s.upTo t with pair := s.pair.countEcc c } :=
    (s.upTo t).ecc_regfile_corrected c
  have hb' : ((s.upTo t).eccAll [{ place := .regfile c, corrected := true }]).chanB = false := by
    rw [hecc]
    exact ((s.upTo t).chanB_countEcc c).trans hb
  obtain ⟨s', hexec, hquiet⟩ := exec_kramPatrol_quiet t _ s hk hb'
  rw [hecc] at hquiet
  exact ⟨s', hexec, hquiet.fstat, hquiet.pair⟩

/-- Settles O54: the error is its count on the state alone, and the sweep that meets it settles and alerts without touching FSTAT
or the pair. -/
theorem regfileCorrected : Obligations.RegfileCorrected :=
  ⟨fun c s => s.ecc_regfile_corrected c, exec_kramPatrol_regfile_corrected⟩

end Sys2Proof.Machine
end

section
/-!
PROOF. O38: FSTAT is write 1 to clear under its two conditions (R335).
-/
namespace Sys2Proof.Machine

/-! ## Bits -/

/-- Taking from a number its bits under a mask clears those bits alone: no borrow reaches another bit. -/
theorem bit_sub_and (x m n : Nat) : bit (x - (x &&& m)) n = (bit x n && !bit m n) := by
  unfold bit
  induction n generalizing x m with
  | zero =>
    have hle : x &&& m ≤ x := Nat.and_le_left
    have hlow : (x &&& m) % 2 = 1 ↔ x % 2 = 1 ∧ m % 2 = 1 := Nat.and_mod_two_eq_one
    have hodd : (x - (x &&& m)) % 2 = 1 ↔ x % 2 = 1 ∧ ¬ m % 2 = 1 := by omega
    simp only [Nat.testBit_zero, hodd, Bool.decide_and, decide_not]
  | succ n ih =>
    have hhalf : (x - (x &&& m)) / 2 = x / 2 - (x / 2 &&& m / 2) := by
      have hle : x / 2 &&& m / 2 ≤ x / 2 := Nat.and_le_left
      have hdiv : (x &&& m) / 2 = x / 2 &&& m / 2 := Nat.and_div_two
      have hlow : (x &&& m) % 2 = 1 ↔ x % 2 = 1 ∧ m % 2 = 1 := Nat.and_mod_two_eq_one
      omega
    rw [Nat.testBit_succ, Nat.testBit_succ, Nat.testBit_succ, hhalf, ih]

theorem bit_and (a b n : Nat) : bit (a &&& b) n = (bit a n && bit b n) := Nat.testBit_and a b n

/-- The complement of a number in 64 bits. -/
theorem bit_compl64 (x b : Nat) (hb : b < 64) : bit (2 ^ 64 - 1 - x % 2 ^ 64) b = !bit x b := by
  have hlt : x % 2 ^ 64 < 2 ^ 64 := Nat.mod_lt _ (by decide)
  rw [Nat.sub_sub, Nat.add_comm 1, bit, Nat.testBit_two_pow_sub_succ hlt, Nat.testBit_mod_two_pow]
  simp [bit, hb]

/-- A bitmap shows entry n at bit n, and 0 beyond its entries. -/
theorem bit_bitmap (l : List Bool) (n : Nat) : bit (bitmap l) n = l[n]?.getD false := by
  unfold bit
  induction l generalizing n with
  | nil => simp [bitmap]
  | cons b bs ih =>
    cases n with
    | zero => cases b <;> simp [bitmap, flag]
    | succ n =>
      have hhalf : bitmap (b :: bs) / 2 = bitmap bs := by
        have hflag : flag b < 2 := by cases b <;> decide
        rw [bitmap]
        omega
      rw [Nat.testBit_succ, hhalf, ih, List.getElem?_cons_succ]

/-! ## A register write while the control port answers -/

/-- The write takes effect at its instant, and the part settles. -/
theorem act_onPort (t : Nat) (s : State) (f : State → State) (hon : s.cp.on = true) :
    act t s (fun s => s.onPort f) = .next (s.watch (f (s.upTo t)).settle) := by
  simp [act, actAt, State.onPort, State.settle, hon]

theorem exec_fstatClear (t : Nat) (r : Fin 4) (v : Word) (s : State) (hon : s.cp.on = true) :
    exec (.fstatClear t r v) s = .next (s.watch ((s.upTo t).fstatWrite r v).settle) := act_onPort t s _ hon

/-! ## FSTAT -/

/-- Of the 41 sources, those are held that are active or part of the open record. -/
theorem State.bit_fstatHeld (s : State) (b : Nat) (hb : b < 41) : bit s.fstatHeld b = (s.active b ||
    s.flt.rec?.any (fun o => bit o.r.srcmap b)) := by
  have hact : bit (bitmap ((List.range 41).map s.active)) b = s.active b := by simp [bit_bitmap, hb]
  unfold State.fstatHeld
  rw [bit_or, hact]
  cases s.flt.rec? <;> simp [bit]

/-- A write clears the bits that are written 1 and not held. -/
theorem State.bit_fstatWrite (s : State) (r : Nat) (v : Word) (b : Nat) (hb : b < 64) : bit (s.fstatWrite r v).flt.fstat b =
    (bit s.flt.fstat b && !(bit (v.toNat * 2 ^ (16 * r)) b && !bit s.fstatHeld b)) := by
  show bit (s.flt.fstat - (s.flt.fstat &&& v.toNat * 2 ^ (16 * r) &&& (2 ^ 64 - 1 - s.fstatHeld % 2 ^ 64))) b = _
  rw [Nat.and_assoc, bit_sub_and, bit_and, bit_compl64 _ _ hb]

/-- A bit that the write leaves set is set in the next state: settling clears none. -/
theorem State.fstatWrite_settles_set (old s : State) (r : Nat) (v : Word) (b : Nat) (h : bit (s.fstatWrite r v).flt.fstat b = true) :
    bit (old.watch (s.fstatWrite r v).settle).flt.fstat b = true := by
  rw [(State.watch_quiet old _).fstat]
  exact (State.settleAt_worse _ false).fstat b h

/-- What the write has made of FSTAT stays where channel B does not evaluate: nothing is raised. -/
theorem State.fstatWrite_settles_quiet (old s : State) (r : Nat) (v : Word) (h : s.chanB = false) :
    (old.watch (s.fstatWrite r v).settle).flt.fstat = (s.fstatWrite r v).flt.fstat :=
  ((State.settleAt_quiet (s.fstatWrite r v) false h).trans (State.watch_quiet old _)).fstat

/-- Settles O38: the write takes a submask from FSTAT, so it is bitwise, and what follows it in the next state clears no bit. -/
theorem fstatClear : Obligations.FstatClear := by
  refine ⟨fun t r v s hon => ⟨_, exec_fstatClear t r v s hon, rfl⟩, fun b r v s hb => ?_, fun _ _ _ => rfl,
    fun t b r v s hon hb => ⟨_, exec_fstatClear t r v s hon, fun hset hstay => ?_, fun hB => ?_⟩⟩
  · rw [s.bit_fstatWrite r v b (by omega), s.bit_fstatHeld b hb]
    cases s.flt.rec? <;> simp [Bool.and_assoc]
  · apply State.fstatWrite_settles_set
    rw [(s.upTo t).bit_fstatWrite r v b hb, State.upTo_flt, hset]
    rcases hstay with hzero | hheld
    · simp [hzero]
    · simp [hheld]
  · rw [State.fstatWrite_settles_quiet s (s.upTo t) r v hB, (s.upTo t).bit_fstatWrite r v b hb, State.upTo_flt]

end Sys2Proof.Machine
end

section
/-!
PROOF. O39: FAULT.ACK closes the open record whose reaction is complete, and nothing else (R350).
-/
namespace Sys2Proof.Machine

/-! ## What a write to FAULT.ACK does -/

theorem exec_faultAck (t : Nat) (v : Word) (s : State) (hon : s.cp.on = true) :
    exec (.faultAck t v) s = .next (s.watch ((s.upTo t).ackWrite v).settle) := act_onPort t s _ hon

/-- The host may acknowledge the open record: a NOTE that is written, or a LOCAL whose reaction is complete. -/
def State.ackable (s : State) (o : OpenRec) : Bool :=
  (o.r.cls == .note && o.written) || (o.r.cls == .loc && s.localDone o.r.recno)

theorem State.ackable_iff (s : State) (o : OpenRec) : s.ackable o = true ↔
    (o.r.cls = .note ∧ o.written = true) ∨ (o.r.cls = .loc ∧ s.localDone o.r.recno = true) := by simp [State.ackable]

theorem State.ackWrite_none (s : State) (v : Word) (h : s.flt.rec? = none) : s.ackWrite v = s := by
  simp [State.ackWrite, h]

theorem State.ackWrite_some (s : State) (v : Word) (o : OpenRec) (h : s.flt.rec? = some o) :
    s.ackWrite v = if s.ackable o && v.toNat == o.r.recno % 65536 then s.closeRecord else s := by
  cases hc : o.r.cls <;> simp [State.ackWrite, State.ackable, h, hc]

theorem State.ackWrite_closes (s : State) (v : Word) (o : OpenRec) (h : s.flt.rec? = some o) (ha : s.ackable o = true)
    (hv : v.toNat = o.r.recno % 65536) : s.ackWrite v = s.closeRecord := by
  simp [s.ackWrite_some v o h, ha, hv]

theorem State.ackWrite_ignored (s : State) (v : Word) (o : OpenRec) (h : s.flt.rec? = some o)
    (hno : v.toNat ≠ o.r.recno % 65536 ∨ s.ackable o = false) : s.ackWrite v = s := by
  rcases hno with hv | ha
  · simp [s.ackWrite_some v o h, hv]
  · simp [s.ackWrite_some v o h, ha]

theorem State.ackWrite_closes_or_ignored (s : State) (v : Word) : s.ackWrite v = s.closeRecord ∨ s.ackWrite v = s := by
  cases hrec : s.flt.rec? with
  | none => exact .inr (s.ackWrite_none v hrec)
  | some o =>
    rw [s.ackWrite_some v o hrec]
    split
    · exact .inl rfl
    · exact .inr rfl

/-! ## A record closes -/

@[simp] theorem State.closeRecord_rec (s : State) : s.closeRecord.flt.rec? = none := by
  unfold State.closeRecord
  split
  · simp
  · assumption

@[simp] theorem State.closeRecord_sh0 (s : State) : s.closeRecord.sh0 = s.sh0 := by
  unfold State.closeRecord
  split <;> simp

@[simp] theorem State.closeRecord_sh1 (s : State) : s.closeRecord.sh1 = s.sh1 := by
  unfold State.closeRecord
  split <;> simp

@[simp] theorem State.closeRecord_chanB (s : State) : s.closeRecord.chanB = s.chanB :=
  chanB_same s.closeRecord_quiet.clk s.closeRecord_quiet.pair

/-! ## Settling opens no record where channel B does not evaluate -/

@[simp] theorem State.mCommands_flt (s : State) : s.mCommands.flt = s.flt := by
  unfold State.mCommands
  split <;> rfl

@[simp] theorem State.monitor_flt (s : State) : s.monitor.flt = s.flt := by
  unfold State.monitor
  split <;> rfl

@[simp] theorem State.holdLine_rec (s : State) (src : Src) (a : Bool) : (s.holdLine src a).flt.rec? = s.flt.rec? := by
  unfold State.holdLine State.line
  cases a
  · simp only [Bool.false_eq_true, if_false]
    split <;> rfl
  · rfl

@[simp] theorem State.shortLine_rec (s : State) : s.shortLine.flt.rec? = s.flt.rec? := by simp [State.shortLine]

@[simp] theorem State.muzzle_flt (s : State) : s.muzzle.flt = s.flt := rfl

@[simp] theorem State.darkAbort_flt (s : State) : s.darkAbort.flt = s.flt := by
  unfold State.darkAbort
  (repeat' split) <;> rfl

@[simp] theorem State.pads_flt (s : State) : s.pads.flt = s.flt := by simp [State.pads]

theorem State.closing_none (s : State) (h : s.flt.rec? = none) : s.closing = s := by simp [State.closing, h]

@[simp] theorem State.item1_rec (s : State) : s.item1.flt.rec? = s.flt.rec? := by
  unfold State.item1
  dsimp only
  split <;> split <;> rfl

/-- Where channel B does not evaluate, settling raises no error, so no record opens. -/
theorem State.settleAt_rec_none (s : State) (tick : Bool) (hB : s.chanB = false) (h : s.flt.rec? = none) :
    (s.settleAt tick).flt.rec? = none := by
  have hB' : s.refs.openings.chanB = false := hB
  have hrec : s.refs.openings.openings.flt.rec? = none := h
  unfold State.settleAt
  rw [State.runB_quiet _ _ hB']
  dsimp only
  rw [State.item1_rec, State.closing_none] <;> simp [hrec]

/-- Settles O39: the write closes or ignores, closing keeps both sheets and with them every LOCAL, and nothing that follows opens
a record while channel B does not evaluate. -/
theorem faultAck : Obligations.FaultAck := by
  refine ⟨fun t v s hon => ⟨_, exec_faultAck t v s hon, rfl⟩,
    fun v o s h ha hv => ⟨s.ackWrite_closes v o h ((s.ackable_iff o).2 ha) hv, s.closeRecord_rec⟩,
    fun v s h => s.ackWrite_none v h, fun v o s h hno => ?_, fun v s => ?_,
    fun t v o s hon h ha hv => ⟨_, exec_faultAck t v s hon, fun hB => ?_⟩⟩
  · refine s.ackWrite_ignored v o h (hno.imp_right fun hcls => ?_)
    rcases hcls with hstop | hcut | ⟨hnote, hw⟩ | ⟨hloc, hd⟩
    · simp [State.ackable, hstop]
    · simp [State.ackable, hcut]
    · simp [State.ackable, hnote, hw]
    · simp [State.ackable, hloc, hd]
  · rcases s.ackWrite_closes_or_ignored v with he | he <;> simp [he]
  · have hclose : (s.upTo t).ackWrite v = (s.upTo t).closeRecord :=
      (s.upTo t).ackWrite_closes v o h (((s.upTo t).ackable_iff o).2 ha) hv
    have hsettled : (s.upTo t).closeRecord.settle.flt.rec? = none :=
      State.settleAt_rec_none _ false ((s.upTo t).closeRecord_chanB.trans hB) (s.upTo t).closeRecord_rec
    simpa [hclose] using hsettled

end Sys2Proof.Machine
end

section
/-!
PROOF. O40: settling can take a bit of ALERT_SRC back in the instant in which the event set it (R347 against R469).
-/
namespace Sys2Proof.Machine

theorem exec_alertSrcClear (t : Nat) (v : Word) (s : State) (hon : s.cp.on = true) :
    exec (.alertSrcClear t v) s = .next (s.watch ((s.upTo t).alertWrite v).settle) := act_onPort t s _ hon

/-- RUN, at instant 0. A NOTE of CP_PROTO was suppressed at this instant and set ALERT_SRC[7] (R351, R358); a record that opens in the
same COLL sample still takes it (R347). The one record of sheet 0 is an SDI of limit 0 for which channel B has counted a tooth:
MOT_LIMIT is due at channel B's next evaluation (R146). -/
def suppressedNoteAtLimit : State :=
  { seq := { por := false }, clk := { rs := .run }
    flt := { on := true, supNow := [(Src.cpProto.bit, 0)] }
    cp := { on := true, alertSrc := 2 ^ 7, alertNow := 2 ^ 7 }
    sh0 := { loaded := true, recs := [[0x12]], com := [{}], b := [{ cnt := 1 }] } }

/-- The write leaves ALERT_SRC[7] set; then MOT_LIMIT opens a record, which takes the NOTE and its alert with it. -/
theorem alertWrite_settle_takes_back :
    bit (suppressedNoteAtLimit.watch ((suppressedNoteAtLimit.upTo 0).alertWrite 0x80).settle).cp.alertSrc 7 = false := by decide

/-- Refutes O40: after a write of 1 to ALERT_SRC[7] in the instant of its event, the part settles, and a record that channel B's
MOT_LIMIT opens there takes the suppressed NOTE into itself and the bit back (R347); the first clause leaves this case no room. -/
theorem not_alertClear : ¬ Obligations.AlertClear := by
  intro ⟨hstays, _⟩
  have hon : suppressedNoteAtLimit.cp.on = true := rfl
  have hevent : suppressedNoteAtLimit.cp.alertAt = Nat.max suppressedNoteAtLimit.now 0 ∧
      bit suppressedNoteAtLimit.cp.alertNow 7 = true := by decide
  obtain ⟨s', hexec, hset⟩ := hstays 0 0x80 7 suppressedNoteAtLimit hon (by decide) (.inl hevent)
  cases (exec_alertSrcClear 0 0x80 suppressedNoteAtLimit hon).symm.trans hexec
  exact absurd (alertWrite_settle_takes_back.symm.trans hset) (by decide)

end Sys2Proof.Machine
end

section
/-!
PROOF. O43: a read frame with a short turnaround is answered with zeros and a wrong CRC, and counts as a frame error (R459 to R461).
-/
namespace Sys2Proof.Machine

theorem exec_readFrame (t c : Nat) (bytes : List Byte) (turn bits : Nat) (s : State) (hon : s.cp.on = true) :
    exec (.readFrame t c bytes turn bits) s = .next (s.watch ((s.upTo t).readEnd c bytes turn bits).settle) :=
  act_onPort t s _ hon

theorem frameRd_iff (cmd : Nat) (h : cmd < 0x100) : frameRd cmd = true ↔ 0x80 ≤ cmd := by
  unfold frameRd bit
  rw [Nat.testBit_eq_decide_div_mod_eq, decide_eq_true_eq]
  omega

/-- A frame error is counted and shown in the next status byte; what CP_SDO carried stays (R457, R461). -/
@[simp] theorem State.frameBad_error_cp (s : State) (addr : Nat) :
    (s.frameBad false addr).cp.st = 4 ∧ (s.frameBad false addr).cp.frmErr = sat8 s.cp.frmErr ∧
      (s.frameBad false addr).cp.sdo = s.cp.sdo := by
  simp [State.frameBad]

/-- A read frame of three bytes with a good CRC_H and no error before its turnaround is, for a short turnaround, a frame error (R459). -/
theorem State.readEnd_short (s : State) (c turn bits cmd : Nat) (a : Byte) (hrd : frameRd cmd = true) (hcmd : cmd < 0x100)
    (hearly : s.frameEarly c = false) (hover : frameOver cmd a.toNat = false) (hturn : turn < 1000 + 50 * frameN cmd) :
    s.readEnd c ([BitVec.ofNat 8 cmd, a] ++ [crc8 [BitVec.ofNat 8 cmd, a]]) turn bits =
      State.frameBad { s with cp := { s.cp with
        sdo := (readReply cmd a.toNat s.statusByte (List.replicate (2 * frameN cmd) 0) true).take (bits / 8) } } false a.toNat := by
  have hbyte0 : byteAt [BitVec.ofNat 8 cmd, a, crc8 [BitVec.ofNat 8 cmd, a]] 0 = cmd := by
    simp [byteAt, nth, Nat.mod_eq_of_lt hcmd]
  have hbyte1 : byteAt [BitVec.ofNat 8 cmd, a, crc8 [BitVec.ofNat 8 cmd, a]] 1 = a.toNat := rfl
  simp [State.readEnd, hbyte0, hbyte1, hrd, hearly, hover, hturn]

/-- After a short turnaround the reply ends with the complement of CRC_D (R460). -/
theorem readReply_short (cmd : Nat) (a st : Byte) (data : List Byte) : readReply cmd a.toNat st data true =
    [st, 0, 0] ++ data ++ [~~~ (crc8 ([BitVec.ofNat 8 cmd, a, st] ++ data))] := by
  simp [readReply]

/-- Settles O43: of the branches of a read frame's end the short turnaround is the one taken, and neither the error it raises nor the
settling changes the status bits, the count or what CP_SDO carried. -/
theorem shortTurnaround : Obligations.ShortTurnaround := by
  intro t c turn bits cmd a s hon hearly hlo hhi hover hturn
  refine ⟨_, exec_readFrame t c _ turn bits s hon, ?_⟩
  rw [State.readEnd_short _ c turn bits cmd a ((frameRd_iff cmd hhi).2 hlo) hhi hearly hover hturn, readReply_short]
  simp [State.settle]

end Sys2Proof.Machine
end

section
/-!
PROOF. O50 and O51: every command acts at its instant, and only the writers touch the MRAM or the antifuses.
-/
namespace Sys2Proof

/-- The commands that write the MRAM or burn antifuses. -/
def Instr.writes (c : Instr) : Bool :=
  c.writesMram || match c with
    | .lcAdvance _ => true
    | _ => false

end Sys2Proof

namespace Sys2Proof.Machine

/-! ## The operation of a command -/

/-- The command moves time to its instant, takes effect by an operation with the property, and lets the part settle. -/
def Acts (c : Instr) (P : (State → State) → Prop) : Prop :=
  ∃ tick f, (∀ s, exec c s = actAt tick c.time s f) ∧ P f

theorem Acts.act {c : Instr} {P : (State → State) → Prop} (f : State → State) (hp : P f)
    (h : exec c = fun s => act c.time s f := by rfl) : Acts c P := ⟨false, f, congrFun h, hp⟩

/-- The operation leaves the time, the MRAM, the queue and the antifuses. -/
def KeepsCore (f : State → State) : Prop := ∀ s, (f s).core = s.core

theorem KeepsCore.ite (c : State → Bool) {f g : State → State} (hf : KeepsCore f) (hg : KeepsCore g) :
    KeepsCore (fun s => if c s then f s else g s) := fun s => by
  dsimp only
  split
  · exact hf s
  · exact hg s

theorem KeepsCore.whenLive {f : State → State} (hf : KeepsCore f) : KeepsCore (fun s => whenLive s f) :=
  fun s => whenLive_core s f hf

theorem KeepsCore.whenAon {f : State → State} (hf : KeepsCore f) : KeepsCore (fun s => whenAon s f) :=
  fun s => whenAon_core s f hf

/-- One operation per command; none but a writer's touches the time, the MRAM, the queue or the antifuses. -/
theorem acts_keepsCore (c : Instr) (h : c.writes = false) : Acts c KeepsCore := by
  cases c with
  | powerOnResetRelease _ => exact .act State.porRelease State.porRelease_core
  | powerOnResetAssert _ => exact .act State.powerReset State.powerReset_core
  | upSequenceStart _ => exact .act (fun s => whenAon s State.upSequence) (KeepsCore.whenAon State.upSequence_core)
  | seqPgRise _ ch obs =>
    exact .act (fun s => whenAon s (fun s => (s.pgRise ch).coreDone.afterBoard obs))
      (KeepsCore.whenAon (fun s => ((State.afterBoard_core _ _).trans (State.coreDone_core _)).trans (s.pgRise_core _)))
  | settleExpiry _ ch obs =>
    exact .act (fun s => whenAon s (fun s => (s.settled ch).coreDone.afterBoard obs))
      (KeepsCore.whenAon (fun s => ((State.afterBoard_core _ _).trans (State.coreDone_core _)).trans (s.settled_core _)))
  | pgTimeout _ ch => exact .act (fun s => whenAon s (fun s => s.pgLate ch)) (KeepsCore.whenAon (State.pgLate_core · _))
  | seqPgFall _ ch width =>
    exact .act (fun s => whenAon s (fun s => if s.recognised width 1800 2000 then s.fresh.pgFall ch else s.fresh))
      (KeepsCore.whenAon (KeepsCore.ite _ (fun s => (s.fresh.pgFall_core _).trans s.fresh_core) State.fresh_core))
  | shdn _ value => exact .act (·.shdnWrite value) (State.shdnWrite_core · _)
  | dscTimeout _ ch => exact .act (fun s => whenAon s (fun s => s.dscLate ch)) (KeepsCore.whenAon (State.dscLate_core · _))
  | vinWarn _ => exact .act (fun s => whenAon s State.warn) (KeepsCore.whenAon State.warn_core)
  | vinOk _ => exact .act (fun s => whenAon s State.vinBack) (KeepsCore.whenAon State.vinBack_core)
  | vinAbandonEnd _ =>
    exact .act (fun s => whenAon s (fun s => { s with seq := { s.seq with belowAbandon := false } }))
      (KeepsCore.whenAon (fun _ => rfl))
  | resetNAssert _ width =>
    exact .act (fun s => if s.recognised width 1000 10000 then s.fresh.resetLow else s.fresh)
      (KeepsCore.ite _ (fun s => s.fresh.resetLow_core.trans s.fresh_core) State.fresh_core)
  | resetNRelease _ => exact .act State.resetHigh State.resetHigh_core
  | crystalStartTimeout _ => exact .act State.crystalLate State.crystalLate_core
  | rcCalibration _ khz => exact .act (·.calibrate khz) (State.calibrate_core · _)
  | bootComplete _ strap gateFail bank0 bank1 =>
    exact .act (·.bootDone strap gateFail bank0 bank1) (State.bootDone_core · _ _ _ _)
  | cmpinjEnd _ uncaught falseFlag => exact .act (·.injEnd uncaught falseFlag) (State.injEnd_core · _ _)
  | farrierTestStart _ => exact .act State.testStart State.testStart_core
  | farrierTestEnd _ pass result => exact .act (·.testEnd pass result) (State.testEnd_core · _ _)
  | loftStart _ => exact .act (fun s => s.loftStarts.mbxUnknown) (fun s => (State.mbxUnknown_core _).trans s.loftStarts_core)
  | lockwaitExpiry _ => exact .act State.lockLate State.lockLate_core
  | pllLossDetect _ idx dev => exact .act (·.clkWindow idx dev) (State.clkWindow_core · _ _)
  | clockEdgeMissing _ idx =>
    exact .act (fun s => if s.live && s.clk.mon then s.clkBad idx true false else s)
      (KeepsCore.ite _ (State.clkBad_core · _ _ _) (fun _ => rfl))
  | rcstop _ => exact .act State.rcStopped State.rcStopped_core
  | handshakeTimeout _ island waiter =>
    exact .act (fun s => whenLive s (fun s => s.handshakeLate island waiter))
      (KeepsCore.whenLive (State.handshakeLate_core · _ _))
  | fifoTransfer _ fifo =>
    exact .act (fun s => whenLive s (fun s => s.fifoMove fifo)) (KeepsCore.whenLive (State.fifoMove_core · _))
  | cycleBoundary t obs => exact ⟨true, (·.boundary obs), fun _ => rfl, (State.boundary_core · _)⟩
  | crossCheckCapture _ upsets => exact .act (·.capture upsets) (State.capture_core · _)
  | commandDeadline _ core => exact .act (·.deadlineCheck core) (State.deadlineCheck_core · _)
  | darkPulseStart _ line => exact .act (·.darkStart line) (State.darkStart_core · _)
  | checkSample _ line => exact .act (·.checkSample line) (State.checkSample_core · _)
  | darkPulseEnd _ line => exact .act (·.darkEnd line) (State.darkEnd_core · _)
  | blankingEnd _ pair ch =>
    exact .act (fun s => s.onPair pair (fun s => s.blankOver pair ch))
      (fun s => s.onPair_core _ _ (State.blankOver_core · _ _))
  | filterExpiry _ pair ch =>
    exact .act (fun s => s.onPair pair (fun s => s.copies pair (fun p pv => pv.filterEnd p s.now ch)))
      (fun s => s.onPair_core _ _ (State.copies_core · _ _))
  | discrepancyExpiry _ pair =>
    exact .act (fun s => s.onPair pair (fun s => s.copies pair (fun p pv => pv.discEnd p s.now)))
      (fun s => s.onPair_core _ _ (State.copies_core · _ _))
  | ossdtolExpiry _ pair ch =>
    exact .act (fun s => s.onPair pair (fun s => s.copies pair (fun p pv => pv.tolEnd p s.now ch)))
      (fun s => s.onPair_core _ _ (State.copies_core · _ _))
  | ossdchkExpiry _ pair ch =>
    exact .act (fun s => s.onPair pair (fun s => s.copies pair (fun p pv => pv.chkEnd p s.now ch)))
      (fun s => s.onPair_core _ _ (State.copies_core · _ _))
  | ackActuation _ pin level => exact .act (·.ackEdge pin level) (State.ackEdge_core · _ _)
  | ackActuationDiscard _ => exact .act State.ackJudge State.ackJudge_core
  | switchtExpiry _ sheet idx => exact .act (·.switchtEnd sheet idx) (State.switchtEnd_core · _ _)
  | donExpiry _ sheet idx =>
    exact .act (fun s => if s.timerB sheet idx .delay false (fun r => rW r 8 * ms) then s.fireB idx else s)
      (KeepsCore.ite _ (State.fireB_core · _) (fun _ => rfl))
  | cat1DelayExpiry _ sheet idx =>
    exact .act (fun s => if s.timerB sheet idx .outgroup false rDelayNs then s.fireB idx else s)
      (KeepsCore.ite _ (State.fireB_core · _) (fun _ => rfl))
  | maxtExpiry _ sheet idx =>
    exact .act (fun s => if s.timerB sheet idx .mute false (fun r => rB r 15 * 100 * ms) then s.fireB idx else s)
      (KeepsCore.ite _ (State.fireB_core · _) (fun _ => rfl))
  | toothEdge _ wheel pin level => exact .act (·.twEdge wheel pin level) (State.twEdge_core · _ _ _)
  | standstillConfirm _ sheet idx =>
    exact .act (fun s => ([0, 1].foldl (fun s w => s.confirm w false s.now) s).standstill sheet idx)
      (fun s => (State.standstill_core _ sheet idx).trans
        (foldl_core (fun s w => s.confirm w false s.now) (fun s w => s.confirm_core w false s.now) [0, 1] s))
  | motionLocalReset _ sheet idx => exact .act (·.motionReset sheet idx) (State.motionReset_core · _ _)
  | launchRelease _ => exact .act State.launchDue State.launchDue_core
  | readbackChange _ out leg level => exact .act (·.rbChange out leg level) (State.rbChange_core · _ _ _)
  | switchOnWindowEnd _ out => exact .act (·.windowEnd out) (State.windowEnd_core · _)
  | ocfiltExpiry _ out leg => exact .act (·.ocLate out leg) (State.ocLate_core · _ _)
  | offdlyExpiry _ out leg => exact .act (·.offLate out leg) (State.offLate_core · _ _)
  | outputFaultClear _ out =>
    exact .act (fun s => (s.outClear out).groupClear out)
      (fun s => ((s.outClear _).groupClear_core _).trans (s.outClear_core _))
  | darkTestDue _ out leg => exact .act (·.darkFallsDue out leg) (State.darkFallsDue_core · _ _)
  | darkTestStart _ out leg => exact .act (·.darkStartTest out leg) (State.darkStartTest_core · _ _)
  | darkTestPass _ => exact .act State.darkPassed State.darkPassed_core
  | darkTestTimeout _ => exact .act State.darkFailed State.darkFailed_core
  | muzzleNLow _ width =>
    exact .act (fun s => if s.recognised width 50 100 then s.fresh.muzzleLow else s.fresh)
      (KeepsCore.ite _ (fun s => s.fresh.muzzleLow_core.trans s.fresh_core) State.fresh_core)
  | muzzleNHigh _ =>
    exact .act (fun s => ({ s with sout := { s.sout with ext := false } }).line .muzzleExt false 0)
      (fun s => State.line_core _ _ _ _)
  | barkMon _ pin => exact .act (·.barkLook pin) (State.barkLook_core · _)
  | kramPatrol _ errs =>
    exact .act (fun s => if s.kennelRuns then s.eccAll errs else s) (KeepsCore.ite _ (State.eccAll_core · _) (fun _ => rfl))
  | rotationDue _ => exact .act State.rotDue State.rotDue_core
  | rotationSplit _ => exact .act State.split State.split_core
  | rotationLate _ => exact .act State.rotLate State.rotLate_core
  | rotationRejoin _ => exact .act State.rejoinDue State.rejoinDue_core
  | soloTimeout _ => exact .act State.soloLate State.soloLate_core
  | rotctlNow _ value =>
    exact .act (fun s => whenLive s (fun s => s.rotctlWrite value)) (KeepsCore.whenLive (State.rotctlWrite_core · _))
  | scrubPass _ upsets refError => exact .act (·.scrub upsets refError) (State.scrub_core · _ _)
  | scrubReload _ frame => exact .act (·.reloadFrame frame) (State.reloadFrame_core · _)
  | probeWrite _ addr value =>
    exact .act (fun s => whenLive s (fun s => s.probeWr addr.toNat value))
      (KeepsCore.whenLive (State.probeWr_core · _ _))
  | radioTransfer _ port irqLow => exact .act (·.radioXfer port irqLow) (State.radioXfer_core · _ _)
  | radioPoll _ port => exact .act (·.radioPollNow port) (State.radioPollNow_core · _)
  | beaconRequest _ port => exact .act (·.beaconNow port) (State.beaconNow_core · _)
  | pdu _ port frame => exact .act (·.pduIn port frame) (State.pduIn_core · _ _)
  | beaconReport _ port frame =>
    exact .act (fun s => s.portIn port frame 3 (fun s =>
        if bit (byteAt frame 6) 0 then s else s.modRadio port (fun r => { r with bmiss := sat8 r.bmiss })))
      (fun s => s.portIn_core _ _ _ _ (KeepsCore.ite _ (fun _ => rfl) (State.modRadio_core · _ _)))
  | headStatus _ port frame =>
    exact .act (fun s => s.portIn port frame 5 (fun s =>
        (s.fifoPush 2 (.port { port := port, bytes := frame, arr := s.ytime, del := s.ytime })).drainRadio))
      (fun s => s.portIn_core _ _ _ _ (fun s => ((s.fifoPush _ _).drainRadio_core).trans (s.fifoPush_core _ _)))
  | portManagementFrame _ port frame =>
    exact .act (fun s => s.portIn port frame 4 (fun s =>
        (s.fifoPush 2 (.port { port := port, bytes := frame, arr := s.ytime, del := s.ytime })).drainRadio))
      (fun s => s.portIn_core _ _ _ _ (fun s => ((s.fifoPush _ _).drainRadio_core).trans (s.fifoPush_core _ _)))
  | refreshMissed _ slot =>
    exact .act (fun s => whenLive s (fun s => s.deadlines slot false s.ytime))
      (KeepsCore.whenLive (State.deadlines_core · _ _ _))
  | maxageExpiry _ conn idx =>
    exact .act (fun s => whenLive s (fun s => s.maxAge conn idx)) (KeepsCore.whenLive (State.maxAge_core · _ _))
  | colQrel _ value => exact .act (fun s => whenLive s (fun s => s.colQrel value)) (KeepsCore.whenLive (State.colQrel_core · _))
  | helloSend _ port => exact .act (·.helloSend port) (State.helloSend_core · _)
  | hello _ port frame => exact .act (·.helloIn port frame) (State.helloIn_core · _ _)
  | linkFrameSend _ port =>
    exact .act (fun s => whenLive s (fun s => s.linkSend port)) (KeepsCore.whenLive (State.linkSend_core · _))
  | ackOrderedSet _ port seq compl =>
    exact .act (fun s => whenLive s (fun s => if (s.yport port).up then s.ackSet port seq compl else s))
      (KeepsCore.whenLive (KeepsCore.ite _ (State.ackSet_core · _ _ _) (fun _ => rfl)))
  | ackTimeout _ port => exact .act (fun s => whenLive s (fun s => s.ackLate port)) (KeepsCore.whenLive (State.ackLate_core · _))
  | safetyDataFrame _ port frame => exact .act (·.safetyData port frame) (State.safetyData_core · _ _)
  | safetyOpenFrame _ port frame => exact .act (·.safetyOpen port frame) (State.safetyOpen_core · _ _)
  | managementFrame _ port frame => exact .act (·.mgmtFrame port frame) (State.mgmtFrame_core · _ _)
  | connectionFrameTake _ conn =>
    exact .act (fun s => whenLive s (fun s => s.connDue conn false)) (KeepsCore.whenLive (State.connDue_core · _ _))
  | openSend _ conn => exact .act (·.openSend conn) (State.openSend_core · _)
  | yardQrel _ value =>
    exact .act (fun s => whenLive s (fun s => s.yardQrel value)) (KeepsCore.whenLive (State.yardQrel_core · _))
  | timeExchangeStart _ port => exact .act (·.exchStart port) (State.exchStart_core · _)
  | sync _ frame => exact .act (·.syncIn frame) (State.syncIn_core · _)
  | dreq _ port frame => exact .act (·.dreqIn port frame) (State.dreqIn_core · _ _)
  | dresp _ frame =>
    exact .act (fun s => (s.drespIn frame).yardReady) (fun s => (State.yardReady_core _).trans (s.drespIn_core _))
  | holdover _ => exact .act State.holdoverNow State.holdoverNow_core
  | syncLost _ => exact .act State.syncLostNow State.syncLostNow_core
  | whistle _ port frame aborted => exact .act (·.whistleIn port frame aborted) (State.whistleIn_core · _ _ _)
  | whistleStop _ => exact .act State.whistleDue State.whistleDue_core
  | whistleClear _ => exact .act State.whistleClearNow State.whistleClearNow_core
  | collInterval _ => exact .act State.collInterval State.collInterval_core
  | localReactionTimeout _ => exact .act State.localLate State.localLate_core
  | deviceLocalClear _ src => exact .act (·.deviceClear src) (State.deviceClear_core · _)
  | sourceLocalClear _ src => exact .act (·.sourceClear src) (State.sourceClear_core · _)
  | fstatClear _ reg value =>
    exact .act (fun s => s.onPort (fun s => s.fstatWrite reg value))
      (fun s => s.onPort_core _ (State.fstatWrite_core · _ _))
  | faultAck _ value =>
    exact .act (fun s => s.onPort (fun s => s.ackWrite value)) (fun s => s.onPort_core _ (State.ackWrite_core · _))
  | ridx _ value =>
    exact .act (fun s => s.onPort (fun s => s.ridxWrite value)) (fun s => s.onPort_core _ (State.ridxWrite_core · _))
  | sidx _ value =>
    exact .act (fun s => s.onPort (fun s => s.sidxWrite value)) (fun s => s.onPort_core _ (State.sidxWrite_core · _))
  | alertSrcClear _ value =>
    exact .act (fun s => s.onPort (fun s => s.alertWrite value)) (fun s => s.onPort_core _ (State.alertWrite_core · _))
  | tempReading _ t0 t1 t2 =>
    exact .act (fun s => whenLive s (fun s => s.readTemps [t0, t1, t2])) (KeepsCore.whenLive (State.readTemps_core · _))
  | groomWdog _ => exact .act State.groomReset State.groomReset_core
  | writeFrame _ csFall bytes extraBits =>
    exact .act (fun s => s.onPort (fun s => s.writeEnd csFall bytes extraBits))
      (fun s => s.onPort_core _ (State.writeEnd_core · _ _ _))
  | readFrame _ csFall bytes turn bits =>
    exact .act (fun s => s.onPort (fun s => s.readEnd csFall bytes turn bits))
      (fun s => s.onPort_core _ (State.readEnd_core · _ _ _ _))
  | registerWrite _ addr value =>
    exact .act (fun s => s.onPort (fun s => ({ s with cp := { s.cp with st := 1 } }).wordWrite addr.toNat value))
      (fun s => s.onPort_core _ (fun s => State.wordWrite_core _ _ _))
  | echo _ => exact .act (·.serve 0x01 true State.echoes) (fun s => s.serve_core _ _ _ State.echoes_core)
  | devuid _ => exact .act (·.serve 0x02 true State.tellUid) (fun s => s.serve_core _ _ _ State.tellUid_core)
  | maintEnter _ =>
    exact .act (fun s => s.serve 0x10 false (fun _ s => s.maintAsk ((s.clk.rs == .armed && !s.clk.held) || s.clk.rs == .run) true))
      (fun s => s.serve_core _ _ _ (fun _ s => s.maintAsk_core _ _))
  | maintLeave _ =>
    exact .act (fun s => s.serve 0x11 false (fun _ s => s.maintAsk (s.clk.rs == .maint && s.seq.phase != .down) false))
      (fun s => s.serve_core _ _ _ (fun _ s => s.maintAsk_core _ _))
  | imgBegin _ => exact .act (·.serve 0x20 true State.imgBegins) (fun s => s.serve_core _ _ _ State.imgBegins_core)
  | imgVerify _ => exact .act (·.serve 0x22 true State.imgVerifies) (fun s => s.serve_core _ _ _ State.imgVerifies_core)
  | yardMsend _ => exact .act (·.serve 0x30 false State.msend) (fun s => s.serve_core _ _ _ State.msend_core)
  | yardMrecv _ => exact .act (·.serve 0x31 false State.mrecvs) (fun s => s.serve_core _ _ _ State.mrecvs_core)
  | erasureRestart _ => exact .act State.erasureRestarts State.erasureRestarts_core
  | go _ value => exact .act (fun s => whenLive s (fun s => s.goWrite value)) (KeepsCore.whenLive (State.goWrite_core · _))
  | spookEn _ value => exact .act (fun s => whenLive s (fun s => s.spookCtl value)) (KeepsCore.whenLive (State.spookCtl_core · _))
  | extest _ obs =>
    exact .act (fun s => whenLive s (fun s => s.extestSel obs.cells obs.digestDiffer))
      (KeepsCore.whenLive (State.extestSel_core · _ _))
  | idcode _ => exact .act (fun s => whenLive s (fun s => s.setTap .idcode)) (KeepsCore.whenLive (State.setTap_core · _))
  | samplePreload _ cells =>
    exact .act (fun s => whenLive s (fun s => s.preload cells)) (KeepsCore.whenLive (State.preload_core · _))
  | bypass _ code =>
    exact .act (fun s => whenLive s (fun s => if tapListed code.toNat then s else s.setTap .bypass))
      (KeepsCore.whenLive (KeepsCore.ite _ (fun _ => rfl) (State.setTap_core · _)))
  | pairHalt _ digestDiffer =>
    exact .act (fun s => whenLive s (fun s => s.pairHaltSel digestDiffer))
      (KeepsCore.whenLive (State.pairHaltSel_core · _))
  | leadInspect _ => exact .act (fun s => whenLive s State.leadInspectSel) (KeepsCore.whenLive State.leadInspectSel_core)
  | resync _ => exact .act (fun s => whenLive s State.resyncSel) (KeepsCore.whenLive State.resyncSel_core)
  | tapReset _ => exact .act (fun s => whenLive s (fun s => s.setTap .idcode)) (KeepsCore.whenLive (State.setTap_core · _))
  | status _ =>
    exact .act (fun s => s.dbg false (fun s => s.answer 0 (BitVec.ofNat 32 (s.pair.dbgstat (s.clk.rs == .halted)))))
      (fun s => s.dbg_core _ _ (State.answer_core · _ _))
  | readWord _ addr =>
    exact .act (fun s => s.dbg true (fun s => s.dbgRead addr.toNat)) (fun s => s.dbg_core _ _ (State.dbgRead_core · _))
  | writeWord _ addr data =>
    exact .act (fun s => s.dbg true (fun s => s.dbgWrite addr.toNat data))
      (fun s => s.dbg_core _ _ (State.dbgWrite_core · _ _))
  | readCoreRegister _ reg core =>
    exact .act (fun s => s.dbg true (fun s => s.answer 0 (nth 0 (s.pair.regsOf (s.pair.coreOf core)) reg)))
      (fun s => s.dbg_core _ _ (State.answer_core · _ _))
  | writeCoreRegister _ reg core data =>
    exact .act (fun s => s.dbg true (fun s => s.dbgWriteReg reg core data))
      (fun s => s.dbg_core _ _ (State.dbgWriteReg_core · _ _ _))
  | step _ obs =>
    exact .act (fun s => s.dbg true (fun s => s.dbgStep obs.count.toNat obs.mismatch))
      (fun s => s.dbg_core _ _ (State.dbgStep_core · _ _))
  | resume _ replayBad digestDiffer =>
    exact .act (fun s => s.dbg true (fun s => s.dbgResume (replayBad.map (·.val)) digestDiffer))
      (fun s => s.dbg_core _ _ (State.dbgResume_core · _ _))
  | siPinChange _ pair ch level => exact .act (·.siChange pair ch level) (State.siChange_core · _ _ _)
  | crystalRunning _ =>
    exact .act (fun s => whenLive s (fun s => { s with clk := { s.clk with xtal := true } }))
      (KeepsCore.whenLive (fun _ => rfl))
  | pllLock _ => exact .act State.lockPll State.lockPll_core
  | linkError _ port =>
    exact .act (fun s => whenLive s (fun s => if (s.yport port).on then s.modYport port (fun y => { y with err := sat16 y.err }) else s))
      (KeepsCore.whenLive (KeepsCore.ite _ (State.modYport_core · _ _) (fun _ => rfl)))
  | yardTick _ => exact .act State.yardTicks State.yardTicks_core
  | vinSample _ microvolts =>
    exact .act (fun s => whenAon s (fun s => s.sampleVin microvolts)) (KeepsCore.whenAon (State.sampleVin_core · _))
  | snapshotWrite _ => cases h
  | vinAbandon _ _ _ => cases h
  | faultRecordWrite _ => cases h
  | selftestEnd _ _ => cases h
  | imgWrite _ => cases h
  | imgCommit _ _ => cases h
  | erasureComplete _ => cases h
  | lcAdvance _ => cases h

/-! ## The writers -/

theorem State.Tidy.whenAon (s : State) {f : State → State} (h : ∀ x, State.Tidy x (f x)) : s.Tidy (whenAon s f) := by
  unfold Machine.whenAon
  exact .ite (.refl s) (h s)

theorem acts_writer_tidy (c : Instr) (h : c.writes = true) : Acts c (fun f => ∀ s, State.Tidy s (f s)) := by
  cases c with
  | vinAbandon _ a b => exact .act (fun s => whenAon s (fun s => s.abandon a b)) (State.Tidy.whenAon · (State.abandon_tidy · a b))
  | snapshotWrite _ => exact .act (fun s => whenAon s State.snapWrite) (State.Tidy.whenAon · State.snapWrite_tidy)
  | faultRecordWrite _ => exact .act State.recordWrite State.recordWrite_tidy
  | selftestEnd _ obs => exact .act (·.selftestDone obs) (State.selftestDone_tidy · obs)
  | imgWrite _ => exact .act (fun s => s.serve 0x21 true State.imgWrites) (fun s => State.serve_tidy s _ _ _ State.imgWrites_tidy)
  | imgCommit _ obs =>
    exact .act (fun s => s.serve 0x23 true (State.imgCommits obs)) (fun s => State.serve_tidy s _ _ _ (State.imgCommits_tidy obs))
  | lcAdvance _ =>
    exact .act (fun s => if s.img.erasing then s else s.serve 0x40 false State.advance)
      (fun s => .ite (.refl s) (State.serve_tidy s _ _ _ State.advance_tidy))
  | erasureComplete _ => exact .act State.erasureDone State.erasureDone_tidy
  | _ => cases h

/-- A writer keeps the MRAM's canonical form and unburns nothing. -/
theorem acts_tidy (c : Instr) : Acts c (fun f => ∀ s, State.Tidy s (f s)) := by
  by_cases h : c.writes
  · exact acts_writer_tidy c h
  · obtain ⟨tick, f, he, hf⟩ := acts_keepsCore c (by simpa using h)
    exact ⟨tick, f, he, fun s => .of_core (hf s)⟩

/-- Time moves to the command's instant, or stays where it is when that lies in the past. -/
theorem exec_tidy (c : Instr) (s s' : State) (h : exec c s = .next s') : (s.upTo c.time).Tidy s' := by
  obtain ⟨tick, f, he, hf⟩ := acts_tidy c
  exact act_tidy ((he s).symm.trans h) hf

/-- Settles O50: an empty queue idles; a command in front is tidy from its instant on. -/
theorem stepKeeps : Obligations.StepKeeps := by
  intro s s' h
  unfold step at h
  split at h
  next hq =>
    cases h
    exact ⟨Nat.le_refl _, by rw [hq]; rfl, id, fun w => ⟨fun _ _ k => k, w⟩⟩
  next c rest hq =>
    have ht := exec_tidy c _ s' h
    exact ⟨ht.now ▸ Nat.le_max_left _ _, by rw [hq]; exact ht.pending, ht.mram, ht.fuses⟩

/-! ## What a writer leaves -/

theorem fuses_of_core {s s' : State} (h : s'.core = s.core) : s'.img.fuses = s.img.fuses := (core_parts h).2.2.2
theorem mram_of_core {s s' : State} (h : s'.core = s.core) : s'.mram = s.mram := (core_parts h).2.1

@[simp] theorem State.mbxEnd_fuses (s : State) (r : Nat) : (s.mbxEnd r).img.fuses = s.img.fuses := fuses_of_core (s.mbxEnd_core r)
@[simp] theorem State.mbxEnd_mram (s : State) (r : Nat) : (s.mbxEnd r).mram = s.mram := mram_of_core (s.mbxEnd_core r)
@[simp] theorem State.load_fuses (s : State) (b : LoadObs) : (s.load b).img.fuses = s.img.fuses := fuses_of_core (s.load_core b)

theorem State.tearSnap_fuses (s : State) : s.tearSnap.img.fuses = s.img.fuses := by
  unfold State.tearSnap
  split <;> rfl

theorem State.tearRec_fuses (s : State) : s.tearRec.img.fuses = s.img.fuses := by
  unfold State.tearRec
  split
  · dsimp only
    split <;> simp
  · rfl

theorem State.abandon_fuses (s : State) (a b : Bool) : (s.abandon a b).img.fuses = s.img.fuses := by
  unfold State.abandon
  split
  · rfl
  · cases a <;> cases b <;> simp [State.tearSnap_fuses, State.tearRec_fuses]

theorem State.snapWrite_fuses (s : State) : s.snapWrite.img.fuses = s.img.fuses := by
  unfold State.snapWrite
  (repeat' split) <;> rfl

theorem State.recordWrite_fuses (s : State) : s.recordWrite.img.fuses = s.img.fuses := by
  unfold State.recordWrite
  dsimp only
  (repeat' split) <;> simp

theorem State.erasureDone_fuses (s : State) : s.erasureDone.img.fuses = s.img.fuses := by
  unfold State.erasureDone
  split
  · dsimp only
    rw [State.mbxEnd_fuses]
    rfl
  · rfl

theorem State.selftestDone_fuses (s : State) (b : LoadObs) : (s.selftestDone b).img.fuses = s.img.fuses := by
  unfold State.selftestDone
  split
  · dsimp only
    rw [fuses_of_core (((State.load_core _ b).trans (State.cutRecord_core _)).trans (State.kramAnew_core _))]
    split <;> rfl
  · rfl

theorem State.imgWrites_fuses (m : Mbx) (s : State) : (s.imgWrites m).img.fuses = s.img.fuses := by
  unfold State.imgWrites State.inSequence
  dsimp only
  (repeat' split) <;> simp only [State.mbxEnd_fuses, fuses_of_core (State.noSequence_core _), State.mramWrite_img]

theorem State.commitBank_fuses (s : State) (k : Nat) : (s.commitBank k).img.fuses = s.img.fuses := rfl

theorem State.imgCommits_fuses (b : LoadObs) (m : Mbx) (s : State) : (State.imgCommits b m s).img.fuses = s.img.fuses := by
  unfold State.imgCommits
  split
  · exact s.mbxEnd_fuses 3
  · split
    · split
      · exact s.mbxEnd_fuses 3
      · split
        · rw [State.mbxEnd_fuses, fuses_of_core (s.showCode_core 9)]
        · rename_i kind _ _ _
          dsimp only
          refine (fuses_of_core ?_).trans (s.commitBank_fuses kind)
          simp only [apply_ite State.core, State.mbxEnd_core, State.load_core, core_mk, core_eta, ite_self]
    · rw [State.mbxEnd_fuses, fuses_of_core (s.showCode_core 9)]

theorem State.lcEnd_mram (s : State) (code result : Nat) : (s.lcEnd code result).mram = s.mram := mram_of_core (s.lcEnd_core _ _)

theorem State.enterField_mram (s : State) : s.enterField.mram = s.mram := by
  unfold State.enterField
  dsimp only
  rw [mram_of_core (State.spookClear_core _)]
  rfl

theorem State.advance_mram (m : Mbx) (s : State) : (State.advance m s).mram = s.mram := by
  have herr : (s.err .lifecycle (m.arg0.toNat % 16)).mram = s.mram := mram_of_core (s.err_core _ _)
  unfold State.advance
  dsimp only
  have hburn : ∀ n, ((s.err .lifecycle (m.arg0.toNat % 16)).burn n).mram = s.mram := fun _ => herr
  have hlc : ∀ c n, ((s.err .lifecycle (m.arg0.toNat % 16)).lcErase c n).mram = s.mram := fun _ _ => herr
  (repeat' split) <;> simp only [State.lcEnd_mram, State.enterField_mram, State.mbxEnd_mram, herr, hburn, hlc]

theorem State.serve_same {α : Type} (g : State → α) (s : State) (code : Nat) (b : Bool) (f : Mbx → State → State)
    (hcore : ∀ x y : State, x.core = y.core → g x = g y) (hf : ∀ m x, g (f m x) = g x) : g (s.serve code b f) = g s := by
  unfold State.serve whenLive
  dsimp only
  split
  · split
    · split
      · rfl
      · have hfifo := hcore _ _ (s.modFifo_core 7 (fun q => { q with q := [] }))
        split
        · rw [hf, hfifo]
        · rw [hcore _ _ (State.mbxEnd_core _ 3), hfifo]
    · rfl
  · rfl

theorem whenAon_same {α : Type} (g : State → α) (s : State) (f : State → State) (hf : ∀ x, g (f x) = g x) :
    g (whenAon s f) = g s := by
  unfold whenAon
  split
  · rfl
  · exact hf s

/-- No log write, no image and no erasure of MRAM burns an antifuse. -/
theorem acts_writesMram (c : Instr) (h : c.writesMram = true) : Acts c (fun f => ∀ s, (f s).img.fuses = s.img.fuses) := by
  cases c with
  | vinAbandon _ a b =>
    exact .act (fun s => whenAon s (fun s => s.abandon a b)) (whenAon_same (·.img.fuses) · _ (State.abandon_fuses · a b))
  | snapshotWrite _ => exact .act (fun s => whenAon s State.snapWrite) (whenAon_same (·.img.fuses) · _ State.snapWrite_fuses)
  | faultRecordWrite _ => exact .act State.recordWrite State.recordWrite_fuses
  | selftestEnd _ obs => exact .act (·.selftestDone obs) (State.selftestDone_fuses · obs)
  | imgWrite _ =>
    exact .act (fun s => s.serve 0x21 true State.imgWrites)
      (State.serve_same (·.img.fuses) · _ _ _ (fun _ _ => fuses_of_core) State.imgWrites_fuses)
  | imgCommit _ obs =>
    exact .act (fun s => s.serve 0x23 true (State.imgCommits obs))
      (State.serve_same (·.img.fuses) · _ _ _ (fun _ _ => fuses_of_core) (State.imgCommits_fuses obs))
  | erasureComplete _ => exact .act State.erasureDone State.erasureDone_fuses
  | _ => cases h

theorem acts_lcAdvance (t : Nat) : Acts (.lcAdvance t) (fun f => ∀ s, (f s).mram = s.mram) := by
  refine .act (fun s => if s.img.erasing then s else s.serve 0x40 false State.advance) (fun s => ?_)
  dsimp only
  split
  · rfl
  · exact State.serve_same (·.mram) s _ _ _ (fun _ _ => mram_of_core) State.advance_mram

/-- Every command but a writer of the MRAM leaves the MRAM. -/
theorem acts_mram (c : Instr) (h : c.writesMram = false) : Acts c (fun f => ∀ s, (f s).mram = s.mram) := by
  by_cases hw : c.writes
  · cases c with
    | lcAdvance t => exact acts_lcAdvance t
    | _ => simp_all [Instr.writes, Instr.writesMram]
  · obtain ⟨tick, f, he, hf⟩ := acts_keepsCore c (by simpa using hw)
    exact ⟨tick, f, he, fun s => mram_of_core (hf s)⟩

/-- Every command but LC_ADVANCE leaves the antifuses. -/
theorem acts_fuses (c : Instr) (h : ∀ t, c ≠ .lcAdvance t) : Acts c (fun f => ∀ s, (f s).img.fuses = s.img.fuses) := by
  by_cases hm : c.writesMram
  · exact acts_writesMram c hm
  · have hw : c.writes = false := by
      cases c with
      | lcAdvance t => exact absurd rfl (h t)
      | _ => simp_all [Instr.writes]
    obtain ⟨tick, f, he, hf⟩ := acts_keepsCore c hw
    exact ⟨tick, f, he, fun s => fuses_of_core (hf s)⟩

/-- What the operation of a command leaves, time and settling leave too. -/
theorem Acts.same {α : Type} {c : Instr} (g : State → α) (h : Acts c (fun f => ∀ s, g (f s) = g s))
    (hcore : ∀ x y : State, x.core = y.core → g x = g y) (hup : ∀ s t, g (s.upTo t) = g s) {s s' : State}
    (he : exec c s = .next s') : g s' = g s := by
  obtain ⟨tick, f, hf, hg⟩ := h
  cases (hf s).symm.trans he
  rw [hcore _ _ (State.watch_core _ _), hcore _ _ (State.settleAt_core _ _), hg, hup]

/-- Settles O51: every command has an outcome; a writer of the MRAM burns nothing, and LC_ADVANCE writes no byte. -/
theorem footprint : Obligations.Footprint := by
  intro c s
  obtain ⟨tick, f, he⟩ := exec_form c s
  have ht := exec_tidy c s _ he
  refine ⟨_, he, ht.now, ht.pending, fun h a => ?_, fun h => ?_⟩
  · rw [(acts_mram c h).same (·.mram) (fun _ _ => mram_of_core) (fun _ _ => rfl) he]
  · exact (acts_fuses c h).same (·.img.fuses) (fun _ _ => fuses_of_core) (fun _ _ => rfl) he

end Sys2Proof.Machine
end

section
/-!
PROOF. O49: settling leaves the muzzle and the pads at what their rules give, whatever the command did (R95, R98, R114, R116).
-/
namespace Sys2Proof.Machine

/-! ## Lists -/

theorem nth_mapIdx {α : Type} (d : α) (f : Nat → α → α) :
    ∀ (l : List α) (k i : Nat), i < l.length → nth d (mapIdx f l k) i = f (k + i) (nth d l i)
  | [], _, _, h => absurd h (Nat.not_lt_zero _)
  | _ :: _, k, 0, _ => rfl
  | _ :: xs, k, i + 1, h => by
    rw [Nat.add_comm i 1, ← Nat.add_assoc, Nat.add_comm 1 i]
    exact nth_mapIdx d f xs (k + 1) i (Nat.lt_of_succ_lt_succ h)

@[simp] theorem mapIdx_length {α β : Type} (f : Nat → α → β) : ∀ (l : List α) (k : Nat), (mapIdx f l k).length = l.length
  | [], _ => rfl
  | _ :: xs, k => by simp [mapIdx, mapIdx_length f xs (k + 1)]

theorem State.mapOuts_out (s : State) (f : Nat → OutSt → OutSt) (n : Nat) (h : n < s.sout.outs.length) :
    (s.mapOuts f).out n = f n (s.out n) := by
  have hn := nth_mapIdx {} f s.sout.outs 0 n h
  rwa [Nat.zero_add] at hn

/-! ## What the rules read -/

/-- The muzzle's rule and the pads' rules read nothing else. -/
theorem State.OutputsSafe.congr {a b : State} (hclk : a.clk = b.clk) (hseq : a.seq.phase = b.seq.phase) (hpair : a.pair = b.pair)
    (himg : a.img = b.img) (hfab : a.fab = b.fab) (hsout : a.sout = b.sout) (hline : a.flt.line = b.flt.line)
    (hmap : a.flt.map = b.flt.map) (h : b.OutputsSafe) : a.OutputsSafe := by
  have hopen : a.muzzleOpen = b.muzzleOpen := by
    simp only [State.muzzleOpen, State.stopActive, State.srcClass, State.mapEntry, hclk, hseq, hsout, hline, hmap]
    rfl
  have hlevel : ∀ n o l, a.padLevel n o l = b.padLevel n o l := fun n o l => by
    simp only [State.padLevel, State.drive, State.dark, State.live, hclk, hpair, himg, hfab, hsout]
    congr
  obtain ⟨hm, hp⟩ := h
  refine ⟨?_, fun n l hn => ?_⟩
  · rw [State.MuzzleFollows, hsout, hopen]
    exact hm
  · rw [State.out, hsout] at *
    rw [hlevel]
    exact hp n l hn

/-! ## The pads settle -/

@[simp] theorem LegSt.setPad_pad (now : Nat) (v : Bool) (l : LegSt) : (l.setPad now v).pad = v := by
  unfold LegSt.setPad
  split
  · simp_all
  · split <;> simp_all

@[simp] theorem LegSt.setPad_gates (now : Nat) (v : Bool) (l : LegSt) :
    (l.setPad now v).cmd = l.cmd ∧ (l.setPad now v).gate = l.gate ∧ (l.setPad now v).kept = l.kept := by
  unfold LegSt.setPad
  (repeat' split) <;> simp

/-- A pad takes its level, and the drive it is judged by stays. -/
theorem State.padsOf_pad (s : State) (n : Nat) (o : OutSt) (l : Leg) :
    ((s.padsOf n o).leg l).pad = s.padLevel n o l ∧ s.drive n (s.padsOf n o) l = s.drive n o l ∧
      ((s.padsOf n o).leg l).kept = ((o.leg l).kept && s.drive n o l) := by
  cases l <;> simp [State.padsOf, OutSt.leg, State.drive]

theorem State.padLevel_padsOf (s : State) (n : Nat) (o : OutSt) (l : Leg) : s.padLevel n (s.padsOf n o) l = s.padLevel n o l := by
  obtain ⟨_, hdrive, hkept⟩ := s.padsOf_pad n o l
  unfold State.padLevel
  rw [hdrive, hkept]
  cases s.drive n o l <;> simp

theorem State.padLevel_mapOuts (s : State) (f : Nat → OutSt → OutSt) (n : Nat) (o : OutSt) (l : Leg) :
    (s.mapOuts f).padLevel n o l = s.padLevel n o l := rfl

theorem State.pads_padsFollow (s : State) : s.pads.PadsFollow := by
  unfold State.pads
  generalize (s.mapOuts (fun _ o => o.shutGates s.sout.open_)).darkAbort = z
  intro n l hn
  have hlt : n < z.sout.outs.length := by simpa [State.mapOuts] using hn
  rw [State.mapOuts_out _ _ _ hlt, State.padLevel_mapOuts, State.padLevel_padsOf, (z.padsOf_pad n (z.out n) l).1]

/-! ## The muzzle settles -/

theorem State.darkAbort_frame (s : State) : s.darkAbort.clk = s.clk ∧ s.darkAbort.seq = s.seq ∧
    s.darkAbort.sout.ext = s.sout.ext ∧ s.darkAbort.sout.open_ = s.sout.open_ := by
  unfold State.darkAbort
  (repeat' split) <;> simp [State.modLeg, State.modOut]

theorem State.pads_frame (s : State) : s.pads.clk = s.clk ∧ s.pads.seq = s.seq ∧ s.pads.sout.ext = s.sout.ext ∧
    s.pads.sout.open_ = s.sout.open_ := by
  obtain ⟨h1, h2, h3, h4⟩ := (s.mapOuts (fun _ o => o.shutGates s.sout.open_)).darkAbort_frame
  exact ⟨h1, h2, h3, h4⟩

theorem State.pads_muzzle_follows (s : State) : s.muzzle.pads.MuzzleFollows := by
  obtain ⟨hclk, hseq, hext, hopen⟩ := s.muzzle.pads_frame
  unfold State.MuzzleFollows State.muzzleOpen State.stopActive State.srcClass State.mapEntry
  rw [hclk, hseq, hext, hopen, State.pads_flt]
  rfl

/-! ## Settling -/

theorem State.closeRecord_frame (s : State) : s.closeRecord.clk = s.clk ∧ s.closeRecord.seq = s.seq ∧ s.closeRecord.pair = s.pair ∧
    s.closeRecord.img = s.img ∧ s.closeRecord.fab = s.fab ∧ s.closeRecord.sout = s.sout ∧
    s.closeRecord.flt.line = s.flt.line ∧ s.closeRecord.flt.map = s.flt.map := by
  unfold State.closeRecord
  split <;> simp

theorem State.closing_safe (s : State) (h : s.OutputsSafe) : s.closing.OutputsSafe := by
  obtain ⟨h1, h2, h3, h4, h5, h6, h7, h8⟩ := s.closeRecord_frame
  have hclose : s.closeRecord.OutputsSafe := .congr h1 (congrArg Seq.phase h2) h3 h4 h5 h6 h7 h8 h
  unfold State.closing
  (repeat' split) <;> assumption

theorem State.item1_safe (s : State) (h : s.OutputsSafe) : s.item1.OutputsSafe := by
  have hset : ∀ (x : Option Nat), State.OutputsSafe { s with flt := { s.flt with item1 := x } } :=
    fun _ => .congr rfl rfl rfl rfl rfl rfl rfl rfl h
  unfold State.item1
  dsimp only
  split <;> split <;> exact hset _

theorem State.settleAt_safe (s : State) (tick : Bool) : (s.settleAt tick).OutputsSafe :=
  State.item1_safe _ (State.closing_safe _ ⟨State.pads_muzzle_follows _, State.pads_padsFollow _⟩)

theorem State.watch_safe (old s : State) (h : s.OutputsSafe) : (old.watch s).OutputsSafe :=
  .congr (by simp) (by simp) (by simp) (by simp) (by simp) (by simp) (by simp) (by simp) h

/-! ## A pad that is high -/

theorem State.mayDrive_of_padLevel (s : State) (n : Nat) (l : Leg) (h : s.padLevel n (s.out n) l = true) : s.MayDrive n l := by
  unfold State.padLevel at h
  split at h
  next he =>
    simp only [Bool.and_eq_true, beq_iff_eq] at he h
    exact .inr ⟨he.1, h.1⟩
  next =>
    have hdrive : s.drive n (s.out n) l = true := by
      simp only [Bool.and_eq_true] at h
      exact h.1.1
    refine .inl ?_
    cases l <;> simp_all [State.drive, OutSt.leg]

theorem State.drvPin_high (s : State) (n : Nat) (l : Leg) (h : s.drvPin n l = .high) : ((s.out n).leg l).pad = true := by
  unfold State.drvPin State.staged PadState.level at h
  (repeat' split at h) <;> first | assumption | cases h

theorem State.drvPin_unpowered (s : State) (hrs : s.clk.rs = .off ∨ s.clk.rs = .cut) (hv : s.vio33 = false) (n : Nat) (l : Leg) :
    s.drvPin n l = .unpowered := by
  obtain h | h := hrs <;> simp [State.drvPin, State.staged, h, hv]

/-- Settles O49: every command ends by settling, and settling makes the muzzle and the pads follow. -/
theorem outputsAlwaysFollow : Obligations.OutputsAlwaysFollow := by
  intro c s s' h
  obtain ⟨tick, f, he⟩ := exec_form c s
  cases he.symm.trans h
  generalize hz : s.watch ((f (s.upTo c.time)).settleAt tick) = z
  have hsafe : z.OutputsSafe := hz ▸ s.watch_safe _ (State.settleAt_safe _ tick)
  have hpad : ∀ n l, n < z.sout.outs.length → ((z.out n).leg l).pad = true → z.MayDrive n l := fun n l hn hp =>
    z.mayDrive_of_padLevel n l ((hsafe.2 n l hn).symm.trans hp)
  exact ⟨hsafe, hpad, fun n l hn hp => hpad n l hn (z.drvPin_high n l hp), fun hrs hv n l => z.drvPin_unpowered hrs hv n l⟩

end Sys2Proof.Machine
end

section
/-!
PROOF. O53: what comes from outside leaves SAFE and HALTED for nothing but each other or a cut (R354, R466).
-/
namespace Sys2Proof.Machine

/-! ## The run states of the claim -/

/-- SAFE, HALTED or CUT. -/
def Down (r : RunState) : Prop := r = .safe ∨ r = .halted ∨ r = .cut

section
variable {s : State}

/-- A reaction goes from SAFE or HALTED to CUT or nowhere. -/
theorem State.Worse.down {s' : State} (hw : s.Worse s') (h : Down s.clk.rs) : Down s'.clk.rs := by
  obtain hr | hr | hr := hw.rs
  · rwa [hr]
  · exact .inr (.inr hr)
  · exact .inl hr.1

theorem down_of_clk {s' : State} (hc : s'.clk = s.clk) (h : Down s.clk.rs) : Down s'.clk.rs := by rwa [hc]

theorem down_ite {c : Prop} [Decidable c] {a b : State} (ha : Down a.clk.rs) (hb : Down b.clk.rs) :
    Down (if c then a else b).clk.rs := by
  split
  · exact ha
  · exact hb

theorem down_not_maint (h : Down s.clk.rs) : (s.clk.rs == .maint) = false := by
  obtain h | h | h := h <;> rw [h] <;> rfl

theorem down_imgState (h : Down s.clk.rs) : s.imgState = false := by
  unfold State.imgState
  obtain h | h | h := h <;> rw [h] <;> rfl

theorem down_err {src : Src} {d : Nat} (h : Down s.clk.rs) : Down (s.err src d).clk.rs := (s.err_worse src d).down h
theorem down_line {src : Src} {a : Bool} {d : Nat} (h : Down s.clk.rs) : Down (s.line src a d).clk.rs :=
  (s.line_worse src a d).down h
theorem down_alert {n : Nat} (h : Down s.clk.rs) : Down (s.alert n).clk.rs := down_of_clk (s.alert_clk n) h

theorem down_mbxEnd {r : Nat} (h : Down s.clk.rs) : Down (s.mbxEnd r).clk.rs := by
  unfold State.mbxEnd
  split
  · exact down_alert h
  · exact h

theorem down_mbxUnknown (h : Down s.clk.rs) : Down s.mbxUnknown.clk.rs := by
  unfold State.mbxUnknown
  split
  · exact down_ite h (down_mbxEnd h)
  · exact h

/-! ## Register writes -/

theorem down_lkRefused {a : Nat} (h : Down s.clk.rs) : Down (s.lkRefused a).clk.rs :=
  down_alert (down_err (s := s.frameBit 3) h)

theorem down_rotctlWrite {v : Word} (h : Down s.clk.rs) : Down (s.rotctlWrite v).clk.rs :=
  down_ite (down_lkRefused h) (down_ite h h)

theorem down_probeWr {a : Nat} {v : Word} (h : Down s.clk.rs) : Down (s.probeWr a v).clk.rs := by
  unfold State.probeWr
  dsimp only
  repeat' split
  all_goals first | exact h | exact down_lkRefused h

theorem down_slotEnter {n : Nat} {isA : Bool} {d : DState} {cause : Nat} (h : Down s.clk.rs) :
    Down (s.slotEnter n isA d cause).clk.rs := by
  have hb : Down (if isA && ((s.slot n).ch isA).ds == .live && d != .live then
      { s with col := { s.col with lastdrop := w16 (n % 64 + 64 * cause + 0x8000) } } else s).clk.rs := down_ite h h
  exact down_ite (down_err hb) hb

theorem down_colQrel {v : Word} (h : Down s.clk.rs) : Down (s.colQrel v).clk.rs := by
  have hone : ∀ {x : State} (isA : Bool), Down x.clk.rs →
      Down (if ((x.slot (v.toNat % 64)).ch isA).ds == .quarantined then x.slotEnter (v.toNat % 64) isA .joining 0 else x).clk.rs :=
    fun _ hx => down_ite (down_slotEnter hx) hx
  exact down_ite (hone false (hone true h)) h

theorem down_yardQrel {v : Word} (h : Down s.clk.rs) : Down (s.yardQrel v).clk.rs := by
  have hone : ∀ {x : State} (isA : Bool), Down x.clk.rs →
      Down (if ((x.conn (v.toNat % 64)).ch isA).ds == .quarantined then x.connEnter (v.toNat % 64) isA .joining else x).clk.rs :=
    fun _ hx => down_ite hx hx
  exact down_ite (hone false (hone true h)) h

theorem down_goWrite {v : Word} (h : Down s.clk.rs) : Down (s.goWrite v).clk.rs :=
  down_ite (down_lkRefused h) (down_ite (down_ite h h) h)

theorem down_ackWrite {v : Word} (h : Down s.clk.rs) : Down (s.ackWrite v).clk.rs := by
  obtain he | he := s.ackWrite_closes_or_ignored v <;> rw [he]
  · exact down_of_clk s.closeRecord_frame.1 h
  · exact h

theorem down_setSpook {on : Bool} (h : Down s.clk.rs) : Down (s.setSpook on).clk.rs :=
  down_line (s := { s with spook := { s.spook with en := on } }) h

theorem down_spookPut {a v : Nat} (h : Down s.clk.rs) : Down (s.spookPut a v).clk.rs := by
  refine down_ite h (down_ite (down_ite (down_ite (down_setSpook h) h) (down_setSpook h)) ?_)
  split <;> exact h

theorem down_spookCtl {v : Word} (h : Down s.clk.rs) : Down (s.spookCtl v).clk.rs :=
  have hp : Down (s.spookPut 0x80 v.toNat).clk.rs := down_spookPut h
  down_ite (down_lkRefused h) hp

theorem down_shdnWrite {v : Word} (h : Down s.clk.rs) : Down (s.shdnWrite v).clk.rs := by
  have hm : (s.clk.rs != .maint) = true := by simp [bne, down_not_maint h]
  unfold State.shdnWrite
  rw [if_pos hm]
  exact down_alert (s := s.frameBit 4) h

theorem down_hostcmdWrite {v : Word} (h : Down s.clk.rs) : Down (s.hostcmdWrite v).clk.rs := down_ite h (down_mbxUnknown h)

theorem down_globalPut {a : Nat} {v : Word} (h : Down s.clk.rs) : Down (s.globalPut a v).clk.rs := by
  refine down_ite h ?_
  split
  case h_7 => exact down_hostcmdWrite h
  all_goals exact h

theorem down_budgetWrite {n : Nat} (h : Down s.clk.rs) : Down (s.budgetWrite n).clk.rs := down_ite h h

theorem down_pagePut {p a : Nat} {v : Word} (h : Down s.clk.rs) : Down (s.pagePut p a v).clk.rs := by
  unfold State.pagePut
  dsimp only
  split
  case h_4 => exact down_shdnWrite h
  case h_6 => exact down_rotctlWrite h
  case h_10 => exact down_probeWr h
  case h_17 => exact down_colQrel h
  case h_20 => exact down_yardQrel h
  case h_24 => exact down_ackWrite h
  case h_26 => exact down_goWrite h
  case h_27 => exact down_budgetWrite h
  case h_30 => exact down_spookPut h
  all_goals exact h

theorem down_wordWrite {a : Nat} {v : Word} (h : Down s.clk.rs) : Down (s.wordWrite a v).clk.rs :=
  down_ite (down_ite (down_alert h) (down_lkRefused h))
    (down_ite (down_alert (s := s.frameBit 4) h) (down_ite (down_globalPut h) (down_pagePut h)))

/-- A single register write of CP, with the status byte it starts from. -/
def State.registerPut (s : State) (a : Nat) (v : Word) : State := ({ s with cp := { s.cp with st := 1 } }).wordWrite a v

theorem down_registerPut {a : Nat} {v : Word} (h : Down s.clk.rs) : Down (s.registerPut a v).clk.rs :=
  down_wordWrite (s := { s with cp := { s.cp with st := 1 } }) h

/-! ## Frames -/

theorem down_wordsWrite : ∀ {l : List (Nat × Word)} {s : State}, Down s.clk.rs → Down (s.wordsWrite l).clk.rs
  | [], _, h => h
  | (a, v) :: _, s, h => down_wordsWrite (s := s.wordWrite a v) (down_wordWrite h)

theorem down_frameBad {crc : Bool} {a : Nat} (h : Down s.clk.rs) : Down (s.frameBad crc a).clk.rs :=
  down_alert (down_err (s := { s with cp := _ }) h)

theorem down_writeEnd {c x : Nat} {l : List Byte} (h : Down s.clk.rs) : Down (s.writeEnd c l x).clk.rs :=
  down_ite (down_frameBad h) (down_ite (down_frameBad h) (down_ite (down_frameBad h) (down_wordsWrite h)))

theorem readEffect_clk (s : State) (a : Nat) : (s.readEffect a).clk = s.clk := by
  unfold State.readEffect
  repeat' split
  all_goals rfl

theorem readWords_clk : ∀ (l : List Nat) (s : State), (s.readWords l).1.clk = s.clk
  | [], _ => rfl
  | a :: as, s => (readWords_clk as (s.readEffect a)).trans (readEffect_clk s a)

theorem down_readEnd {c turn bits : Nat} {l : List Byte} (h : Down s.clk.rs) : Down (s.readEnd c l turn bits).clk.rs := by
  have hw : ∀ as, Down (s.readWords as).1.clk.rs := fun as => down_of_clk (readWords_clk as s) h
  refine down_ite (down_frameBad h) (down_ite (down_frameBad h) (down_ite (down_frameBad h)
    (down_ite (down_frameBad h) (down_ite (down_frameBad h) ?_))))
  exact hw (frameAddrs (byteAt l 0) (byteAt l 1))

/-! ## The TAP and the access register -/

theorem down_cmp {g b c : Nat} (h : Down s.clk.rs) : Down (s.cmp g b c).clk.rs :=
  down_err (s := { s with pair := _ }) h

theorem down_haltNow {mode : DbgMode} {dd : Bool} (h : Down s.clk.rs) : Down (s.haltNow mode dd).clk.rs := by
  have hb : Down (if mode == .pairHalt && dd && !s.pair.split then s.cmp 0 0 cmpHalt else s).clk.rs := down_ite (down_cmp h) h
  exact down_ite hb (.inr (.inl rfl))

theorem down_haltRequest {mode : DbgMode} {code : Nat} {dd : Bool} (h : Down s.clk.rs) :
    Down (s.haltRequest mode code dd).clk.rs :=
  have he : Down (s.err .debugHalt code).clk.rs := down_err h
  down_ite h (down_ite he (down_ite he (down_ite (down_haltNow he) he)))

theorem down_preload {c : Cells} (h : Down s.clk.rs) : Down (s.preload c).clk.rs := down_ite h (down_ite h h)

theorem down_extestSel {c : Cells} {dd : Bool} (h : Down s.clk.rs) : Down (s.extestSel c dd).clk.rs :=
  down_ite h (down_haltRequest h)

theorem down_pairHaltSel {dd : Bool} (h : Down s.clk.rs) : Down (s.pairHaltSel dd).clk.rs :=
  down_ite (down_haltRequest (s := s.setTap .bypass) h) h

theorem down_leadInspectSel (h : Down s.clk.rs) : Down s.leadInspectSel.clk.rs :=
  down_ite (down_haltRequest (s := s.setTap .bypass) h) h

theorem down_leaveHalt (h : Down s.clk.rs) : Down s.leaveHalt.clk.rs := by
  refine (State.line_worse _ .debugHalt false 0).down ?_
  exact down_ite (.inl rfl) h

theorem down_cycleLate {b : Bool} (h : Down s.clk.rs) : Down (s.cycleLate b).clk.rs := down_ite h h

theorem down_resyncNow (h : Down s.clk.rs) : Down s.resyncNow.clk.rs :=
  have he : Down (s.err .debugHalt tapResync).clk.rs := down_err h
  show Down (State.clk (ite _ _ _)).rs from down_ite (down_cycleLate (down_leaveHalt he)) he

theorem down_resyncSel (h : Down s.clk.rs) : Down s.resyncSel.clk.rs := down_ite (down_resyncNow (s := s.setTap .bypass) h) h

theorem down_journaled {e : Journal} {f : Pair → Pair} (h : Down s.clk.rs) : Down (s.journaled e f).clk.rs := down_ite h h

theorem down_answer {r : Nat} {d : BitVec 32} (h : Down s.clk.rs) : Down (s.answer r d).clk.rs := h

theorem down_dbgRead {a : Nat} (h : Down s.clk.rs) : Down (s.dbgRead a).clk.rs :=
  down_ite h (down_ite h (down_ite h (down_ite h h)))

theorem down_dbgWrite {a : Nat} {v : BitVec 32} (h : Down s.clk.rs) : Down (s.dbgWrite a v).clk.rs :=
  down_ite h (down_ite (down_journaled h) h)

theorem down_dbgWriteReg {r c : Nat} {v : BitVec 32} (h : Down s.clk.rs) : Down (s.dbgWriteReg r c v).clk.rs :=
  have hj : Down (s.journaled (.reg r v) id).clk.rs := down_journaled h
  down_ite h (down_ite h (down_ite hj h))

theorem down_pairStep {m : Option (Fin 8 × Fin 70)} (h : Down s.clk.rs) : Down (s.pairStep m).clk.rs := by
  unfold State.pairStep
  dsimp only
  split
  · exact down_ite (down_cmp (s := { s.fresh.fresh with pair := _ }) h) h
  · exact h

theorem down_dbgStep {n : Nat} {m : Option (Fin 8 × Fin 70)} (h : Down s.clk.rs) : Down (s.dbgStep n m).clk.rs := by
  have hj : ∀ e f, Down (s.fresh.journaled e f).clk.rs := fun _ _ => down_journaled (s := s.fresh) h
  have hp : Down (s.pairStep m).clk.rs := down_pairStep h
  exact down_ite h (down_ite (hj _ _) (down_ite h hp))

theorem down_goOn (h : Down s.clk.rs) : Down s.goOn.clk.rs := down_cycleLate (down_leaveHalt h)

theorem down_dbgResume {r : Option Nat} {dd : Bool} (h : Down s.clk.rs) : Down (s.dbgResume r dd).clk.rs := by
  have hr : Down (State.resyncNow { s with pair := { s.pair with ramReload := true } }).clk.rs := down_resyncNow h
  have hg : ∀ l, Down (s.replay l).goOn.clk.rs := fun l => down_goOn (s := s.replay l) h
  have hgo : Down s.goOn.clk.rs := down_goOn h
  refine down_ite (down_ite hr ?_) ?_
  · exact down_ite (down_cmp (hg _)) (down_ite (down_cmp (hg _)) (hg _))
  · exact down_ite (down_cmp hgo) hgo

theorem down_whenLive {f : State → State} (hf : Down s.clk.rs → Down (f s).clk.rs) (h : Down s.clk.rs) :
    Down (whenLive s f).clk.rs := down_ite (hf h) h

theorem down_dbg {b : Bool} {f : State → State} (hf : ∀ {x : State}, Down x.clk.rs → Down (f x).clk.rs) (h : Down s.clk.rs) :
    Down (s.dbg b f).clk.rs :=
  down_whenLive (fun h => down_ite (down_ite h (hf (x := s.setTap .dbgAccess) h)) h) h

theorem down_onPort {f : State → State} (hf : Down s.clk.rs → Down (f s).clk.rs) (h : Down s.clk.rs) :
    Down (s.onPort f).clk.rs := down_ite (hf h) h

/-! ## The mailbox -/

theorem down_serve {code : Nat} {b : Bool} {f : Mbx → State → State} (hf : ∀ {m : Mbx} {x : State}, Down x.clk.rs → Down (f m x).clk.rs)
    (h : Down s.clk.rs) : Down (s.serve code b f).clk.rs := by
  refine down_whenLive (fun h => ?_) h
  split
  · exact down_ite h (down_ite (hf h) (down_mbxEnd h))
  · exact h

theorem down_echoes {m : Mbx} (h : Down s.clk.rs) : Down (s.echoes m).clk.rs :=
  down_mbxEnd (s := { s with cp := { s.cp with mbuf := toBytes 2 m.arg0.toNat ++ toBytes 2 m.arg1.toNat ++ s.cp.mbuf.drop 4 } }) h

theorem down_tellUid {m : Mbx} (h : Down s.clk.rs) : Down (s.tellUid m).clk.rs :=
  down_mbxEnd (s := { s with cp := { s.cp with mbuf := padTo 128 uidBytes } }) h

theorem down_maintAsk {ok enter : Bool} (h : Down s.clk.rs) : Down (s.maintAsk ok enter).clk.rs := down_ite h (down_mbxEnd h)

theorem down_imgBegins {m : Mbx} (h : Down s.clk.rs) : Down (s.imgBegins m).clk.rs := by
  unfold State.imgBegins
  simp only [down_imgState h, Bool.not_false, Bool.true_or, if_true]
  exact down_mbxEnd h

theorem down_inSequence {f : Nat → State → State} (h : Down s.clk.rs) : Down (s.inSequence f).clk.rs := by
  unfold State.inSequence
  rw [if_pos (by simp [down_imgState h])]
  exact down_mbxEnd h

theorem down_imgCommits {o : LoadObs} {m : Mbx} (h : Down s.clk.rs) : Down (s.imgCommits o m).clk.rs := by
  unfold State.imgCommits
  rw [if_pos (by simp [down_imgState h])]
  exact down_mbxEnd h

theorem foldl_clk {α : Type} (f : State → α → State) (h : ∀ s a, (f s a).clk = s.clk) (l : List α) (s : State) :
    (l.foldl f s).clk = s.clk := foldl_same State.clk f h l s

theorem queue_clk (s : State) (arr : Option Nat) (f : LinkFrame) : (s.queue arr f).clk = s.clk := by
  unfold State.queue
  rw [foldl_clk]
  exact fun _ _ => rfl

theorem drainTx_clk (s : State) (n : Nat) : (s.drainTx n).clk = s.clk := by
  refine (foldl_clk _ (fun s d => ?_) _ _).trans rfl
  split
  · split
    · rw [foldl_clk]
      exact fun _ _ => rfl
    · split
      · exact queue_clk s _ _
      · rfl
  · rfl

theorem sendOwn_clk (s : State) (n : Nat) (f : LinkFrame) : (s.sendOwn n f).clk = s.clk := (drainTx_clk _ n).trans rfl

theorem down_msend {m : Mbx} (h : Down s.clk.rs) : Down (s.msend m).clk.rs :=
  down_ite (down_mbxEnd h) (down_ite (down_mbxEnd h) (down_ite (down_mbxEnd h) (down_mbxEnd (down_of_clk (sendOwn_clk s _ _) h))))

theorem down_mrecvs {m : Mbx} (h : Down s.clk.rs) : Down (s.mrecvs m).clk.rs := by
  refine down_ite (down_mbxEnd h) ?_
  split
  · exact down_mbxEnd h
  · exact down_mbxEnd h

theorem down_advance {m : Mbx} (h : Down s.clk.rs) : Down (s.advance m).clk.rs := by
  have hm : (s.clk.rs != .maint) = true := by simp [bne, down_not_maint h]
  unfold State.advance
  rw [if_pos hm]
  exact down_mbxEnd h

end

/-! ## The commands -/

/-- An operation that keeps the claim's run states makes a command that does. -/
theorem act_down {t : Nat} {f : State → State} {s s' : State} (hf : ∀ {x : State}, Down x.clk.rs → Down (f x).clk.rs)
    (he : act t s f = .next s') (h : Down s.clk.rs) : Down s'.clk.rs := by
  have hop : Down (f (s.upTo t)).clk.rs := hf (down_of_clk (s.upTo_clk t) h)
  have hset := ((f (s.upTo t)).settleAt_worse false).down hop
  injection he with he
  rw [← he]
  exact down_of_clk (by simp) hset

/-- The claim, command by command: an operation that keeps SAFE, HALTED and CUT together. -/
theorem exec_down {c : Instr} {s s' : State} (hc : c.fromOutside = true) (h : Down s.clk.rs) (he : exec c s = .next s') :
    Down s'.clk.rs := by
  cases c
  case shdn t v => exact act_down (f := fun s => s.shdnWrite v) down_shdnWrite he h
  case rotctlNow t v => exact act_down (f := fun s => whenLive s fun s => s.rotctlWrite v) (down_whenLive down_rotctlWrite) he h
  case probeWrite t a v => exact act_down (f := fun s => whenLive s fun s => s.probeWr a.toNat v) (down_whenLive down_probeWr) he h
  case colQrel t v => exact act_down (f := fun s => whenLive s fun s => s.colQrel v) (down_whenLive down_colQrel) he h
  case yardQrel t v => exact act_down (f := fun s => whenLive s fun s => s.yardQrel v) (down_whenLive down_yardQrel) he h
  case go t v => exact act_down (f := fun s => whenLive s fun s => s.goWrite v) (down_whenLive down_goWrite) he h
  case spookEn t v => exact act_down (f := fun s => whenLive s fun s => s.spookCtl v) (down_whenLive down_spookCtl) he h
  case extest t o => exact act_down (f := fun s => whenLive s fun s => s.extestSel o.cells o.digestDiffer) (down_whenLive down_extestSel) he h
  case idcode t => exact act_down (f := fun s => whenLive s fun s => s.setTap .idcode) (down_whenLive id) he h
  case tapReset t => exact act_down (f := fun s => whenLive s fun s => s.setTap .idcode) (down_whenLive id) he h
  case bypass t d => exact act_down (f := fun s => whenLive s fun s => if tapListed d.toNat then s else s.setTap .bypass) (down_whenLive fun h => down_ite h h) he h
  case samplePreload t c => exact act_down (f := fun s => whenLive s fun s => s.preload c) (down_whenLive down_preload) he h
  case pairHalt t d => exact act_down (f := fun s => whenLive s fun s => s.pairHaltSel d) (down_whenLive down_pairHaltSel) he h
  case leadInspect t => exact act_down (f := fun s => whenLive s fun s => s.leadInspectSel) (down_whenLive down_leadInspectSel) he h
  case resync t => exact act_down (f := fun s => whenLive s fun s => s.resyncSel) (down_whenLive down_resyncSel) he h
  case fstatClear t r v => exact act_down (f := fun s => s.onPort fun s => s.fstatWrite r v) (down_onPort id) he h
  case ridx t v => exact act_down (f := fun s => s.onPort fun s => s.ridxWrite v) (down_onPort id) he h
  case sidx t v => exact act_down (f := fun s => s.onPort fun s => s.sidxWrite v) (down_onPort id) he h
  case alertSrcClear t v => exact act_down (f := fun s => s.onPort fun s => s.alertWrite v) (down_onPort id) he h
  case faultAck t v => exact act_down (f := fun s => s.onPort fun s => s.ackWrite v) (down_onPort down_ackWrite) he h
  case registerWrite t a v => exact act_down (f := fun s => s.onPort fun s => s.registerPut a.toNat v) (down_onPort down_registerPut) he h
  case writeFrame t c l x => exact act_down (f := fun s => s.onPort fun s => s.writeEnd c l x) (down_onPort down_writeEnd) he h
  case readFrame t c l u b => exact act_down (f := fun s => s.onPort fun s => s.readEnd c l u b) (down_onPort down_readEnd) he h
  case echo t => exact act_down (f := fun s => s.serve _ _ State.echoes) (down_serve down_echoes) he h
  case devuid t => exact act_down (f := fun s => s.serve _ _ State.tellUid) (down_serve down_tellUid) he h
  case maintEnter t => exact act_down (f := fun s => s.serve _ _ _) (down_serve down_maintAsk) he h
  case maintLeave t => exact act_down (f := fun s => s.serve _ _ _) (down_serve down_maintAsk) he h
  case imgBegin t => exact act_down (f := fun s => s.serve _ _ State.imgBegins) (down_serve down_imgBegins) he h
  case imgWrite t => exact act_down (f := fun s => s.serve _ _ State.imgWrites) (down_serve down_inSequence) he h
  case imgVerify t => exact act_down (f := fun s => s.serve _ _ State.imgVerifies) (down_serve down_inSequence) he h
  case imgCommit t o => exact act_down (f := fun s => s.serve _ _ (State.imgCommits o)) (down_serve down_imgCommits) he h
  case yardMsend t => exact act_down (f := fun s => s.serve _ _ State.msend) (down_serve down_msend) he h
  case yardMrecv t => exact act_down (f := fun s => s.serve _ _ State.mrecvs) (down_serve down_mrecvs) he h
  case lcAdvance t => exact act_down (f := fun s => if s.img.erasing then s else s.serve _ _ State.advance) (fun h => down_ite h (down_serve down_advance h)) he h
  case status t => exact act_down (f := fun s => s.dbg _ fun s => s.answer _ _) (down_dbg down_answer) he h
  case readWord t a => exact act_down (f := fun s => s.dbg _ (fun s => s.dbgRead a.toNat)) (down_dbg down_dbgRead) he h
  case writeWord t a v => exact act_down (f := fun s => s.dbg _ (fun s => s.dbgWrite a.toNat v)) (down_dbg down_dbgWrite) he h
  case readCoreRegister t r c => exact act_down (f := fun s => s.dbg _ fun s => s.answer _ _) (down_dbg down_answer) he h
  case writeCoreRegister t r c v => exact act_down (f := fun s => s.dbg _ (fun s => s.dbgWriteReg r c v)) (down_dbg down_dbgWriteReg) he h
  case step t o => exact act_down (f := fun s => s.dbg _ (fun s => s.dbgStep o.count.toNat o.mismatch)) (down_dbg down_dbgStep) he h
  case resume t r d =>
    have hf : ∀ {x : State}, Down x.clk.rs → Down (x.dbg true (fun s => s.dbgResume (r.map (·.val)) d)).clk.rs :=
      fun h => down_dbg (fun h => down_dbgResume h) h
    exact act_down hf he h
  all_goals cases hc

/-- Settles O53, operation by operation: each keeps SAFE, HALTED and CUT together, and so does settling. -/
theorem safeHolds : Obligations.SafeHolds := fun _ _ _ hc hs he => exec_down hc (hs.elim .inl (.inr ∘ .inl)) he

end Sys2Proof.Machine
end

section
/-!
PROOF. O47, O48, O52: the step relation, the state of reset, and the reaction of each class to a raised error (R334 to R340).
-/
namespace Sys2Proof.Machine

/-! ## The step and the state of reset -/

/-- Settles O47: both halves are the definition of `step`. -/
theorem stepRunsFront : Obligations.StepRunsFront := by
  constructor
  · intro c rest s
    rfl
  · intro s h
    unfold step
    rw [h]

/-- Before the first power-up no bank of FIO pins has its supply. -/
theorem reset_fioPin (n : Nat) : State.reset.fioPin n = .unpowered := by
  have hb : State.reset.bankGood n = false := by
    unfold State.bankGood
    split <;> rfl
  show (if State.reset.bankGood n then _ else _) = PadState.unpowered
  rw [hb]
  rfl

theorem nth_replicate_default {α : Type} (d : α) : ∀ m n, nth d (List.replicate m d) n = d
  | 0, _ => rfl
  | _ + 1, 0 => rfl
  | m + 1, n + 1 => nth_replicate_default d m n

/-- Every pad of the sixteen outputs is low, as its rule has it. -/
theorem reset_padsFollow : State.reset.PadsFollow := by
  intro n l _
  have ho : State.reset.out n = {} := nth_replicate_default ({} : OutSt) 16 n
  rw [ho]
  cases l <;> rfl

theorem reset_rowsOfThree : rowsOfThree State.reset.img.fuses
  | 0 => by decide
  | 1 => by decide
  | 2 => by decide
  | 3 => by decide
  | 4 => by decide
  | n + 5 => Nat.zero_le 3

/-- Settles O48, field by field; the pins of the part without supply are unpowered. -/
theorem resetState : Obligations.ResetState := by
  unfold Obligations.ResetState
  refine ⟨rfl, rfl, rfl, rfl, ⟨rfl, reset_padsFollow⟩, rfl, rfl, rfl, rfl, reset_rowsOfThree, ?_, ?_, rfl⟩
  · intro n l
    exact ⟨rfl, rfl, reset_fioPin n, rfl, rfl, rfl, rfl⟩
  · intro pin
    cases pin <;> rfl

/-! ## LOCAL: every entry of the scope (R340) -/

/-- The scope of an occurrence is read from the sheets and the yard. -/
theorem scope_congr {s s' : State} (h0 : s'.sh0 = s.sh0) (h1 : s'.sh1 = s.sh1) (hy : s'.yard = s.yard) (src : Src) (d : Nat) :
    s'.scope src d = s.scope src d := by
  cases s
  cases s'
  cases h0
  cases h1
  cases hy
  rfl

theorem com_modCom_same (s : State) (k i : Nat) (f : InstCom → InstCom) (h : i < (s.sheet k).com.length) :
    (s.modCom k i f).com k i = f (s.com k i) := by
  unfold State.modCom State.modSheet State.com State.sheet at *
  by_cases hk : k = 0 <;> simp only [hk, if_true, if_false] at h ⊢ <;> exact nth_updAt_same _ f _ _ h

/-- An update keeps a property of all entries that it keeps of one. -/
theorem com_modCom_of {P : InstCom → Prop} (f : InstCom → InstCom) (hf : ∀ m, P m → P (f m)) (s : State) (k i k' i' : Nat)
    (h : P (s.com k' i')) : P ((s.modCom k i f).com k' i') := by
  have hl : ∀ (l : List InstCom), P (nth {} l i') → P (nth {} (updAt f l i) i') := by
    intro l hl
    by_cases hi : i' = i
    · by_cases hlen : i' < l.length
      · subst hi
        rw [nth_updAt_same _ f _ _ hlen]
        exact hf _ hl
      · have hle : l.length ≤ i' := by omega
        rw [nth_beyond _ _ _ hle] at hl
        rwa [nth_beyond _ _ _ (Nat.le_trans (Nat.le_of_eq (updAt_length f l i)) hle)]
    · rwa [nth_updAt_other _ f _ _ _ hi]
  unfold State.modCom State.modSheet
  unfold State.com State.sheet at h ⊢
  by_cases hk : k = 0 <;> by_cases hk' : k' = 0 <;> simp only [hk, hk', if_true, if_false] at h ⊢ <;>
    first | exact hl _ h | exact h

/-- What one entry of a sheet holds after its LOCAL. -/
def localized (c : LocalCause) (recno : Nat) (m : InstCom) : InstCom :=
  if m.locals.any (fun x => x.cause == c) then
    { m with locals := m.locals.map (fun x => if x.cause == c && recno != 0 then { x with recno := recno } else x) }
  else { m with locals := m.locals ++ [{ cause := c, recno := recno }], rcOpen := false, motSince := none }

theorem localized_atLocal (c : LocalCause) (recno : Nat) (m : InstCom) : (localized c recno m).atLocal = true := by
  unfold localized InstCom.atLocal
  split
  next h =>
    cases hm : m.locals with
    | nil => simp [hm] at h
    | cons x xs => simp
  next => simp

theorem addLocal_sheet (s : State) (src : Src) (d r : Nat) (e : Nat × Nat) (k : Nat) :
    (s.addLocal src d r e).sheet k = (s.modCom e.1 e.2 (localized (localCause src d (s.recAt e.1 e.2)) r)).sheet k := by
  unfold State.addLocal
  dsimp only
  split
  · unfold State.alert
    split <;> rfl
  · rfl

theorem modCom_length (s : State) (k i : Nat) (f : InstCom → InstCom) (k' : Nat) :
    ((s.modCom k i f).sheet k').com.length = (s.sheet k').com.length := by
  unfold State.modCom State.modSheet State.sheet
  by_cases hk : k = 0 <;> by_cases hk' : k' = 0 <;> simp [hk, hk', updAt_length]

theorem addLocal_length (s : State) (src : Src) (d r : Nat) (e : Nat × Nat) (k : Nat) :
    ((s.addLocal src d r e).sheet k).com.length = (s.sheet k).com.length := by
  rw [addLocal_sheet, modCom_length]

/-- An entry that is at LOCAL stays there when another goes. -/
theorem addLocal_keeps (s : State) (src : Src) (d r : Nat) (e : Nat × Nat) (k i : Nat) (h : (s.com k i).atLocal = true) :
    ((s.addLocal src d r e).com k i).atLocal = true := by
  unfold State.com
  rw [addLocal_sheet]
  exact com_modCom_of (P := fun m => m.atLocal = true) _ (fun m _ => localized_atLocal _ _ m) s e.1 e.2 k i h

theorem addLocal_reaches (s : State) (src : Src) (d r : Nat) (e : Nat × Nat) (h : e.2 < (s.sheet e.1).com.length) :
    ((s.addLocal src d r e).com e.1 e.2).atLocal = true := by
  unfold State.com
  rw [addLocal_sheet]
  exact (congrArg InstCom.atLocal (com_modCom_same s e.1 e.2 _ h)).trans (localized_atLocal _ _ _)

theorem addLocals_keeps (src : Src) (d r k i : Nat) : ∀ (l : List (Nat × Nat)) (s : State), (s.com k i).atLocal = true →
    ((l.foldl (fun s e => s.addLocal src d r e) s).com k i).atLocal = true
  | [], _, h => h
  | e :: l, s, h => addLocals_keeps src d r k i l _ (addLocal_keeps s src d r e k i h)

theorem addLocals_reaches (src : Src) (d r : Nat) (e : Nat × Nat) (l : List (Nat × Nat)) : ∀ s : State, e ∈ l →
    e.2 < (s.sheet e.1).com.length → ((l.foldl (fun s e => s.addLocal src d r e) s).com e.1 e.2).atLocal = true := by
  induction l with
  | nil => exact fun _ he => nomatch he
  | cons a l ih =>
    intro s he hlen
    obtain rfl | he := List.mem_cons.1 he
    · exact addLocals_keeps src d r _ _ l _ (addLocal_reaches s src d r e hlen)
    · exact ih _ he (by rwa [addLocal_length])

theorem cancelAffected_com (s : State) (sc : List (Nat × Nat)) (k i : Nat) : (s.cancelAffected sc).com k i = s.com k i := by
  unfold State.cancelAffected
  rw [foldl_same (fun s => s.com k i)]
  exact fun _ _ => rfl

theorem localReact_reaches (s : State) (src : Src) (d r : Nat) (e : Nat × Nat) (he : e ∈ s.scope src d)
    (hlen : e.2 < (s.sheet e.1).com.length) : ((s.localReact src d r).com e.1 e.2).atLocal = true := by
  unfold State.localReact
  dsimp only
  rw [cancelAffected_com]
  exact addLocals_reaches src d r e _ s he hlen

/-! ## A raised error -/

/-- Recording an error changes the records and the alerts alone. -/
theorem record_frame (s : State) (b d : Nat) (c : Cls) :
    (s.record b d c).sh0 = s.sh0 ∧ (s.record b d c).sh1 = s.sh1 ∧ (s.record b d c).yard = s.yard ∧ (s.record b d c).clk = s.clk := by
  unfold State.record State.suppress State.openRecord State.mergeRecord State.unsup State.alert
  dsimp only
  (repeat' split) <;> exact ⟨rfl, rfl, rfl, rfl⟩

/-- What is latched and recorded when an error is raised, before its class reacts. -/
def State.noted (s : State) (src : Src) (d : Nat) (c : Cls) : State := (s.latch src c).record src.bit d c

theorem raise_noted {s : State} (h : s.flt.on = true) (src : Src) (d : Nat) (c : Cls) :
    s.raise src d c = (s.noted src d (Cls.max (s.mapEntry src) c)).reactTo src d (Cls.max (s.mapEntry src) c) := by
  rw [State.raise_eq, h]
  rfl

theorem noted_fstat (s : State) (src : Src) (d : Nat) (c : Cls) : bit (s.noted src d c).flt.fstat src.bit = true := by
  unfold State.noted
  rw [State.record_fstat]
  show bit (s.flt.fstat ||| 2 ^ src.bit) src.bit = true
  rw [bit_or]
  simp [bit]

theorem reactTo_stop_sout (s : State) (src : Src) (d : Nat) :
    (s.reactTo src d .stop).sout.open_ = true ∧ (s.reactTo src d .stop).sout.barkHold = true := by
  unfold State.reactTo
  dsimp only
  split <;> exact State.stop_sout _

theorem reactTo_cut_open (s : State) (src : Src) (d : Nat) : (s.reactTo src d .cut).sout.open_ = true := by
  unfold State.reactTo
  dsimp only
  split
  · rfl
  · exact (State.cut_rs _ _ _).2.2.1

/-- From RUN and from MAINT the STOP reaction goes to SAFE. -/
theorem stop_safe (s : State) (h : s.clk.rs = .run ∨ s.clk.rs = .maint) : s.stop.clk.rs = .safe := by
  unfold State.stop State.toSafe
  dsimp only
  obtain h | h := h <;> rw [show (s.trigger trigColl).holdBark.clk.rs = _ from h] <;> rfl

theorem reactTo_stop_safe (s : State) (src : Src) (d : Nat) (h : s.clk.rs = .run ∨ s.clk.rs = .maint) :
    (s.reactTo src d .stop).clk.rs = .safe := by
  have hf : (s.farrStop src).clk = s.clk := by
    unfold State.farrStop State.hostRestore
    dsimp only
    (repeat' split) <;> rfl
  unfold State.reactTo
  dsimp only
  split
  · refine stop_safe _ ?_
    rwa [State.trigger_clk, hf]
  · refine stop_safe _ ?_
    rwa [hf]

theorem reactTo_cut (s : State) (src : Src) (d : Nat) (h : src ≠ .seqPg) :
    (s.reactTo src d .cut).clk.rs = .cut ∧ (s.reactTo src d .cut).seq.en = List.replicate 8 false := by
  have hc := State.cut_rs (s.trigger trigColl) 0x07 src.bit
  unfold State.reactTo
  dsimp only
  rw [if_neg h]
  exact ⟨hc.1, hc.2.1⟩

/-- A class of code 2 or higher is STOP or CUT. -/
theorem reactTo_open (s : State) (src : Src) (d : Nat) (c : Cls) (h : 2 ≤ c.code) : (s.reactTo src d c).sout.open_ = true := by
  cases c with
  | note => cases Nat.not_succ_le_zero 1 h
  | loc => exact absurd h (by decide)
  | stop => exact (reactTo_stop_sout s src d).1
  | cut => exact reactTo_cut_open s src d

/-- Settles O52: latch, record, and the reaction of the effective class. -/
theorem reactions : Obligations.Reactions := by
  intro src d c s
  refine ⟨?_, ?_, ?_, ?_, ?_, ?_⟩
  · intro h
    rw [State.raise_eq, h]
    rfl
  · intro h
    have hw := (s.raise_worse src d c).fstat
    rw [raise_noted h] at hw ⊢
    exact ⟨(State.reactTo_worse _ _ _ _).fstat _ (noted_fstat s src d _), hw⟩
  · intro h hc
    rw [raise_noted h]
    exact reactTo_open _ _ _ _ hc
  · intro h hc e he hlen
    obtain ⟨h0, h1, hy, -⟩ := record_frame (s.latch src .loc) src.bit d .loc
    have hsc : (s.noted src d .loc).scope src d = s.scope src d := scope_congr h0 h1 hy src d
    have hsh : (s.noted src d .loc).sheet e.1 = s.sheet e.1 := by
      unfold State.sheet State.noted
      rw [h0, h1]
      rfl
    rw [raise_noted h, hc]
    exact localReact_reaches _ _ _ _ _ (by rwa [hsc]) (by rwa [hsh])
  · intro h hc
    rw [raise_noted h, hc]
    refine ⟨(reactTo_stop_sout _ _ _).2, fun hr => reactTo_stop_safe _ _ _ ?_⟩
    obtain ⟨-, -, -, hclk⟩ := record_frame (s.latch src .stop) src.bit d .stop
    exact hclk ▸ hr
  · intro h hc hs
    rw [raise_noted h, hc]
    exact reactTo_cut _ _ _ hs

end Sys2Proof.Machine
end

section
/-!
PROOF. O55: the frame of the commands on an input pair or a test-pulse line.
-/
namespace Sys2Proof.Machine

/-! ## What a command's settling leaves -/

/-- Settling touches neither the inputs nor the collar, and takes nothing from the FIFOs. -/
theorem act_whole {tick : Bool} {t : Nat} {s s' : State} {f : State → State} (h : actAt tick t s f = .next s') :
    s'.sin = (f (s.upTo t)).sin ∧ s'.col = (f (s.upTo t)).col ∧ s'.fifos = (f (s.upTo t)).fifos ∧ s'.sp = (f (s.upTo t)).sp ∧
      s'.spook = (f (s.upTo t)).spook ∧ s'.mram = (f (s.upTo t)).mram := by
  cases h
  simp

/-! ## One pair -/

/-- Of the safe inputs only one pair may differ. -/
def PairOnly (n : Nat) (s s' : State) : Prop :=
  s'.sin = { s.sin with pairs := s'.sin.pairs } ∧ ∀ k, k ≠ n → s'.inPair k = s.inPair k

theorem PairOnly.refl (n : Nat) (s : State) : PairOnly n s s := ⟨rfl, fun _ _ => rfl⟩

theorem PairOnly.trans {n : Nat} {a b c : State} (h : PairOnly n a b) (k : PairOnly n b c) : PairOnly n a c :=
  ⟨by rw [k.1, h.1], fun i hi => (k.2 i hi).trans (h.2 i hi)⟩

theorem PairOnly.of_sin {n : Nat} {s s' : State} (h : s'.sin = s.sin) : PairOnly n s s' :=
  ⟨by rw [h], fun k _ => by unfold State.inPair; rw [h]⟩

theorem PairOnly.ite {n : Nat} {s a b : State} {c : Prop} [Decidable c] (ha : PairOnly n s a) (hb : PairOnly n s b) :
    PairOnly n s (if c then a else b) := by
  split
  · exact ha
  · exact hb

theorem modPair_pairOnly (s : State) (n : Nat) (f : InPair → InPair) : PairOnly n s (s.modPair n f) :=
  ⟨rfl, fun k hk => nth_updAt_other _ f s.sin.pairs n k hk⟩

theorem errs_sin (n : Nat) (l : List Src) (s : State) : (l.foldl (fun s src => s.err src n) s).sin = s.sin :=
  foldl_same State.sin _ (fun _ _ => by simp) l s

theorem copies_pairOnly (s : State) (n : Nat) (f : InPair → PairV → CopyOut) : PairOnly n s (s.copies n f) := by
  unfold State.copies
  dsimp only
  refine PairOnly.trans ?_ (.of_sin (errs_sin n _ _))
  exact .ite (modPair_pairOnly s n _) (modPair_pairOnly s n _)

theorem onPair_pairOnly (s : State) (n : Nat) (f : State → State) (h : PairOnly n s (f s)) : PairOnly n s (s.onPair n f) :=
  .ite h (.refl n s)

theorem siChange_pairOnly (s : State) (n : Nat) (ch : Chan) (v : Bool) : PairOnly n s (s.siChange n ch v) :=
  (modPair_pairOnly s n _).trans (onPair_pairOnly _ n _ (copies_pairOnly _ n _))

theorem blankOver_pairOnly (s : State) (n : Nat) (ch : Chan) : PairOnly n s (s.blankOver n ch) :=
  (copies_pairOnly s n _).trans (modPair_pairOnly _ n _)

/-- A command whose operation changes one pair alone. -/
theorem pair_frame {t n : Nat} {s s' : State} {f : State → State} (hoff : ∀ x, (f x).offSin = x.offSin) (hp : ∀ x, PairOnly n x (f x))
    (h : act t s f = .next s') :
    { s'.keep with now := s.now, sin := s.sin, fifos := s.fifos } = s.keep ∧ s'.sin = { s.sin with pairs := s'.sin.pairs } ∧
      ∀ k, k ≠ n → s'.inPair k = s.inPair k := by
  refine ⟨offSin_frame (act_offSin h hoff), ?_⟩
  have hs : PairOnly n (s.upTo t) s' := (hp (s.upTo t)).trans (.of_sin (act_whole h).1)
  exact hs

/-- A command on the two validator copies of a pair. -/
theorem copies_frame {t n : Nat} {s s' : State} {f : State → InPair → PairV → CopyOut}
    (h : act t s (fun s => s.onPair n fun s => s.copies n (f s)) = .next s') :
    { s'.keep with now := s.now, sin := s.sin, fifos := s.fifos } = s.keep ∧ s'.sin = { s.sin with pairs := s'.sin.pairs } ∧
      ∀ k, k ≠ n → s'.inPair k = s.inPair k :=
  pair_frame (fun x => State.onPair_offSin x n _ fun y => State.copies_offSin y n _)
    (fun x => onPair_pairOnly x n _ (copies_pairOnly x n _)) h

/-! ## One test-pulse line -/

theorem fedByLine_tp (s : State) (line : Nat) (f : InPair → Bool → ChanV → ChanV) (k : Nat) : (s.fedByLine line f).tp k = s.tp k := rfl

theorem modTp_other (s : State) (n k : Nat) (f : TpLine → TpLine) (h : k ≠ n) : (s.modTp n f).tp k = s.tp k :=
  nth_updAt_other _ f s.sin.tp n k h

theorem darkStart_tp (s : State) (n k : Nat) (h : k ≠ n) : (s.darkStart n).tp k = s.tp k := by
  unfold State.darkStart
  dsimp only
  split
  · rw [fedByLine_tp, modTp_other _ _ _ _ h]
  · rfl

theorem checkSample_tp (s : State) (n k : Nat) : (s.checkSample n).tp k = s.tp k := by
  unfold State.checkSample
  dsimp only
  split
  · split <;> rfl
  · rfl

theorem darkEnd_tp (s : State) (n k : Nat) (h : k ≠ n) : (s.darkEnd n).tp k = s.tp k := by
  unfold State.darkEnd
  dsimp only
  split
  · split
    · exact modTp_other _ _ _ _ h
    · rfl
  · rfl

/-- A command whose operation changes one line alone. -/
theorem line_frame {t n : Nat} {s s' : State} {f : State → State} (hoff : ∀ x, (f x).offSin = x.offSin)
    (htp : ∀ (x : State) k, k ≠ n → (f x).tp k = x.tp k) (h : act t s f = .next s') :
    { s'.keep with now := s.now, sin := s.sin, fifos := s.fifos } = s.keep ∧ ∀ k, k ≠ n → s'.tp k = s.tp k := by
  refine ⟨offSin_frame (act_offSin h hoff), fun k hk => ?_⟩
  have hs : s'.tp k = (f (s.upTo t)).tp k := by
    unfold State.tp
    rw [(act_whole h).1]
  exact hs.trans (htp (s.upTo t) k hk)

/-- Settles O55: each command is an operation on one pair or one line. -/
theorem frameInputs : Obligations.FrameInputs := by
  constructor
  · intro t n ch v s s'
    simp only [List.forall_mem_cons, List.not_mem_nil, false_implies, implies_true, and_true]
    refine ⟨fun h => ?_, fun h => ?_, fun h => ?_, fun h => ?_, fun h => ?_, fun h => ?_⟩
    · exact pair_frame (f := fun s => s.siChange n ch v) (State.siChange_offSin · _ _ _) (siChange_pairOnly · _ _ _) h
    · exact copies_frame (f := fun s p pv => pv.filterEnd p s.now ch) h
    · exact copies_frame (f := fun s p pv => pv.discEnd p s.now) h
    · exact copies_frame (f := fun s p pv => pv.tolEnd p s.now ch) h
    · exact copies_frame (f := fun s p pv => pv.chkEnd p s.now ch) h
    · exact pair_frame (f := fun s => s.onPair n fun s => s.blankOver n ch)
        (fun x => State.onPair_offSin x n _ (State.blankOver_offSin · _ _)) (fun x => onPair_pairOnly x n _ (blankOver_pairOnly x _ _)) h
  · intro t n s s'
    simp only [List.forall_mem_cons, List.not_mem_nil, false_implies, implies_true, and_true]
    refine ⟨fun h => ?_, fun h => ?_, fun h => ?_⟩
    · exact line_frame (f := fun s => s.darkStart n) (State.darkStart_offSin · _) (fun x k => darkStart_tp x n k) h
    · exact line_frame (f := fun s => s.checkSample n) (State.checkSample_offSin · _) (fun x k _ => checkSample_tp x n k) h
    · exact line_frame (f := fun s => s.darkEnd n) (State.darkEnd_offSin · _) (fun x k => darkEnd_tp x n k) h

end Sys2Proof.Machine
end

section
/-!
PROOF. O56 to O60 fail. O56: FIFO 1, which carries channel A's dark-test requests, is not of the safe outputs. The others put the
counter of the free values of the state before beside the 0 that `State.keep` leaves there.
-/
namespace Sys2Proof.Machine

/-- Output 0 has a deferred test of its P-leg, and FIFO 1 holds an earlier request back (R108, R417). -/
def darkHeldBack : State :=
  { clk := { rs := .run }, sout := { outs := { used := true, p := { deferred := true } } :: List.replicate 15 {}, checks := true, open_ := false }
    fifos := setAt (List.replicate 10 {}) 1 { held := [.dark 1] } }

/-- The request of the new test waits behind the earlier one. -/
theorem darkHeldBack_fifo : (darkHeldBack.darkStartTest 0 .p).fifos ≠ darkHeldBack.fifos := by
  decide

/-- Refutes O56: DARK_TEST_START of a P-leg asks the SIO through FIFO 1 (R108), and where that FIFO holds a datum back the request
stays in it, so the command changes more than the safe outputs. -/
theorem not_frameOutputs : ¬ Obligations.FrameOutputs := by
  rintro ⟨h, -⟩
  have hf := (h 0 0 .p false darkHeldBack _ (.darkTestStart 0 0 .p) (by simp) rfl).1
  have hs := (act_whole (tick := false) (f := fun s => s.darkStartTest 0 .p) (s := darkHeldBack) (t := 0) rfl).2.2.1
  have hk := congrArg (fun s : State => s.fifos) hf
  exact darkHeldBack_fifo (hs.symm.trans hk)

/-! ## The counter of the free values

A frame of the form `{ s'.keep with free := s.free, … } = s.keep` asks for `s.free = 0`, since `State.keep` sets the counter to 0. It
fails in every state in which the part has drawn a free value. -/

/-- A part in RUN that has drawn one free value. -/
def oneDrawn : State := { seq := { por := false }, clk := { rs := .run }, free := 1 }

theorem oneDrawn_keep_free : oneDrawn.free ≠ oneDrawn.keep.free := by decide

/-- Refutes O57: in RUN with one free value drawn, a write of 0 to COL.QREL changes nothing, and yet the frame's `free` is 1 on the
left and 0 on the right. -/
theorem not_frameCollar : ¬ Obligations.FrameCollar := by
  rintro ⟨h, -⟩
  have hf := h 0 0 false [] 0 0 oneDrawn _ (.colQrel 0 0) (by simp) rfl
  have hk := congrArg (fun s : State => s.free) hf
  exact oneDrawn_keep_free hk

/-- Refutes O58: with one free value drawn, an error of a link that is down changes nothing of the counter, and the frame's `free` is 1
on the left and 0 on the right. -/
theorem not_frameYard : ¬ Obligations.FrameYard := by
  rintro ⟨h, -⟩
  have hf := h 0 0 [] 0 0 0 0 false oneDrawn _ (.linkError 0 0) (by simp) rfl
  have hk := congrArg (fun s : State => s.free) hf
  exact oneDrawn_keep_free hk

/-- Refutes O59 by its first clause: with one free value drawn, IDCODE draws none, and the frame's `free` is 1 on the left and 0 on the
right. -/
theorem not_framePair : ¬ Obligations.FramePair := by
  rintro ⟨h, -⟩
  have hf := h 0 {} 0 0 0 0 0 oneDrawn _ (.idcode 0) (by simp) rfl
  have hk := congrArg (fun s : State => s.free) hf
  exact oneDrawn_keep_free hk

/-- Refutes O60 by its first clause: with one free value drawn, ECHO without a command in the mailbox draws none, and the frame's
`free` is 1 on the left and 0 on the right. -/
theorem not_frameHost : ¬ Obligations.FrameHost := by
  rintro ⟨h, -⟩
  have hf := h 0 0 oneDrawn _ (.echo 0) (by simp) rfl
  have hk := congrArg (fun s : State => s.free) hf
  exact oneDrawn_keep_free hk

end Sys2Proof.Machine
end

section
/-!
PROOF. What a raised error and a command's settling leave standing: a value that only moves one way stays where it has come to.
-/
namespace Sys2Proof.Machine

/-- Reactions and settling: with COLL in reset the clocks stay, what is stopped or dropped stays so, alerts stay set but for the alert of
suppressed NOTEs, `b` is the one bit of FSTAT that may be latched, and captures, standstill and shut gates stay. -/
structure State.Steady (b : Nat) (s s' : State) : Prop where
  on : s'.flt.on = s.flt.on
  deaf : s.flt.on = false → s'.clk = s.clk
  loft : s.img.loft = false → s'.img.loft = false
  down : s.seq.phase ≠ .down → s'.seq.phase ≠ .down
  pend : s.yard.pend = [] → s'.yard.pend = []
  todo : s.farr.todo = [] → s'.farr.todo = []
  alerts : ∀ n, n < 16 → n ≠ 7 → bit s.cp.alertSrc n = true → bit s'.cp.alertSrc n = true
  fstat : ∀ n, n ≠ b → bit s'.flt.fstat n = bit s.flt.fstat n
  ackBad : s.sh0.ackBad = true → s'.sh0.ackBad = true
  recs : ∀ k, (s'.sheet k).recs = (s.sheet k).recs
  caps : ∀ k i, i < (s.sheet k).recs.length → (s'.com k i).cap = (s.com k i).cap ∧ (s'.com k i).capOk = (s.com k i).capOk
  still : ∀ k i, i < (s.sheet k).recs.length → (nth {} (s.sheet k).b i).still = true → (nth {} (s'.sheet k).b i).still = true
  gate : ∀ n l, ((s.out n).leg l).gate = false → ((s'.out n).leg l).gate = false

namespace State.Steady

variable {b : Nat} {s t u : State}

theorem refl (b : Nat) (s : State) : s.Steady b s :=
  ⟨rfl, fun _ => rfl, id, id, id, id, fun _ _ _ => id, fun _ _ => rfl, id, fun _ => rfl, fun _ _ _ => ⟨rfl, rfl⟩, fun _ _ _ => id, fun _ _ => id⟩

theorem trans (h : s.Steady b t) (k : t.Steady b u) : s.Steady b u where
  on := k.on.trans h.on
  deaf a := (k.deaf (h.on.trans a)).trans (h.deaf a)
  loft := k.loft ∘ h.loft
  down := k.down ∘ h.down
  pend := k.pend ∘ h.pend
  todo := k.todo ∘ h.todo
  alerts n hl hn := k.alerts n hl hn ∘ h.alerts n hl hn
  fstat n hn := (k.fstat n hn).trans (h.fstat n hn)
  ackBad := k.ackBad ∘ h.ackBad
  recs i := (k.recs i).trans (h.recs i)
  caps i j hj := by
    have hk := k.caps i j (by rwa [h.recs i])
    have hh := h.caps i j hj
    exact ⟨hk.1.trans hh.1, hk.2.trans hh.2⟩
  still i j hj := k.still i j (by rwa [h.recs i]) ∘ h.still i j hj
  gate n l := k.gate n l ∘ h.gate n l

/-- What touches neither the clocks nor the sheets nor any other of these. -/
theorem of_same (hf : t.flt.on = s.flt.on) (hst : t.flt.fstat = s.flt.fstat) (hc : t.clk = s.clk) (hi : t.img = s.img)
    (hs : t.seq.phase = s.seq.phase) (hp : t.yard.pend = s.yard.pend) (hr : t.farr.todo = s.farr.todo)
    (ha : t.cp.alertSrc = s.cp.alertSrc) (h0 : t.sh0 = s.sh0) (h1 : t.sh1 = s.sh1) (ho : t.sout.outs = s.sout.outs) : s.Steady b t := by
  have hsh : ∀ k, t.sheet k = s.sheet k := fun k => by rw [State.sheet, State.sheet, h0, h1]
  have hcom : ∀ k i, t.com k i = s.com k i := fun k i => by rw [State.com, State.com, hsh]
  have hout : ∀ n, t.out n = s.out n := fun n => by rw [State.out, State.out, ho]
  exact ⟨hf, fun _ => hc, fun h => by rwa [hi], fun h => by rwa [hs], fun h => by rwa [hp], fun h => by rwa [hr],
    fun n _ _ h => by rwa [ha], fun n _ => by rw [hst], fun h => by rwa [h0], fun k => by rw [hsh],
    fun k i _ => ⟨by rw [hcom], by rw [hcom]⟩, fun k i _ h => by rwa [hsh], fun n l h => by rwa [hout]⟩

theorem foldl {α : Type} (f : State → α → State) (h : ∀ s a, State.Steady b s (f s a)) : ∀ (l : List α) (s : State), s.Steady b (l.foldl f s)
  | [], s => refl b s
  | a :: l, s => (h s a).trans (foldl f h l (f s a))

end State.Steady

section
variable {b : Nat}

/-! ## A raised error -/

theorem bit_set (a n : Nat) (h : bit a n = true) (m : Nat) : bit (a ||| 2 ^ m) n = true := by rw [bit_or, h, Bool.true_or]

theorem alert_steady (s : State) (n : Nat) : s.Steady b (s.alert n) := by
  unfold State.alert
  split
  · exact .refl b s
  · exact { State.Steady.refl b s with alerts := fun m _ _ h => bit_set _ m h n }

theorem State.Steady.alert {s t : State} (h : s.Steady b t) (n : Nat) : s.Steady b (t.alert n) := h.trans (alert_steady t n)

theorem trigger_steady (s : State) (n : Nat) : s.Steady b (s.trigger n) := .of_same rfl rfl rfl rfl rfl rfl rfl rfl rfl rfl rfl

theorem farrStop_steady (s : State) (src : Src) : s.Steady b (s.farrStop src) := by
  have hstop : ∀ x y : Bool, s.Steady b { s with farr := { s.farr with stopped := x, todo := [], busy := y } } := fun _ _ =>
    { State.Steady.refl b s with todo := fun _ => rfl }
  have hrest : ∀ x : State, x.Steady b x.hostRestore := fun x => by
    unfold State.hostRestore
    split
    · exact .of_same rfl rfl rfl rfl rfl rfl rfl rfl rfl rfl rfl
    · exact .refl b x
  unfold State.farrStop
  dsimp only
  split
  · split
    · exact (hstop _ _).trans (hrest _)
    · exact hstop _ _
  · exact .refl b s

/-- COLL being out of reset, the clocks may move. -/
theorem State.Steady.of_on {s t : State} (hon : s.flt.on = true) (h : State.Steady b { s with clk := t.clk } t) : s.Steady b t :=
  ⟨h.on, fun hf => absurd (hon.symm.trans hf) nofun, h.loft, h.down, h.pend, h.todo, h.alerts, h.fstat, h.ackBad, h.recs, h.caps, h.still,
    h.gate⟩

theorem dropLaunches_steady (s : State) : s.Steady b s.dropLaunches := { State.Steady.refl b s with pend := fun _ => rfl }

theorem toSafe_steady {s : State} (hon : s.flt.on = true) : s.Steady b s.toSafe := by
  have hclk : ∀ c : Clk, s.Steady b { s with clk := c } := fun c => .of_on hon (.refl b _)
  have hold : s.Steady b (if s.clk.held then s else ({ s with clk := { s.clk with held := true } }).alert 2) := by
    split
    · exact .refl b s
    · exact (hclk _).alert 2
  have hsafe : s.Steady b (({ s with clk := { s.clk with rs := .safe } } : State).dropLaunches) := (hclk _).trans (dropLaunches_steady _)
  unfold State.toSafe
  dsimp only
  split
  case h_4 => split <;> assumption
  case h_5 => exact hsafe
  case h_6 => exact hsafe
  case h_7 => exact .refl b s
  all_goals exact hold

theorem stop_steady {s : State} (hon : s.flt.on = true) : s.Steady b s.stop := by
  have hhold : s.Steady b (s.trigger trigColl).holdBark := .of_same rfl rfl rfl rfl rfl rfl rfl rfl rfl rfl rfl
  exact hhold.trans (toSafe_steady hon)

theorem snap_same (s : State) (a c : Nat) : (s.snap a c).flt = s.flt ∧ (s.snap a c).clk = s.clk ∧ (s.snap a c).img = s.img ∧
    (s.snap a c).yard = s.yard ∧ (s.snap a c).farr = s.farr ∧ (s.snap a c).cp = s.cp ∧ (s.snap a c).sh0 = s.sh0 ∧
    (s.snap a c).sh1 = s.sh1 ∧ (s.snap a c).sout = s.sout ∧ (s.snap a c).seq.phase = s.seq.phase := by
  unfold State.snap
  repeat' split
  all_goals exact ⟨rfl, rfl, rfl, rfl, rfl, rfl, rfl, rfl, rfl, rfl⟩

theorem snap_steady (s : State) (a c : Nat) : s.Steady b (s.snap a c) := by
  obtain ⟨hf, hc, hi, hy, hr, hp, h0, h1, ho, hs⟩ := snap_same s a c
  exact .of_same (by rw [hf]) (by rw [hf]) hc hi hs (by rw [hy]) (by rw [hr]) (by rw [hp]) h0 h1 (by rw [ho])

theorem cut_steady {s : State} (hon : s.flt.on = true) (cause csrc : Nat) : s.Steady b (s.cut cause csrc) := by
  have hdrop : s.Steady b ((s.snap cause csrc).trigger trigSeq).holdBark.dropLaunches := by
    refine ((snap_steady s cause csrc).trans (trigger_steady _ trigSeq)).trans (.trans (t := State.holdBark _) ?_ (dropLaunches_steady _))
    exact .of_same rfl rfl rfl rfl rfl rfl rfl rfl rfl rfl rfl
  have hrails : ∀ x : State, x.flt.on = true → State.Steady b x { x with
      seq := { x.seq with
        en := List.replicate 8 false, phase := .off, wait := .idle, todo := []
        run := mapIdx (fun ch r => r && decide (5 ≤ ch) && nth 0 x.seq.mode ch == 2) x.seq.run }
      clk := { x.clk with rs := .cut, held := false, warm := false }
      cp := { x.cp with on := false }
      img := { x.img with loft := false } } := fun x hx =>
    .of_on hx { State.Steady.refl b _ with loft := fun _ => rfl, down := fun _ => nofun }
  unfold State.cut
  exact hdrop.trans (hrails _ (hdrop.on.trans hon))

theorem modCom_steady (s : State) (k i : Nat) (f : InstCom → InstCom) (hc : ∀ m, (f m).cap = m.cap) (ho : ∀ m, (f m).capOk = m.capOk) :
    s.Steady b (s.modCom k i f) := by
  have hcom : ∀ k' i', ((s.modCom k i f).com k' i').cap = (s.com k' i').cap ∧ ((s.modCom k i f).com k' i').capOk = (s.com k' i').capOk :=
    fun k' i' => com_modCom_of (P := fun m => m.cap = (s.com k' i').cap ∧ m.capOk = (s.com k' i').capOk) f
      (fun m h => ⟨(hc m).trans h.1, (ho m).trans h.2⟩) s k i k' i' ⟨rfl, rfl⟩
  have hsh : ∀ k', ((s.modCom k i f).sheet k').recs = (s.sheet k').recs ∧ ((s.modCom k i f).sheet k').b = (s.sheet k').b := fun k' => by
    unfold State.modCom State.modSheet State.sheet
    by_cases hk : k = 0 <;> by_cases hk' : k' = 0 <;> simp [hk, hk']
  have hrest : (s.modCom k i f).flt = s.flt ∧ (s.modCom k i f).clk = s.clk ∧ (s.modCom k i f).img = s.img ∧
      (s.modCom k i f).seq = s.seq ∧ (s.modCom k i f).yard = s.yard ∧ (s.modCom k i f).farr = s.farr ∧ (s.modCom k i f).cp = s.cp ∧
      (s.modCom k i f).sout = s.sout ∧ (s.modCom k i f).sh0.ackBad = s.sh0.ackBad := by
    unfold State.modCom State.modSheet
    split <;> exact ⟨rfl, rfl, rfl, rfl, rfl, rfl, rfl, rfl, rfl⟩
  obtain ⟨hf, hclk, hi, hs, hy, hr, hp, hout, ha⟩ := hrest
  have hleg : ∀ n, (s.modCom k i f).out n = s.out n := fun n => by rw [State.out, State.out, hout]
  exact ⟨by rw [hf], fun _ => hclk, fun h => by rwa [hi], fun h => by rwa [hs], fun h => by rwa [hy], fun h => by rwa [hr],
    fun n _ _ h => by rwa [hp], fun n _ => by rw [hf], fun h => by rwa [ha], fun k' => (hsh k').1, fun k' i' _ => hcom k' i',
    fun k' i' _ h => by rwa [(hsh k').2], fun n l h => by rwa [hleg]⟩

theorem addLocal_steady (s : State) (src : Src) (d r : Nat) (e : Nat × Nat) : s.Steady b (s.addLocal src d r e) := by
  have hmod := modCom_steady (b := b) s e.1 e.2 (localized (localCause src d (s.recAt e.1 e.2)) r)
    (fun m => by unfold localized; split <;> rfl) (fun m => by unfold localized; split <;> rfl)
  unfold State.addLocal
  dsimp only
  split
  · exact hmod.alert 4
  · exact hmod

theorem localReact_steady (s : State) (src : Src) (d r : Nat) : s.Steady b (s.localReact src d r) := by
  unfold State.localReact State.cancelAffected
  refine (State.Steady.foldl _ (fun x e => addLocal_steady x src d r e) _ s).trans (State.Steady.foldl _ (fun x _ => ?_) _ _)
  exact { State.Steady.refl b x with pend := fun h => by simp [h] }

theorem latch_steady (s : State) (src : Src) (c : Cls) : s.Steady src.bit (s.latch src c) :=
  { State.Steady.refl src.bit s with
    fstat := fun n hn => by
      show bit (s.flt.fstat ||| 2 ^ src.bit) n = _
      rw [bit_or]
      simp [bit, Nat.testBit_two_pow_of_ne (Ne.symm hn)] }

theorem unsup_steady (s : State) : s.Steady b s.unsup :=
  { State.Steady.refl b s with
    alerts := fun n hl hn h => by
      have hmask : bit 0xFF7F n = true := (by decide : ∀ n, n < 16 → n ≠ 7 → bit 0xFF7F n = true) n hl hn
      have hand : bit (s.cp.alertSrc &&& 0xFF7F) n = (bit s.cp.alertSrc n && bit 0xFF7F n) := by simp [bit]
      exact hand.trans (by rw [h, hmask]; rfl) }

/-- What changes the records alone. -/
theorem flt_steady (s : State) (f : Flt) (h1 : f.on = s.flt.on) (h2 : f.fstat = s.flt.fstat) : s.Steady b { s with flt := f } :=
  .of_same h1 h2 rfl rfl rfl rfl rfl rfl rfl rfl rfl

theorem suppress_steady (s : State) (x d : Nat) : s.Steady b (s.suppress x d) := by
  unfold State.suppress
  refine State.Steady.alert (flt_steady s _ ?_ ?_) 7 <;> rfl

theorem openRecord_steady (s : State) (x d : Nat) (c : Cls) : s.Steady b (s.openRecord x d c) := by
  have hopen : ∀ (p : Bool) (f : Flt), f.on = s.flt.on → f.fstat = s.flt.fstat →
      s.Steady b (if p then ({ s with flt := f } : State) else ({ s with flt := f } : State).unsup) := fun p f h1 h2 => by
    split
    · exact flt_steady s f h1 h2
    · exact (flt_steady s f h1 h2).trans (unsup_steady _)
  unfold State.openRecord
  refine State.Steady.alert (hopen _ _ ?_ ?_) 0 <;> rfl

theorem record_steady (s : State) (x d : Nat) (c : Cls) : s.Steady b (s.record x d c) := by
  unfold State.record
  split
  · exact .refl b s
  · split
    · refine flt_steady s _ ?_ ?_ <;> rfl
    · split
      · exact suppress_steady s x d
      · exact openRecord_steady s x d c

theorem reactTo_steady {s : State} (hon : s.flt.on = true) (src : Src) (d : Nat) (c : Cls) : s.Steady b (s.reactTo src d c) := by
  cases c with
  | note => exact .refl b s
  | loc => exact localReact_steady s src d _
  | stop =>
    have hfarr := farrStop_steady (b := b) s src
    unfold State.reactTo
    dsimp only
    split
    · exact (hfarr.trans (trigger_steady _ _)).trans (stop_steady (hfarr.on.trans hon))
    · exact hfarr.trans (stop_steady (hfarr.on.trans hon))
  | cut =>
    unfold State.reactTo
    dsimp only
    split
    · exact trigger_steady s trigColl
    · have ht := trigger_steady (b := b) s trigColl
      exact ht.trans (cut_steady (ht.on.trans hon) _ _)

theorem raise_steady (s : State) (src : Src) (d : Nat) (c : Cls) : s.Steady src.bit (s.raise src d c) := by
  cases hon : s.flt.on with
  | false =>
    rw [State.raise_eq, hon]
    exact .refl _ s
  | true =>
    rw [raise_noted hon]
    have hn : s.Steady src.bit (s.noted src d (Cls.max (s.mapEntry src) c)) := (latch_steady s src _).trans (record_steady _ _ d _)
    exact hn.trans (reactTo_steady (hn.on.trans hon) src d _)

theorem err_steady (s : State) (src : Src) (d : Nat) : s.Steady src.bit (s.err src d) := raise_steady s src d _

theorem line_steady (s : State) (src : Src) (a : Bool) (d : Nat) : s.Steady src.bit (s.line src a d) := by
  unfold State.line
  dsimp only
  split
  · split
    · exact .refl _ s
    · exact (flt_steady _ _ (by rfl) (by rfl)).trans (err_steady _ src d)
  · split
    · refine flt_steady s _ ?_ ?_ <;> rfl
    · exact .refl _ s

/-! ## Channel B's evaluation -/

theorem evalFn_still (e : Env) (s : State) (cond : Bool) (res : List InstSt) (i : Nat) (r : List Byte) (c : InstCom) (st : InstSt) :
    (evalFn e s cond res i r c st).1.still = st.still := by
  unfold evalFn
  cases rFn r with
  | none => rfl
  | some f =>
    cases f with
    | twohand => simp only [evalTwohand]; repeat' split
                 all_goals rfl
    | modesel => simp only [evalModesel]; split <;> rfl
    | collarin => simp only [evalCollarin]; split <;> rfl
    | delay => simp only [evalDelay]; split <;> rfl
    | yardin => simp only [evalYardin]; repeat' split
                all_goals rfl
    | outgroup => simp only [evalOutgroup]; repeat' split
                  all_goals rfl
    | _ => rfl

theorem maskSt_still (r : List Byte) (st : InstSt) : (maskSt r st).still = st.still := by
  unfold maskSt
  split <;> rfl

theorem evalInst_still (e : Env) (s : State) (cond : Bool) (res : List InstSt) (i : Nat) (r : List Byte) (c : InstCom) (st : InstSt) :
    (evalInst e s cond res i r c st).1.still = st.still := by
  have hf := evalFn_still e s cond res i r c st
  have hr : ∀ x : InstSt, (refuseSt r st x).still = x.still := fun x => by
    unfold refuseSt
    split
    · exact maskSt_still r x
    · exact maskSt_still r x
  unfold evalInst
  dsimp only
  split
  · exact (maskSt_still _ _).trans hf
  · split
    · exact (hr _).trans hf
    · exact hf

theorem nth_append_left {α : Type} (d : α) : ∀ (l m : List α) (i : Nat), i < l.length → nth d (l ++ m) i = nth d l i
  | [], _, _, h => absurd h (Nat.not_lt_zero _)
  | _ :: _, _, 0, _ => rfl
  | _ :: xs, m, i + 1, h => nth_append_left d xs m i (Nat.lt_of_succ_lt_succ h)

theorem nth_append_here {α : Type} (d x : α) : ∀ (l m : List α), nth d (l ++ x :: m) l.length = x
  | [], _ => rfl
  | _ :: xs, m => nth_append_here d x xs m

theorem nth_zero {α : Type} (d : α) (l : List α) : nth d l 0 = l.headD d := by cases l <;> rfl

theorem nth_tail {α : Type} (d : α) (l : List α) (i : Nat) : nth d l.tail i = nth d l (i + 1) := by cases l <;> rfl

/-- The results of the records before stay, and each record keeps its confirmed standstill. -/
theorem evalRecs_still (e : Env) (s : State) : ∀ (recs : List (List Byte)) (coms : List InstCom) (sts res : List InstSt)
    (errs : List (Src × Nat)) (nc ny : Nat),
    (∀ i, i < res.length → nth {} (evalRecs e s recs coms sts res errs nc ny).1 i = nth {} res i) ∧
    ∀ i, i < recs.length → (nth {} (evalRecs e s recs coms sts res errs nc ny).1 (res.length + i)).still = (nth {} sts i).still
  | [], _, _, _, _, _, _ => ⟨fun _ _ => rfl, fun _ h => absurd h (Nat.not_lt_zero _)⟩
  | r :: rs, coms, sts, res, errs, nc, ny => by
    have ih := evalRecs_still e s rs coms.tail sts.tail (res ++ [(evalInst e s (remoteBit s nc ny r) res res.length r (coms.headD {}) (sts.headD {})).1])
      (errs ++ (evalInst e s (remoteBit s nc ny r) res res.length r (coms.headD {}) (sts.headD {})).2)
      (nc + flag (isCond r)) (ny + flag (rIs .yardin r))
    obtain ⟨hold, hnew⟩ := ih
    simp only [List.length_append, List.length_singleton] at hold hnew
    refine ⟨fun i hi => (hold i (by omega)).trans (nth_append_left _ _ _ _ hi), fun i hi => ?_⟩
    cases i with
    | zero =>
      show (nth {} (evalRecs e s rs _ _ _ _ _ _).1 res.length).still = _
      rw [hold res.length (by omega), nth_append_here, evalInst_still, nth_zero]
    | succ i =>
      have h := hnew i (Nat.lt_of_succ_lt_succ hi)
      rw [nth_tail] at h
      rw [show res.length + (i + 1) = res.length + 1 + i by omega]
      exact h

theorem cancelLaunch_steady (s : State) (k g : Nat) : s.Steady b (s.cancelLaunch k g) :=
  { State.Steady.refl b s with pend := fun h => by simp [State.cancelLaunch, h] }

/-- A new list of channel B's results in which each record keeps its confirmed standstill. -/
theorem results_steady (s : State) (l : List InstSt)
    (h : ∀ i, i < s.sh0.recs.length → (nth {} l i).still = (nth {} s.sh0.b i).still) :
    s.Steady b { s with sh0 := { s.sh0 with b := l } } :=
  { State.Steady.refl b s with
    recs := fun k => by cases k <;> rfl
    caps := fun k i _ => by cases k <;> exact ⟨rfl, rfl⟩
    still := fun k i hi hs => by
      cases k with
      | zero => exact (h i hi).trans hs
      | succ k => exact hs }

theorem evalB_steady (s : State) (tick : Bool) : s.Steady b (s.evalB tick).1 := by
  unfold State.evalB
  split
  · dsimp only
    refine .trans (results_steady s _ fun i hi => ?_) (State.Steady.foldl _ (fun x g => cancelLaunch_steady x 0 g) _ _)
    have h := (evalRecs_still (s.envB tick) s s.sh0.recs s.sh0.com s.sh0.b [] [] (s.condBase 0) (s.yinBase 0)).2 i hi
    rw [List.length_nil, Nat.zero_add] at h
    exact h
  · exact .refl b s

/-- Channel B finds no error but of its motion limits (R38, R146). -/
theorem evalFn_errs (e : Env) (he : e.isA = false) (s : State) (cond : Bool) (res : List InstSt) (i : Nat) (r : List Byte) (c : InstCom)
    (st : InstSt) : ∀ x ∈ (evalFn e s cond res i r c st).2, x.1 = .motLimit := by
  have hmot : ∀ v, ∀ x ∈ motLimit e c i v, x.1 = .motLimit := fun v x hx => by
    unfold motLimit at hx
    split at hx
    · rw [List.mem_singleton.1 hx]
    · cases hx
  unfold evalFn
  cases rFn r with
  | none => nofun
  | some f =>
    cases f with
    | twohand => simp only [evalTwohand]; repeat' split
                 all_goals nofun
    | modesel => simp [evalModesel, he]; split <;> nofun
    | collarin => simp [evalCollarin, he]
    | delay => simp only [evalDelay]; split <;> nofun
    | yardin => simp [evalYardin, he]
    | outgroup => simp only [evalOutgroup]; repeat' split
                  all_goals nofun
    | sls => exact hmot _
    | slp => exact hmot _
    | sdi => exact hmot _
    | _ => nofun

theorem evalInst_errs (e : Env) (he : e.isA = false) (s : State) (cond : Bool) (res : List InstSt) (i : Nat) (r : List Byte) (c : InstCom)
    (st : InstSt) : ∀ x ∈ (evalInst e s cond res i r c st).2, x.1 = .motLimit := by
  have hf := evalFn_errs e he s cond res i r c st
  unfold evalInst
  dsimp only
  repeat' split
  all_goals exact hf

theorem evalRecs_errs (e : Env) (he : e.isA = false) (s : State) : ∀ (recs : List (List Byte)) (coms : List InstCom) (sts res : List InstSt)
    (errs : List (Src × Nat)) (nc ny : Nat), (∀ x ∈ errs, x.1 = .motLimit) →
    ∀ x ∈ (evalRecs e s recs coms sts res errs nc ny).2, x.1 = .motLimit
  | [], _, _, _, _, _, _, h => h
  | _ :: rs, coms, sts, _, _, _, _, h => evalRecs_errs e he s rs coms.tail sts.tail _ _ _ _ fun x hx =>
    (List.mem_append.1 hx).elim (h x) (evalInst_errs e he s _ _ _ _ _ _ x)

theorem evalB_errs (s : State) (tick : Bool) : ∀ x ∈ (s.evalB tick).2, x.1 = .motLimit := by
  unfold State.evalB
  split
  · exact evalRecs_errs (s.envB tick) rfl s _ _ _ _ _ _ _ nofun
  · nofun

theorem raiseAll_steady : ∀ (l : List (Src × Nat)) (s : State), (∀ x ∈ l, x.1 = .motLimit) → s.Steady Src.motLimit.bit (s.raiseAll l)
  | [], s, _ => .refl _ s
  | x :: l, s, h => by
    have hx := err_steady s x.1 x.2
    rw [h x (List.mem_cons_self ..)] at hx
    exact (h x (List.mem_cons_self ..) ▸ hx : s.Steady Src.motLimit.bit (s.err x.1 x.2)).trans
      (raiseAll_steady l _ fun y hy => h y (List.mem_cons_of_mem _ hy))

theorem runB_steady (s : State) (tick : Bool) : s.Steady Src.motLimit.bit (s.runB tick) := by
  unfold State.runB
  dsimp only
  split
  · exact evalB_steady s tick
  · exact ((evalB_steady s tick).trans (raiseAll_steady _ _ (evalB_errs s tick))).trans (evalB_steady _ false)

/-! ## The rest of settling -/

theorem progressRecs_caps (s : State) : ∀ (recs : List (List Byte)) (as bs : List InstSt) (cs : List InstCom) (i : Nat), i < recs.length →
    (nth {} (s.progressRecs recs as bs cs) i).cap = (nth {} cs i).cap ∧
      (nth {} (s.progressRecs recs as bs cs) i).capOk = (nth {} cs i).capOk
  | [], _, _, _, _, h => absurd h (Nat.not_lt_zero _)
  | _ :: _, _, _, [], _, _ => ⟨rfl, rfl⟩
  | _ :: _, _, _, _ :: _, 0, _ => ⟨rfl, rfl⟩
  | _ :: rs, as, bs, _ :: cs, i + 1, h => progressRecs_caps s rs as.tail bs.tail cs i (Nat.lt_of_succ_lt_succ h)

theorem openings_steady (s : State) : s.Steady b s.openings := by
  have hsheet : ∀ h : Sheet, (s.progressSheet h).recs = h.recs ∧ (s.progressSheet h).b = h.b ∧ (s.progressSheet h).ackBad = h.ackBad ∧
      ∀ i, i < h.recs.length → (nth {} (s.progressSheet h).com i).cap = (nth {} h.com i).cap ∧
        (nth {} (s.progressSheet h).com i).capOk = (nth {} h.com i).capOk := fun h => by
    unfold State.progressSheet
    split
    · exact ⟨rfl, rfl, rfl, fun i hi => progressRecs_caps s _ _ _ _ i hi⟩
    · exact ⟨rfl, rfl, rfl, fun _ _ => ⟨rfl, rfl⟩⟩
  have hget : ∀ k, s.openings.sheet k = s.progressSheet (s.sheet k) := fun k => by
    unfold State.sheet State.openings
    split <;> rfl
  exact { State.Steady.refl b s with
    ackBad := fun h => (hsheet s.sh0).2.2.1.trans h
    recs := fun k => by rw [hget]; exact (hsheet _).1
    caps := fun k i hi => by
      unfold State.com
      rw [hget]
      exact (hsheet _).2.2.2 i hi
    still := fun k i _ h => by rw [hget, (hsheet _).2.1]; exact h }

/-- Outputs whose launch gates do not open. -/
theorem mapOuts_steady (s : State) (f : Nat → OutSt → OutSt) (hf : ∀ n o l, (o.leg l).gate = false → ((f n o).leg l).gate = false) :
    s.Steady b (s.mapOuts f) :=
  { State.Steady.refl b s with
    gate := fun n l h => by
      by_cases hn : n < s.sout.outs.length
      · rw [s.mapOuts_out f n hn]
        exact hf n _ l h
      · have hd : (s.mapOuts f).out n = {} := nth_beyond _ _ _ (Nat.le_trans (Nat.le_of_eq (mapIdx_length f s.sout.outs 0)) (Nat.not_lt.1 hn))
        rw [hd]
        cases l <;> rfl }

theorem mCommands_steady (s : State) : s.Steady b s.mCommands := by
  unfold State.mCommands
  split
  · exact .refl b s
  · exact mapOuts_steady s _ fun n o l h => by cases l <;> exact h

theorem monitor_steady (s : State) : s.Steady b s.monitor := by
  unfold State.monitor
  split <;> exact .of_same rfl rfl rfl rfl rfl rfl rfl rfl rfl rfl rfl

theorem holdLine_steady (s : State) (src : Src) (a : Bool) : s.Steady b (s.holdLine src a) := by
  unfold State.holdLine State.line
  dsimp only
  split
  · refine flt_steady s _ ?_ ?_ <;> rfl
  · split
    next h => cases h
    next =>
      split
      · refine flt_steady s _ ?_ ?_ <;> rfl
      · exact .refl b s

theorem setPad_gate (now : Nat) (v : Bool) (l : LegSt) : (l.setPad now v).gate = l.gate := by
  unfold LegSt.setPad
  repeat' split
  all_goals rfl

theorem darkAbort_steady (s : State) : s.Steady b s.darkAbort := by
  have hleg : ∀ (x : State) (n : Nat) (l : Leg) (f : LegSt → LegSt), (∀ y, (f y).gate = y.gate) → x.Steady b (x.modLeg n l f) :=
    fun x n l f hf => { State.Steady.refl b x with
      gate := fun n' l' h => by
        have ho : ∀ o : OutSt, ((o.modLeg l f).leg l').gate = (o.leg l').gate := fun o => by
          cases l <;> cases l' <;> first | exact hf _ | rfl
        have hn : ((x.modLeg n l f).out n') = x.out n' ∨ ((x.modLeg n l f).out n') = (x.out n').modLeg l f := by
          by_cases he : n' = n
          · subst he
            by_cases hlt : n' < x.sout.outs.length
            · exact .inr (nth_updAt_same _ _ _ _ hlt)
            · refine .inl ?_
              have hle := Nat.not_lt.1 hlt
              exact (nth_beyond _ _ _ (Nat.le_trans (Nat.le_of_eq (updAt_length _ _ _)) hle)).trans (nth_beyond _ _ _ hle).symm
          · exact .inl (nth_updAt_other _ _ _ _ _ he)
        obtain hn | hn := hn
        · rwa [hn]
        · rw [hn, ho]
          exact h }
  unfold State.darkAbort
  split
  · split
    · exact .refl b s
    · refine .trans (t := { s with sout := { s.sout with test := none, testEnd := some s.now } }) ?_ (hleg _ _ _ _ fun _ => rfl)
      exact .of_same rfl rfl rfl rfl rfl rfl rfl rfl rfl rfl rfl
  · exact .refl b s

theorem pads_steady (s : State) : s.Steady b s.pads := by
  unfold State.pads
  refine ((mapOuts_steady s _ fun n o l h => ?_).trans (darkAbort_steady _)).trans (mapOuts_steady _ _ fun n o l h => ?_)
  · cases l <;> simp_all [OutSt.shutGates, OutSt.leg]
  · cases l
    · exact (setPad_gate _ _ _).trans h
    · exact (setPad_gate _ _ _).trans h

theorem closing_steady (s : State) : s.Steady b s.closing := by
  have hclose : s.Steady b s.closeRecord := by
    unfold State.closeRecord
    split
    · refine State.Steady.alert (flt_steady s _ ?_ ?_) 1 <;> rfl
    · exact .refl b s
  unfold State.closing
  repeat' split
  all_goals first
    | exact .refl b s
    | exact hclose

theorem item1_steady (s : State) : s.Steady b s.item1 := by
  have hack : ∀ x : State, x.Steady b x.discardAck := fun x =>
    { State.Steady.refl b x with
      ackBad := fun _ => rfl
      recs := fun k => by cases k <;> rfl
      caps := fun k i _ => by cases k <;> exact ⟨rfl, rfl⟩
      still := fun k i _ h => by cases k <;> exact h }
  have hif : ∀ (c : Prop) [Decidable c] (x : State), x.Steady b (if c then x.discardAck else x) := fun c _ x => by
    split
    · exact hack x
    · exact .refl b x
  unfold State.item1
  refine (flt_steady s _ ?_ ?_).trans (hif _ _) <;> rfl

/-- What settling leaves standing. -/
theorem State.settleAt_steady (s : State) (tick : Bool) : s.Steady Src.motLimit.bit (s.settleAt tick) := by
  have hrefs : s.Steady Src.motLimit.bit s.refs := .of_same rfl rfl rfl rfl rfl rfl rfl rfl rfl rfl rfl
  have hmuzzle : ∀ x : State, x.Steady Src.motLimit.bit x.muzzle := fun _ => .of_same rfl rfl rfl rfl rfl rfl rfl rfl rfl rfl rfl
  unfold State.settleAt
  exact (((((((((hrefs.trans (openings_steady _)).trans (runB_steady _ tick)).trans (openings_steady _)).trans
    (mCommands_steady _)).trans (monitor_steady _)).trans ((holdLine_steady _ _ _).trans (holdLine_steady _ _ _))).trans
    (hmuzzle _)).trans (pads_steady _)).trans (closing_steady _)).trans (item1_steady _)

theorem State.watch_steady (old s : State) : s.Steady b (old.watch s) := by
  have ha : ∀ (x : State) (p : Bool) (n : Nat), x.Steady b (if p then x.alert n else x) := fun x p n => by
    split
    · exact alert_steady x n
    · exact .refl b x
  have hp : ∀ x : State, x.Steady b x.alertPin := fun _ => .of_same rfl rfl rfl rfl rfl rfl rfl rfl rfl rfl rfl
  unfold State.watch
  exact ((((((ha _ _ 2).trans (ha _ _ 3)).trans (ha _ _ 12)).trans (ha _ _ 13)).trans (ha _ _ 14)).trans (ha _ _ 15)).trans (hp _)

end

end Sys2Proof.Machine
end

section
/-!
PROOF. What every command's settling keeps of its operation (`After`), and a reaction that is no cut.
-/
namespace Sys2Proof.Machine

/-! ## From an operation to its command -/

/-- What the end of a command keeps of the state that its operation has left. -/
structure After (u s' : State) : Prop where
  keep : s'.keep = u.keep
  worse : u.Worse s'
  safe : s'.OutputsSafe
  quiet : u.chanB = false → u.Quiet s'
  steady : u.Steady Src.motLimit.bit s'

/-- Whatever `State.keep` leaves is as the operation left it. -/
theorem After.same {u s' : State} (h : After u s') {β : Type} (g : State → β) (hg : ∀ x : State, g x.keep = g x := by intro; rfl) :
    g s' = g u := of_keep h.keep g hg

theorem State.watch_worse (old s : State) : s.Worse (old.watch s) := by
  have ha : ∀ (x : State) (b : Bool) (n : Nat), x.Worse (if b then x.alert n else x) := fun x b n => by
    split
    · exact x.alert_worse n
    · exact .refl x
  have hp : ∀ x : State, x.Worse x.alertPin := fun _ => .of_same rfl rfl rfl rfl rfl rfl
  unfold State.watch
  exact ((((((ha _ _ 2).trans (ha _ _ 3)).trans (ha _ _ 12)).trans (ha _ _ 13)).trans (ha _ _ 14)).trans (ha _ _ 15)).trans (hp _)

theorem actAt_after (tick : Bool) (t : Nat) (s : State) (f : State → State) :
    ∃ s', actAt tick t s f = .next s' ∧ After (f (s.upTo t)) s' :=
  ⟨_, rfl, by
    refine ⟨by simp, (State.settleAt_worse _ tick).trans (State.watch_worse _ _), ?_, fun hq => ?_,
      (State.settleAt_steady _ tick).trans (State.watch_steady _ _)⟩
    · exact State.watch_safe _ _ (State.settleAt_safe _ _)
    · exact (State.settleAt_quiet _ tick hq).trans (State.watch_quiet _ _)⟩

/-- The command of an operation completes, and its state comes after the operation's. -/
theorem act_after (t : Nat) (s : State) (f : State → State) : ∃ s', act t s f = .next s' ∧ After (f (s.upTo t)) s' :=
  actAt_after false t s f

/-- The same with the operation's state worked out. -/
theorem act_of (t : Nat) (s : State) (f : State → State) {u : State} (h : f (s.upTo t) = u) :
    ∃ s', act t s f = .next s' ∧ After u s' := h ▸ act_after t s f

/-- An instant that the command waits for has come. -/
theorem le_upTo {n t : Nat} (s : State) (h : n ≤ t) : n ≤ (s.upTo t).now := Nat.le_trans h (Nat.le_max_right _ _)

/-- Outside the states in which channel A may drive, the muzzle is open. -/
theorem After.open_of {u s' : State} (h : After u s') (hr : s'.clk.rs ≠ .armed ∧ s'.clk.rs ≠ .run ∧ s'.clk.rs ≠ .maint) :
    s'.sout.open_ = true := by
  obtain ⟨ha, hr, hm⟩ := hr
  rw [h.safe.1]
  simp [State.muzzleOpen, ha, hr, hm]

/-- Channel B does not evaluate before ARMED and with its rails off. -/
theorem chanB_off {s : State} (h : s.clk.rs = .off ∨ s.clk.rs = .boot ∨ s.clk.rs = .selftest ∨ s.clk.rs = .load ∨ s.clk.rs = .cut) :
    s.chanB = false := by
  unfold State.chanB
  obtain h | h | h | h | h := h <;> rw [h] <;> simp

/-! ## Reactions that are no cut -/

/-- Errors below class CUT: the sequencer, the control port's power and the images stay, and the run state stays or goes from ARMED, RUN
or MAINT to SAFE. -/
structure NoCut (s s' : State) : Prop where
  rs : s'.clk.rs = s.clk.rs ∨ (s'.clk.rs = .safe ∧ (s.clk.rs = .armed ∨ s.clk.rs = .run ∨ s.clk.rs = .maint))
  warm : s'.clk.warm = s.clk.warm
  seq : s'.seq = s.seq
  cpOn : s'.cp.on = s.cp.on
  img : s'.img = s.img

theorem NoCut.of_same {s s' : State} (hc : s'.clk = s.clk) (hs : s'.seq = s.seq) (hp : s'.cp.on = s.cp.on) (hi : s'.img = s.img) :
    NoCut s s' := ⟨.inl (by rw [hc]), by rw [hc], hs, hp, hi⟩

theorem NoCut.refl (s : State) : NoCut s s := .of_same rfl rfl rfl rfl

theorem NoCut.trans {s t u : State} (h : NoCut s t) (k : NoCut t u) : NoCut s u where
  rs := by
    obtain k1 | ⟨k1, k2⟩ := k.rs
    · rw [k1]; exact h.rs
    · obtain h1 | ⟨h1, -⟩ := h.rs
      · rw [h1] at k2; exact .inr ⟨k1, k2⟩
      · rw [h1] at k2; simp at k2
  warm := k.warm.trans h.warm
  seq := k.seq.trans h.seq
  cpOn := k.cpOn.trans h.cpOn
  img := k.img.trans h.img

theorem alert_noCut (s : State) (n : Nat) : NoCut s (s.alert n) := by
  unfold State.alert
  split <;> exact .of_same rfl rfl rfl rfl

theorem NoCut.alert {s x : State} (h : NoCut s x) (n : Nat) : NoCut s (x.alert n) := h.trans (alert_noCut x n)

theorem toSafe_noCut (s : State) : NoCut s s.toSafe := by
  have hold : NoCut s (if s.clk.held then s else ({ s with clk := { s.clk with held := true } }).alert 2) := by
    split
    · exact .refl s
    · refine NoCut.alert ?_ 2
      exact ⟨.inl rfl, rfl, rfl, rfl, rfl⟩
  have safe : ∀ h : s.clk.rs = .armed ∨ s.clk.rs = .run ∨ s.clk.rs = .maint,
      NoCut s (({ s with clk := { s.clk with rs := .safe } } : State).dropLaunches) :=
    fun h => ⟨.inr ⟨rfl, h⟩, rfl, rfl, rfl, rfl⟩
  unfold State.toSafe
  dsimp only
  split
  case h_4 h =>
    split
    · exact hold
    · exact safe (.inl h)
  case h_5 h => exact safe (.inr (.inl h))
  case h_6 h => exact safe (.inr (.inr h))
  case h_7 => exact .refl s
  all_goals exact hold

theorem stop_noCut (s : State) : NoCut s s.stop :=
  .trans (t := (s.trigger trigColl).holdBark) (.of_same rfl rfl rfl rfl) (toSafe_noCut _)

theorem record_noCut (s : State) (b d : Nat) (c : Cls) : NoCut s (s.record b d c) := by
  unfold State.record State.suppress State.openRecord State.mergeRecord
  dsimp only
  repeat' split
  all_goals first
    | exact .of_same rfl rfl rfl rfl
    | (refine NoCut.alert ?_ _; exact .of_same rfl rfl rfl rfl)

theorem modCom_noCut (s : State) (k i : Nat) (f : InstCom → InstCom) : NoCut s (s.modCom k i f) := by
  unfold State.modCom State.modSheet
  split <;> exact .of_same rfl rfl rfl rfl

theorem NoCut.foldl {α : Type} (f : State → α → State) (h : ∀ s a, NoCut s (f s a)) : ∀ (l : List α) (s : State), NoCut s (l.foldl f s)
  | [], s => .refl s
  | a :: l, s => (h s a).trans (NoCut.foldl f h l (f s a))

theorem localReact_noCut (s : State) (src : Src) (d r : Nat) : NoCut s (s.localReact src d r) := by
  have hadd : ∀ (x : State) (e : Nat × Nat), NoCut x (x.addLocal src d r e) := fun x e => by
    unfold State.addLocal
    dsimp only
    split
    · exact (modCom_noCut x _ _ _).trans (alert_noCut _ 4)
    · exact modCom_noCut x _ _ _
  unfold State.localReact State.cancelAffected
  refine (NoCut.foldl _ hadd _ s).trans (NoCut.foldl _ (fun x _ => ?_) _ _)
  exact .of_same rfl rfl rfl rfl

theorem farrStop_noCut (s : State) (src : Src) : NoCut s (s.farrStop src) := by
  unfold State.farrStop State.hostRestore
  dsimp only
  repeat' split
  all_goals exact .of_same rfl rfl rfl rfl

theorem reactTo_noCut (s : State) (src : Src) (d : Nat) (c : Cls) (h : c ≠ .cut) : NoCut s (s.reactTo src d c) := by
  cases c with
  | note => exact .refl s
  | loc => exact localReact_noCut s src d _
  | stop =>
    unfold State.reactTo
    dsimp only
    split
    · exact (farrStop_noCut s src).trans (.trans (t := State.trigger _ _) (.of_same rfl rfl rfl rfl) (stop_noCut _))
    · exact (farrStop_noCut s src).trans (stop_noCut _)
  | cut => exact absurd rfl h

theorem raise_noCut (s : State) (src : Src) (d : Nat) (c : Cls) (h : Cls.max (s.mapEntry src) c ≠ .cut) : NoCut s (s.raise src d c) := by
  rw [State.raise_eq]
  split
  · exact .refl s
  · have hl : NoCut s (s.latch src (Cls.max (s.mapEntry src) c)) := .of_same rfl rfl rfl rfl
    exact (hl.trans (record_noCut _ _ _ _)).trans (reactTo_noCut _ _ _ _ h)

theorem err_noCut (s : State) (src : Src) (d : Nat) (h : s.srcClass src ≠ .cut) : NoCut s (s.err src d) := raise_noCut s src d _ h

theorem line_noCut (s : State) (src : Src) (a : Bool) (d : Nat) (h : s.srcClass src ≠ .cut) : NoCut s (s.line src a d) := by
  unfold State.line
  dsimp only
  repeat' split
  · exact .refl s
  · have hl : NoCut s { s with flt := { s.flt with line := s.flt.line ||| 2 ^ src.bit } } := .of_same rfl rfl rfl rfl
    exact hl.trans (err_noCut _ src d h)
  · exact .of_same rfl rfl rfl rfl
  · exact .refl s

end Sys2Proof.Machine
end

section
/-!
PROOF. O1: power-on reset and RESET_N (R382, R406, R421, R422).
-/
namespace Sys2Proof.Machine

theorem recognised_long (s : State) {width lo hi : Nat} (h : hi ≤ width) : s.recognised width lo hi = true := by
  simp [State.recognised, h]

theorem resetHonoured_not_por {s : State} (hp : s.seq.por = false) (hr : s.resetHonoured = true) :
    s.resetLow = { s.warmReset with clk := { s.warmReset.clk with rstLow := true, warm := true } } := by
  unfold State.resetLow
  rw [hp, hr]
  rfl

/-- BOOT is reached, whatever MUZZLE_N says, unless its error is a CUT. -/
theorem boot_noCut (s : State) (h : s.sout.ext = false ∨ s.srcClass .muzzleExt = .stop) :
    s.boot.clk.rs = .boot ∧ s.boot.clk.warm = s.clk.warm ∧ s.boot.flt.on = true ∧ s.boot.seq = s.seq := by
  unfold State.boot
  dsimp only
  split
  next hext =>
    obtain h | h := h
    · exact absurd (h.symm.trans hext) (by decide)
    · have hn : (State.srcClass { s.collStart with clk := { s.collStart.clk with
          rs := .boot, bootAt := s.now, tboot := s.stage, out := setAt s.clk.out 10 true } } .muzzleExt) ≠ .cut :=
        fun hc => absurd (h.symm.trans hc) (by decide)
      have hl := line_noCut _ .muzzleExt true 0 hn
      obtain hr | ⟨-, hr⟩ := hl.rs
      · exact ⟨hr, hl.warm, of_keep (State.line_keep _ _ _ _) (·.flt.on) fun _ => rfl, hl.seq⟩
      · simp at hr
  next => exact ⟨rfl, rfl, rfl, rfl⟩

/-- The part at the release of RESET_N after a warm restart, before it boots. -/
def State.warmStart (s : State) : State :=
  { s with clk := { s.clk with rstLow := false, warm := false, start := s.now }
           seq := { s.seq with rstcause := 2, warmcnt := sat16 s.seq.warmcnt } }

theorem resetHigh_warm {s : State} (hl : s.clk.rstLow = true) (hw : s.clk.warm = true) : s.resetHigh = s.warmStart.boot := by
  unfold State.resetHigh
  rw [if_pos hl]
  exact if_pos hw

/-- Settles O1: the release and the assertion of power-on reset, and RESET_N. -/
theorem powerAndPinReset : Obligations.PowerAndPinReset := by
  refine ⟨?_, ?_, ?_, ?_⟩
  · intro t s hpor
    obtain ⟨s', he, hs⟩ := act_after t s State.porRelease
    have hu : State.porRelease (s.upTo t) =
        (State.powerUp { s.upTo t with
          seq := { (s.upTo t).seq with por := false, porAt := (s.upTo t).now, rstcause := 1, warmcnt := 0 }
          clk := { (s.upTo t).clk with start := (s.upTo t).now } }).snap 0x01 0xFF := if_pos hpor
    have hk : s'.keep = _ := (hu ▸ hs.keep).trans (State.snap_keep _ _ _)
    have hf : ∀ {β : Type} (g : State → β), (∀ x : State, g x.keep = g x) → g s' = g _ := fun g hg => of_keep hk g hg
    exact ⟨s', he, hf (·.seq.por) fun _ => rfl, (hf (·.seq.porAt) fun _ => rfl).trans (hf (·.now) fun _ => rfl).symm,
      hf (·.seq.rstcause) fun _ => rfl, hf (·.seq.warmcnt) fun _ => rfl, hf (·.seq.snapNo) fun _ => rfl,
      hf (·.seq.vinWarns) fun _ => rfl, hf (·.mram) fun _ => rfl⟩
  · intro t s
    obtain ⟨s', he, hs⟩ := act_after t s State.powerReset
    have hq := hs.quiet (chanB_off (.inl rfl))
    have hr : s'.clk.rs = .off := congrArg Clk.rs hq.clk
    exact ⟨s', he, congrArg Seq.por hq.seq, congrArg Seq.en hq.seq, congrArg Seq.snapQ hq.seq, congrArg Seq.warmcnt hq.seq, hr,
      hs.open_of (by simp [hr]), hq.fstat, hs.same (·.mram), hs.same (·.img.fuses)⟩
  · intro t width s hpor hw hh
    obtain ⟨s', he, hs⟩ := act_after t s (fun s => if s.recognised width 1000 10000 then s.fresh.resetLow else s.fresh)
    have hu := resetHonoured_not_por (s := (s.upTo t).fresh) hpor hh
    simp only [recognised_long _ hw, if_true, hu] at hs
    have hq := hs.quiet (chanB_off (.inl rfl))
    have hr : s'.clk.rs = .off := congrArg Clk.rs hq.clk
    exact ⟨s', he, hr, congrArg Clk.rstLow hq.clk, congrArg Clk.warm hq.clk, congrArg Clk.out hq.clk, hs.open_of (by simp [hr]),
      hq.fstat, (congrArg Seq.en hq.seq).trans rfl, hs.same (·.mram)⟩
  · intro t s hl hw hx
    obtain ⟨s', he, hs⟩ := act_after t s State.resetHigh
    rw [resetHigh_warm (s := s.upTo t) hl hw] at hs
    obtain ⟨hr, hwarm, hon, hseq⟩ := boot_noCut (s.upTo t).warmStart hx
    have hq := hs.quiet (chanB_off (.inr (.inl hr)))
    exact ⟨s', he, (congrArg Clk.rs hq.clk).trans hr, congrArg Seq.rstcause (hq.seq.trans hseq),
      congrArg Seq.warmcnt (hq.seq.trans hseq), (congrArg Clk.warm hq.clk).trans hwarm, (hs.same (·.flt.on)).trans hon⟩

end Sys2Proof.Machine
end

section
/-!
PROOF. O2 and O3: the up-sequence, and the sequencer's cut (R386 to R388, R393, R394).
-/
namespace Sys2Proof.Machine

/-! ## The sequencer's operations, case by case -/

theorem whenAon_on {s : State} (hp : s.seq.por = false) (hr : s.clk.rcstop = false) (f : State → State) : whenAon s f = f s := by
  unfold whenAon
  simp [hp, hr]

/-- While the sequencer waits, neither phase ends. -/
theorem coreDone_busy {s : State} (h : s.seq.wait ≠ .idle) : s.coreDone = s := by
  simp [State.coreDone, h]

theorem boardEnd_busy {s : State} (h : s.seq.wait ≠ .idle) : s.boardEnd = s := by
  simp [State.boardEnd, h]

theorem afterBoard_busy {s : State} (h : s.seq.wait ≠ .idle) (hb : s.seq.boardDone = false) (obs : LoadObs) : s.afterBoard obs = s := by
  simp [State.afterBoard, boardEnd_busy h, hb]

/-- After a cut nothing is sequenced. -/
theorem seqEnd_cut {s : State} (hr : s.clk.rs = .cut) (hp : s.seq.phase = .off) (obs : LoadObs) : s.coreDone.afterBoard obs = s := by
  simp [State.coreDone, State.afterBoard, State.boardEnd, hp, hr]

theorem enable_low {s : State} {ch : Nat} (h : nth false s.seq.pg ch = false) :
    s.enable ch = ({ s with seq := { s.seq with en := setAt s.seq.en ch true } } : State).seqWait .pgHigh ch := by
  simp [State.enable, h]

theorem enable_high {s : State} {ch : Nat} (h : nth false s.seq.pg ch = true) : s.enable ch = s.seqCut 0x05 ch := by
  simp [State.enable, h]

/-- The channels that are still to be taken. -/
def State.left (s : State) (l : List Nat) : State := { s with seq := { s.seq with todo := l } }

theorem nextUp_sequenced {s : State} {ch : Nat} {rest : List Nat} (h : s.chMode ch ≠ 2) :
    s.nextUp (ch :: rest) = (s.left rest).enable ch := if_neg h

theorem nextUp_monitored {s : State} {ch : Nat} {rest : List Nat} (h : s.chMode ch = 2) (hp : nth false s.seq.pg ch = false) :
    s.nextUp (ch :: rest) = (s.left rest).seqWait .monitorHigh ch := by
  refine (if_pos h).trans (if_neg ?_)
  simp [hp]

/-- The cut of the sequencer: CUT, the rails off, the muzzle open, BARK held, the control port silent. -/
theorem seqCut_cut (s : State) (cause ch : Nat) :
    (s.seqCut cause ch).clk.rs = .cut ∧ (s.seqCut cause ch).seq.phase = .off ∧ (s.seqCut cause ch).seq.en = List.replicate 8 false ∧
      (s.seqCut cause ch).sout.barkHold = true ∧ (s.seqCut cause ch).cp.on = false := ⟨rfl, rfl, rfl, rfl, rfl⟩

theorem seqCut_pg (s : State) (cause ch : Nat) : (s.seqCut cause ch).seq.pg = s.seq.pg :=
  of_keep ((State.cut_keep _ _ _).trans (State.err_keep _ _ _)) (·.seq.pg) fun _ => rfl

/-- What is left after a command whose operation has cut. -/
theorem After.cut {u s' : State} (h : After u s') (hr : u.clk.rs = .cut) (he : u.seq.en = List.replicate 8 false)
    (hb : u.sout.barkHold = true) (hc : u.cp.on = false) :
    s'.clk.rs = .cut ∧ s'.seq.en = List.replicate 8 false ∧ s'.sout.open_ = true ∧ s'.sout.barkHold = true ∧ s'.cp.on = false := by
  have hq := h.quiet (chanB_off (.inr (.inr (.inr (.inr hr)))))
  have hrs : s'.clk.rs = .cut := (congrArg Clk.rs hq.clk).trans hr
  exact ⟨hrs, (congrArg Seq.en hq.seq).trans he, h.open_of (by simp [hrs]), hq.bark.trans hb, hq.on.trans hc⟩

theorem After.seqCut {u s' : State} {cause ch : Nat} (h : After (u.seqCut cause ch) s') :
    s'.clk.rs = .cut ∧ s'.seq.en = List.replicate 8 false ∧ s'.sout.open_ = true ∧ s'.sout.barkHold = true ∧ s'.cp.on = false := by
  obtain ⟨hr, -, he, hb, hc⟩ := seqCut_cut u cause ch
  exact h.cut hr he hb hc

theorem settled_next {s : State} {ch : Nat} (hw : s.seq.wait = .settling) (hc : s.seq.chan = ch)
    (ht : s.seq.waitAt + s.settleNs ch ≤ s.now) : s.settled ch = s.nextUp s.seq.todo := by
  simp [State.settled, hw, hc, ht]

/-- The channel in hand has come up: its ramp time is kept and its settle time starts. -/
def State.ramped (s : State) (ch : Nat) : State :=
  (State.running { s with seq := { s.seq with
    pg := setAt s.seq.pg ch true, ramp := setAt s.seq.ramp ch (Nat.min ((s.now - s.seq.waitAt) / us) 0xFFFF) } } ch).seqWait .settling ch

theorem pgRise_awaited {s : State} {ch : Nat} (hw : s.seq.wait = .pgHigh) (hc : s.seq.chan = ch) : s.pgRise ch = s.ramped ch := by
  simp [State.pgRise, State.ramped, hw, hc]

/-- A step of the sequencer after which it waits. -/
theorem seqStep_waits {s u : State} {f : State → State} {obs : LoadObs} (hp : s.seq.por = false) (hr : s.clk.rcstop = false)
    (h : f s = u) (hw : u.seq.wait ≠ .idle) (hb : u.seq.boardDone = false) :
    whenAon s (fun s => (f s).coreDone.afterBoard obs) = u := by
  rw [whenAon_on hp hr, h, coreDone_busy hw, afterBoard_busy hw hb]

/-- A step of the sequencer that cuts. -/
theorem seqStep_cuts {s u : State} {f : State → State} {obs : LoadObs} {cause ch : Nat} (hp : s.seq.por = false)
    (hr : s.clk.rcstop = false) (h : f s = u.seqCut cause ch) :
    whenAon s (fun s => (f s).coreDone.afterBoard obs) = u.seqCut cause ch := by
  rw [whenAon_on hp hr, h, seqEnd_cut rfl rfl]

/-- The start of the core phase: channel 0 is enabled, the others wait. -/
def State.coreStart (s : State) : State :=
  State.seqWait { s with seq := { s.seq with
    phase := .core, downDone := false, boardDone := false, ramp := List.replicate 8 0, todo := [1, 2, 3, 4]
    en := setAt s.seq.en 0 true } } .pgHigh 0

theorem startUp_low {s : State} (h : nth false s.seq.pg 0 = false) : s.startUp = s.coreStart := by
  unfold State.startUp
  rw [nextUp_sequenced (by simp [State.chMode]), enable_low (by exact h)]
  rfl

theorem upSequence_starts {s : State} (hpor : s.seq.por = false) (hph : s.seq.phase = .off) (hrs : s.clk.rs = .off)
    (hdd : s.seq.downDone = false) (hwarm : s.clk.warm = false) (ht : s.seq.porAt + 950 * us ≤ s.now)
    (hpg : nth false s.seq.pg 0 = false) : s.upSequence = s.coreStart := by
  unfold State.upSequence
  rw [startUp_low hpg, coreDone_busy (by simp [State.coreStart, State.seqWait])]
  simp [hpor, hph, hrs, hdd, hwarm, ht]

/-- The core phase ends with BOOT, in the instant of the command. -/
theorem coreDone_boots {s : State} (hp : s.seq.phase = .core) (hw : s.seq.wait = .idle) :
    s.coreDone = (State.snap { s with seq := { s.seq with phase := .waitPlan } } 0x02 0xFF).boot := by
  simp [State.coreDone, hp, hw]

theorem afterBoard_early {s : State} (hp : s.seq.phase ≠ .board) (hr : s.clk.rs ≠ .load) (obs : LoadObs) : s.afterBoard obs = s := by
  simp [State.afterBoard, State.boardEnd, hp, hr]

/-- What is left of a command whose operation ends before ARMED. -/
theorem After.early {u s' : State} (h : After u s') (hr : u.clk.rs = .off ∨ u.clk.rs = .load) : s'.seq = u.seq :=
  (h.quiet (chanB_off (hr.imp_right fun h => .inr (.inr (.inl h))))).seq

/-- The next channel that is sequenced has been enabled. -/
def State.enabledNext (s : State) (ch : Nat) (rest : List Nat) : State :=
  State.seqWait { s with seq := { s.seq with todo := rest, en := setAt s.seq.en ch true } } .pgHigh ch

theorem settled_enables {s : State} {ch next : Nat} {rest : List Nat} (hw : s.seq.wait = .settling) (hc : s.seq.chan = ch)
    (ht : s.seq.waitAt + s.settleNs ch ≤ s.now) (htodo : s.seq.todo = next :: rest) (hm : s.chMode next ≠ 2)
    (hpg : nth false s.seq.pg next = false) : s.settled ch = s.enabledNext next rest := by
  rw [settled_next hw hc ht, htodo, nextUp_sequenced hm, enable_low (by exact hpg)]
  rfl

theorem settled_monitors {s : State} {ch next : Nat} {rest : List Nat} (hw : s.seq.wait = .settling) (hc : s.seq.chan = ch)
    (ht : s.seq.waitAt + s.settleNs ch ≤ s.now) (htodo : s.seq.todo = next :: rest) (hm : s.chMode next = 2)
    (hpg : nth false s.seq.pg next = false) : s.settled ch = (s.left rest).seqWait .monitorHigh next := by
  rw [settled_next hw hc ht, htodo, nextUp_monitored hm hpg]

theorem settled_cuts {s : State} {ch next : Nat} {rest : List Nat} (hw : s.seq.wait = .settling) (hc : s.seq.chan = ch)
    (ht : s.seq.waitAt + s.settleNs ch ≤ s.now) (htodo : s.seq.todo = next :: rest) (hm : s.chMode next ≠ 2)
    (hpg : nth false s.seq.pg next = true) : s.settled ch = (s.left rest).seqCut 0x05 next := by
  rw [settled_next hw hc ht, htodo, nextUp_sequenced hm, enable_high (by exact hpg)]

/-- The core phase is over. -/
def State.coreEnd (s : State) : State :=
  State.snap { s with seq := { s.seq with wait := .idle, todo := [], phase := .waitPlan } } 0x02 0xFF

theorem coreEnd_phase (s : State) : s.coreEnd.seq.phase = .waitPlan ∧ s.coreEnd.seq.wait = .idle := by
  unfold State.coreEnd State.snap
  repeat' split
  all_goals exact ⟨rfl, rfl⟩

theorem coreEnd_same (s : State) : s.coreEnd.sout = s.sout ∧ s.coreEnd.flt = s.flt ∧ s.coreEnd.now = s.now := by
  unfold State.coreEnd State.snap
  repeat' split
  all_goals exact ⟨rfl, rfl, rfl⟩

theorem coreEnd_ext {s : State} (hx : s.sout.ext = false ∨ s.srcClass .muzzleExt = .stop) :
    s.coreEnd.sout.ext = false ∨ s.coreEnd.srcClass .muzzleExt = .stop := by
  obtain ⟨hsout, hflt, -⟩ := coreEnd_same s
  unfold State.srcClass State.mapEntry at *
  rwa [hsout, hflt]

theorem settled_boots {s : State} {ch : Nat} {obs : LoadObs} (hp : s.seq.por = false) (hr : s.clk.rcstop = false) (hph : s.seq.phase = .core)
    (hw : s.seq.wait = .settling) (hc : s.seq.chan = ch) (ht : s.seq.waitAt + s.settleNs ch ≤ s.now) (htodo : s.seq.todo = [])
    (hx : s.sout.ext = false ∨ s.srcClass .muzzleExt = .stop) :
    whenAon s (fun s => (s.settled ch).coreDone.afterBoard obs) = s.coreEnd.boot := by
  obtain ⟨hb, -, -, hseq⟩ := boot_noCut s.coreEnd (coreEnd_ext hx)
  have hcore : (s.settled ch).coreDone = s.coreEnd.boot := by
    rw [settled_next hw hc ht, htodo]
    exact coreDone_boots (s := s.nextUp []) hph rfl
  have hphase : s.coreEnd.boot.seq.phase ≠ .board := by
    rw [hseq, (coreEnd_phase s).1]
    decide
  rw [whenAon_on hp hr, hcore, afterBoard_early hphase (by simp [hb])]

theorem boot_bootAt (s : State) : s.boot.clk.bootAt = s.boot.now := by
  unfold State.boot
  dsimp only
  split
  · simp [State.collStart]
  · rfl

/-- Settles O2. -/
theorem upSequence : Obligations.UpSequence := by
  refine ⟨?_, ?_, ?_, ?_, ?_⟩
  · intro t s hpor hrc hph hrs hdd hwarm ht hpg
    obtain ⟨s', he, hs⟩ := act_of t s (fun s => whenAon s State.upSequence)
      ((whenAon_on (s := s.upTo t) hpor hrc _).trans (upSequence_starts hpor hph hrs hdd hwarm (le_upTo s ht) hpg))
    have hseq := hs.early (.inl hrs)
    exact ⟨s', he, congrArg Seq.phase hseq, congrArg Seq.en hseq, congrArg Seq.wait hseq, congrArg Seq.chan hseq,
      (congrArg Seq.waitAt hseq).trans (hs.same (·.now)).symm, congrArg Seq.todo hseq⟩
  · intro t ch b s hpor hrc hrs hbd hw hc
    obtain ⟨s', he, hs⟩ := act_of t s (fun s => whenAon s (fun s => (s.pgRise ch).coreDone.afterBoard b))
      (seqStep_waits (s := s.upTo t) hpor hrc (pgRise_awaited hw hc) (by simp [State.ramped, State.seqWait]) hbd)
    have hseq := hs.early hrs
    have hnow : s'.now = (s.upTo t).now := hs.same (·.now)
    refine ⟨s', he, ?_⟩
    rw [hnow]
    exact ⟨congrArg Seq.pg hseq, congrArg Seq.run hseq, congrArg Seq.ramp hseq, congrArg Seq.wait hseq, congrArg Seq.chan hseq,
      congrArg Seq.waitAt hseq, (congrArg Seq.en hseq).trans rfl⟩
  · intro t ch b next rest s hpor hrc hrs hbd hw hc ht htodo hm hpg
    obtain ⟨s', he, hs⟩ := act_of t s (fun s => whenAon s (fun s => (s.settled ch).coreDone.afterBoard b))
      (seqStep_waits (s := s.upTo t) hpor hrc (settled_enables hw hc (le_upTo s ht) htodo hm hpg)
        (by simp [State.enabledNext, State.seqWait]) hbd)
    have hseq := hs.early hrs
    exact ⟨s', he, congrArg Seq.en hseq, congrArg Seq.wait hseq, congrArg Seq.chan hseq,
      (congrArg Seq.waitAt hseq).trans (hs.same (·.now)).symm, congrArg Seq.todo hseq⟩
  · intro t ch b next rest s hpor hrc hrs hbd hw hc ht htodo hpg
    by_cases hm : s.chMode next = 2
    · obtain ⟨s', he, hs⟩ := act_of t s (fun s => whenAon s (fun s => (s.settled ch).coreDone.afterBoard b))
        (seqStep_waits (s := s.upTo t) hpor hrc (settled_monitors hw hc (le_upTo s ht) htodo hm (by simpa [hm] using hpg)) nofun hbd)
      have hseq := hs.early hrs
      refine ⟨s', he, ?_⟩
      rw [if_pos hm]
      exact ⟨congrArg Seq.wait hseq, congrArg Seq.chan hseq, (congrArg Seq.waitAt hseq).trans (hs.same (·.now)).symm,
        congrArg Seq.todo hseq⟩
    · obtain ⟨s', he, hs⟩ := act_of t s (fun s => whenAon s (fun s => (s.settled ch).coreDone.afterBoard b))
        (seqStep_cuts (s := s.upTo t) hpor hrc (settled_cuts hw hc (le_upTo s ht) htodo hm (hpg.trans (by simp [hm]))))
      obtain ⟨hr, hen, -⟩ := hs.seqCut
      refine ⟨s', he, ?_⟩
      rw [if_neg hm]
      exact ⟨hr, hen⟩
  · intro t ch b s hpor hrc hrs hph hw hc ht htodo hx
    obtain ⟨s', he, hs⟩ := act_of t s (fun s => whenAon s (fun s => (s.settled ch).coreDone.afterBoard b))
      (settled_boots (s := s.upTo t) hpor hrc hph hw hc (le_upTo s ht) htodo hx)
    obtain ⟨hr, -, hon, hbseq⟩ := boot_noCut (s.upTo t).coreEnd (coreEnd_ext hx)
    obtain ⟨hphase, hwait⟩ := coreEnd_phase (s.upTo t)
    have hq := hs.quiet (chanB_off (.inr (.inl hr)))
    have hseq := hq.seq.trans hbseq
    exact ⟨s', he, (congrArg Clk.rs hq.clk).trans hr, (congrArg Seq.phase hseq).trans hphase, (congrArg Seq.wait hseq).trans hwait,
      (hs.same (·.clk.bootAt)).trans ((boot_bootAt _).trans (hs.same (·.now)).symm), (hs.same (·.flt.on)).trans hon⟩

/-! ## The sequencer's cut -/

theorem pgLate_cuts {s : State} {ch : Nat} (hw : s.seq.wait = .pgHigh ∨ s.seq.wait = .monitorHigh) (hc : s.seq.chan = ch)
    (ht : s.seq.waitAt + s.pgtoNs ch ≤ s.now) : s.pgLate ch = s.seqCut 0x04 ch := by
  unfold State.pgLate
  obtain hw | hw := hw <;> simp [hw, hc, ht]

/-- The sequencer takes note that a power-good reads low. -/
def State.pgLow (s : State) (ch : Nat) : State := { s with seq := { s.seq with pg := setAt s.seq.pg ch false } }

theorem pgFall_cuts {s : State} {ch : Nat} (hr : nth false s.seq.run ch = true) : s.pgFall ch = (s.pgLow ch).seqCut 0x06 ch :=
  if_pos hr

/-- Settles O3. -/
theorem sequencerCut : Obligations.SequencerCut := by
  constructor
  · intro t ch s hpor hrc hw hc ht
    obtain ⟨s', he, hs⟩ := act_of t s (fun s => whenAon s fun s => s.pgLate ch)
      ((whenAon_on (s := s.upTo t) hpor hrc _).trans (pgLate_cuts hw hc (le_upTo s ht)))
    exact ⟨s', he, hs.seqCut⟩
  · intro t ch width s hpor hrc hwd hrun
    obtain ⟨s', he, hs⟩ := act_of t s (fun s => whenAon s fun s => if s.recognised width 1800 2000 then s.fresh.pgFall ch else s.fresh)
      ((whenAon_on (s := s.upTo t) hpor hrc _).trans
        ((if_pos (recognised_long _ hwd)).trans (pgFall_cuts (s := (s.upTo t).fresh) hrun)))
    obtain ⟨hr, hen, ho, hb, hp⟩ := hs.seqCut
    exact ⟨s', he, hr, (hs.same (·.seq.pg)).trans (seqCut_pg _ _ _), hen, ho, hb, hp⟩

end Sys2Proof.Machine
end

section
/-!
PROOF. O4: the ordered power-down (R396, R397).
-/
namespace Sys2Proof.Machine

/-! ## Lists -/

theorem nth_setAt_same {α : Type} (d v : α) (l : List α) (i : Nat) (h : i < l.length) : nth d (setAt l i v) i = v :=
  nth_updAt_same d _ l i h

theorem nth_setAt_other {α : Type} (d v : α) (l : List α) (i j : Nat) (h : j ≠ i) : nth d (setAt l i v) j = nth d l j :=
  nth_updAt_other d _ l i j h

/-- An entry that is set to the default reads so, in the list and beyond it. -/
theorem nth_setAt_default {α : Type} (d : α) (l : List α) (i : Nat) : nth d (setAt l i d) i = d := by
  by_cases h : i < l.length
  · exact nth_setAt_same d d l i h
  · exact nth_beyond d _ i (Nat.le_trans (Nat.le_of_eq (updAt_length _ l i)) (Nat.not_lt.mp h))

theorem nth_setAt_keeps {α : Type} (d : α) (l : List α) (i j : Nat) (h : nth d l j = d) : nth d (setAt l i d) j = d := by
  by_cases hj : j = i
  · rw [hj, nth_setAt_default]
  · rwa [nth_setAt_other _ _ _ _ _ hj]

/-! ## The channels of a power-down -/

/-- A channel of the power-down is taken: its EN is low, it no longer runs, and the others wait. -/
def State.disabled (s : State) (ch : Nat) (rest : List Nat) : State :=
  { s with seq := { s.seq with en := setAt s.seq.en ch false, run := setAt s.seq.run ch false, todo := rest } }

/-- A channel whose power-good reads low already is discharged. -/
def State.discharged (s : State) (ch : Nat) : State := { s with seq := { s.seq with dscLast := setAt s.seq.dscLast ch 0 } }

theorem nextDown_high {s : State} {ch : Nat} {rest : List Nat} (h : nth false s.seq.pg ch = true) :
    s.nextDown (ch :: rest) = (s.disabled ch rest).seqWait .discharge ch := if_pos h

theorem nextDown_low {s : State} {ch : Nat} {rest : List Nat} (h : nth false s.seq.pg ch = false) :
    s.nextDown (ch :: rest) = ((s.disabled ch rest).discharged ch).nextDown rest := by
  refine if_neg ?_
  simp only [h]
  exact Bool.false_ne_true

/-- Where the power-down stands: waiting for the first channel that still reads high, or over. -/
structure DownAt (order : List Nat) (pg : List Bool) (s u : State) : Prop where
  now : u.now = s.now
  here : ∀ c rest, order.dropWhile (fun ch => !nth false pg ch) = c :: rest →
    u.seq.wait = .discharge ∧ u.seq.chan = c ∧ u.seq.todo = rest ∧ u.seq.waitAt = u.now ∧ u.seq.phase = s.seq.phase ∧
      nth false u.seq.en c = false ∧
      ∀ x ∈ order.takeWhile (fun ch => !nth false pg ch), nth false u.seq.en x = false
  ended : order.dropWhile (fun ch => !nth false pg ch) = [] → u.seq.downDone = true ∧ u.clk.rs = .off
  low : ∀ x, nth false s.seq.en x = false → nth false u.seq.en x = false
  slow : ∀ x, x ∉ order → nth 0 u.seq.dscLast x = nth 0 s.seq.dscLast x
  pg : u.seq.pg = s.seq.pg

theorem downEnd_seq (s : State) : s.downEnd.now = s.now ∧ s.downEnd.seq.downDone = true ∧ s.downEnd.clk.rs = .off ∧
    s.downEnd.seq.en = s.seq.en ∧ s.downEnd.seq.dscLast = s.seq.dscLast ∧ s.downEnd.seq.pg = s.seq.pg := by
  have h : ∀ x : State, x.islandsReset.now = x.now ∧ x.islandsReset.seq.downDone = x.seq.downDone ∧ x.islandsReset.clk.rs = .off ∧
      x.islandsReset.seq.en = x.seq.en ∧ x.islandsReset.seq.dscLast = x.seq.dscLast ∧ x.islandsReset.seq.pg = x.seq.pg :=
    fun x => ⟨rfl, rfl, rfl, rfl, rfl, rfl⟩
  unfold State.downEnd State.snap
  dsimp only
  repeat' split
  all_goals exact h _

theorem nextDown_at : ∀ (order : List Nat) (s : State), DownAt order s.seq.pg s (s.nextDown order)
  | [], s => by
    obtain ⟨hn, hd, hr, he, hl, hp⟩ := downEnd_seq s
    exact ⟨hn, nofun, fun _ => ⟨hd, hr⟩, fun x h => by rw [show s.nextDown [] = s.downEnd from rfl, he]; exact h,
      fun x _ => by rw [show s.nextDown [] = s.downEnd from rfl, hl], hp⟩
  | ch :: rest, s => by
    cases hpg : nth false s.seq.pg ch with
    | true =>
      rw [nextDown_high hpg]
      refine ⟨rfl, fun c l h => ?_, fun h => ?_, fun x h => nth_setAt_keeps false _ ch x h, fun _ _ => rfl, rfl⟩
      · rw [List.dropWhile_cons_of_neg (by simp [hpg])] at h
        obtain ⟨rfl, rfl⟩ := List.cons.inj h
        rw [List.takeWhile_cons_of_neg (by simp [hpg])]
        exact ⟨rfl, rfl, rfl, rfl, rfl, nth_setAt_default false _ ch, nofun⟩
      · rw [List.dropWhile_cons_of_neg (by simp [hpg])] at h
        exact nomatch h
    | false =>
      rw [nextDown_low hpg]
      have ih := nextDown_at rest ((s.disabled ch rest).discharged ch)
      refine ⟨ih.now, fun c l h => ?_, fun h => ?_, fun x h => ih.low x (nth_setAt_keeps false _ ch x h), fun x h => ?_, ih.pg⟩
      · rw [List.dropWhile_cons_of_pos (by simp [hpg])] at h
        obtain ⟨hw, hc, ht, ha, hph, hen, hall⟩ := ih.here c l h
        rw [List.takeWhile_cons_of_pos (by simp [hpg])]
        refine ⟨hw, hc, ht, ha, hph, hen, fun x hx => ?_⟩
        obtain rfl | hx := List.mem_cons.1 hx
        · exact ih.low x (nth_setAt_default false _ x)
        · exact hall x hx
      · rw [List.dropWhile_cons_of_pos (by simp [hpg])] at h
        exact ih.ended h
      · obtain ⟨hne, hrest⟩ := not_or.1 (mt List.mem_cons.2 h)
        exact (ih.slow x hrest).trans (nth_setAt_other 0 _ _ _ _ hne)

/-- A command that leaves a power-down there. -/
theorem After.wentDown {order : List Nat} {pg : List Bool} {s u s' : State} (h : After u s') (hd : DownAt order pg s u) :
    s'.WentDown order pg := by
  unfold State.WentDown
  obtain hcut | hseq := h.worse.seq
  · exact .inl hcut
  · refine .inr ?_
    have hnow : s'.now = u.now := h.same (·.now)
    split
    next c rest heq =>
      obtain ⟨hw, hc, ht, ha, -, hen, hall⟩ := hd.here c rest heq
      rw [hseq, hnow]
      refine ⟨hw, hc, ht, ha, fun x hx => ?_⟩
      obtain rfl | hx := List.mem_cons.1 hx
      · exact hen
      · exact hall x hx
    next heq =>
      obtain ⟨hdd, hr⟩ := hd.ended heq
      rw [hseq]
      exact ⟨hdd, (congrArg Clk.rs (h.quiet (chanB_off (.inl hr))).clk).trans hr⟩

/-- Under a power-down, and once it is over, the muzzle is open. -/
theorem After.down_open {u s' : State} (h : After u s') (hd : u.seq.phase = .down ∨ u.clk.rs = .off) : s'.sout.open_ = true := by
  obtain hcut | hseq := h.worse.seq
  · exact h.open_of (by simp [hcut])
  · obtain hph | hr := hd
    · rw [h.safe.1]
      simp [State.muzzleOpen, hseq, hph]
    · have hr : s'.clk.rs = .off := (congrArg Clk.rs (h.quiet (chanB_off (.inl hr))).clk).trans hr
      exact h.open_of (by simp [hr])

theorem DownAt.stands {order : List Nat} {pg : List Bool} {s u : State} (h : DownAt order pg s u) (hs : s.seq.phase = .down) :
    u.seq.phase = .down ∨ u.clk.rs = .off := by
  cases hl : order.dropWhile (fun ch => !nth false pg ch) with
  | nil => exact .inr (h.ended hl).2
  | cons c rest =>
    obtain ⟨-, -, -, -, hph, -⟩ := h.here c rest hl
    exact .inl (hph.trans hs)

/-! ## The write to SHDN -/

/-- The ordered power-down has begun, before its first channel. -/
def State.downReady (s : State) : State :=
  let s' := s.snap 0x08 0xFF
  { s' with seq := { s'.seq with phase := .down, run := mapIdx (fun ch r => r && s'.chMode ch != 2) s'.seq.run }
            sout := { s'.sout with open_ := true } }

theorem downReady_pg (s : State) : s.downReady.seq.pg = s.seq.pg := of_keep (State.snap_keep s 0x08 0xFF) (·.seq.pg) fun _ => rfl

theorem startDown_at (s : State) : DownAt s.downOrder s.seq.pg s.downReady s.startDown := by
  have h := nextDown_at s.downOrder s.downReady
  rwa [downReady_pg] at h

theorem shdnWrite_starts {s : State} (hr : s.clk.rs = .maint) (hp : s.seq.phase = .running) : s.shdnWrite 0x005A = s.startDown := by
  simp [State.shdnWrite, hr, hp]

theorem shdnWrite_ignored {s : State} {v : Word} (h : s.clk.rs ≠ .maint ∨ v ≠ 0x005A ∨ s.seq.phase ≠ .running) :
    (s.shdnWrite v).keep = (s.frameBit 4).keep ∨ s.shdnWrite v = s := by
  unfold State.shdnWrite
  split
  next => exact .inl (State.alert_keep _ _)
  next hm =>
    refine .inr (if_neg ?_)
    simp only [bne_iff_ne, ne_eq, Classical.not_not] at hm
    obtain h | h | h := h
    · exact absurd hm h
    · exact fun hc => h (eq_of_beq (Bool.and_eq_true_iff.1 hc).2)
    · exact fun hc => h (eq_of_beq (Bool.and_eq_true_iff.1 hc).1)

/-! ## Discharge -/

/-- The discharge of a channel has timed out. -/
def State.dscOver (s : State) (ch : Nat) : State :=
  let s' := ({ s with seq := { s.seq with dscLast := setAt s.seq.dscLast ch 0xFFFF } } : State).snap 0x09 ch
  if 2 ≤ ch then s'.err .seqSlow ch else s'

theorem dscLate_now {s : State} {ch : Nat} (hw : s.seq.wait = .discharge) (hc : s.seq.chan = ch)
    (ht : s.seq.waitAt + nth 0 s.seq.dscto ch * ms ≤ s.now) :
    s.dscLate ch = if (s.dscOver ch).clk.rs == .cut then s.dscOver ch else (s.dscOver ch).nextDown s.seq.todo := by
  unfold State.dscLate State.dscOver
  simp [hw, hc, ht]

theorem dscOver_keep (s : State) (ch : Nat) :
    (s.dscOver ch).keep = ({ s with seq := { s.seq with dscLast := setAt s.seq.dscLast ch 0xFFFF } } : State).keep := by
  unfold State.dscOver
  dsimp only
  split <;> simp

/-- The channel in hand is discharged, after the time that DSCLAST shows. -/
def State.fellAt (s : State) (ch : Nat) : State :=
  { s.pgLow ch with seq := { (s.pgLow ch).seq with dscLast := setAt s.seq.dscLast ch (Nat.min ((s.now - s.seq.waitAt) / ms) 0xFFFE) } }

theorem pgFall_discharges {s : State} {ch : Nat} (hr : nth false s.seq.run ch = false) (hw : s.seq.wait = .discharge)
    (hc : s.seq.chan = ch) : s.pgFall ch = (s.fellAt ch).nextDown s.seq.todo := by
  simp [State.pgFall, State.fellAt, State.pgLow, hr, hw, hc]

/-- Settles O4. -/
theorem powerDown : Obligations.PowerDown := by
  refine ⟨?_, ?_, ?_, ?_⟩
  · intro t s hr hp
    obtain ⟨s', he, hs⟩ := act_of t s (fun s => s.shdnWrite 0x005A) (shdnWrite_starts (s := s.upTo t) hr hp)
    have hd := startDown_at (s.upTo t)
    exact ⟨s', he, hs.down_open (hd.stands rfl), hs.wentDown hd⟩
  · intro t v s h
    obtain ⟨s', he, hs⟩ := act_after t s (fun s => s.shdnWrite v)
    refine ⟨s', he, (congrArg State.seq hs.keep).trans ?_⟩
    obtain hk | hk := shdnWrite_ignored (s := s.upTo t) h
    · exact (congrArg State.seq hk).trans rfl
    · exact (congrArg (fun x : State => x.keep.seq) hk).trans rfl
  · intro t ch s hpor hrc hw hc ht
    obtain ⟨s', he, hs⟩ := act_of t s (fun s => whenAon s fun s => s.dscLate ch)
      ((whenAon_on (s := s.upTo t) hpor hrc _).trans (dscLate_now hw hc (le_upTo s ht)))
    have hk := dscOver_keep (s.upTo t) ch
    have hpg : ((s.upTo t).dscOver ch).seq.pg = s.seq.pg := of_keep hk (·.seq.pg) fun _ => rfl
    have hlast : ((s.upTo t).dscOver ch).seq.dscLast = setAt s.seq.dscLast ch 0xFFFF := of_keep hk (·.seq.dscLast) fun _ => rfl
    refine ⟨s', he, ?_⟩
    cases hcut : ((s.upTo t).dscOver ch).clk.rs == .cut with
    | true =>
      rw [hcut] at hs
      have hr : s'.clk.rs = .cut := (congrArg Clk.rs (hs.quiet (chanB_off (by simp_all))).clk).trans (eq_of_beq hcut)
      refine ⟨.inl hr, fun hlen _ => ?_⟩
      rw [show s'.seq.dscLast = _ from (hs.same (·.seq.dscLast)).trans hlast]
      exact nth_setAt_same 0 _ _ _ hlen
    | false =>
      rw [hcut] at hs
      have hd := nextDown_at s.seq.todo ((s.upTo t).dscOver ch)
      refine ⟨hs.wentDown (hpg ▸ hd), fun hlen hmem => ?_⟩
      rw [show s'.seq.dscLast = _ from hs.same (·.seq.dscLast)]
      refine (hd.slow ch hmem).trans ?_
      rw [hlast]
      exact nth_setAt_same 0 _ _ _ hlen
  · intro t width ch s hpor hrc hwd hrun hw hc
    obtain ⟨s', he, hs⟩ := act_of t s (fun s => whenAon s fun s => if s.recognised width 1800 2000 then s.fresh.pgFall ch else s.fresh)
      ((whenAon_on (s := s.upTo t) hpor hrc _).trans
        ((if_pos (recognised_long _ hwd)).trans (pgFall_discharges (s := (s.upTo t).fresh) hrun hw hc)))
    have hd := nextDown_at s.seq.todo ((s.upTo t).fresh.fellAt ch)
    refine ⟨s', he, ?_, hs.wentDown hd⟩
    rw [show s'.seq.pg = _ from (hs.same (·.seq.pg)).trans hd.pg]
    exact nth_setAt_default false _ _

end Sys2Proof.Machine
end

section
/-!
PROOF. O5: VIN supervision, the snapshots in MRAM and yard time in AON (R399 to R407).
-/
namespace Sys2Proof.Machine

/-! ## The length of a snapshot -/

@[simp] theorem toBytes_length : ∀ n v : Nat, (toBytes n v).length = n
  | 0, _ => rfl
  | n + 1, v => by rw [toBytes, List.length_append, toBytes_length n]; rfl

@[simp] theorem padTo_length (n : Nat) (l : List Byte) : (padTo n l).length = n := by simp [padTo]

theorem Snap.bytes_length (e : Snap) (no : Nat) : (e.bytes no).length = 64 := by
  simp [Snap.bytes, Snap.body, commitOf]

/-- What is written whole at the front of a slot is read back, and nothing else of the MRAM changes. -/
theorem Mem.writeN_frame {m : Mem} (h : m.wf = true) {a n : Nat} {l : List Byte} (hl : l.length = n) :
    (m.writeN a l).readN a n = l ∧ ∀ b, ¬ (a ≤ b ∧ b < a + n) → (m.writeN a l).read b = m.read b := by
  subst hl
  exact ⟨Mem.readN_writeN m a l h, fun b hb => Mem.read_writeN_outside l m a b h hb⟩

/-! ## What the supervision of VIN keeps -/

theorem holdLine_keep (s : State) (src : Src) (a : Bool) : (s.holdLine src a).keep = s.keep := by
  unfold State.holdLine
  split
  · rfl
  · exact State.line_keep s src false 0

/-- The supply has fallen below the warning level. -/
def State.warned (s : State) : State :=
  { s with seq := { s.seq with belowWarn := true, holdup := true, vinWarns := sat8 s.seq.vinWarns, vinLow := s.now } }

theorem warn_keep (s : State) : s.warn.keep = s.warned.keep :=
  ((State.snap_keep _ _ _).trans (State.err_keep _ _ _)).trans (holdLine_keep s.warned .seqVin true)

/-- The supply has come back. -/
def State.recovered (s : State) : State := { s with seq := { s.seq with holdup := false, belowWarn := false } }

theorem vinBack_keep {s : State} (hh : s.seq.holdup = true) (ht : s.seq.vinLow + 10 * ms ≤ s.now) : s.vinBack.keep = s.recovered.keep := by
  have hv : s.vinBack = (s.recovered.line .seqVin false 0).snap 0x0C 0xFF := if_pos (by simp [hh, ht])
  rw [hv]
  exact (State.snap_keep _ _ _).trans (State.line_keep _ _ _ _)

/-- The converter's code of a supply level. -/
def vinCode (uv : Nat) : Nat := Nat.min (uv * 4096 / 2400000) 0x0FFF

theorem sampleVin_kept (s : State) (uv : Nat) :
    (s.sampleVin uv).seq.vin = vinCode uv ∧ (s.sampleVin uv).seq.vinMin = Nat.min s.seq.vinMin (vinCode uv) ∧
      (s.sampleVin uv).seq.holdup = s.seq.holdup := by
  have hl : ∀ x : State, (x.line .seqVin false 0).seq.vin = x.seq.vin ∧ (x.line .seqVin false 0).seq.vinMin = x.seq.vinMin ∧
      (x.line .seqVin false 0).seq.holdup = x.seq.holdup := fun x =>
    ⟨of_keep (State.line_keep _ _ _ _) (·.seq.vin) fun _ => rfl, of_keep (State.line_keep _ _ _ _) (·.seq.vinMin) fun _ => rfl,
      of_keep (State.line_keep _ _ _ _) (·.seq.holdup) fun _ => rfl⟩
  unfold State.sampleVin
  dsimp only
  split
  · exact ⟨rfl, rfl, rfl⟩
  · exact hl _

/-! ## The level at which writes are abandoned -/

theorem tearSnap_counts (s : State) : s.tearSnap.seq.vinAbandons = s.seq.vinAbandons := by
  unfold State.tearSnap
  split <;> rfl

theorem tearRec_counts (s : State) : s.tearRec.seq.vinAbandons = s.seq.vinAbandons := by
  have ha : ∀ (x : State) (n : Nat), (x.alert n).seq.vinAbandons = x.seq.vinAbandons := fun x n =>
    of_keep (State.alert_keep x n) (·.seq.vinAbandons) fun _ => rfl
  unfold State.tearRec
  split
  · dsimp only
    split
    · rw [ha, ha]; rfl
    · rw [ha]; rfl
  · rfl

theorem abandon_counts {s : State} (h : s.seq.belowAbandon = false) (a b : Bool) :
    (s.abandon a b).seq.belowAbandon = true ∧ (s.abandon a b).seq.vinAbandons = sat8 s.seq.vinAbandons := by
  have he : ∀ x : State, (x.err .seqVin 0x0002).seq.belowAbandon = x.seq.belowAbandon ∧
      (x.err .seqVin 0x0002).seq.vinAbandons = x.seq.vinAbandons := fun x =>
    ⟨of_keep (State.err_keep _ _ _) (·.seq.belowAbandon) fun _ => rfl, of_keep (State.err_keep _ _ _) (·.seq.vinAbandons) fun _ => rfl⟩
  have hsnap : (if a then s.tearSnap.fresh else s).seq.vinAbandons = s.seq.vinAbandons := by
    split
    · exact tearSnap_counts s
    · rfl
  have hrec : ∀ x : State, (if b then x.tearRec.fresh else x).seq.vinAbandons = x.seq.vinAbandons := fun x => by
    split
    · exact tearRec_counts x
    · rfl
  unfold State.abandon
  rw [if_neg (by simp [h])]
  obtain ⟨hb, hv⟩ := he _
  exact ⟨hb.trans rfl, hv.trans (congrArg sat8 ((hrec _).trans hsnap))⟩

/-! ## Snapshots and ticks -/

/-- The oldest queued event stands in the ring. -/
def State.snapped (s : State) (e : Snap) (q : List Snap) : State :=
  State.mramWrite { s with seq := { s.seq with
      snapQ := q, snapNo := s.seq.snapNo + 1, snapTop := s.seq.snapNo + 1
      upStartNo := if e.cause = 0x01 then s.seq.snapNo + 1 else s.seq.upStartNo } }
    (snapAddr (snapSlotOf (s.seq.snapNo + 1))) (e.bytes (s.seq.snapNo + 1))

theorem snapWrite_oldest {s : State} {e : Snap} {q : List Snap} (hq : s.seq.snapQ = e :: q) (hb : s.seq.belowAbandon = false) :
    s.snapWrite = s.snapped e q := by
  simp [State.snapWrite, State.snapped, hq, hb]

theorem mramWrite_mram (s : State) (a : Nat) (l : List Byte) : (s.mramWrite a l).mram = s.mram.writeN a l := rfl

theorem snapped_mram (s : State) (e : Snap) (q : List Snap) :
    (s.snapped e q).mram = s.mram.writeN (snapAddr (snapSlotOf (s.seq.snapNo + 1))) (e.bytes (s.seq.snapNo + 1)) := by
  rw [State.snapped, mramWrite_mram]

/-- A state with that MRAM reads the event in its slot, and all else as before. -/
theorem snapped_slot {s s' : State} {e : Snap} {q : List Snap} (hw : s.mram.wf = true) (hm : s'.mram = (s.snapped e q).mram) :
    s'.snapSlot (snapSlotOf (s.seq.snapNo + 1)) = e.bytes (s.seq.snapNo + 1) ∧
      ∀ a, ¬ (snapAddr (snapSlotOf (s.seq.snapNo + 1)) ≤ a ∧ a < snapAddr (snapSlotOf (s.seq.snapNo + 1)) + 64) →
        s'.mram.read a = s.mram.read a := by
  rw [State.snapSlot, hm, snapped_mram]
  exact Mem.writeN_frame hw (e.bytes_length _)

theorem yardTicks_new {s : State} (hr : s.yard.runs = true) (hl : s.live = true) (hn : s.seq.ytick ≠ s.ytime / 125000 * 125000) :
    s.yardTicks = { s with seq := { s.seq with ytick := s.ytime / 125000 * 125000, ytickAt := some (s.now - s.ytime % 125000) } } := by
  have hmod : s.ytime - s.ytime / 125000 * 125000 = s.ytime % 125000 := by omega
  have hnew : (s.yard.runs && s.live && s.seq.ytick != s.ytime / 125000 * 125000) = true := by simpa [hr, hl] using hn
  unfold State.yardTicks
  dsimp only
  rw [if_pos hnew, hmod]

/-- Settles O5. -/
theorem supplySupervision : Obligations.SupplySupervision := by
  refine ⟨?_, ?_, ?_, ?_, ?_, ?_, ?_⟩
  · intro t s hpor hrc
    obtain ⟨s', he, hs⟩ := act_of t s (fun s => whenAon s State.warn) (whenAon_on (s := s.upTo t) hpor hrc _)
    have hk := hs.keep.trans (warn_keep _)
    exact ⟨s', he, of_keep hk (·.seq.holdup) fun _ => rfl, of_keep hk (·.seq.belowWarn) fun _ => rfl,
      of_keep hk (·.seq.vinWarns) fun _ => rfl⟩
  · intro t s hpor hrc hh ht
    obtain ⟨s', he, hs⟩ := act_of t s (fun s => whenAon s State.vinBack) (whenAon_on (s := s.upTo t) hpor hrc _)
    have hk := hs.keep.trans (vinBack_keep (s := s.upTo t) hh (le_upTo s ht))
    exact ⟨s', he, of_keep hk (·.seq.holdup) fun _ => rfl, of_keep hk (·.seq.belowWarn) fun _ => rfl⟩
  · intro t a b s hpor hrc hb
    obtain ⟨s', he, hs⟩ := act_of t s (fun s => whenAon s fun s => s.abandon a b) (whenAon_on (s := s.upTo t) hpor hrc _)
    obtain ⟨hab, hn⟩ := abandon_counts (s := s.upTo t) hb a b
    exact ⟨s', he, (hs.same (·.seq.belowAbandon)).trans hab, (hs.same (·.seq.vinAbandons)).trans hn⟩
  · intro t s hpor hrc
    obtain ⟨s', he, hs⟩ := act_of t s (fun s => whenAon s fun s => { s with seq := { s.seq with belowAbandon := false } })
      (whenAon_on (s := s.upTo t) hpor hrc _)
    exact ⟨s', he, hs.same (·.seq.belowAbandon)⟩
  · intro t uv s hpor hrc
    obtain ⟨s', he, hs⟩ := act_of t s (fun s => whenAon s fun s => s.sampleVin uv) (whenAon_on (s := s.upTo t) hpor hrc _)
    obtain ⟨hv, hm, hh⟩ := sampleVin_kept (s.upTo t) uv
    have hvin : s'.seq.vin = vinCode uv := (hs.same (·.seq.vin)).trans hv
    refine ⟨s', he, hvin, ?_, (hs.same (·.seq.holdup)).trans hh⟩
    rw [hvin]
    exact (hs.same (·.seq.vinMin)).trans hm
  · intro t e q s hpor hrc hwf hq hb
    obtain ⟨s', he, hs⟩ := act_of t s (fun s => whenAon s State.snapWrite)
      ((whenAon_on (s := s.upTo t) hpor hrc _).trans (snapWrite_oldest hq hb))
    exact ⟨s', he, hs.same (·.seq.snapNo), hs.same (·.seq.snapTop), snapped_slot (s := s.upTo t) hwf (hs.same (·.mram))⟩
  · intro t s hr hl hn
    obtain ⟨s', he, hs⟩ := act_of t s State.yardTicks (yardTicks_new (s := s.upTo t) hr hl hn)
    refine ⟨s', he, hs.same (·.seq.ytick), (hs.same (·.seq.ytickAt)).trans ?_⟩
    rw [show s'.now = (s.upTo t).now from hs.same (·.now)]

end Sys2Proof.Machine
end

section
/-!
PROOF. O14 to O17 fail. Channel B evaluates after every command of the run states (R77): where it finds a motion limit violated, the
class of MOT_LIMIT reacts within that command, and the statements leave this out.
-/
namespace Sys2Proof.Machine

/-- A record of an SDI whose limit of teeth against the direction is 0 (R146). -/
def sdiRecord : List Byte := 0x12 :: List.replicate 15 0

/-- The fault map that gives MOT_LIMIT a class and every other source its least class. -/
def motLimitMap (c : Cls) : List Byte :=
  setAt (List.replicate 16 0) (Src.motLimit.bit / 4) (BitVec.ofNat 8 (c.code * 4 ^ (Src.motLimit.bit % 4)))

/-- A part in DEVELOP whose channel B has counted one tooth too many, and is about to find so. -/
def limitDue (r : RunState) (c : Cls) : State :=
  { clk := { rs := r }, img := { fuses := [[true, true, true], [true, true, true], [], [], []] }
    sh0 := { loaded := true, recs := [sdiRecord], com := [{}], b := [{ cnt := 1 }] }, flt := { on := true, map := motLimitMap c } }

/-- In MAINT, between two tests of a host run that has taken core 0 (R445), MOT_LIMIT being of class STOP. -/
def hostRunPaused : State :=
  { limitDue .maint .stop with
    pair := { rotFrom := some 0, rotint := 1, restart := true }
    farr := { busy := true, origin := .host, ran := [1] } }

/-- The state that a command leaves; every command completes. -/
def stateAfter (i : Instr) (s : State) : State :=
  match exec i s with
  | .next s' => s'
  | _ => s

theorem stateAfter_of {i : Instr} {s s' : State} (h : exec i s = .next s') : stateAfter i s = s' := by
  rw [stateAfter, h]

/-- Whatever command that raises nothing is given to it, channel B stops the run, and both cores begin at the cycle entry. -/
theorem hostRunPaused_restarts : (stateAfter (.rotationDue (3600 * 1000 * ms)) hostRunPaused).pair.restart = false ∧
    (stateAfter (.idcode 0) hostRunPaused).pair.restart = false ∧ (stateAfter (.readWord 0 0) hostRunPaused).pair.restart = false := by
  decide

/-- PAIR_HALT halts the pair, and channel B's error cuts the rails at once. -/
theorem limitDue_cuts : (stateAfter (.pairHalt 0 false) (limitDue .safe .cut)).clk.rs = .cut := by decide

/-- Refutes O14 by its first clause: a rotation falls due between two tests of a host run, and the STOP that channel B finds in the same
command starts both cores anew, so the pair does not keep its other fields. -/
theorem not_rotation : ¬ Obligations.Rotation := by
  rintro ⟨h, -⟩
  obtain ⟨s', he, hp⟩ := h (3600 * 1000 * ms) 0 hostRunPaused rfl (by decide) rfl (by decide) rfl rfl (by decide)
  have hr : s'.pair.restart = true := congrArg Pair.restart hp
  rw [← stateAfter_of he, hostRunPaused_restarts.1] at hr
  cases hr

/-- Refutes O15 by its first clause: in the same state IDCODE is taken, and the STOP that channel B finds changes the pair. -/
theorem not_tapInstructions : ¬ Obligations.TapInstructions := by
  rintro ⟨h, -⟩
  obtain ⟨s', he, hp⟩ := h 0 hostRunPaused (by decide)
  have hr : s'.pair.restart = true := congrArg Pair.restart hp
  rw [← stateAfter_of he, hostRunPaused_restarts.2.1] at hr
  cases hr

/-- Refutes O16 by its first clause: PAIR_HALT in SAFE, with DEBUG_HALT of class STOP and MOT_LIMIT of class CUT, ends in CUT where
channel B finds the motion limit violated. -/
theorem not_halting : ¬ Obligations.Halting := by
  rintro ⟨h, -⟩
  obtain ⟨s', he, hr, -⟩ := h 0 (limitDue .safe .cut) (by decide) (by decide) rfl (by decide) (by decide)
  rw [← stateAfter_of he, limitDue_cuts] at hr
  cases hr

/-- Refutes O17 by its second clause: a read of a pair that is not halted answers RESULT 1, and in the same state the STOP that channel B
finds changes the pair beside it. -/
theorem not_accessRegister : ¬ Obligations.AccessRegister := by
  rintro ⟨-, h, -⟩
  obtain ⟨s', he, hp⟩ := h 0 0 0 0 0 0 none none false hostRunPaused (by decide) (by decide) (by decide) (.readWord 0 0) (by simp)
  have hr : s'.pair.restart = true := congrArg Pair.restart hp
  rw [← stateAfter_of he, hostRunPaused_restarts.2.2] at hr
  cases hr

end Sys2Proof.Machine
end

section
/-!
PROOF. O13 and O37 fail: what a command does is undone by what follows it at once, a reset condition that holds already (R34) or a new
record of the same number.
-/
namespace Sys2Proof.Machine

/-! ## A sheet entry whose reset condition holds -/

/-- A part in RUN with one TWOHAND whose two buttons read 0: its catalogue reset condition holds (R34). -/
def handsOff : State :=
  { clk := { rs := .run }, flt := { on := true }
    sh0 := { loaded := true, recs := [0x04 :: List.replicate 15 0], com := [{}], a := [{}], b := [{}] } }

/-- An uncorrectable error in the words of that entry. -/
def recordEcc : EccEvent := { place := .record 0 0, corrected := false }

/-- Its LOCAL has the catalogue's reset condition, so it clears at once. -/
theorem handsOff_clears : ((stateAfter (.kramPatrol 0 [recordEcc]) handsOff).com 0 0).locals = [] := by decide

/-- Refutes O13 by its last clause: an error in the words of a TWOHAND whose buttons are released sends it to LOCAL, and the same command
clears the LOCAL, since its reset condition holds already. -/
theorem not_kennelRamErrors : ¬ Obligations.KennelRamErrors := by
  rintro ⟨-, -, -, h⟩
  obtain ⟨s', he, -, -, hl, -⟩ := h 0 0 0 handsOff (by decide) rfl (by decide) (by decide)
  have hnone : (s'.com 0 0).locals = [] := stateAfter_of he ▸ handsOff_clears
  obtain ⟨e, hm, -⟩ := List.any_eq_true.1 hl
  exact absurd (hnone ▸ hm) List.not_mem_nil

/-! ## A record of the same number -/

/-- An open NOTE record of KRAM_ECC that has been written. -/
def openNote : OpenRec where
  r :=
    { recno := 1, ytime := 0, srcmap := 2 ^ Src.kramEcc.bit, first := Src.kramEcc.bit, cls := .note, closed := false, fromSnap := false
      solo := false, perturbed := false, syncLost := false, merges := 0, detail := 0, rstate := 0, dur := 0 }
  at_ := 0
  written := true
  dirty := false
  locAt := 0

/-- A halted part whose record counter stands below its open record, and whose channel B is about to find two motion limits violated. -/
def counterBehind : State :=
  { limitDue .halted .loc with
    sh0 := { loaded := true, recs := [sdiRecord, sdiRecord], com := [{}, {}], b := [{ cnt := 1 }, { cnt := 1 }] }
    flt := { on := true, rec? := some openNote } }

/-- The first violation opens a record of the closed one's number, and the second, merged in the same instant, writes its content over
every entry of that number that is due. -/
theorem counterBehind_due : (stateAfter (.collInterval ms) counterBehind).flt.due.any (fun e => e.1.closed) = false := by decide

/-- Refutes O37 by its third clause: the closed content of the NOTE record is no longer due where the record that follows at once has its
number. -/
theorem not_faultRecords : ¬ Obligations.FaultRecords := by
  rintro ⟨-, -, h, -⟩
  obtain ⟨s', he, hd, -⟩ := h ms openNote counterBehind (by decide) rfl (by decide) (by decide) rfl rfl rfl (by decide)
  obtain ⟨e, hm, heq⟩ := List.any_eq_true.1 hd
  have hc : e.1.closed = true := congrArg FRec.closed (eq_of_beq heq)
  have hany : s'.flt.due.any (fun e => e.1.closed) = true := List.any_eq_true.2 ⟨e, hm, hc⟩
  rw [← stateAfter_of he, counterBehind_due] at hany
  cases hany

end Sys2Proof.Machine
end

section
/-!
PROOF. O6 to O8: the start of the clocks, their monitor, and the supervision (R412 to R419, R474, R543).
-/
namespace Sys2Proof.Machine

/-! ## Errors that stop the part -/

theorem raise_latches {s : State} (h : s.flt.on = true) (src : Src) (d : Nat) (c : Cls) :
    bit (s.raise src d c).flt.fstat src.bit = true := by
  obtain ⟨-, hl, -⟩ := reactions src d c s
  exact (hl h).1

theorem err_latches {s : State} (h : s.flt.on = true) (src : Src) (d : Nat) : bit (s.err src d).flt.fstat src.bit = true :=
  raise_latches h src d _

/-- A bit of FSTAT that an operation has latched is latched after its command. -/
theorem After.latched {u s' : State} (h : After u s') {b : Nat} (hb : bit u.flt.fstat b = true) : bit s'.flt.fstat b = true :=
  h.worse.fstat b hb

theorem After.err_latched {s s' : State} {src : Src} {d : Nat} (hs : After (s.err src d) s') (h : s.flt.on = true) :
    bit s'.flt.fstat src.bit = true := hs.latched (err_latches h src d)

/-- The part is held, or in none of the run states in which channel A may drive. -/
def State.Stopped (s : State) : Prop := s.clk.held = true ∨ (s.clk.rs ≠ .armed ∧ s.clk.rs ≠ .run ∧ s.clk.rs ≠ .maint)

theorem State.Worse.stopped {s t : State} (h : s.Worse t) (hs : s.Stopped) : t.Stopped := by
  unfold State.Stopped at *
  obtain hh | ⟨ha, hr, hm⟩ := hs
  · obtain hh | hc := h.held hh
    · exact .inl hh
    · exact .inr (by simp [hc])
  · obtain hr' | hr' | ⟨-, hr'⟩ := h.rs
    · exact .inr (by rw [hr']; exact ⟨ha, hr, hm⟩)
    · exact .inr (by simp [hr'])
    · exact absurd hr' (by simp [ha, hr, hm])

theorem After.stopped_open {u s' : State} (h : After u s') (hs : u.Stopped) : s'.sout.open_ = true := by
  obtain hh | hr := h.worse.stopped hs
  · rw [h.safe.1]
    simp [State.muzzleOpen, hh]
  · exact h.open_of hr

theorem reactTo_stopped (s : State) (src : Src) (d : Nat) (c : Cls) (h : 2 ≤ c.code) (hs : src ≠ .seqPg) : (s.reactTo src d c).Stopped := by
  have hstop : ∀ x : State, x.stop.Stopped := fun x => State.toSafe_open _
  cases c with
  | note => cases Nat.not_succ_le_zero 1 h
  | loc => exact absurd h (by decide)
  | stop =>
    unfold State.reactTo
    dsimp only
    split
    · exact hstop _
    · exact hstop _
  | cut => exact .inr (by simp [(reactTo_cut s src d hs).1])

/-- An error whose class is at least STOP stops the part. -/
theorem raise_stopped {s : State} (h : s.flt.on = true) (src : Src) (d : Nat) (c : Cls) (hc : 2 ≤ c.code) (hs : src ≠ .seqPg) :
    (s.raise src d c).Stopped := by
  rw [raise_noted h]
  refine reactTo_stopped _ src d _ ?_ hs
  generalize s.mapEntry src = m
  revert hc
  cases m <;> cases c <;> decide

theorem whenLive_live {s : State} (h : s.live = true) (f : State → State) : whenLive s f = f s := if_pos h

/-! ## A clock that is found bad -/

/-- A clock is marked bad, before CLK_MON is raised. -/
def State.markBad (s : State) (idx : Nat) (edge dev : Bool) : State :=
  { s with
    clk := { s.clk with bad := setAt s.clk.bad idx true, cmdiag := w16 (idx % 32 + flag edge 5 + flag dev 6 + 0x8000) }
    flt := { s.flt with line := s.flt.line ||| 2 ^ Src.clkMon.bit } }

theorem markBad_clk (s : State) (idx : Nat) (edge dev : Bool) : (s.markBad idx edge dev).clk =
    { s.clk with bad := setAt s.clk.bad idx true, cmdiag := w16 (idx % 32 + flag edge 5 + flag dev 6 + 0x8000) } := rfl

theorem clkBad_new {s : State} {idx : Nat} (h : nth false s.clk.bad idx = false) (edge dev : Bool) :
    s.clkBad idx edge dev = (s.markBad idx edge dev).err .clkMon idx := by
  unfold State.clkBad
  rw [if_neg (by simp [h])]
  rfl

/-- After a command that has found a clock bad. -/
theorem After.clkBad {s s' : State} {idx : Nat} {edge dev : Bool} (hs : After ((s.markBad idx edge dev).err .clkMon idx) s') :
    s'.clk.bad = setAt s.clk.bad idx true ∧ s'.clk.dev = s.clk.dev ∧
      s'.clk.cmdiag = w16 (idx % 32 + flag edge 5 + flag dev 6 + 0x8000) ∧
      (s.flt.on = true → bit s'.flt.fstat Src.clkMon.bit = true) := by
  have hk := hs.keep.trans (State.err_keep _ _ _)
  have hbad : s'.clk.bad = (s.markBad idx edge dev).clk.bad := of_keep hk (·.clk.bad) fun _ => rfl
  have hdev : s'.clk.dev = (s.markBad idx edge dev).clk.dev := of_keep hk (·.clk.dev) fun _ => rfl
  have hdiag : s'.clk.cmdiag = (s.markBad idx edge dev).clk.cmdiag := of_keep hk (·.clk.cmdiag) fun _ => rfl
  rw [markBad_clk] at hbad hdev hdiag
  exact ⟨hbad, hdev, hdiag, hs.err_latched⟩

theorem crystalLate_now {s : State} (hr : s.clk.rs = .boot) (hx : s.clk.xtal = false) (ht : s.clk.bootAt + 10 * ms ≤ s.now)
    (hb : nth false s.clk.bad 0 = false) : s.crystalLate = (s.markBad 0 false false).err .clkMon 0 := by
  unfold State.crystalLate
  rw [if_pos (by simp [hr, hx, ht]), clkBad_new hb]

theorem lockPll_starts {s : State} (hr : s.clk.rs = .boot) (hx : s.clk.xtal = true) (hp : s.clk.pll = false) :
    s.lockPll = { s with clk := { s.clk with pll := true, pllAt := s.now } } := if_pos (by simp [hr, hx, hp])

theorem calibrate_done {s : State} {khz : Nat} (hr : s.clk.rs = .boot) (hp : s.clk.pll = true) (hc : s.clk.rcOk = false)
    (ht : s.clk.pllAt + ms ≤ s.now) :
    s.calibrate khz = { s with clk := { s.clk with rcOk := true, rccal := Nat.min khz 0xFFFF, mon := true } } :=
  if_pos (by simp [hr, hp, hc, ht])

/-- Settles O6. -/
theorem clockStart : Obligations.ClockStart := by
  refine ⟨?_, ?_, ?_, ?_⟩
  · intro t s hl
    obtain ⟨s', he, hs⟩ := act_of t s (fun s => whenLive s fun s => { s with clk := { s.clk with xtal := true } })
      (whenLive_live (s := s.upTo t) hl _)
    exact ⟨s', he, hs.same (·.clk.xtal), hs.same (·.clk.pll)⟩
  · intro t s hr hx hp
    obtain ⟨s', he, hs⟩ := act_of t s State.lockPll (lockPll_starts (s := s.upTo t) hr hx hp)
    exact ⟨s', he, hs.same (·.clk.pll), (hs.same (·.clk.pllAt)).trans (hs.same (·.now)).symm⟩
  · intro t s hr hx ht hb
    obtain ⟨s', he, hs⟩ := act_of t s State.crystalLate (crystalLate_now (s := s.upTo t) hr hx (le_upTo s ht) hb)
    obtain ⟨hbad, -, hdiag, hlatch⟩ := hs.clkBad
    have hboot : ((s.upTo t).markBad 0 false false).Stopped := .inr (by simp [State.markBad, State.upTo, hr])
    exact ⟨s', he, hbad, hdiag, hs.stopped_open ((State.err_worse _ _ _).stopped hboot), hlatch⟩
  · intro t khz s hr hp hc ht
    obtain ⟨s', he, hs⟩ := act_of t s (fun s => s.calibrate khz) (calibrate_done (s := s.upTo t) hr hp hc (le_upTo s ht))
    exact ⟨s', he, hs.same (·.clk.rcOk), hs.same (·.clk.rccal), hs.same (·.clk.mon)⟩

/-! ## The clock monitor -/

/-- The monitor keeps the deviation of a window. -/
def State.deviated (s : State) (idx : Nat) (d : Int) : State :=
  { s with clk := { s.clk with dev := setAt s.clk.dev idx d, devMax := updAt (fun m => Nat.max m (Nat.min d.natAbs 0xFFFF)) s.clk.devMax idx } }

theorem ckdevOf_off {s : State} (h : s.spook.en = false) (idx : Nat) : s.ckdevOf idx = 0 := by
  simp [State.ckdevOf, h]

theorem clkWindow_good {s : State} {idx : Nat} {d : Int} (hl : s.live = true) (hm : s.clk.mon = true) (he : s.spook.en = false)
    (hd : d.natAbs ≤ 200) : s.clkWindow idx d = (s.deviated idx d).clkGood idx := by
  unfold State.clkWindow
  rw [if_pos (by simp [hl, hm])]
  dsimp only
  rw [ckdevOf_off he, Int.add_zero, if_neg (by omega), if_pos hd]
  rfl

theorem clkWindow_bad {s : State} {idx : Nat} {d : Int} (hl : s.live = true) (hm : s.clk.mon = true) (he : s.spook.en = false)
    (hd : 300 < d.natAbs) : s.clkWindow idx d = (s.deviated idx d).clkBad idx false true := by
  unfold State.clkWindow
  rw [if_pos (by simp [hl, hm])]
  dsimp only
  rw [ckdevOf_off he, Int.add_zero, if_pos hd]
  rfl

theorem clkGood_keep (s : State) (idx : Nat) :
    (s.clkGood idx).keep = ({ s with clk := { s.clk with bad := setAt s.clk.bad idx false } } : State).keep := by
  unfold State.clkGood
  dsimp only
  split
  · rfl
  · exact State.line_keep _ _ _ _

/-- HSDIAG and CMDIAG name the islands. -/
def State.handshakeDiag (s : State) (island waiter : Nat) : State :=
  { s with clk := { s.clk with
      hsdiag := w16 (island % 16 + 16 * (waiter % 16) + 0x8000), cmdiag := w16 ((0x10 + island) % 32 + flag false 5 + flag false 6 + 0x8000) } }

theorem handshakeDiag_clk (s : State) (island waiter : Nat) : (s.handshakeDiag island waiter).clk =
    { s.clk with
      hsdiag := w16 (island % 16 + 16 * (waiter % 16) + 0x8000)
      cmdiag := w16 ((0x10 + island) % 32 + flag false 5 + flag false 6 + 0x8000) } := rfl

theorem handshakeLate_eq (s : State) (island waiter : Nat) :
    s.handshakeLate island waiter = (s.handshakeDiag island waiter).err .clkMon (0x10 + island) := rfl

theorem fin_mod {n : Nat} (i : Fin n) {m : Nat} (h : n ≤ m) : i.val % m = i.val := Nat.mod_eq_of_lt (Nat.lt_of_lt_of_le i.isLt h)

/-- Settles O7. -/
theorem clockMonitor : Obligations.ClockMonitor := by
  refine ⟨?_, ?_, ?_, ?_⟩
  · intro t i d s hl hm he hd
    obtain ⟨s', hx, hs⟩ := act_of t s (fun s => s.clkWindow i d) (clkWindow_good (s := s.upTo t) hl hm he hd)
    have hk := hs.keep.trans (clkGood_keep _ _)
    exact ⟨s', hx, of_keep hk (·.clk.dev) fun _ => rfl, of_keep hk (·.clk.bad) fun _ => rfl, of_keep hk (·.clk.cmdiag) fun _ => rfl⟩
  · intro t i d s hl hm he hd hb
    obtain ⟨s', hx, hs⟩ := act_of t s (fun s => s.clkWindow i d)
      ((clkWindow_bad (s := s.upTo t) hl hm he hd).trans (clkBad_new (s := (s.upTo t).deviated i d) hb _ _))
    obtain ⟨hbad, hdev, hdiag, hlatch⟩ := hs.clkBad
    refine ⟨s', hx, hdev, hbad, hdiag.trans ?_, hlatch⟩
    rw [fin_mod i (by decide)]
    rfl
  · intro t i s hl hm hb
    have hlm : ((s.upTo t).live && (s.upTo t).clk.mon) = true := Bool.and_eq_true_iff.2 ⟨hl, hm⟩
    obtain ⟨s', hx, hs⟩ := act_of t s (fun s => if s.live && s.clk.mon then s.clkBad i true false else s)
      ((if_pos hlm).trans (clkBad_new (s := s.upTo t) hb _ _))
    obtain ⟨hbad, -, hdiag, hlatch⟩ := hs.clkBad
    refine ⟨s', hx, hbad, hdiag.trans ?_, hlatch⟩
    rw [fin_mod i (by decide)]
    rfl
  · intro t i w s hl
    obtain ⟨s', hx, hs⟩ := act_of t s (fun s => whenLive s fun s => s.handshakeLate i w)
      ((whenLive_live (s := s.upTo t) hl _).trans (handshakeLate_eq _ _ _))
    have hk := hs.keep.trans (State.err_keep _ _ _)
    have hhs : s'.clk.hsdiag = ((s.upTo t).handshakeDiag i w).clk.hsdiag := of_keep hk (·.clk.hsdiag) fun _ => rfl
    have hcm : s'.clk.cmdiag = ((s.upTo t).handshakeDiag i w).clk.cmdiag := of_keep hk (·.clk.cmdiag) fun _ => rfl
    rw [handshakeDiag_clk] at hhs hcm
    refine ⟨s', hx, ?_, ?_, hs.err_latched⟩
    · rw [hhs]
      dsimp only
      rw [fin_mod i (by decide), fin_mod w (by decide)]
    · rw [hcm]
      dsimp only
      rw [Nat.mod_eq_of_lt (by omega)]
      rfl

/-! ## Supervision -/

/-- The part when the RC oscillator has stopped. -/
def State.rcDead (s : State) : State :=
  let s := ({ s with clk := { s.clk with rcstop := true } }).holdBark.toSafe
  { s with flt := { s.flt with on := false, lasting := true } }

theorem rcStopped_dead {s : State} (hl : s.live = true) (hp : s.clk.pll = true) (hr : s.clk.rcstop = false) : s.rcStopped = s.rcDead :=
  if_pos (by simp [hl, hp, hr])

theorem toSafe_rcstop (s : State) : s.toSafe.clk.rcstop = s.clk.rcstop := by
  unfold State.toSafe State.alert
  dsimp only
  repeat' split
  all_goals rfl

theorem toSafe_run {s : State} (h : s.clk.rs = .run) : s.toSafe.clk.rs = .safe := by
  unfold State.toSafe
  rw [h]
  rfl

theorem readTemps_keep (s : State) (l : List Int) :
    (s.readTemps l).clk.temps = l ∧ (s.readTemps l).seq.temps = l := by
  have hl : ∀ (x : State) (a : Bool) (d : Nat), (x.line .temp a d).clk.temps = x.clk.temps ∧ (x.line .temp a d).seq.temps = x.seq.temps :=
    fun x a d => ⟨of_keep (State.line_keep _ _ _ _) (·.clk.temps) fun _ => rfl, of_keep (State.line_keep _ _ _ _) (·.seq.temps) fun _ => rfl⟩
  unfold State.readTemps
  dsimp only
  repeat' split
  · exact hl _ _ _
  · exact hl _ _ _
  · exact ⟨rfl, rfl⟩

/-- The mailbox when the loft has been reset. -/
theorem mbxEnd_cp (s : State) (r : Nat) :
    (s.mbxEnd r).cp.mbx = none ∧
      (s.mbxEnd r).cp.resp = match s.cp.mbx with
        | some m => w16 (m.tag % 256 * 256 + r)
        | none => s.cp.resp := by
  have ha : ∀ x : State, (x.alert 8).cp.mbx = x.cp.mbx ∧ (x.alert 8).cp.resp = x.cp.resp := fun x =>
    ⟨of_keep (State.alert_keep _ _) (·.cp.mbx) fun _ => rfl, of_keep (State.alert_keep _ _) (·.cp.resp) fun _ => rfl⟩
  unfold State.mbxEnd
  cases hm : s.cp.mbx with
  | none => exact ⟨hm, rfl⟩
  | some m =>
    obtain ⟨h1, h2⟩ := ha { s with cp := { s.cp with mbx := none, resp := w16 (m.tag % 256 * 256 + r) } }
    exact ⟨h1, h2⟩

theorem mbxEnd_loft (s : State) (r : Nat) : (s.mbxEnd r).img = s.img := by
  unfold State.mbxEnd State.alert
  repeat' split
  all_goals rfl

theorem groomReset_resets {s : State} (h : s.img.loft = true) : s.groomReset = s.loftStop.err .groomWdog 0 := if_pos h

/-- Settles O8. -/
theorem supervisionEvents : Obligations.SupervisionEvents := by
  refine ⟨?_, ?_, ?_⟩
  · intro t s hl hp hr
    obtain ⟨s', he, hs⟩ := act_of t s State.rcStopped (rcStopped_dead (s := s.upTo t) hl hp hr)
    have hclk : s'.clk = (s.upTo t).rcDead.clk := hs.steady.deaf rfl
    have hrc : s'.clk.rcstop = true := (congrArg Clk.rcstop hclk).trans (toSafe_rcstop _)
    have hbark : (s.upTo t).rcDead.sout.barkHold = true := congrArg (·.barkHold) (State.toSafe_sout _)
    refine ⟨s', he, hrc, ?_, hs.worse.bark hbark, hs.steady.on, fun hrun => (congrArg Clk.rs hclk).trans (toSafe_run (by exact hrun))⟩
    rw [hs.safe.1]
    simp [State.muzzleOpen, hrc]
  · intro t a b c s hl
    obtain ⟨s', he, hs⟩ := act_of t s (fun s => whenLive s fun s => s.readTemps [a, b, c]) (whenLive_live (s := s.upTo t) hl _)
    obtain ⟨hc, hq⟩ := readTemps_keep (s.upTo t) [a, b, c]
    exact ⟨s', he, (hs.same (·.clk.temps)).trans hc, (hs.same (·.seq.temps)).trans hq⟩
  · intro t s hl
    obtain ⟨s', he, hs⟩ := act_of t s State.groomReset (groomReset_resets (s := s.upTo t) hl)
    have hk := hs.keep.trans (State.err_keep _ _ _)
    obtain ⟨hm, hr⟩ := mbxEnd_cp { s.upTo t with img := { (s.upTo t).img with loft := false, noLoft := false, loftVer := 0 } } 8
    have hloft : (s.upTo t).loftStop.img.loft = false := congrArg Img.loft (mbxEnd_loft _ 8)
    exact ⟨s', he, hs.steady.loft ((err_steady _ _ _).loft hloft), (of_keep hk (·.cp.mbx) fun _ => rfl).trans hm,
      (of_keep hk (·.cp.resp) fun _ => rfl).trans hr⟩

end Sys2Proof.Machine
end

section
/-!
PROOF. O9 and O11: the end of BOOT, and erasure (R117, R299, R422, R423, R427, R498).
-/
namespace Sys2Proof.Machine

/-! ## The end of BOOT -/

/-- The islands have left reset, the strap and the rails are noted, yard time runs from 0, and the gates have been tested. -/
def State.selftestEntry (s : State) (strap gateFail b0 b1 : Bool) : State :=
  let s := s.releaseIslands
  { s with
    clk := { s.clk with rs := .selftest, strap := if s.clk.fixed then s.clk.strap else strap, tself := s.stage }
    yard := { s.yard with runs := true, base := 0, baseAt := s.now }
    seq := { s.seq with ytick := 0, ytickAt := some s.now }
    fab := { s.fab with feed0 := b0, feed1 := b1 }
    sout := { s.sout with gateOk := !gateFail, gateTill := s.now + 5 * us } }

/-- CMPINJ begins after the gate test. -/
def State.injectionFirst (s : State) : State :=
  { s with farr := { s.farr with origin := .startup, busy := true, stopped := false, cur := 8, startAt := s.now + 5 * us } }

theorem bootDone_passed {s : State} (hr : s.clk.rs = .boot) (hh : s.clk.held = false) (hc : s.clk.rcOk = true) (strap b0 b1 : Bool) :
    s.bootDone strap false b0 b1 = (s.selftestEntry strap false b0 b1).injectionFirst :=
  (if_pos (by simp [hr, hh, hc])).trans rfl

theorem bootDone_failed {s : State} (hr : s.clk.rs = .boot) (hh : s.clk.held = false) (hc : s.clk.rcOk = true) (strap b0 b1 : Bool) :
    s.bootDone strap true b0 b1 = ((s.selftestEntry strap true b0 b1).firstFail 0x10).err .farrier 0x10 :=
  (if_pos (by simp [hr, hh, hc])).trans rfl

/-- Yard time that starts now from 0 reads 0. -/
theorem ytime_start {s : State} (hb : s.yard.base = 0) (ha : s.yard.baseAt = s.now) : s.ytime = 0 := by
  unfold State.ytime
  split
  · rw [hb, ha, Nat.sub_self]
    simp
  · rfl

/-- Settles O9. -/
theorem bootEnds : Obligations.BootEnds := by
  constructor
  · intro t strap b0 b1 s hr hh hc
    obtain ⟨s', he, hs⟩ := act_of t s (fun s => s.bootDone strap false b0 b1) (bootDone_passed (s := s.upTo t) hr hh hc strap b0 b1)
    have hq := hs.quiet (chanB_off (.inr (.inr (.inl rfl))))
    have hnow : s'.now = (s.upTo t).now := hs.same (·.now)
    have hbase : s'.yard.base = 0 := hs.same (·.yard.base)
    have hbaseAt : s'.yard.baseAt = s'.now := (hs.same (·.yard.baseAt)).trans hnow.symm
    have hstart : s'.farr.startAt = (s.upTo t).now + 5 * us := hs.same (·.farr.startAt)
    exact ⟨s', he, congrArg Clk.rs hq.clk, hs.same (·.clk.strap), hs.same (·.yard.runs), ytime_start hbase hbaseAt, hs.same (·.sout.gateOk),
      hs.same (·.fab.feed0), hs.same (·.fab.feed1), hs.same (·.farr.cur), hs.same (·.farr.origin), hnow ▸ hstart⟩
  · intro t strap b0 b1 s hr hh hc hff
    obtain ⟨s', he, hs⟩ := act_of t s (fun s => s.bootDone strap true b0 b1) (bootDone_failed (s := s.upTo t) hr hh hc strap b0 b1)
    have hk := hs.keep.trans (State.err_keep _ _ _)
    have hself : ((((s.upTo t).selftestEntry strap true b0 b1).firstFail 0x10)).Stopped := .inr ⟨nofun, nofun, nofun⟩
    exact ⟨s', he, of_keep hk (·.sout.gateOk) fun _ => rfl, (of_keep hk (·.farr.firstFail) fun _ => rfl).trans (if_pos hff),
      of_keep hk (·.farr.cur) fun _ => rfl, hs.stopped_open ((State.err_worse _ _ _).stopped hself)⟩

/-! ## Erasure -/

/-- What is erased reads 0, and every other byte stays. -/
theorem read_erased {m : Mem} (h : m.wf = true) (lo hi a : Nat) : (m.erase lo hi).read a = if lo ≤ a ∧ a < hi then 0 else m.read a :=
  Mem.read_erase m lo hi a 0 h

/-- What erasure leaves of a byte: the images, their commit slots and the logs read 0, in VOID the parameters too. -/
theorem eraseNow_read {s : State} (h : s.mram.wf = true) {a : Nat} (hne : a ≠ lcRecord) :
    s.eraseNow.mram.read a =
      if bit s.img.lcBits 4 = true ∧ paramBase ≤ a ∧ a < paramEnd then 0
      else if logsBase ≤ a ∧ a < logsEnd then 0
      else if 0x600000 ≤ a ∧ a < 0x600040 then 0
      else if 0x000000 ≤ a ∧ a < 0x300000 then 0
      else s.mram.read a := by
  have h1 := Mem.erase_wf _ 0x000000 0x300000 h
  have h2 := Mem.erase_wf _ 0x600000 0x600040 h1
  have h3 := Mem.erase_wf _ logsBase logsEnd h2
  have h4 := Mem.erase_wf _ paramBase paramEnd h3
  have hw : ∀ (m : Mem), m.wf = true → (m.write lcRecord 1).read a = m.read a := fun m hm =>
    Mem.read_write_other m 0 lcRecord a 1 hm hne
  unfold State.eraseNow
  dsimp only
  cases bit s.img.lcBits 4 with
  | true => simp only [if_true, true_and, hw _ h4, read_erased h3, read_erased h2, read_erased h1, read_erased h]
  | false => simp only [Bool.false_eq_true, if_false, false_and, hw _ h3, read_erased h2, read_erased h1, read_erased h]

/-- The bytes that erasure zeroes, and those that it leaves. -/
theorem eraseNow_mram {s : State} (h : s.mram.wf = true) :
    (∀ a, a < 0x300000 ∨ (0x500000 ≤ a ∧ a < 0x600000) ∨ (0x600000 ≤ a ∧ a < 0x600040) → s.eraseNow.mram.read a = 0) ∧
      ∀ a, 0x300000 ≤ a ∧ a < 0x500000 → s.eraseNow.mram.read a = s.mram.read a := by
  constructor
  · intro a ha
    rw [eraseNow_read h (by unfold lcRecord; omega)]
    unfold logsBase logsEnd
    split
    · rfl
    split
    · rfl
    split
    · rfl
    split
    · rfl
    · omega
  · intro a ha
    rw [eraseNow_read h (by unfold lcRecord; omega)]
    unfold paramBase logsBase logsEnd
    rw [if_neg (by omega), if_neg (by omega), if_neg (by omega), if_neg (by omega)]

/-- Erasure is over, before the mailbox answers. -/
def State.erasedNow (s : State) : State := { s.eraseNow with img := { s.eraseNow.img with erasedAt := some s.eraseNow.now } }

theorem erasureDone_erases {s : State} (hl : s.live = true) (he : s.img.erasing = true) : s.erasureDone = s.erasedNow.mbxEnd 0 :=
  if_pos (by simp [hl, he])

theorem mbxEnd_mram (s : State) (r : Nat) : (s.mbxEnd r).mram = s.mram ∧ (s.mbxEnd r).now = s.now := by
  unfold State.mbxEnd State.alert
  repeat' split
  all_goals exact ⟨rfl, rfl⟩

/-- A state with the MRAM that erasure leaves. -/
theorem erased_mram {s s' : State} (hw : s.mram.wf = true) (hm : s'.mram = s.eraseNow.mram) :
    (∀ a, a < 0x300000 ∨ (0x500000 ≤ a ∧ a < 0x600000) ∨ (0x600000 ≤ a ∧ a < 0x600040) → s'.mram.read a = 0) ∧
      ∀ a, 0x300000 ≤ a ∧ a < 0x500000 → s'.mram.read a = s.mram.read a := by
  rw [hm]
  exact eraseNow_mram hw

/-- The part restarts, before it boots. -/
def State.erasedStart (s : State) : State :=
  let s := s.warmReset
  { s with clk := { s.clk with start := s.now }, seq := { s.seq with rstcause := 2, warmcnt := sat16 s.seq.warmcnt } }

/-- A restart empties the fault map, so MUZZLE_EXT has its least class. -/
theorem erasedStart_muzzleExt (s : State) : s.erasedStart.srcClass .muzzleExt = .stop := by
  have hm : s.erasedStart.flt.map = List.replicate 16 0 := rfl
  unfold State.srcClass State.mapEntry
  rw [hm]
  decide

theorem erasureRestarts_boots {s : State} {a : Nat} (he : s.img.erasedAt = some a) (hl : s.live = true) (ht : a + ms ≤ s.now) :
    s.erasureRestarts = s.erasedStart.boot := by
  unfold State.erasureRestarts
  rw [he]
  exact if_pos (by simp [hl, ht])

theorem boot_mram (s : State) : s.boot.mram = s.mram := by
  unfold State.boot
  dsimp only
  split
  · exact of_keep (State.line_keep _ _ _ _) (·.mram) fun _ => rfl
  · rfl

/-- Settles O11. -/
theorem erasure : Obligations.Erasure := by
  constructor
  · intro t s hw hl he
    obtain ⟨s', hx, hs⟩ := act_of t s State.erasureDone (erasureDone_erases (s := s.upTo t) hl he)
    obtain ⟨hm, hn⟩ := mbxEnd_mram (s.upTo t).erasedNow 0
    have himg := mbxEnd_loft (s.upTo t).erasedNow 0
    have hmram : s'.mram = (s.upTo t).eraseNow.mram := (hs.same (·.mram)).trans hm
    obtain ⟨hzero, hrest⟩ := erased_mram (s := s.upTo t) hw hmram
    have hat : s'.img.erasedAt = some (s.upTo t).now := (hs.same (·.img.erasedAt)).trans (congrArg Img.erasedAt himg)
    have hnow : s'.now = (s.upTo t).now := (hs.same (·.now)).trans hn
    exact ⟨s', hx, (hs.same (·.img.erased)).trans (congrArg Img.erased himg), (hs.same (·.img.erasing)).trans (congrArg Img.erasing himg),
      (hs.same (·.cp.mbx)).trans (mbxEnd_cp _ 0).1, hnow ▸ hat, hzero, hrest⟩
  · intro t a s he hl ht _
    obtain ⟨s', hx, hs⟩ := act_of t s State.erasureRestarts (erasureRestarts_boots (s := s.upTo t) he hl (le_upTo s ht))
    obtain ⟨hr, -, -, hseq⟩ := boot_noCut (s.upTo t).erasedStart (.inr (erasedStart_muzzleExt _))
    have hq := hs.quiet (chanB_off (.inr (.inl hr)))
    have hboot := hq.seq.trans hseq
    exact ⟨s', hx, (congrArg Clk.rs hq.clk).trans hr, congrArg Seq.rstcause hboot, congrArg Seq.warmcnt hboot,
      (hs.same (·.mram)).trans (boot_mram _)⟩

end Sys2Proof.Machine
end

section
/-!
PROOF. O10: the end of SELFTEST, the end of the yard wait, and the start of the loft (R304, R426, R492, R493).
-/
namespace Sys2Proof.Machine

/-! ## What is read of the images -/

/-- The images and their check depend on the MRAM and the antifuses alone. -/
theorem imageAt_congr {a b : State} (hm : a.mram = b.mram) (kind bank : Nat) : a.imageAt kind bank = b.imageAt kind bank := by
  unfold State.imageAt
  rw [hm]

theorem governing_congr {a b : State} (hm : a.mram = b.mram) (kind : Nat) : a.governing kind = b.governing kind := by
  unfold State.governing State.commitRec
  rw [hm]

theorem imgCheck_upTo (s : State) (t kind bank : Nat) (r : Option (List Byte)) : (s.upTo t).imgCheck kind bank r = s.imgCheck kind bank r := rfl

/-! ## LOAD without a governing record -/

/-- SELFTEST has ended, and the kennel's RAM is new. -/
def State.loadEntry (s : State) : State := ({ s with clk := { s.clk with rs := .load } } : State).kramAnew.cutRecord

theorem selftestDone_loads {s : State} (hr : s.clk.rs = .selftest) (hh : s.clk.held = false) (hset : s.farr.setOk = true)
    (hg : s.sout.gateOk = true) (hc : s.pair.cmpArmed = true) (he : s.eraseOwed = false) (obs : LoadObs) :
    s.selftestDone obs = s.loadEntry.load obs := by
  have hne : ¬ State.eraseOwed { s with clk := { s.clk with rs := .load } } = true := fun h => Bool.false_ne_true (he.symm.trans h)
  unfold State.selftestDone
  rw [if_pos (by simp [hr, hh, hset, hg, hc])]
  dsimp only
  rw [if_neg hne]
  rfl

theorem cutRecord_mram (s : State) : s.cutRecord.mram = s.mram := by
  unfold State.cutRecord
  dsimp only
  repeat' split
  · exact of_keep (State.alert_keep _ _) (·.mram) fun _ => rfl
  · rfl
  · rfl

theorem closeStop_keep (s : State) : s.closeStop.keep = s.keep := by
  have hc : s.closeRecord.keep = s.keep := by
    unfold State.closeRecord
    split
    · exact State.alert_keep _ _
    · rfl
  unfold State.closeStop
  repeat' split
  · exact hc
  · rfl
  · rfl

theorem loadClear_mram (s : State) : s.loadClear.mram = s.mram :=
  of_keep (((State.line_keep _ _ _ _).trans (State.line_keep _ _ _ _)).trans (closeStop_keep s)) (·.mram) fun _ => rfl

theorem load_none {s : State} (h : s.governing 0 = none) (obs : LoadObs) : s.load obs = s.loadClear := by
  unfold State.load
  dsimp only
  rw [governing_congr (loadClear_mram s), h]

/-- What a LOAD has forgotten at its start. -/
theorem loadClear_clear (s : State) :
    s.loadClear.clk.rs = .load ∧ s.loadClear.clk.loadStep = 0 ∧ s.loadClear.img.running = false ∧ s.loadClear.sh0.loaded = false ∧
      s.loadClear.sh1.loaded = false ∧ s.loadClear.fab.committed = false := ⟨rfl, rfl, rfl, rfl, rfl, rfl⟩

/-! ## The end of the yard wait -/

theorem loadEnd_ends (s : State) :
    s.loadEnd.clk.loadStep = 9 ∧ s.loadEnd.clk.rs = s.clk.rs ∧ s.loadEnd.pair.split = (s.img.imgArr || s.pair.split) := by
  unfold State.loadEnd
  cases s.img.imgArr <;> exact ⟨rfl, rfl, rfl⟩

theorem lockLate_ends {s : State} (hr : s.clk.rs = .load) (hh : s.clk.held = false) (hl : s.clk.loadStep = 7)
    (ht : s.clk.lockAt + s.yard.lockwait * ms ≤ s.now) : s.lockLate = s.loadEnd := if_pos (by simp [hr, hh, hl, ht])

/-! ## The loft -/

/-- A loft bank runs, as the image in it says. -/
structure LoftRuns (s u : State) (bank : Nat) (fallback : Bool) : Prop where
  loft : u.img.loft = true
  act : u.img.loftAct = bank
  fb : u.img.loftFb = fallback
  ver : u.img.loftVer = imgVer (s.imageAt 1 bank)

/-- No loft bank verifies. -/
def NoLoft (u : State) : Prop := u.img.loft = false ∧ u.img.noLoft = true

theorem loftRuns_runs {s u : State} (hm : u.mram = s.mram) (bank : Nat) (fallback : Bool) :
    LoftRuns s (u.loftRuns bank fallback) bank fallback := ⟨rfl, rfl, rfl, congrArg imgVer (imageAt_congr hm 1 bank)⟩

/-- Where the governing bank does not verify, LOFT_AUTH is raised first. -/
theorem loftStarts_governed {s : State} {b : Nat} (hf : s.groomFree = true) (hb : s.govBank 1 = some b) :
    s.loftStarts.clk.rs = .cut ∨
      if s.imgCheck 1 b none = 0 then LoftRuns s s.loftStarts b false
      else if s.imgCheck 1 (1 - b) none = 0 then LoftRuns s s.loftStarts (1 - b) true
      else NoLoft s.loftStarts := by
  have hlive : s.clk.rs ≠ .off ∧ s.img.loft = false := by
    unfold State.groomFree State.live at hf
    simp only [Bool.and_eq_true, bne_iff_ne, ne_eq, Bool.not_eq_true'] at hf
    obtain ⟨⟨⟨⟨⟨⟨hoff, -⟩, hloft⟩, -⟩, -⟩, -⟩, -⟩ := hf
    exact ⟨hoff, hloft⟩
  obtain ⟨hoff, hloft⟩ := hlive
  have hmram : (s.err .loftAuth b).mram = s.mram := of_keep (State.err_keep _ _ _) (·.mram) fun _ => rfl
  unfold State.loftStarts
  rw [if_pos hf, hb]
  dsimp only
  by_cases h0 : s.imgCheck 1 b none = 0
  · simp only [beq_iff_eq, h0, if_true]
    exact .inr (loftRuns_runs rfl b false)
  simp only [beq_iff_eq, h0, if_false]
  by_cases hl : (s.err .loftAuth b).live = true
  · rw [if_neg (by simp [hl])]
    refine .inr ?_
    by_cases h1 : s.imgCheck 1 (1 - b) none = 0
    · simp only [h1, if_true]
      exact loftRuns_runs hmram (1 - b) true
    · simp only [h1, if_false]
      exact ⟨(err_steady _ _ _).loft hloft, rfl⟩
  · rw [if_pos (by simpa using hl)]
    refine .inl ?_
    unfold State.live at hl
    obtain hr | hr | ⟨hr, -⟩ := (s.err_worse .loftAuth b).rs
    · rw [hr] at hl ⊢
      simp_all
    · exact hr
    · simp [hr] at hl

/-- Without a record the first bank that verifies starts. -/
theorem loftStarts_ungoverned {s : State} (hf : s.groomFree = true) (hb : s.govBank 1 = none) :
    if s.imgCheck 1 0 none = 0 then LoftRuns s s.loftStarts 0 false
    else if s.imgCheck 1 1 none = 0 then LoftRuns s s.loftStarts 1 false
    else NoLoft s.loftStarts := by
  have hloft : s.img.loft = false := by
    unfold State.groomFree at hf
    simp only [Bool.and_eq_true, Bool.not_eq_true'] at hf
    obtain ⟨⟨⟨⟨⟨-, hloft⟩, -⟩, -⟩, -⟩, -⟩ := hf
    exact hloft
  unfold State.loftStarts
  rw [if_pos hf, hb]
  dsimp only
  by_cases h0 : s.imgCheck 1 0 none = 0
  · simp only [beq_iff_eq, h0, if_true]
    exact loftRuns_runs rfl 0 false
  simp only [beq_iff_eq, h0, if_false]
  by_cases h1 : s.imgCheck 1 1 none = 0
  · simp only [h1, if_true]
    exact loftRuns_runs rfl 1 false
  · simp only [h1, if_false]
    exact ⟨hloft, rfl⟩

theorem mbxUnknown_same (s : State) : s.mbxUnknown.img = s.img ∧ s.mbxUnknown.clk = s.clk := by
  unfold State.mbxUnknown State.mbxEnd State.alert
  repeat' split
  all_goals exact ⟨rfl, rfl⟩

/-- LOFT_START ends in CUT, or with the images as the start has left them. -/
theorem loftStart_after (t : Nat) (s : State) : ∃ s', exec (.loftStart t) s = .next s' ∧
    ((s.upTo t).loftStarts.clk.rs = .cut → s'.clk.rs = .cut) ∧ (s'.clk.rs = .cut ∨ s'.img = (s.upTo t).loftStarts.img) := by
  obtain ⟨s', he, hs⟩ := act_after t s (fun s => s.loftStarts.mbxUnknown)
  obtain ⟨himg, hclk⟩ := mbxUnknown_same (s.upTo t).loftStarts
  refine ⟨s', he, fun hc => ?_, hs.worse.img.imp_right (·.trans himg)⟩
  obtain hr | hr | ⟨-, hr⟩ := hs.worse.rs
  · exact hr.trans ((congrArg Clk.rs hclk).trans hc)
  · exact hr
  · simp [hclk, hc] at hr

theorem LoftRuns.of_img {s u s' : State} {bank : Nat} {fallback : Bool} (h : LoftRuns s u bank fallback) (hi : s'.img = u.img) :
    LoftRuns s s' bank fallback := by
  obtain ⟨h1, h2, h3, h4⟩ := h
  exact ⟨hi ▸ h1, hi ▸ h2, hi ▸ h3, hi ▸ h4⟩

/-- Settles O10. -/
theorem loading : Obligations.Loading := by
  refine ⟨?_, ?_, ?_, ?_⟩
  · intro t b s hr hh hset hg hc he hgov
    obtain ⟨s', hx, hs⟩ := act_of t s (fun s => s.selftestDone b)
      ((selftestDone_loads (s := s.upTo t) hr hh hset hg hc he b).trans
        (load_none (s := (s.upTo t).loadEntry) ((governing_congr (cutRecord_mram _) 0).trans hgov) b))
    obtain ⟨hr, hl, hi, h0, h1, hf⟩ := loadClear_clear (s.upTo t).loadEntry
    have hq := hs.quiet (chanB_off (.inr (.inr (.inr (.inl hr)))))
    have hrs : s'.clk.rs = .load := (congrArg Clk.rs hq.clk).trans hr
    exact ⟨s', hx, hrs, (hs.same (·.clk.loadStep)).trans hl, (hs.same (·.img.running)).trans hi, (hs.same (·.sh0.loaded)).trans h0,
      (hs.same (·.sh1.loaded)).trans h1, (hs.same (·.fab.committed)).trans hf, hs.open_of (by simp [hrs])⟩
  · intro t s hr hh hl ht
    obtain ⟨s', hx, hs⟩ := act_of t s State.lockLate (lockLate_ends (s := s.upTo t) hr hh hl (le_upTo s ht))
    obtain ⟨h9, hrs, hsp⟩ := loadEnd_ends (s.upTo t)
    have hq := hs.quiet (chanB_off (.inr (.inr (.inr (.inl (hrs.trans hr))))))
    exact ⟨s', hx, (hs.same (·.clk.loadStep)).trans h9, (congrArg Clk.rs hq.clk).trans (hrs.trans hr), (hs.same (·.pair.split)).trans hsp⟩
  · intro t b s hf hb
    obtain ⟨s', hx, hcut, himg⟩ := loftStart_after t s
    refine ⟨s', hx, ?_⟩
    obtain hc | hrun := loftStarts_governed (s := s.upTo t) hf hb
    · exact .inl (hcut hc)
    refine himg.imp_right fun hi => ?_
    by_cases h0 : s.imgCheck 1 b none = 0
    · rw [if_pos ((imgCheck_upTo s t 1 b none).trans h0)] at hrun
      rw [if_pos h0]
      obtain ⟨h1, h2, h3, h4⟩ := hrun.of_img hi
      exact ⟨h1, h2, h3, h4⟩
    rw [if_neg fun h => h0 ((imgCheck_upTo s t 1 b none).symm.trans h)] at hrun
    rw [if_neg h0]
    by_cases h1 : s.imgCheck 1 (1 - b) none = 0
    · rw [if_pos ((imgCheck_upTo s t 1 (1 - b) none).trans h1)] at hrun
      rw [if_pos h1]
      obtain ⟨h1, h2, h3, h4⟩ := hrun.of_img hi
      exact ⟨h1, h2, h3, h4⟩
    rw [if_neg fun h => h1 ((imgCheck_upTo s t 1 (1 - b) none).symm.trans h)] at hrun
    rw [if_neg h1]
    exact ⟨hi ▸ hrun.1, hi ▸ hrun.2⟩
  · intro t s hf hb
    obtain ⟨s', hx, -, himg⟩ := loftStart_after t s
    refine ⟨s', hx, himg.imp_right fun hi => ?_⟩
    have hrun := loftStarts_ungoverned (s := s.upTo t) hf hb
    by_cases h0 : s.imgCheck 1 0 none = 0
    · rw [if_pos ((imgCheck_upTo s t 1 0 none).trans h0)] at hrun
      rw [if_pos h0]
      obtain ⟨h1, h2, -, -⟩ := hrun.of_img hi
      exact ⟨h1, h2⟩
    rw [if_neg fun h => h0 ((imgCheck_upTo s t 1 0 none).symm.trans h)] at hrun
    rw [if_neg h0]
    by_cases h1 : s.imgCheck 1 1 none = 0
    · rw [if_pos ((imgCheck_upTo s t 1 1 none).trans h1)] at hrun
      rw [if_pos h1]
      obtain ⟨h1, h2, -, -⟩ := hrun.of_img hi
      exact ⟨h1, h2⟩
    rw [if_neg fun h => h1 ((imgCheck_upTo s t 1 1 none).symm.trans h)] at hrun
    rw [if_neg h1]
    exact ⟨hi ▸ hrun.1, hi ▸ hrun.2⟩

end Sys2Proof.Machine
end

section
/-!
PROOF. O12: the farrier's tests, CMPINJ and GO (R166, R167, R440 to R450).
-/
namespace Sys2Proof.Machine

/-! ## What the end of a test leaves of its result -/

/-- The results of a test stand, and what it has stopped or armed stays so. -/
structure Tested (s u : State) : Prop where
  now : u.now = s.now
  cur : u.farr.cur = s.farr.cur
  endAt : u.farr.endAt = s.farr.endAt
  pass : u.farr.pass = s.farr.pass
  fail : u.farr.fail = s.farr.fail
  durs : u.farr.durs = s.farr.durs
  results : u.farr.results = s.farr.results
  injstat : u.pair.injstat = s.pair.injstat
  injmiss : u.pair.injmiss = s.pair.injmiss
  hold : s.farr.failHold = true → u.farr.failHold = true
  armed : s.pair.cmpArmed = true → u.pair.cmpArmed = true

theorem Tested.refl (s : State) : Tested s s := ⟨rfl, rfl, rfl, rfl, rfl, rfl, rfl, rfl, rfl, id, id⟩

theorem Tested.trans {s t u : State} (h : Tested s t) (k : Tested t u) : Tested s u :=
  ⟨k.now.trans h.now, k.cur.trans h.cur, k.endAt.trans h.endAt, k.pass.trans h.pass, k.fail.trans h.fail, k.durs.trans h.durs,
    k.results.trans h.results, k.injstat.trans h.injstat, k.injmiss.trans h.injmiss, k.hold ∘ h.hold, k.armed ∘ h.armed⟩

theorem Tested.of_keep {s u : State} (h : u.keep = s.keep) : Tested s u := by
  have same : ∀ {β : Type} (g : State → β), (∀ x : State, g x.keep = g x) → g u = g s := fun g hg => Sys2Proof.Machine.of_keep h g hg
  exact ⟨same (·.now) fun _ => rfl, same (·.farr.cur) fun _ => rfl, same (·.farr.endAt) fun _ => rfl, same (·.farr.pass) fun _ => rfl,
    same (·.farr.fail) fun _ => rfl, same (·.farr.durs) fun _ => rfl, same (·.farr.results) fun _ => rfl,
    same (·.pair.injstat) fun _ => rfl, same (·.pair.injmiss) fun _ => rfl, (same (·.farr.failHold) fun _ => rfl).trans,
    (same (·.pair.cmpArmed) fun _ => rfl).trans⟩

theorem err_tested (s : State) (src : Src) (d : Nat) : Tested s (s.err src d) := .of_keep (State.err_keep _ _ _)

theorem line_tested (s : State) (src : Src) (a : Bool) (d : Nat) : Tested s (s.line src a d) :=
  .of_keep (State.line_keep _ _ _ _)

theorem hostRestore_tested (s : State) : Tested s s.hostRestore := by
  unfold State.hostRestore
  split
  · exact ⟨rfl, rfl, rfl, rfl, rfl, rfl, rfl, rfl, rfl, id, id⟩
  · exact .refl s

theorem coreOut_tested (s : State) (res code : Nat) : Tested s (s.coreOut res code) ∧ (s.coreOut res code).farr.todo = [] := by
  unfold State.coreOut
  dsimp only
  split
  · exact ⟨⟨rfl, rfl, rfl, rfl, rfl, rfl, rfl, rfl, rfl, id, id⟩, rfl⟩
  · refine ⟨.trans ?_ (err_tested _ _ _), (err_steady _ _ _).todo rfl⟩
    exact ⟨rfl, rfl, rfl, rfl, rfl, rfl, rfl, rfl, rfl, id, id⟩

/-- After a failed test nothing is left to run, and the failure is held. -/
theorem farrFail_tested (s : State) (code : Nat) :
    Tested s (s.farrFail code) ∧ (s.farrFail code).farr.todo = [] ∧ (s.farrFail code).farr.failHold = true := by
  have hs : Tested s { s.firstFail code with farr := { (s.firstFail code).farr with todo := [], busy := false, failHold := true } } :=
    ⟨rfl, rfl, rfl, rfl, rfl, rfl, rfl, rfl, rfl, fun _ => rfl, id⟩
  have hl := line_tested { s.firstFail code with farr := { (s.firstFail code).farr with todo := [], busy := false, failHold := true } }
    .farrier true code
  exact ⟨hs.trans hl, (line_steady _ _ _ _).todo rfl, hl.hold rfl⟩

theorem testFailed_tested (s : State) (code : Nat) :
    Tested s (s.testFailed code) ∧ (s.testFailed code).farr.todo = [] ∧ (s.testFailed code).farr.failHold = true := by
  unfold State.testFailed
  split
  · obtain ⟨hf, -, hh⟩ := farrFail_tested s code
    obtain ⟨hc, htodo⟩ := coreOut_tested (s.farrFail code) 2 code
    exact ⟨hf.trans hc, htodo, hc.hold hh⟩
  · obtain ⟨hf, ht, hh⟩ := farrFail_tested s.hostRestore code
    exact ⟨(hostRestore_tested s).trans hf, ht, hh⟩
  · exact farrFail_tested s code

theorem setEnd_tested (s : State) : Tested s s.setEnd := by
  unfold State.setEnd
  dsimp only
  split
  · split
    · refine .trans ?_ (hostRestore_tested _)
      exact ⟨rfl, rfl, rfl, rfl, rfl, rfl, rfl, rfl, rfl, id, id⟩
    · exact ⟨rfl, rfl, rfl, rfl, rfl, rfl, rfl, rfl, rfl, id, id⟩
  · split
    · split
      · exact ⟨rfl, rfl, rfl, rfl, rfl, rfl, rfl, rfl, rfl, id, id⟩
      · exact ⟨rfl, rfl, rfl, rfl, rfl, rfl, rfl, rfl, rfl, id, id⟩
      · refine .trans ?_ (hostRestore_tested _)
        exact ⟨rfl, rfl, rfl, rfl, rfl, rfl, rfl, rfl, rfl, id, id⟩
      · exact .refl s
    · exact .refl s

theorem haltNow_tested (s : State) (mode : DbgMode) : Tested s (s.haltNow mode false) := by
  have hsame : ¬ (mode == .pairHalt && false && !s.pair.split) = true := by simp
  unfold State.haltNow
  dsimp only
  rw [if_neg hsame]
  split
  · exact ⟨rfl, rfl, rfl, rfl, rfl, rfl, rfl, rfl, rfl, id, id⟩
  · exact ⟨rfl, rfl, rfl, rfl, rfl, rfl, rfl, rfl, rfl, id, id⟩

theorem haltPending_tested (s : State) : Tested s s.haltPending := by
  unfold State.haltPending
  split
  · exact .refl s
  · split
    · exact haltNow_tested s _
    · exact ⟨rfl, rfl, rfl, rfl, rfl, rfl, rfl, rfl, rfl, id, id⟩

/-- A command keeps the results of its operation. -/
theorem After.tested {u s' : State} (h : After u s') : Tested u s' := .of_keep h.keep

/-! ## Tests -/

theorem testDue_due {s : State} (hl : s.live = true) (hc : s.farr.cur ≠ 0) (ht : s.farr.startAt + farrUs s.farr.cur * us ≤ s.now) :
    s.testDue = true := by
  simp [State.testDue, hl, hc, ht]

theorem testEnd_ends {s : State} (hd : s.testDue = true) (hc : s.farr.cur ≠ 8) (pass : Bool) (r : BitVec 32) :
    s.testEnd pass r = if pass then (s.testResult pass r).setEnd else (s.testResult pass r).testFailed s.farr.cur := by
  unfold State.testEnd
  rw [if_pos (by simp [hd, hc])]

/-- RESH and RESL of a failed test. -/
theorem failedResult (c : Nat) (r : BitVec 32) :
    (if c ≤ 3 then r else if 5 < c then 0 else if false = true then 0xFFFFFFFF else r) = if c ≤ 5 then r else 0 := by
  by_cases h3 : c ≤ 3
  · rw [if_pos h3, if_pos (by omega)]
  · by_cases h5 : 5 < c
    · rw [if_neg h3, if_pos h5, if_neg (by omega)]
    · rw [if_neg h3, if_neg h5, if_neg Bool.false_ne_true, if_pos (by omega)]

/-- The next test of the set has begun, before it takes its block over. -/
def State.testBegun (s : State) (code : Nat) (rest : List Nat) : State :=
  { s with farr := { s.farr with cur := code, startAt := s.now, todo := rest } }

theorem testStart_starts {s : State} {code : Nat} {rest : List Nat} (htodo : s.farr.todo = code :: rest) (hl : s.live = true)
    (hc : s.farr.cur = 0) (ht : s.farr.endAt + 100 * us ≤ s.now) (hm : farrMa code ≤ 10 * s.farr.budget) :
    s.testStart = (s.testBegun code rest).testTakes code := by
  unfold State.testStart
  rw [htodo]
  exact if_pos (by simp [hl, hc, ht, hm])

/-- What a test takes over. -/
theorem testTakes_takes (s : State) (code : Nat) :
    (s.testTakes code).farr = s.farr ∧ (s.testTakes code).now = s.now ∧
      (code = 6 ∨ code = 7 → (s.testTakes code).fab.committed = false) ∧ (code = 3 ∨ code = 5 → (s.testTakes code).img.loft = false) := by
  have hloft : s.loftStop.farr = s.farr ∧ s.loftStop.now = s.now ∧ s.loftStop.img.loft = false := by
    unfold State.loftStop State.mbxEnd State.alert
    repeat' split
    all_goals exact ⟨rfl, rfl, rfl⟩
  obtain ⟨hf, hn, hi⟩ := hloft
  unfold State.testTakes
  split
  · exact ⟨hf, hn, fun h => absurd h (by decide), fun _ => hi⟩
  · exact ⟨hf, hn, fun h => absurd h (by decide), fun _ => hi⟩
  · exact ⟨rfl, rfl, fun _ => rfl, fun h => absurd h (by decide)⟩
  · exact ⟨rfl, rfl, fun _ => rfl, fun h => absurd h (by decide)⟩
  · exact ⟨rfl, rfl, fun h => absurd h (by decide), fun h => absurd h (by decide)⟩
  · exact ⟨rfl, rfl, fun h => absurd h (by decide), fun h => absurd h (by decide)⟩
  · exact ⟨rfl, rfl, fun h => absurd h (by decide), fun h => absurd h (by decide)⟩
  · exact ⟨rfl, rfl, fun h => by simp_all, fun h => by simp_all⟩

/-! ## CMPINJ -/

theorem injPassed_tested (s : State) : Tested s s.injPassed ∧ (s.farr.origin = .startup → s.injPassed.pair.cmpArmed = true) := by
  have harm : Tested s { s with pair := { s.pair with cmpArmed := true } } := ⟨rfl, rfl, rfl, rfl, rfl, rfl, rfl, rfl, rfl, id, fun _ => rfl⟩
  unfold State.injPassed
  split
  next =>
    dsimp only
    split
    · exact ⟨harm.trans (setEnd_tested _), fun _ => (setEnd_tested _).armed rfl⟩
    · exact ⟨⟨rfl, rfl, rfl, rfl, rfl, rfl, rfl, rfl, rfl, id, fun _ => rfl⟩, fun _ => rfl⟩
  next h =>
    refine ⟨.trans ?_ (setEnd_tested _), fun hc => nomatch h.symm.trans hc⟩
    exact ⟨rfl, rfl, rfl, rfl, rfl, rfl, rfl, rfl, rfl, id, id⟩
  next h _ => exact ⟨setEnd_tested s, fun hc => absurd hc h⟩

/-- The verdict of CMPINJ. -/
def injVerdict (uncaught : Option (Fin 264)) (falseFlag : Bool) : Bool := uncaught.isNone && !falseFlag

/-- CMPINJ has ended with its result, before what follows. -/
def State.injEnded (s : State) (uncaught : Option (Fin 264)) (falseFlag : Bool) : State :=
  (s.injResult uncaught falseFlag).testResult (injVerdict uncaught falseFlag) 0

theorem injEnd_ends {s : State} (hd : s.testDue = true) (hc : s.farr.cur = 8) (uncaught : Option (Fin 264)) (falseFlag : Bool) :
    Tested (if injVerdict uncaught falseFlag then (s.injEnded uncaught falseFlag).injPassed
      else (s.injEnded uncaught falseFlag).testFailed 8) (s.injEnd uncaught falseFlag) := by
  have hcond : (s.testDue && decide (s.farr.cur = 8)) = true := by simp [hd, hc]
  have hhalt : ∀ x : State, Tested x (if x.pair.solo then x else x.haltPending) := fun x => by
    split
    · exact .refl x
    · exact haltPending_tested x
  unfold State.injEnd
  rw [if_pos hcond]
  exact hhalt _

theorem injResult_farr (s : State) (uncaught : Option (Fin 264)) (falseFlag : Bool) : (s.injResult uncaught falseFlag).farr = s.farr := by
  cases uncaught <;> rfl

theorem injEnded_pass {s : State} (hc : s.farr.cur = 8) : (s.injEnded none false).farr.pass = s.farr.pass ||| 2 ^ 7 := by
  show s.farr.pass ||| 2 ^ (s.farr.cur - 1) = _
  rw [hc]

theorem injEnded_fail {s : State} (hc : s.farr.cur = 8) {uncaught : Option (Fin 264)} {falseFlag : Bool}
    (hv : injVerdict uncaught falseFlag = false) : (s.injEnded uncaught falseFlag).farr.fail = s.farr.fail ||| 2 ^ 7 := by
  unfold State.injEnded State.testResult
  rw [hv, injResult_farr, hc]
  rfl

/-- CMPINJ passes: no injection was missed, and no flag came without one. -/
theorem injEnd_passed {s : State} (hd : s.testDue = true) (hc : s.farr.cur = 8) :
    Tested (s.injEnded none false) (s.injEnd none false) ∧ (s.farr.origin = .startup → (s.injEnd none false).pair.cmpArmed = true) := by
  have h := injEnd_ends hd hc none false
  obtain ⟨hp, ha⟩ := injPassed_tested (s.injEnded none false)
  exact ⟨hp.trans h, fun ho => h.armed (ha ho)⟩

/-- CMPINJ fails. -/
theorem injEnd_failed {s : State} (hd : s.testDue = true) (hc : s.farr.cur = 8) {uncaught : Option (Fin 264)} {falseFlag : Bool}
    (hv : injVerdict uncaught falseFlag = false) :
    Tested (s.injEnded uncaught falseFlag) (s.injEnd uncaught falseFlag) ∧ (s.injEnd uncaught falseFlag).farr.failHold = true := by
  have h := injEnd_ends hd hc uncaught falseFlag
  rw [hv] at h
  obtain ⟨hf, -, hh⟩ := testFailed_tested (s.injEnded uncaught falseFlag) 8
  exact ⟨hf.trans h, h.hold hh⟩

/-! ## GO -/

theorem lkRefused_keep (s : State) (a : Nat) : (s.lkRefused a).keep = (s.frameBit 3).keep :=
  (State.alert_keep _ _).trans (State.err_keep _ _ _)

theorem frameBit_st (s : State) (n : Nat) : bit (s.frameBit n).cp.st n = true := by
  show bit (s.cp.st ||| 2 ^ n) n = true
  rw [bit_or]
  simp [bit]

/-- A host run has been accepted. -/
def State.hostRun (s : State) : State :=
  { s with farr := { s.farr with origin := .host, busy := true, stopped := false, todo := selCodes s.farr.sel, ran := [] } }

theorem goWrite_answers {s : State} {v : Word} (hf : s.field = false) (hv : bit v.toNat 0 = true) :
    s.goWrite v = if s.refuseCause = 0 then s.hostRun else { s with farr := { s.farr with refuse := w16 (s.refuseCause + 0x8000) } } := by
  unfold State.goWrite
  rw [if_neg (by simp [hf]), if_pos hv]
  by_cases hc : s.refuseCause = 0
  · simp only [hc, if_true]
    rfl
  · simp only [bne_iff_ne, ne_eq, hc, not_false_iff, if_true, if_false]

theorem refuseCause_upTo (s : State) (t : Nat) : (s.upTo t).refuseCause = s.refuseCause := rfl

/-- Settles O12. -/
theorem farrierTests : Obligations.FarrierTests := by
  refine ⟨?_, ?_, ?_, ?_, ?_, ?_, ?_, ?_⟩
  · intro t code rest s htodo hl hc ht hm
    obtain ⟨s', he, hs⟩ := act_of t s State.testStart (testStart_starts (s := s.upTo t) htodo hl hc (le_upTo s ht) hm)
    obtain ⟨hf, hn, hfab, hloft⟩ := testTakes_takes ((s.upTo t).testBegun code rest) code
    have hstart : s'.farr.startAt = _ := (hs.same (·.farr.startAt)).trans (congrArg Farr.startAt hf)
    exact ⟨s', he, (hs.same (·.farr.cur)).trans (congrArg Farr.cur hf), hstart.trans ((hs.same (·.now)).trans hn).symm,
      fun h => (hs.same (·.fab.committed)).trans (hfab h), fun h => hs.steady.loft (hloft h)⟩
  · intro t r s hl hc h8 ht
    have hd := testDue_due (s := s.upTo t) hl hc (le_upTo s ht)
    obtain ⟨s', he, hs⟩ := act_of t s (fun s => s.testEnd true r) (testEnd_ends hd h8 true r)
    have h := (setEnd_tested ((s.upTo t).testResult true r)).trans hs.tested
    have hnow : s'.now = (s.upTo t).now := h.now
    refine ⟨s', he, h.cur, h.endAt.trans h.now.symm, h.pass, h.fail, h.durs.trans ?_, h.results⟩
    rw [hnow]
    rfl
  · intro t r s hl hc h8 ht
    have hd := testDue_due (s := s.upTo t) hl hc (le_upTo s ht)
    obtain ⟨s', he, hs⟩ := act_of t s (fun s => s.testEnd false r) (testEnd_ends hd h8 false r)
    obtain ⟨hf, htodo, hhold⟩ := testFailed_tested ((s.upTo t).testResult false r) s.farr.cur
    have h := hf.trans hs.tested
    have hnow : s'.now = (s.upTo t).now := h.now
    refine ⟨s', he, h.cur, h.endAt.trans h.now.symm, h.fail, hs.steady.todo htodo, hs.tested.hold hhold, h.durs.trans ?_, h.results.trans ?_⟩
    · rw [hnow]
      rfl
    · exact congrArg (setAt s.farr.results (s.farr.cur - 1)) (failedResult s.farr.cur r)
  · intro t s hl hc ht
    have hd := testDue_due (s := s.upTo t) hl (by simp [hc]) (hc ▸ le_upTo s ht)
    obtain ⟨s', he, hs⟩ := act_after t s (fun s => s.injEnd none false)
    obtain ⟨hp, ha⟩ := injEnd_passed hd hc
    have h := hp.trans hs.tested
    exact ⟨s', he, h.cur, h.endAt.trans h.now.symm, h.pass.trans (injEnded_pass hc), h.injstat, h.injmiss, fun ho => hs.tested.armed (ha ho)⟩
  · intro t f i s hl hc ht
    have hd := testDue_due (s := s.upTo t) hl (by simp [hc]) (hc ▸ le_upTo s ht)
    obtain ⟨s', he, hs⟩ := act_after t s (fun s => s.injEnd (some i) f)
    obtain ⟨hf, hh⟩ := injEnd_failed hd hc (uncaught := some i) (falseFlag := f) rfl
    have h := hf.trans hs.tested
    exact ⟨s', he, h.cur, h.fail.trans (injEnded_fail hc rfl), h.injmiss, hs.tested.hold hh⟩
  · intro t s hl hc ht
    have hd := testDue_due (s := s.upTo t) hl (by simp [hc]) (hc ▸ le_upTo s ht)
    obtain ⟨s', he, hs⟩ := act_after t s (fun s => s.injEnd none true)
    obtain ⟨hf, hh⟩ := injEnd_failed hd hc (uncaught := none) (falseFlag := true) rfl
    have h := hf.trans hs.tested
    exact ⟨s', he, h.cur, h.fail.trans (injEnded_fail hc rfl), h.injmiss, hs.tested.hold hh⟩
  · intro t v s hl hf hv
    obtain ⟨s', he, hs⟩ := act_of t s (fun s => whenLive s fun s => s.goWrite v)
      ((whenLive_live (s := s.upTo t) hl _).trans (goWrite_answers (s := s.upTo t) hf hv))
    refine ⟨s', he, ?_⟩
    by_cases hc : s.refuseCause = 0
    · rw [if_pos ((refuseCause_upTo s t).trans hc)] at hs
      rw [if_pos hc]
      exact ⟨hs.same (·.farr.origin), hs.same (·.farr.refuse), hs.same (·.farr.ran)⟩
    · rw [if_neg fun h => hc ((refuseCause_upTo s t).symm.trans h)] at hs
      rw [if_neg hc]
      exact ⟨hs.same (·.farr.refuse), hs.same (·.farr.origin), hs.same (·.farr.ran)⟩
  · intro t v s hl hf
    obtain ⟨s', he, hs⟩ := act_of t s (fun s => whenLive s fun s => s.goWrite v)
      ((whenLive_live (s := s.upTo t) hl _).trans (if_pos hf))
    have hk := hs.keep.trans (lkRefused_keep _ _)
    exact ⟨s', he, of_keep hk (·.farr.origin) fun _ => rfl, of_keep hk (·.farr.sel) fun _ => rfl,
      (congrArg (fun n => bit n 3) (of_keep hk (·.cp.st) fun _ => rfl)).trans (frameBit_st _ 3)⟩

end Sys2Proof.Machine
end

section
/-!
PROOF. O18: scrub passes, frame reloads and probe writes (R244 to R250).
-/
namespace Sys2Proof.Machine

/-! ## Lists -/

theorem mem_idxsWhere {α : Type} (d : α) (p : α → Bool) : ∀ (l : List α) (k i : Nat), i < l.length → p (nth d l i) = true → k + i ∈ idxsWhere p l k
  | [], _, _, h, _ => absurd h (Nat.not_lt_zero _)
  | x :: xs, k, 0, _, hp => by
    have hx : p x = true := hp
    simp [idxsWhere, hx]
  | x :: xs, k, i + 1, h, hp => by
    have ih := mem_idxsWhere d p xs (k + 1) i (Nat.lt_of_succ_lt_succ h) hp
    rw [show k + (i + 1) = k + 1 + i by omega]
    unfold idxsWhere
    split
    · exact List.mem_cons_of_mem _ ih
    · exact ih

theorem nth_zip {α β : Type} (a : α) (b : β) : ∀ (l : List α) (m : List β) (i : Nat), i < l.length → i < m.length →
    nth (a, b) (List.zip l m) i = (nth a l i, nth b m i)
  | [], _, _, h, _ => absurd h (Nat.not_lt_zero _)
  | _ :: _, [], _, _, h => absurd h (Nat.not_lt_zero _)
  | _ :: _, _ :: _, 0, _, _ => rfl
  | _ :: xs, _ :: ys, i + 1, h, k => nth_zip a b xs ys i (Nat.lt_of_succ_lt_succ h) (Nat.lt_of_succ_lt_succ k)

/-! ## A scrub pass -/

/-- The cells after the upsets of a pass. -/
def upsetCells (ups : List (Fin 1162 × Fin 1024)) (cells : List (List Byte)) : List (List Byte) :=
  ups.foldl (fun c u => updAt (fun f => flipCell f u.2) c u.1) cells

theorem upsetCells_length : ∀ (ups : List (Fin 1162 × Fin 1024)) (l : List (List Byte)), (upsetCells ups l).length = l.length
  | [], _ => rfl
  | _ :: ups, _ => (upsetCells_length ups _).trans (updAt_length _ _ _)

/-- What frame errors leave of the fabric. -/
structure Scrubbed (s u : State) : Prop where
  cnt : u.fab.scrubcnt = s.fab.scrubcnt
  passAt : u.fab.passAt = s.fab.passAt
  passtime : u.fab.passtime = s.fab.passtime
  cells : u.fab.cells = s.fab.cells
  on : u.flt.on = s.flt.on
  reload : ∀ i, s.fab.reload.any (· == i) = true → u.fab.reload.any (· == i) = true

theorem Scrubbed.refl (s : State) : Scrubbed s s := ⟨rfl, rfl, rfl, rfl, rfl, fun _ => id⟩

theorem Scrubbed.trans {s t u : State} (h : Scrubbed s t) (k : Scrubbed t u) : Scrubbed s u :=
  ⟨k.cnt.trans h.cnt, k.passAt.trans h.passAt, k.passtime.trans h.passtime, k.cells.trans h.cells, k.on.trans h.on,
    fun i => k.reload i ∘ h.reload i⟩

theorem Scrubbed.of_keep {s u : State} (h : u.keep = s.keep) : Scrubbed s u := by
  have same : ∀ {β : Type} (g : State → β), (∀ x : State, g x.keep = g x) → g u = g s := fun g hg => Sys2Proof.Machine.of_keep h g hg
  have hr : u.fab.reload = s.fab.reload := same (·.fab.reload) fun _ => rfl
  exact ⟨same (·.fab.scrubcnt) fun _ => rfl, same (·.fab.passAt) fun _ => rfl, same (·.fab.passtime) fun _ => rfl,
    same (·.fab.cells) fun _ => rfl, same (·.flt.on) fun _ => rfl, fun i hi => by rwa [hr]⟩

/-- A frame in error goes on the list to reload. -/
theorem frameError_scrubbed (s : State) (i : Nat) : Scrubbed s (s.frameError i) ∧ (s.frameError i).fab.reload.any (· == i) = true := by
  have hk : ∀ (x : State) (d : Nat) (c : Cls), Scrubbed x (x.raise .fabScrub d c) := fun x d c => .of_keep (State.raise_keep _ _ _ _)
  unfold State.frameError
  dsimp only
  constructor
  · refine .trans ?_ (hk _ _ _)
    refine ⟨rfl, rfl, rfl, rfl, rfl, fun j hj => ?_⟩
    dsimp only
    split
    · exact hj
    · rw [List.any_append, hj, Bool.true_or]
  · refine (hk _ _ _).reload i ?_
    dsimp only
    split
    next h => exact h
    next => simp

theorem frameErrors_scrubbed : ∀ (l : List Nat) (s : State), Scrubbed s (l.foldl State.frameError s) ∧
    ∀ i ∈ l, (l.foldl State.frameError s).fab.reload.any (· == i) = true
  | [], s => ⟨.refl s, nofun⟩
  | i :: l, s => by
    obtain ⟨h1, h2⟩ := frameError_scrubbed s i
    obtain ⟨h3, h4⟩ := frameErrors_scrubbed l (s.frameError i)
    refine ⟨h1.trans h3, fun j hj => ?_⟩
    obtain rfl | hj := List.mem_cons.1 hj
    · exact h3.reload j h2
    · exact h4 j hj

/-- A pass has read the cells, and no frame has been named yet. -/
def State.passed (s : State) (ups : List (Fin 1162 × Fin 1024)) : State :=
  State.fresh { s with fab := { s.fab with
    cells := upsetCells ups s.fab.cells, scrubcnt := (s.fab.scrubcnt + 1) % 65536, passtime := 371 + Config.freeNat s.free % 30
    passAt := s.fab.passAt + 2000 * us } }

/-- The frames whose CRC is not their reference. -/
def State.badFrames (s : State) (ups : List (Fin 1162 × Fin 1024)) : List Nat :=
  idxsWhere (fun (e : List Byte × Nat) => (crc32c e.1).toNat != e.2) (List.zip (upsetCells ups s.fab.cells) s.fab.refs) 0

theorem mem_badFrames {s : State} {ups : List (Fin 1162 × Fin 1024)} {i : Nat}
    (hi : i < Nat.min s.fab.cells.length s.fab.refs.length)
    (hc : (crc32c (nth [] (upsetCells ups s.fab.cells) i)).toNat ≠ nth 0 s.fab.refs i) : i ∈ s.badFrames ups := by
  obtain ⟨hl, hr⟩ := Nat.lt_min.1 hi
  have hl : i < (upsetCells ups s.fab.cells).length := (upsetCells_length ups _).symm ▸ hl
  have h := mem_idxsWhere ([], 0) (fun (e : List Byte × Nat) => (crc32c e.1).toNat != e.2) (List.zip (upsetCells ups s.fab.cells) s.fab.refs)
    0 i (by rw [List.length_zip]; exact Nat.lt_min.2 ⟨hl, hr⟩) (by rw [nth_zip [] 0 _ _ i hl hr]; simpa using hc)
  rwa [Nat.zero_add] at h

/-- The frames in error have been named. -/
def State.scrubNamed (s : State) (ups : List (Fin 1162 × Fin 1024)) : State := (s.badFrames ups).foldl State.frameError (s.passed ups)

/-- An error in the references. -/
def State.refError (s : State) : State := (s.raise .fabScrub (frameAddr (Config.freeNat s.free % 1162)) .stop).fresh

theorem scrub_passes {s : State} (hl : s.live = true) (hc : s.fab.committed = true) (ht : s.fab.passAt ≤ s.now)
    (ups : List (Fin 1162 × Fin 1024)) (e : Bool) :
    s.scrub ups e = if e then (s.scrubNamed ups).refError else s.scrubNamed ups := by
  unfold State.scrub
  rw [if_pos (by simp [hl, hc, ht])]
  rfl

theorem scrub_scrubbed {s : State} (hl : s.live = true) (hc : s.fab.committed = true) (ht : s.fab.passAt ≤ s.now)
    (ups : List (Fin 1162 × Fin 1024)) (e : Bool) :
    Scrubbed (s.passed ups) (s.scrub ups e) ∧ ∀ i ∈ s.badFrames ups, (s.scrub ups e).fab.reload.any (· == i) = true := by
  obtain ⟨h, hbad⟩ := frameErrors_scrubbed (s.badFrames ups) (s.passed ups)
  rw [scrub_passes hl hc ht]
  cases e with
  | false => exact ⟨h, hbad⟩
  | true =>
    have hr : Scrubbed (s.scrubNamed ups) (s.scrubNamed ups).refError := .trans (.of_keep (State.raise_keep _ _ _ _)) (.of_keep rfl)
    exact ⟨h.trans hr, fun i hi => hr.reload i (hbad i hi)⟩

/-! ## Frame reloads -/

/-- A frame is taken off the list to reload. -/
def State.reloadTaken (s : State) (i : Nat) : State := { s with fab := { s.fab with reload := s.fab.reload.filter (· != i) } }

theorem reloadFrame_reloads {s : State} {i : Nat} (hl : s.live = true) (hc : s.fab.committed = true) (hr : s.fab.reload.any (· == i) = true)
    (hg : s.captureNear = false ∨ (576 ≤ i ∧ (i < 1152 ∨ 1154 < i))) :
    s.reloadFrame i =
      if (crc32c (s.bankFrame i)).toNat = nth 0 s.fab.refs i then
        { s.reloadTaken i with fab := { (s.reloadTaken i).fab with cells := setAt s.fab.cells i (s.bankFrame i) } }
      else (s.reloadTaken i).err .image 0 := by
  have hcond : (s.live && s.fab.committed && s.fab.reload.any (· == i) &&
      !((decide (i < 576) || (decide (1152 ≤ i) && decide (i ≤ 1154))) && s.captureNear)) = true := by
    rw [hl, hc, hr]
    obtain hg | ⟨h1, h2⟩ := hg
    · simp [hg]
    · have : (decide (i < 576) || (decide (1152 ≤ i) && decide (i ≤ 1154))) = false := by simp; omega
      simp [this]
  unfold State.reloadFrame
  exact if_pos hcond

theorem bankFrame_upTo (s : State) (t i : Nat) : (s.upTo t).bankFrame i = s.bankFrame i := rfl

/-! ## Probe writes -/

/-- A new set of probes. -/
def State.putProbes (s : State) (ps : List Probe) : State := { s with fab := { s.fab with probes := ps } }

section
variable {s : State} {v : Word}

theorem probeErr_prberr (s : State) (n c : Nat) : (s.probeErr n c).fab.prberr = w16 (n + 8 * c + 0x8000) := by
  rw [State.probeErr]

theorem probeErr_probes (s : State) (n c : Nat) : (s.probeErr n c).fab.probes = s.fab.probes := by
  rw [State.probeErr]

theorem probeWr_source (hf : s.field = false) (hv : v.toNat % 2048 ≤ 0x5FF) :
    s.probeWr 0x90 v = s.putProbes (updAt (fun (p : Probe) => { p with src := v.toNat % 2048 }) s.fab.probes s.fab.prbsel) := by
  unfold State.probeWr
  dsimp only
  rw [if_pos (by decide), if_neg (by simp [hf]), if_neg (by decide), if_pos rfl, if_neg (by omega)]
  rfl

theorem probeWr_badSource (hf : s.field = false) (hv : 0x5FF < v.toNat % 2048) : s.probeWr 0x90 v = s.probeErr s.fab.prbsel 3 := by
  unfold State.probeWr
  dsimp only
  rw [if_pos (by decide), if_neg (by simp [hf]), if_neg (by decide), if_pos rfl, if_pos hv]

/-- The probes of a PRBPIN write. -/
def State.pinProbes (s : State) (v : Word) : List Probe := updAt (fun (p : Probe) => { p with fio := v.toNat % 128 }) s.fab.probes s.fab.prbsel

/-- The probes of a PRBCTL write. -/
def State.enProbes (s : State) (v : Word) : List Probe := mapIdx (fun k (p : Probe) => { p with on := bit v.toNat k }) s.fab.probes

theorem probeWr_pin (hf : s.field = false) (hb : probesBad s.fab.cells (s.pinProbes v) [s.fab.prbsel] = none) :
    s.probeWr 0x91 v = s.putProbes (s.pinProbes v) := by
  unfold State.probeWr
  dsimp only
  unfold State.pinProbes at hb
  rw [if_pos (by decide), if_neg (by simp [hf]), if_neg (by decide), if_neg (by decide), hb]
  rfl

theorem probeWr_badPin (hf : s.field = false) {n c : Nat}
    (hb : probesBad s.fab.cells (s.pinProbes v) [s.fab.prbsel] = some (n, c)) : s.probeWr 0x91 v = s.probeErr n c := by
  unfold State.probeWr
  dsimp only
  unfold State.pinProbes at hb
  rw [if_pos (by decide), if_neg (by simp [hf]), if_neg (by decide), if_neg (by decide), hb]

theorem probeWr_enables (hf : s.field = false) (hc : s.fab.committed = true)
    (hb : probesBad s.fab.cells (s.enProbes v) ((List.range 8).filter (fun k => bit v.toNat k)) = none) :
    s.probeWr 0x8E v = s.putProbes (s.enProbes v) := by
  unfold State.probeWr
  dsimp only
  unfold State.enProbes at hb
  rw [if_pos (by decide), if_neg (by simp [hf]), if_pos rfl, if_neg (by simp [hc]), hb]
  rfl

theorem probeWr_locked (hf : s.field = true) {a : Nat} (ha : a = 0x8E ∨ a = 0x90 ∨ a = 0x91) : s.probeWr a v = s.lkRefused a := by
  unfold State.probeWr
  dsimp only
  rw [if_pos (by simpa [or_assoc] using ha), if_pos hf]

end

/-- The write of a probe register in a live part. -/
theorem probeWrite_of {t : Nat} {a : Byte} {v : Word} {s u : State} (hl : s.live = true) (h : (s.upTo t).probeWr a.toNat v = u) :
    ∃ s', exec (.probeWrite t a v) s = .next s' ∧ After u s' :=
  act_of t s (fun s => whenLive s fun s => s.probeWr a.toNat v) ((whenLive_live (s := s.upTo t) hl _).trans h)

/-- Settles O18, pass by pass and probe by probe: frame errors leave the count and the cells of the pass as they are. -/
theorem fabricChecks : Obligations.FabricChecks := by
  refine ⟨?_, ?_, ?_, ?_, ?_, ?_, ?_, ?_, ?_⟩
  · intro t ups e s hl hc ht
    obtain ⟨s', he, hs⟩ := act_after t s (fun s => s.scrub ups e)
    obtain ⟨hu, hbad⟩ := scrub_scrubbed (s := s.upTo t) hl hc (le_upTo s ht) ups e
    have h := hu.trans (.of_keep hs.keep)
    have hpt : s'.fab.passtime = 371 + Config.freeNat s.free % 30 := h.passtime
    refine ⟨s', he, h.cnt, h.passAt, by omega, by omega, h.cells, fun i hi hne => ?_⟩
    rw [h.cells] at hne
    exact (Scrubbed.of_keep hs.keep).reload i (hbad i (mem_badFrames (s := s.upTo t) (List.mem_range.1 hi) hne))
  · intro t ups s hl hc ht hon
    obtain ⟨s', he, hs⟩ := act_of t s (fun s => s.scrub ups true) (scrub_passes (s := s.upTo t) hl hc (le_upTo s ht) ups true)
    have hn : ((s.upTo t).scrubNamed ups).flt.on = true := (frameErrors_scrubbed _ ((s.upTo t).passed ups)).1.on.trans hon
    exact ⟨s', he, hs.latched (raise_latches hn .fabScrub _ .stop), hs.stopped_open (raise_stopped hn .fabScrub _ .stop (by decide) nofun)⟩
  · intro t i s hl hc hr hg
    obtain ⟨s', he, hs⟩ := act_of t s (fun s => s.reloadFrame i) (reloadFrame_reloads (s := s.upTo t) hl hc hr hg)
    refine ⟨s', he, ?_⟩
    by_cases hcrc : (crc32c (s.bankFrame i)).toNat = nth 0 s.fab.refs i
    · rw [if_pos (by rwa [bankFrame_upTo])] at hs
      rw [if_pos hcrc]
      exact ⟨hs.same (·.fab.reload), hs.same (·.fab.cells)⟩
    · rw [if_neg (by rwa [bankFrame_upTo])] at hs
      rw [if_neg hcrc]
      have hk := hs.keep.trans (State.err_keep _ _ _)
      exact ⟨of_keep hk (·.fab.reload) fun _ => rfl, of_keep hk (·.fab.cells) fun _ => rfl, hs.err_latched⟩
  · intro t v s hl hf hv
    obtain ⟨s', he, hs⟩ := probeWrite_of (t := t) (a := 0x90) (v := v) hl (probeWr_source (s := s.upTo t) hf hv)
    exact ⟨s', he, hs.same (·.fab.prberr), hs.same (·.fab.probes)⟩
  · intro t v s hl hf hv
    obtain ⟨s', he, hs⟩ := probeWrite_of (t := t) (a := 0x90) (v := v) hl (probeWr_badSource (s := s.upTo t) hf hv)
    exact ⟨s', he, (hs.same (·.fab.probes)).trans (probeErr_probes _ _ _), (hs.same (·.fab.prberr)).trans (probeErr_prberr _ _ _)⟩
  · intro t v ps s hl hf hps hb
    subst hps
    obtain ⟨s', he, hs⟩ := probeWrite_of (t := t) (a := 0x91) (v := v) hl (probeWr_pin (s := s.upTo t) hf hb)
    exact ⟨s', he, hs.same (·.fab.probes), hs.same (·.fab.prberr)⟩
  · intro t n c v s hl hf hb
    obtain ⟨s', he, hs⟩ := probeWrite_of (t := t) (a := 0x91) (v := v) hl (probeWr_badPin (s := s.upTo t) hf hb)
    exact ⟨s', he, (hs.same (·.fab.probes)).trans (probeErr_probes _ _ _), (hs.same (·.fab.prberr)).trans (probeErr_prberr _ _ _)⟩
  · intro t v s hl hf hc hb
    obtain ⟨s', he, hs⟩ := probeWrite_of (t := t) (a := 0x8E) (v := v) hl (probeWr_enables (s := s.upTo t) hf hc hb)
    exact ⟨s', he, hs.same (·.fab.probes)⟩
  · intro t v s hl hf a ha
    have ha : a.toNat = 0x8E ∨ a.toNat = 0x90 ∨ a.toNat = 0x91 := by
      simp only [List.mem_cons, List.not_mem_nil, or_false] at ha
      obtain rfl | rfl | rfl := ha <;> decide
    obtain ⟨s', he, hs⟩ := probeWrite_of (t := t) (a := a) (v := v) hl (probeWr_locked (s := s.upTo t) hf ha)
    have hk := hs.keep.trans (lkRefused_keep _ _)
    exact ⟨s', he, of_keep hk (·.fab.probes) fun _ => rfl, (congrArg (fun n => bit n 3) (of_keep hk (·.cp.st) fun _ => rfl)).trans (frameBit_st _ 3)⟩

end Sys2Proof.Machine
end

section
/-!
PROOF. The radio ports (O19): what a port sends, by what waits in it, and what a head sends beside PDUs. Each transfer's change
of the port is one `updAt` on the port's record.
-/
namespace Sys2Proof.Machine

/-! ## Updates of one element -/

theorem updAt_updAt {α : Type} (f g : α → α) : ∀ (l : List α) (i : Nat), updAt f (updAt g l i) i = updAt (fun x => f (g x)) l i
  | [], _ => rfl
  | _ :: _, 0 => rfl
  | x :: l, i + 1 => congrArg (x :: ·) (updAt_updAt f g l i)

/-- Only what a function does to the element at the index counts. -/
theorem updAt_congr {α : Type} (d : α) {f g : α → α} : ∀ {l : List α} {i : Nat}, f (nth d l i) = g (nth d l i) → updAt f l i = updAt g l i
  | [], _, _ => rfl
  | _ :: l, 0, h => congrArg (· :: l) h
  | x :: _, _ + 1, h => congrArg (x :: ·) (updAt_congr d h)

/-! ## What a port sends -/

section
variable {s : State} {p : Nat}

theorem radioXfer_beacon {irq : Bool} {b : List Byte} {rest : List (List Byte)} (hl : s.live = true) (ho : (s.radio p).on = true)
    (ht : (s.radio p).last ≤ s.now) (hy : (s.radio p).bhold ≤ s.ytime) (hb : (s.radio p).beacons = b :: rest) :
    s.radioXfer p irq = (s.modRadio p (fun r => { r with beacons := rest })).radioSend p
      (Nat.max (s.radio p).last (s.now - (s.ytime - (s.radio p).bhold))) b := by
  simp only [State.radioXfer, hl, ho, ht, hy, hb, decide_true, Bool.and_self]

/-- No beacon request is due before a transfer would end. -/
theorem radioFree_of (hl : s.live = true) (ho : (s.radio p).on = true) (ht : (s.radio p).last ≤ s.now)
    (hb : (s.radio p).beacons = [] ∨ s.ytime + transferNs ≤ (s.radio p).bhold) : s.radioFree p = true := by
  have hb : ((s.radio p).beacons.isEmpty || decide (s.ytime + transferNs ≤ (s.radio p).bhold)) = true := by simpa using hb
  simp only [State.radioFree, hl, ho, ht, hb, decide_true, Bool.and_self]

theorem radioXfer_mgmt (hl : s.live = true) (ho : (s.radio p).on = true) (ht : (s.radio p).last ≤ s.now)
    (hb : (s.radio p).beacons = [] ∨ s.ytime + transferNs ≤ (s.radio p).bhold) {irq : Bool} {m : List Byte} {rest : List (List Byte)}
    (hm : (s.radio p).mgmt = m :: rest) :
    s.radioXfer p irq = (s.modRadio p (fun r => { r with mgmt := rest })).radioSend p s.now m := by
  have hfree := radioFree_of hl ho ht hb
  unfold State.radioXfer
  dsimp only
  obtain hb | hb := hb
  · simp only [hb, hm, hfree, Bool.not_true, Bool.false_eq_true, if_false]
    split
    next heq => exact nomatch heq
    next => rfl
  · have hy : decide ((s.radio p).bhold ≤ s.ytime) = false := decide_eq_false (by unfold transferNs at hb; omega)
    simp only [hy, hm, hfree, Bool.false_and, Bool.not_true, Bool.false_eq_true, if_false]

theorem radioXfer_idle (hl : s.live = true) (ho : (s.radio p).on = true) (ht : (s.radio p).last ≤ s.now)
    (hb : (s.radio p).beacons = [] ∨ s.ytime + transferNs ≤ (s.radio p).bhold) (hm : (s.radio p).mgmt = []) :
    s.radioXfer p true = s.radioSend p s.now (portFrame 0 0 []) := by
  have hfree := radioFree_of hl ho ht hb
  unfold State.radioXfer
  dsimp only
  obtain hb | hb := hb
  · simp only [hb, hm, hfree, Bool.not_true, Bool.false_eq_true, if_false, if_true]
    split
    next heq => exact nomatch heq
    next => rfl
  · have hy : decide ((s.radio p).bhold ≤ s.ytime) = false := decide_eq_false (by unfold transferNs at hb; omega)
    simp only [hy, hm, hfree, Bool.false_and, Bool.not_true, Bool.false_eq_true, if_false, if_true]

theorem radioPollNow_sends (hl : s.live = true) (ho : (s.radio p).on = true)
    (ht : (s.radio p).last + (125 * us - transferNs) ≤ s.now) (hb : (s.radio p).beacons = []) (hm : (s.radio p).mgmt = []) :
    s.radioPollNow p = s.radioSend p s.now (portFrame 0 0 []) := by
  have hfree := radioFree_of hl ho (by omega : (s.radio p).last ≤ s.now) (.inl hb)
  simp only [State.radioPollNow, hfree, hb, hm, ht, List.isEmpty_nil, decide_true, Bool.and_self, if_true]

/-- The port after a beacon request has been built for a reference instant. -/
def State.beaconFor (s : State) (p ref : Nat) : State :=
  s.modRadio p (fun r => { r with
    beacons := r.beacons ++ [portFrame 2 0 (toBytes 8 ref ++ toBytes 1 s.col.sampofs ++ [0] ++ toBytes 2 (s.radio p).bseq)]
    bseq := (r.bseq + 1) % 65536, bref := ref
    bhold := ref - ((s.radio p).headdly * us + frameNs) + (if s.spook.en then nth 0 s.spook.bdly p * us else 0) })

theorem beaconNow_builds {ref : Nat} (hl : s.live = true) (ho : (s.radio p).on = true)
    (hr : ref = nextRef p (s.ytime + ((s.radio p).headdly * us + frameNs))) (hn : (s.radio p).bref ≠ ref) :
    s.beaconNow p = s.beaconFor p ref := by
  subst hr
  unfold State.beaconNow
  dsimp only
  rw [if_pos (by simpa [hl, ho] using hn)]
  rfl

end

/-! ## What a head sends -/

/-- The frame of a transfer has been taken off its port. -/
def State.heard (s : State) (p : Nat) : State :=
  (s.modRadio p (fun r => { r with inAt := none })).modRadio p (fun r => { r with answering := true })

theorem heard_ports (s : State) (p : Nat) :
    (s.heard p).col.ports = updAt (fun r => { r with inAt := none, answering := true }) s.col.ports p := updAt_updAt _ _ _ _

section
variable {s : State} {p a : Nat} {l : List Byte}

theorem brings_of (ha : (s.radio p).inAt = some a) (ht : a ≤ s.now) : (s.radio p).brings s.now = true := by
  simp [RadioPort.brings, ha, ht]

/-- A good frame of the command's own type is handled. -/
theorem portIn_good {typ : Nat} (f : State → State) (hl : s.live = true) (ho : (s.radio p).on = true)
    (ha : (s.radio p).inAt = some a) (ht : a ≤ s.now) (hok : portOk l = true) (hty : byteAt l 0 = typ) (h2 : typ ≠ 2) :
    s.portIn p l typ f = f (s.heard p) := by
  have hbr := brings_of ha ht
  unfold State.portIn
  rw [if_neg (by simp [hl, ho, hbr])]
  dsimp only
  rw [if_neg (by simp [hok, hty, h2]), if_neg (by simp [hty])]
  rfl

end

theorem State.fifoPush_col (s : State) (n : Nat) (d : Datum) : (s.fifoPush n d).col = s.col := rfl

theorem State.slotView_ports (s : State) (n : Nat) : (s.slotView n).col.ports = s.col.ports := rfl

theorem State.drainRadio_ports (s : State) : s.drainRadio.col.ports = s.col.ports := by
  unfold State.drainRadio
  split
  · refine foldl_same (·.col.ports) _ (fun s d => ?_) _ _
    split
    · split
      · rfl
      · split
        · exact foldl_same (·.col.ports) _ (fun s n => by split <;> rfl) _ _
        · rfl
    · rfl
  · rfl

/-- The loft reads the frame, which changes no port. -/
theorem loftReads_ports (s : State) (p : Nat) (f : PortFrame) :
    ((s.heard p).fifoPush 2 (.port f)).drainRadio.col.ports =
      updAt (fun r => { r with inAt := none, answering := true }) s.col.ports p :=
  (State.drainRadio_ports _).trans (heard_ports s p)

/-- Settles O19, transfer by transfer: what waits in the port decides what it sends. -/
theorem radioPorts : Obligations.RadioPorts := by
  refine ⟨?_, ?_, ?_, ?_, ?_, ?_, ?_, ?_⟩
  · intro t p irq b rest s hl ho ht hy hb
    obtain ⟨s', he, hs⟩ := act_of t s (fun s => s.radioXfer p irq)
      (radioXfer_beacon (s := s.upTo t) (irq := irq) hl ho (le_upTo s ht) hy hb)
    have hn : s'.now = (s.upTo t).now := hs.same (·.now)
    refine ⟨s', he, (hs.same (·.col.ports)).trans ?_⟩
    rw [hn]
    exact (updAt_updAt _ _ _ _).trans (updAt_congr {} rfl)
  · intro t p irq m rest s hl ho ht hb hm
    obtain ⟨s', he, hs⟩ := act_of t s (fun s => s.radioXfer p irq) 
      (radioXfer_mgmt (s := s.upTo t) hl ho (le_upTo s ht) hb hm)
    have hn : s'.now = (s.upTo t).now := hs.same (·.now)
    refine ⟨s', he, (hs.same (·.col.ports)).trans ?_⟩
    rw [hn]
    exact updAt_updAt _ _ _ _
  · intro t p s hl ho ht hb hm
    obtain ⟨s', he, hs⟩ := act_of t s (fun s => s.radioXfer p true) 
      (radioXfer_idle (s := s.upTo t) hl ho (le_upTo s ht) hb hm)
    have hn : s'.now = (s.upTo t).now := hs.same (·.now)
    refine ⟨s', he, (hs.same (·.col.ports)).trans ?_⟩
    rw [hn]
    rfl
  · intro t p s hl ho ht hb hm
    obtain ⟨s', he, hs⟩ := act_of t s (fun s => s.radioPollNow p) (radioPollNow_sends (s := s.upTo t) hl ho (le_upTo s ht) hb hm)
    have hn : s'.now = (s.upTo t).now := hs.same (·.now)
    refine ⟨s', he, (hs.same (·.col.ports)).trans ?_⟩
    rw [hn]
    rfl
  · intro t p ref s hl ho hr hn
    obtain ⟨s', he, hs⟩ := act_of t s (fun s => s.beaconNow p) (beaconNow_builds (s := s.upTo t) hl ho hr hn)
    exact ⟨s', he, (hs.same (·.col.ports)).trans (updAt_congr {} rfl)⟩
  · intro t a p l s hl ho ha ht hok hty
    obtain ⟨s', he, hs⟩ := act_of t s (fun s => s.portIn p l 3 (fun s =>
        if bit (byteAt l 6) 0 then s else s.modRadio p (fun r => { r with bmiss := sat8 r.bmiss })))
      (portIn_good (s := s.upTo t) _ hl ho ha (le_upTo s ht) hok hty (by decide))
    refine ⟨s', he, (hs.same (·.col)).trans ?_⟩
    by_cases hb : bit (byteAt l 6) 0 = true
    · simp only [hb, if_true]
      exact congrArg (fun ps => { s.col with ports := ps }) (heard_ports s p)
    · simp only [hb]
      exact congrArg (fun ps => { s.col with ports := ps }) ((congrArg (updAt _ · _) (heard_ports s p)).trans (updAt_updAt _ _ _ _))
  · intro t a p l s hl ho ha ht hok hty
    obtain ⟨s', he, hs⟩ := act_of t s (fun s => s.portIn p l 5 (fun s =>
        (s.fifoPush 2 (.port { port := p, bytes := l, arr := s.ytime, del := s.ytime })).drainRadio))
      (portIn_good (s := s.upTo t) _ hl ho ha (le_upTo s ht) hok hty (by decide))
    exact ⟨s', he, (hs.same (·.col.ports)).trans (loftReads_ports _ _ _)⟩
  · intro t a p l s hl ho ha ht hok hty
    obtain ⟨s', he, hs⟩ := act_of t s (fun s => s.portIn p l 4 (fun s =>
        (s.fifoPush 2 (.port { port := p, bytes := l, arr := s.ytime, del := s.ytime })).drainRadio))
      (portIn_good (s := s.upTo t) _ hl ho ha (le_upTo s ht) hok hty (by decide))
    exact ⟨s', he, (hs.same (·.col.ports)).trans (loftReads_ports _ _ _)⟩

end Sys2Proof.Machine
end

section
/-!
PROOF. Discarded frames (O20): a port frame that is not well formed, and a link frame of the wrong form, are counted and no more.
-/
namespace Sys2Proof.Machine

/-- An inbound frame of a port has been discarded and counted. -/
def State.portDiscard (s : State) (p : Nat) : State :=
  (s.modRadio p (fun r => { r with inAt := none })).modRadio p (fun r => { r with err := sat8 r.err })

/-- A link frame has been discarded and counted. -/
def State.linkDiscard (s : State) (p : Nat) : State := s.modYport p (fun y => { y with err := sat16 y.err })

theorem portIn_bad {s : State} {p a : Nat} {l : List Byte} {typ : Nat} {f : State → State} (hl : s.live = true)
    (ho : (s.radio p).on = true) (ha : (s.radio p).inAt = some a) (ht : a ≤ s.now) (hbad : portOk l = false) :
    s.portIn p l typ f = s.portDiscard p := by
  have hbr := brings_of ha ht
  unfold State.portIn
  rw [if_neg (by simp [hl, ho, hbr])]
  exact if_pos (by simp [hbad])

theorem receive_bad {s : State} {p : Nat} {l : List Byte} {f : State → LinkFrame → State} (hl : s.live = true)
    (ho : s.portOn p = true) (hbad : (parseLink l).all (·.reservedSet) = true) : s.receive p l f = s.linkDiscard p := by
  unfold State.receive
  rw [if_neg (by simp [hl, ho])]
  cases h : parseLink l with
  | none => rfl
  | some fr => rw [h] at hbad; exact if_pos hbad

/-- The end of LOAD, where a time frame may bring it, is nothing of the yard's. -/
theorem yardReady_yard (s : State) : s.yardReady.yard = s.yard := by
  unfold State.yardReady State.loadEnd
  split
  · dsimp only
    split <;> rfl
  · rfl

section
variable {s s' : State}

/-- Channel B alone raises nothing but MOT_LIMIT. -/
theorem After.bit {u : State} (h : After u s') (hu : u.flt = s.flt) (src : Src) (hsrc : src.bit ≠ Src.motLimit.bit) :
    bit s'.flt.fstat src.bit = bit s.flt.fstat src.bit :=
  (h.steady.fstat _ hsrc).trans (by rw [hu])

theorem portDiscarded {p : Nat} (h : After (s.portDiscard p) s') :
    s'.col = { s.col with ports := updAt (fun r => { r with inAt := none, err := sat8 r.err }) s.col.ports p } ∧
    ∀ src ∈ [Src.colCrc, .colLost], bit s'.flt.fstat src.bit = bit s.flt.fstat src.bit := by
  refine ⟨(h.same (·.col)).trans (congrArg (fun ps => { s.col with ports := ps }) (updAt_updAt _ _ _ _)), ?_⟩
  simp only [List.forall_mem_cons, List.not_mem_nil, false_imp_iff, implies_true, and_true]
  exact ⟨h.bit rfl _ (by decide), h.bit rfl _ (by decide)⟩

theorem linkDiscarded_yard {u : State} {p : Nat} (h : After u s') (hu : u.yard = (s.linkDiscard p).yard) :
    s'.keep.yard = { s.keep.yard with ports := updAt (fun y => { y with err := sat16 y.err }) s.yard.ports p } := by
  rw [h.keep]
  exact congrArg (fun y : Yard => { y with pend := [] }) hu

theorem linkDiscarded {p : Nat} (h : After (s.linkDiscard p) s') :
    s'.keep.yard = { s.keep.yard with ports := updAt (fun y => { y with err := sat16 y.err }) s.yard.ports p } ∧
    ∀ src ∈ [Src.colCrc, .yardLink, .yardWdog], bit s'.flt.fstat src.bit = bit s.flt.fstat src.bit := by
  refine ⟨linkDiscarded_yard h rfl, ?_⟩
  simp only [List.forall_mem_cons, List.not_mem_nil, false_imp_iff, implies_true, and_true]
  exact ⟨h.bit rfl _ (by decide), h.bit rfl _ (by decide), h.bit rfl _ (by decide)⟩

end

theorem syncIn_of {s : State} (hr : s.yard.root = false) (l : List Byte) : ∃ f, s.syncIn l = s.receive 0 l f :=
  ⟨_, if_neg (by simp [hr])⟩

theorem drespIn_of {s : State} (hr : s.yard.root = false) (l : List Byte) : ∃ f, s.drespIn l = s.receive 0 l f :=
  ⟨_, if_neg (by simp [hr])⟩

theorem dreqIn_of (s : State) {p : Fin 3} (hp : p ≠ 0) (l : List Byte) : ∃ f, s.dreqIn p l = s.receive p l f :=
  ⟨_, if_neg fun h => hp (Fin.ext h)⟩

theorem forall_mem_two {α : Type} {q : α → Prop} {a b : α} (ha : q a) (hb : q b) : ∀ i ∈ [a, b], q i :=
  List.forall_mem_cons.2 ⟨ha, List.forall_mem_cons.2 ⟨hb, nofun⟩⟩

theorem forall_mem_four {α : Type} {q : α → Prop} {a b c d : α} (ha : q a) (hb : q b) (hc : q c) (hd : q d) : ∀ i ∈ [a, b, c, d], q i :=
  List.forall_mem_cons.2 ⟨ha, List.forall_mem_cons.2 ⟨hb, forall_mem_two hc hd⟩⟩

/-- Settles O20: the form is checked before the type, so that each command does the same with a bad frame. -/
theorem badFramesDiscarded : Obligations.BadFramesDiscarded := by
  refine ⟨?_, ?_, ?_, ?_⟩
  · intro t a p l s hl ho ha ht hbad
    have hp : ∀ f : State → State, f (s.upTo t) = (s.upTo t).portDiscard p → ∃ s', act t s f = .next s' ∧
        s'.col = { s.col with ports := updAt (fun r => { r with inAt := none, err := sat8 r.err }) s.col.ports p } ∧
        ∀ src ∈ [Src.colCrc, .colLost], bit s'.flt.fstat src.bit = bit s.flt.fstat src.bit := fun f hf => by
      obtain ⟨s', he, hs⟩ := act_of t s f hf
      exact ⟨s', he, portDiscarded (s := s.upTo t) hs⟩
    have hin : ∀ (typ : Nat) (f : State → State), (s.upTo t).portIn p l typ f = (s.upTo t).portDiscard p :=
      fun _ _ => portIn_bad hl ho ha (le_upTo s ht) hbad
    exact forall_mem_four (hp (fun s => s.pduIn p l) (hin 1 _))
      (hp (fun s => s.portIn p l 3 (fun s => if bit (byteAt l 6) 0 then s else s.modRadio p (fun r => { r with bmiss := sat8 r.bmiss })))
        (hin 3 _))
      (hp (fun s => s.portIn p l 5 (fun s =>
        (s.fifoPush 2 (.port { port := p, bytes := l, arr := s.ytime, del := s.ytime })).drainRadio)) (hin 5 _))
      (hp (fun s => s.portIn p l 4 (fun s =>
        (s.fifoPush 2 (.port { port := p, bytes := l, arr := s.ytime, del := s.ytime })).drainRadio)) (hin 4 _))
  · intro t p l s hl ho hbad
    have hp : ∀ f : State → State, f (s.upTo t) = (s.upTo t).linkDiscard p → ∃ s', act t s f = .next s' ∧
        s'.keep.yard = { s.keep.yard with ports := updAt (fun y => { y with err := sat16 y.err }) s.yard.ports p } ∧
        ∀ src ∈ [Src.colCrc, .yardLink, .yardWdog], bit s'.flt.fstat src.bit = bit s.flt.fstat src.bit := fun f hf => by
      obtain ⟨s', he, hs⟩ := act_of t s f hf
      exact ⟨s', he, linkDiscarded (s := s.upTo t) hs⟩
    have hin : ∀ f : State → LinkFrame → State, (s.upTo t).receive p l f = (s.upTo t).linkDiscard p :=
      fun _ => receive_bad (s := s.upTo t) hl ho hbad
    exact forall_mem_four (hp (fun s => s.safetyData p l) (hin _)) (hp (fun s => s.safetyOpen p l) (hin _))
      (hp (fun s => s.mgmtFrame p l) (hin _)) (hp (fun s => s.helloIn p l) (hin _))
  · intro t l s hl ho hr hbad
    have hsync : (s.upTo t).syncIn l = (s.upTo t).linkDiscard 0 := by
      obtain ⟨f, hf⟩ := syncIn_of (s := s.upTo t) hr l
      exact hf.trans (receive_bad (s := s.upTo t) hl ho hbad)
    have hresp : (s.upTo t).drespIn l = (s.upTo t).linkDiscard 0 := by
      obtain ⟨f, hf⟩ := drespIn_of (s := s.upTo t) hr l
      exact hf.trans (receive_bad (s := s.upTo t) hl ho hbad)
    refine forall_mem_two ?_ ?_
    · obtain ⟨s', he, hs⟩ := act_of t s (fun s => s.syncIn l) hsync
      exact ⟨s', he, linkDiscarded_yard (s := s.upTo t) hs rfl⟩
    · obtain ⟨s', he, hs⟩ := act_of t s (fun s => (s.drespIn l).yardReady) (congrArg State.yardReady hresp)
      exact ⟨s', he, linkDiscarded_yard (s := s.upTo t) hs (yardReady_yard _)⟩
  · intro t p l s hl ho h0 hbad
    have hreq : (s.upTo t).dreqIn p l = (s.upTo t).linkDiscard p := by
      obtain ⟨f, hf⟩ := dreqIn_of (s.upTo t) h0 l
      exact hf.trans (receive_bad (s := s.upTo t) hl ho hbad)
    obtain ⟨s', he, hs⟩ := act_of t s (fun s => s.dreqIn p l) hreq
    exact ⟨s', he, linkDiscarded_yard (s := s.upTo t) hs rfl⟩

end Sys2Proof.Machine
end

section
/-!
PROOF. The slots of the collars, and a PDU at channel B's checker (O21). A slot's entry into a state is one `updAt`; what follows
an accepted sample leaves what the sample has brought.
-/
namespace Sys2Proof.Machine

/-! ## Slots -/

/-- An update that keeps a field keeps it at every index. -/
theorem nth_updAt_keeps {α β : Type} (d : α) (g : α → β) {f : α → α} (h : ∀ a, g (f a) = g a) :
    ∀ (l : List α) (i j : Nat), g (nth d (updAt f l i) j) = g (nth d l j)
  | [], _, _ => rfl
  | x :: _, 0, 0 => h x
  | _ :: _, 0, _ + 1 => rfl
  | _ :: _, _ + 1, 0 => rfl
  | _ :: l, i + 1, j + 1 => nth_updAt_keeps d g h l i j

theorem modSlot_slot_same (s : State) {n : Nat} (f : Slot → Slot) (hn : n < s.col.slots.length) : (s.modSlot n f).slot n = f (s.slot n) :=
  nth_updAt_same _ _ _ _ hn

theorem modSlot_keeps {β : Type} (g : Slot → β) (s : State) (n m : Nat) {f : Slot → Slot} (h : ∀ a, g (f a) = g a) :
    g ((s.modSlot n f).slot m) = g (s.slot m) := nth_updAt_keeps _ g h _ _ _

theorem State.err_slots (s : State) (src : Src) (d : Nat) : (s.err src d).col.slots = s.col.slots :=
  of_keep (State.err_keep _ _ _) (·.col.slots) fun _ => rfl

/-- What an entry into a state does to a slot (R275). -/
def Slot.enter (isA : Bool) (d : DState) (sl : Slot) : Slot :=
  { sl.modCh isA (fun c => if d == .joining then { c with ds := d, has := false, run := 0 } else { c with ds := d }) with
    losts := if isA && d == .lost then sat8 sl.losts else sl.losts
    quars := if isA && d == .quarantined then sat8 sl.quars else sl.quars }

theorem Slot.enter_ds_b (d : DState) (sl : Slot) : (sl.enter false d).b.ds = d := by
  cases d <;> rfl

/-- A slot's entry into a state, before the error it may raise. -/
def State.slotIn (s : State) (n : Nat) (isA : Bool) (d : DState) (cause : Nat) : State :=
  ((if isA && ((s.slot n).ch isA).ds == .live && d != .live then
      { s with col := { s.col with lastdrop := w16 (n % 64 + 64 * cause + 0x8000) } } else s).modSlotCh n isA (fun c =>
    if d == .joining then { c with ds := d, has := false, run := 0 } else { c with ds := d })).modSlot n (fun sl => { sl with
      losts := if isA && d == .lost then sat8 sl.losts else sl.losts
      quars := if isA && d == .quarantined then sat8 sl.quars else sl.quars })

/-- The entry raises COL_LOST. -/
def State.slotLoses (s : State) (n : Nat) (isA : Bool) (d : DState) (cause : Nat) : Bool :=
  (isA || !(s.slotIn n isA d cause).pair.split) &&
    (d == .lost || (d == .quarantined && (((s.slot n).ch isA).ds == .live || ((s.slot n).ch isA).ds == .stale)))

theorem slotEnter_eq (s : State) (n : Nat) (isA : Bool) (d : DState) (c : Nat) :
    s.slotEnter n isA d c = (if s.slotLoses n isA d c then (s.slotIn n isA d c).err .colLost n else s.slotIn n isA d c).collarRemotes n := rfl

theorem slotIn_slots (s : State) (n : Nat) (isA : Bool) (d : DState) (c : Nat) :
    (s.slotIn n isA d c).col.slots = updAt (Slot.enter isA d) s.col.slots n := by
  refine (updAt_updAt _ _ _ _).trans ?_
  have hs : ∀ (b : Bool) (c : Word), (if b then { s with col := { s.col with lastdrop := c } } else s).col.slots = s.col.slots :=
    fun b _ => by cases b <;> rfl
  rw [hs]
  refine updAt_congr {} ?_
  cases isA <;> rfl

theorem slotIn_pair (s : State) (n : Nat) (isA : Bool) (d : DState) (c : Nat) : (s.slotIn n isA d c).pair = s.pair := by
  unfold State.slotIn
  split <;> rfl

theorem slotIn_flt (s : State) (n : Nat) (isA : Bool) (d : DState) (c : Nat) : (s.slotIn n isA d c).flt = s.flt := by
  unfold State.slotIn
  split <;> rfl

theorem collarRemotes_slots (s : State) (n : Nat) : (s.collarRemotes n).col.slots = s.col.slots := rfl

theorem slotEnter_slots (s : State) (n : Nat) (isA : Bool) (d : DState) (c : Nat) :
    (s.slotEnter n isA d c).col.slots = updAt (Slot.enter isA d) s.col.slots n := by
  rw [slotEnter_eq, collarRemotes_slots, ← slotIn_slots s n isA d c]
  split
  · exact State.err_slots _ _ _
  · rfl

theorem slotEnter_slot (s : State) {n : Nat} (isA : Bool) (d : DState) (c : Nat) (hn : n < s.col.slots.length) :
    (s.slotEnter n isA d c).slot n = (s.slot n).enter isA d := by
  unfold State.slot
  rw [slotEnter_slots]
  exact nth_updAt_same _ _ _ _ hn

theorem slotEnter_keeps {β : Type} (g : Slot → β) (s : State) (n m : Nat) {isA : Bool} {d : DState} (c : Nat)
    (h : ∀ sl : Slot, g (sl.enter isA d) = g sl) : g ((s.slotEnter n isA d c).slot m) = g (s.slot m) :=
  (congrArg (fun l => g (nth {} l m)) (slotEnter_slots s n isA d c)).trans (nth_updAt_keeps _ g h _ _ _)

/-! ## What an accepted sample brings -/

/-- The sample a channel holds. -/
def SlotCh.sample (c : SlotCh) : Bool × Bool × Nat × Nat × BitVec 64 × BitVec 64 := (c.has, c.got, c.seq, c.at_, c.dataA, c.dataB)

theorem Slot.enter_sample {d : DState} (hd : d ≠ .joining) (isA : Bool) (sl : Slot) : (sl.enter isA d).b.sample = sl.b.sample := by
  simp only [Slot.enter, Slot.modCh, show (d == .joining) = false by simpa using hd]
  cases isA <;> rfl

theorem slotView_b (s : State) (k n : Nat) : ((s.slotView k).slot n).b = (s.slot n).b := modSlot_keeps Slot.b s.fresh k n fun _ => rfl

theorem drainRadio_b (s : State) (n : Nat) : ((s.drainRadio).slot n).b = (s.slot n).b := by
  unfold State.drainRadio
  split
  · refine foldl_same (fun s => (s.slot n).b) _ (fun s d => ?_) _ _
    split
    · split
      · exact slotView_b _ _ _
      · split
        · exact foldl_same (fun s => (s.slot n).b) _ (fun s k => by
            split
            · exact slotView_b _ _ _
            · rfl) _ _
        · rfl
    · rfl
  · rfl

/-- The loft's reading of frames raises nothing. -/
theorem drainRadio_flt (s : State) : s.drainRadio.flt = s.flt := by
  unfold State.drainRadio
  split
  · refine foldl_same (·.flt) _ (fun s d => ?_) _ _
    split
    · split
      · rfl
      · split
        · exact foldl_same (·.flt) _ (fun s k => by split <;> rfl) _ _
        · rfl
    · rfl
  · rfl

/-! ## The checks of a PDU -/

/-- A PDU continues the sequence of slot `n` at channel B (checks 3 and 4 of R269). -/
def State.SeqFits (s : State) (n : Nat) (p : List Byte) (st : Nat) : Prop :=
  (s.slot n).b.has = false ∨
    (1 ≤ (beAt p 2 2 + 65536 - (s.slot n).b.seq0) % 65536 ∧ (beAt p 2 2 + 65536 - (s.slot n).b.seq0) % 65536 ≤ 16 ∧
      (bit (byteAt p 0) 3 = true ∨ st = (s.slot n).b.t0 + (beAt p 2 2 + 65536 - (s.slot n).b.seq0) % 65536 * (s.slot n).refUs))

/-- The other checks from 5 to 8 hold of a PDU of slot `n` at channel B, whose sample time is `st` (R269). -/
structure State.PduFits (s : State) (n : Nat) (p : List Byte) (st : Nat) : Prop where
  time : bit (byteAt p 0) 3 = true ∨
    (s.col.sampofs * 125 ≤ st ∧ (st - s.col.sampofs * 125) % (s.slot n).refUs = 0 ∧ st * us ≤ s.ytime + 4 * us)
  tick : (s.slot n).b.missed.any (· == s.pduTick (s.slot n) (bit (byteAt p 0) 3) (nearTime (s.ytime / us) (beAt p 4 4))) = false
  age : s.ytime ≤ st * us + (s.slot n).maxage * ms
  crc : byteAt p 25 % 4 = 0
  agrees : s.pduAgrees n (pduData p 8) (pduData p 16) = true

/-- The time of a PDU's sample (R268). -/
def sampleAt (y : Nat) (p : List Byte) : Nat :=
  if bit (byteAt p 0) 3 then Nat.min (nearTime (y / us) (beAt p 4 4)) (y / us - 1500) else nearTime (y / us) (beAt p 4 4)

section
variable {s : State} {n : Nat} {p : List Byte}

/-- What follows an accepted sample leaves it. -/
theorem afterSample_sample (x : State) (live : Bool) (da db : BitVec 64) :
    ((((if live then x.slotEnter n false .live 0 else x).collarSpeed n false da db).collarRemotes n).slot n).b.sample =
      (x.slot n).b.sample := by
  cases live
  · rfl
  · exact slotEnter_keeps (fun sl => sl.b.sample) x n n 0 (Slot.enter_sample (d := .live) nofun false)

theorem pduSample_accepts (hn : n < s.col.slots.length) (hseq : s.SeqFits n p (sampleAt s.ytime p))
    (h : s.PduFits n p (sampleAt s.ytime p)) :
    ((s.pduSample n false p s.ytime).slot n).b.sample =
      (true, true, beAt p 2 2, sampleAt s.ytime p, pduData p 8, pduData p 16) := by
  obtain ⟨htime, htick, hage, hcrc, hagree⟩ := h
  unfold State.pduSample
  dsimp only
  rw [if_neg, if_neg, if_neg (by simp)]
  · refine (afterSample_sample _ _ _ _).trans ?_
    rw [State.modSlotCh, modSlot_slot_same _ _ hn]
    rfl
  · simp [hcrc, hagree]
  · unfold State.SeqFits at hseq
    unfold sampleAt at hseq htime hage
    simp only [Slot.ch, Bool.false_eq_true, if_false]
    rw [htick, decide_eq_true hage]
    generalize (if bit (byteAt p 0) 3 = true then _ else _ : Nat) = st at *
    simp only [Bool.or_eq_true, Bool.not_eq_true', not_or, Bool.not_eq_false, Bool.and_eq_true, decide_eq_true_eq, beq_iff_eq,
      Bool.not_true, Bool.not_false, Bool.false_eq_true, not_false_eq_true, and_true, and_assoc]
    exact ⟨hseq, htime⟩

/-- A slot has entered JOINING at channel B, where its sequence starts afresh. -/
def State.joined (s : State) (n : Nat) : State :=
  { s with col := { s.col with slots := updAt (Slot.enter false .joining) s.col.slots n } }

theorem slotEnter_joining (s : State) (n : Nat) : s.slotEnter n false .joining 0 = (s.joined n).collarRemotes n := by
  have hin : s.slotIn n false .joining 0 = s.joined n :=
    congrArg (fun l => { s with col := { s.col with slots := l } }) (slotIn_slots s n false .joining 0)
  rw [slotEnter_eq, if_neg (by simp [State.slotLoses]), hin]

/-- A PDU that passes checks 0 to 8 is accepted: a LOST slot joins anew, and takes any sequence number. -/
theorem pduCheck_accepts {f : PortFrame} (hf : byteAt f.bytes 1 = n) (hp : (f.bytes.drop 4).take 32 = p) (ha : f.arr = s.ytime)
    (h0 : n ≠ 0) (hn : n < s.col.slots.length) (hb : (s.slot n).bound = true) (hh : (s.slot n).head = f.port)
    (hform : pduForm n p = true) (hcrc : pduScrcOk s.yard.node (s.slot n) p = true)
    (hseq : (s.slot n).b.ds = .lost ∨ s.SeqFits n p (sampleAt s.ytime p)) (hfit : s.PduFits n p (sampleAt s.ytime p)) :
    ((s.pduCheck false f).slot n).b.sample =
      (true, true, beAt p 2 2, sampleAt s.ytime p, pduData p 8, pduData p 16) := by
  have hc : s.pduCheck false f = (if (s.slot n).b.ds == .lost then s.slotEnter n false .joining 0 else s).pduSample n false p s.ytime := by
    unfold State.pduCheck
    dsimp only
    rw [hf, hp, ha, if_neg (by simp [h0, hb, hh]), if_neg (by simp [hform]), if_neg (by simp [hcrc])]
    rfl
  rw [hc]
  by_cases hl : (s.slot n).b.ds = .lost
  · rw [if_pos (by simp [hl])]
    have hsl := slotEnter_slot s false .joining 0 hn
    rw [slotEnter_joining] at hsl ⊢
    refine pduSample_accepts (s := (s.joined n).collarRemotes n) ((updAt_length _ _ _).symm ▸ hn) (.inl ?_) ?_
    · rw [hsl]
      rfl
    · obtain ⟨h1, h2, h3, h4, h5⟩ := hfit
      refine ⟨?_, ?_, ?_, h4, h5⟩
      · rw [hsl]; exact h1
      · rw [hsl]; exact h2
      · rw [hsl]; exact h3
  · rw [if_neg (by simpa using hl)]
    exact pduSample_accepts hn (hseq.resolve_left hl) hfit

end

/-- The data that a slot holds in channel B. -/
def Slot.held (sl : Slot) : BitVec 64 × BitVec 64 × Nat := (sl.b.dataA, sl.b.dataB, sl.b.at_)

theorem Slot.enter_held (isA : Bool) (d : DState) (sl : Slot) : (sl.enter isA d).held = sl.held := by
  cases isA <;> cases d <;> rfl

theorem err_held (s : State) (src : Src) (d m : Nat) : ((s.err src d).slot m).held = (s.slot m).held :=
  congrArg (fun l => (nth {} l m).held) (s.err_slots src d)

/-- COL_CRC stays latched as a slot enters a state. -/
theorem slotEnter_colCrc (s : State) (n : Nat) (isA : Bool) (d : DState) (c : Nat) (h : bit s.flt.fstat Src.colCrc.bit = true) :
    bit (s.slotEnter n isA d c).flt.fstat Src.colCrc.bit = true := by
  have hin : bit (s.slotIn n isA d c).flt.fstat Src.colCrc.bit = true := by rwa [slotIn_flt]
  rw [slotEnter_eq]
  change bit (State.flt (if _ then _ else _)).fstat _ = true
  split
  · exact ((err_steady _ _ _).fstat _ (by decide)).trans hin
  · exact hin

/-- A check-2 failure has been counted at channel B. -/
def State.crcFails (s : State) (n : Nat) (l : List Nat) : State :=
  (s.modSlot n (fun sl => { sl with crcerr := if false then sat16 sl.crcerr else sl.crcerr })).modSlotCh n false
    (fun c => { c with crcAt := l })

theorem crcFails_held (s : State) (n : Nat) (l : List Nat) : ((s.crcFails n l).slot n).held = (s.slot n).held :=
  (modSlot_keeps Slot.held _ n n (f := fun sl => sl.modCh false (fun c => { c with crcAt := l })) fun _ => rfl).trans
    (modSlot_keeps Slot.held s n n (f := fun sl => { sl with crcerr := if false then sat16 sl.crcerr else sl.crcerr }) fun _ => rfl)

section
variable {s : State} {n : Nat} {p : List Byte} {f : PortFrame}

theorem pduCheck_badForm (hf : byteAt f.bytes 1 = n) (hp : (f.bytes.drop 4).take 32 = p) (h0 : n ≠ 0)
    (hb : (s.slot n).bound = true) (hh : (s.slot n).head = f.port) (hbad : pduForm n p = false) :
    s.pduCheck false f = s.err .colCrc n := by
  unfold State.pduCheck
  dsimp only
  rw [hf, hp, if_neg (by simp [h0, hb, hh]), if_pos (by simp [hbad])]

theorem pduCheck_badScrc (hf : byteAt f.bytes 1 = n) (hp : (f.bytes.drop 4).take 32 = p) (h0 : n ≠ 0)
    (hb : (s.slot n).bound = true) (hh : (s.slot n).head = f.port) (hform : pduForm n p = true)
    (hbad : pduScrcOk s.yard.node (s.slot n) p = false) : ∃ l, s.pduCheck false f = (s.crcFails n l).err .colCrc n ∨
      s.pduCheck false f = ((s.crcFails n l).err .colCrc n).slotEnter n false .quarantined 3 := by
  unfold State.pduCheck
  dsimp only
  rw [hf, hp, if_neg (by simp [h0, hb, hh]), if_neg (by simp [hform]), if_pos (by simp [hbad])]
  exact ⟨_, (Decidable.em _).elim (fun h => .inr (if_pos h)) (fun h => .inl (if_neg h))⟩

/-- A PDU of the wrong form, or with a wrong SCRC, is COL_CRC, and its data are not taken. -/
theorem pduCheck_rejects (hon : s.flt.on = true) (hf : byteAt f.bytes 1 = n)
    (hp : (f.bytes.drop 4).take 32 = p) (h0 : n ≠ 0) (hb : (s.slot n).bound = true) (hh : (s.slot n).head = f.port)
    (hbad : pduForm n p = false ∨ pduScrcOk s.yard.node (s.slot n) p = false) :
    bit (s.pduCheck false f).flt.fstat Src.colCrc.bit = true ∧ ((s.pduCheck false f).slot n).held = (s.slot n).held := by
  by_cases hform : pduForm n p = true
  · obtain ⟨l, hl⟩ := pduCheck_badScrc hf hp h0 hb hh hform (hbad.resolve_left (by simp [hform]))
    have hx : bit ((s.crcFails n l).err .colCrc n).flt.fstat Src.colCrc.bit = true := err_latches (s := s.crcFails n l) hon _ _
    have hk := (err_held (s.crcFails n l) .colCrc n n).trans (crcFails_held s n l)
    obtain hl | hl := hl <;> rw [hl]
    · exact ⟨hx, hk⟩
    · exact ⟨slotEnter_colCrc _ _ _ _ _ hx, (slotEnter_keeps Slot.held _ _ _ _ (Slot.enter_held _ _)).trans hk⟩
  · rw [pduCheck_badForm hf hp h0 hb hh (by simpa using hform)]
    exact ⟨err_latches hon _ _, err_held _ _ _ _⟩

end

/-! ## A PDU's way in -/

/-- A head's spook control only counts. -/
theorem radioDrop_state (s : State) (p slot : Nat) : ∃ sp, (s.radioDrop p slot).1 = { s with spook := sp } := by
  unfold State.radioDrop
  dsimp only
  split
  · exact ⟨s.spook, rfl⟩
  · exact ⟨_, rfl⟩

theorem radioDrop_hit {s x : State} (h : x.spook = s.spook) (p slot : Nat) : (x.radioDrop p slot).2 = (s.radioDrop p slot).2 := by
  unfold State.radioDrop
  dsimp only
  rw [h]
  split <;> rfl

/-- The frame of a PDU that has just arrived. -/
def State.pduFrame (s : State) (p : Nat) (l : List Byte) : PortFrame := { port := p, bytes := l, arr := s.ytime, del := s.ytime }

theorem pduIn_takes {s : State} {p a : Nat} {l : List Byte} (hl : s.live = true) (ho : (s.radio p).on = true)
    (ha : (s.radio p).inAt = some a) (ht : a ≤ s.now) (hok : portOk l = true) (hty : byteAt l 0 = 1)
    (hd : (s.radioDrop p (byteAt l 1)).2 = false) : ∃ sp, s.pduIn p l =
      ((({ s.heard p with spook := sp } : State).pduCheck false (s.pduFrame p l)).fifoPush 2 (.port (s.pduFrame p l))).drainRadio := by
  obtain ⟨sp, hsp⟩ := radioDrop_state (s.heard p) p (byteAt l 1)
  refine ⟨sp, ?_⟩
  unfold State.pduIn
  rw [portIn_good _ hl ho ha ht hok hty (by decide)]
  dsimp only
  have hd' : ((s.heard p).radioDrop p (byteAt l 1)).2 = false := (radioDrop_hit (s := s) (x := s.heard p) rfl _ _).trans hd
  rw [hd', hsp]
  rfl

/-- Settles O21: an accepted sample stands after what it starts, and a rejected one leaves the data. -/
theorem pduAccepted : Obligations.PduAccepted := by
  refine ⟨?_, ?_⟩
  · intro t a n p l pdu st s hl ho ha ht hok hty hd hn h0 hlen hb hh hpdu hst hform hcrc hseq htime htick hage hc hagree
    obtain ⟨sp, hin⟩ := pduIn_takes (s := s.upTo t) hl ho ha (le_upTo s ht) hok hty ((radioDrop_hit (s := s) (x := s.upTo t) rfl _ _).trans hd)
    obtain ⟨s', he, hs⟩ := act_of t s (fun s => s.pduIn p l) hin
    have hst' : st = sampleAt (s.upTo t).ytime pdu := by rw [hst, hpdu]; rfl
    rw [hst'] at hseq htime hage
    have hacc := pduCheck_accepts (s := { (s.upTo t).heard p with spook := sp }) (f := (s.upTo t).pduFrame p l) (p := pdu) hn.symm
      hpdu.symm rfl h0 hlen hb hh hform hcrc
      (hseq.elim (fun h => .inr (.inl h)) fun h => h.imp id .inr) ⟨htime, htick, hage, hc, hagree⟩
    have hfin := ((hs.same (fun s => (s.slot n).b.sample)).trans (congrArg SlotCh.sample (drainRadio_b _ n))).trans hacc
    simp only [SlotCh.sample, Prod.mk.injEq] at hfin
    obtain ⟨h1, h2, h3, h4, h5, h6⟩ := hfin
    exact ⟨s', he, h1, h2, h3, h4.trans hst'.symm, h5, h6⟩
  · intro t a n p l s hl hon ho ha ht hok hty hd hn h0 hb hh hbad
    obtain ⟨sp, hin⟩ := pduIn_takes (s := s.upTo t) hl ho ha (le_upTo s ht) hok hty
      ((radioDrop_hit (s := s) (x := s.upTo t) rfl _ _).trans hd)
    obtain ⟨s', he, hs⟩ := act_of t s (fun s => s.pduIn p l) hin
    obtain ⟨hcrc, hheld⟩ := pduCheck_rejects (s := { (s.upTo t).heard p with spook := sp }) (f := (s.upTo t).pduFrame p l)
      (p := portPdu l) hon hn.symm rfl h0 hb hh hbad
    have hfin : (s'.slot n).held = (s.slot n).held :=
      ((hs.same (fun s => (s.slot n).held)).trans
        (congrArg (fun c : SlotCh => (c.dataA, c.dataB, c.at_)) (drainRadio_b _ n))).trans hheld
    simp only [Slot.held, Prod.mk.injEq] at hfin
    refine ⟨s', he, hs.latched ?_, hfin⟩
    rw [drainRadio_flt]
    exact hcrc

end Sys2Proof.Machine
end

section
/-!
PROOF. Slots and connections that are lost, stale or released, and data held back by a FIFO (O22).
-/
namespace Sys2Proof.Machine

section
variable {s : State} {n : Nat}

theorem slotEnter_length (isA : Bool) (d : DState) (c : Nat) : (s.slotEnter n isA d c).col.slots.length = s.col.slots.length := by
  rw [slotEnter_slots, updAt_length]

/-- In arrangement P a slot that is lost at channel B is COL_LOST. -/
theorem slotEnter_lost_latches (hon : s.flt.on = true) (hsp : s.pair.split = false) (c : Nat) :
    bit (s.slotEnter n false .lost c).flt.fstat Src.colLost.bit = true := by
  have hx : (s.slotIn n false .lost c).flt.on = true := by rwa [slotIn_flt]
  rw [slotEnter_eq, if_pos (by simp [State.slotLoses, slotIn_pair, hsp])]
  exact err_latches hx _ _

/-! ## Missed refreshes -/

/-- A tick has been counted as missed at channel B. -/
def State.tickMissed (s : State) (n : Nat) : State :=
  (s.modSlotCh n false (fun c => { c with
    next := c.next + (s.slot n).refUs, gotTicks := c.gotTicks.filter (· != c.next)
    misses := c.misses + 1, missed := (c.next :: c.missed).take 66 })).modSlot n (fun sl => { sl with
      miss := if false then sat16 sl.miss else sl.miss })

theorem deadline_loses (hg : (s.slot n).b.gotTicks.any (· == (s.slot n).b.next) = false)
    (hd : (s.slot n).b.ds = .live ∨ (s.slot n).b.ds = .stale) (hk : (s.slot n).k ≤ (s.slot n).b.misses + 1) :
    s.deadline n false = (s.tickMissed n).slotEnter n false .lost 1 := by
  unfold State.deadline
  dsimp only
  simp only [Slot.ch, Bool.false_eq_true, if_false]
  rw [if_neg (by simp [hg])]
  exact if_pos (by simpa [Slot.ch, hk] using hd)

/-- One deadline has come by, and no more. -/
theorem deadlines_one {y : Nat} (hb : (s.slot n).bound = true) (h1 : ((s.slot n).b.next + 2000) * us ≤ y)
    (h2 : y < ((s.slot n).b.next + 2000 + (s.slot n).refUs) * us) : s.deadlines n false y = s.deadline n false := by
  have hq : (y - ((s.slot n).b.next + 2000) * us) / ((s.slot n).refUs * us) = 0 := by
    rw [Nat.add_mul] at h2
    exact Nat.div_eq_of_lt (by omega)
  unfold State.deadlines
  dsimp only
  rw [if_neg (by simpa [hb, Slot.ch] using h1)]
  simp only [Slot.ch, Bool.false_eq_true, if_false]
  rw [hq]
  rfl

theorem tickMissed_a (n : Nat) : ((s.tickMissed n).slot n).a = (s.slot n).a :=
  (modSlot_keeps Slot.a _ n n (f := fun sl => { sl with miss := if false then sat16 sl.miss else sl.miss }) fun _ => rfl).trans
    (modSlot_keeps Slot.a s n n (f := fun sl => sl.modCh false (fun c => { c with
      next := c.next + (s.slot n).refUs, gotTicks := c.gotTicks.filter (· != c.next)
      misses := c.misses + 1, missed := (c.next :: c.missed).take 66 })) fun _ => rfl)

theorem tickMissed_length (n : Nat) : (s.tickMissed n).col.slots.length = s.col.slots.length :=
  (updAt_length _ _ _).trans (updAt_length _ _ _)

/-- Channel B's entries leave channel A. -/
theorem slotEnter_b_a (d : DState) (c m : Nat) : ((s.slotEnter n false d c).slot m).a = (s.slot m).a :=
  slotEnter_keeps Slot.a s n m c fun _ => rfl

theorem slotEnter_a_b (d : DState) (c m : Nat) : ((s.slotEnter n true d c).slot m).b = (s.slot m).b :=
  slotEnter_keeps Slot.b s n m c fun _ => rfl

theorem slotEnter_b_ds (hn : n < s.col.slots.length) (d : DState) (c : Nat) : ((s.slotEnter n false d c).slot n).b.ds = d := by
  rw [slotEnter_slot s false d c hn, Slot.enter_ds_b]

/-! ## Releases -/

/-- The RELEASE of a slot in one channel. -/
def State.slotFree (s : State) (n : Nat) (isA : Bool) : State :=
  if ((s.slot n).ch isA).ds == .quarantined then s.slotEnter n isA .joining 0 else s

/-- The state that a release leaves a channel in. -/
def freedState (d : DState) : DState := if d = .quarantined then .joining else d

theorem slotFree_length (isA : Bool) : (s.slotFree n isA).col.slots.length = s.col.slots.length := by
  unfold State.slotFree
  split
  · exact slotEnter_length _ _ _
  · rfl

theorem slotFree_own (hn : n < s.col.slots.length) (isA : Bool) :
    (((s.slotFree n isA).slot n).ch isA).ds = freedState ((s.slot n).ch isA).ds := by
  unfold State.slotFree freedState
  by_cases h : ((s.slot n).ch isA).ds = .quarantined
  · rw [if_pos (by simp [h]), if_pos h, slotEnter_slot s isA _ _ hn]
    cases isA <;> rfl
  · rw [if_neg (by simpa using h), if_neg h]

theorem slotFree_true_b : ((s.slotFree n true).slot n).b = (s.slot n).b := by
  unfold State.slotFree
  split
  · exact slotEnter_a_b _ _ _
  · rfl

theorem slotFree_false_a : ((s.slotFree n false).slot n).a = (s.slot n).a := by
  unfold State.slotFree
  split
  · exact slotEnter_b_a _ _ _
  · rfl

theorem colQrel_frees {v : Word} (hv : bit v.toNat 6 = true) :
    s.colQrel v = (s.slotFree (v.toNat % 64) true).slotFree (v.toNat % 64) false := if_pos hv

/-! ## Connections -/

theorem modConn_conn_same (f : Conn → Conn) (hn : n < s.yard.conns.length) : (s.modConn n f).conn n = f (s.conn n) :=
  nth_updAt_same _ _ _ _ hn

theorem connEnter_stale_conn (hn : n < s.yard.conns.length) :
    (s.connEnter n false .stale).conn n = (s.conn n).modCh false (fun c => { c with ds := .stale }) :=
  modConn_conn_same _ hn

theorem maxAge_slot (hd : (s.slot n).b.ds = .live) (ha : (s.slot n).b.at_ * us + (s.slot n).maxage * ms < s.ytime) :
    s.maxAge false n = s.slotEnter n false .stale 2 := by
  simp only [State.maxAge, hd, ha, beq_self_eq_true, decide_true, Bool.and_self, if_true, Bool.false_eq_true, if_false]

theorem maxAge_conn (hd : (s.conn n).b.ds = .live) (ha : (s.conn n).b.ts + (s.conn n).maxage * us < s.ytime) :
    s.maxAge true n = s.connEnter n false .stale := by
  simp only [State.maxAge, hd, ha, beq_self_eq_true, decide_true, Bool.and_self, if_true]

/-! ## FIFO 4 -/

theorem fifoMove_four {d : Datum} {rest : List Datum} (hb : (s.backP 4).1 = 0) (hh : (s.fifo 4).held = d :: rest)
    (hr : (s.fifo 4).q.length < fifoDepth 4) :
    (s.fifoMove 4).fifos = updAt (fun f => { q := f.q ++ [d], held := rest }) s.fifos 4 := by
  refine updAt_congr {} ?_
  have h : nth {} s.fifos 4 = s.fifo 4 := rfl
  rw [h, hh]
  exact if_neg (by simpa [hb] using hr)

end

/-- Settles O22: each command is one entry of one slot or connection in channel B, or one datum of a FIFO. -/
theorem slotStates : Obligations.SlotStates := by
  refine ⟨?_, ?_, ?_, ?_, ?_⟩
  · intro t n s hl hn hb hd hg hk h1 h2
    obtain ⟨s', he, hs⟩ := act_of t s (fun s => whenLive s (fun s => s.deadlines n false s.ytime))
      ((whenLive_live (s := s.upTo t) hl _).trans ((deadlines_one (s := s.upTo t) hb h1 h2).trans (deadline_loses hg hd hk)))
    refine ⟨s', he, (hs.same (fun s => (s.slot n).b.ds)).trans
        (slotEnter_b_ds (s := (s.upTo t).tickMissed n) ((tickMissed_length n).symm ▸ hn) _ _),
      (hs.same (fun s => (s.slot n).a)).trans ((slotEnter_b_a _ _ _).trans (tickMissed_a (s := s.upTo t) n)), fun hon hsp => ?_⟩
    exact hs.latched (slotEnter_lost_latches (s := (s.upTo t).tickMissed n) hon hsp 1)
  · intro t n s hl hn hd ha
    obtain ⟨s', he, hs⟩ := act_of t s (fun s => whenLive s (fun s => s.maxAge false n))
      ((whenLive_live (s := s.upTo t) hl _).trans (maxAge_slot (s := s.upTo t) hd ha))
    exact ⟨s', he, (hs.same (fun s => (s.slot n).b.ds)).trans (slotEnter_b_ds (s := s.upTo t) hn _ _),
      (hs.same (fun s => (s.slot n).a)).trans (slotEnter_b_a _ _ _)⟩
  · intro t n s hl hn hd ha
    obtain ⟨s', he, hs⟩ := act_of t s (fun s => whenLive s (fun s => s.maxAge true n))
      ((whenLive_live (s := s.upTo t) hl _).trans (maxAge_conn (s := s.upTo t) hd ha))
    have hc := connEnter_stale_conn (s := s.upTo t) hn
    exact ⟨s', he, (hs.same (fun s => (s.conn n).b.ds)).trans (congrArg (·.b.ds) hc),
      (hs.same (fun s => (s.conn n).a)).trans (congrArg (·.a) hc)⟩
  · intro t v s hl hv hn
    obtain ⟨s', he, hs⟩ := act_of t s (fun s => whenLive s (fun s => s.colQrel v))
      ((whenLive_live (s := s.upTo t) hl _).trans (colQrel_frees (s := s.upTo t) hv))
    have ha := slotFree_own (s := s.upTo t) hn true
    have hb := slotFree_own (s := (s.upTo t).slotFree (v.toNat % 64) true) ((slotFree_length (s := s.upTo t) true).symm ▸ hn) false
    refine ⟨s', he, (hs.same (fun s => (s.slot (v.toNat % 64)).a.ds)).trans ((congrArg SlotCh.ds slotFree_false_a).trans ha), ?_⟩
    exact (hs.same (fun s => (s.slot (v.toNat % 64)).b.ds)).trans
      (hb.trans (congrArg (fun c : SlotCh => freedState c.ds) (slotFree_true_b (s := s.upTo t))))
  · intro t d rest s hl hb hh hr
    obtain ⟨s', he, hs⟩ := act_of t s (fun s => whenLive s (fun s => s.fifoMove 4)) (whenLive_live (s := s.upTo t) hl _)
    exact ⟨s', he, (hs.same (·.fifos)).trans (fifoMove_four (s := s.upTo t) hb hh hr)⟩

end Sys2Proof.Machine
end

section
/-!
PROOF. The link layer (O23): the order in which a port sends, and what becomes of the frames that wait for their acknowledgement.
-/
namespace Sys2Proof.Machine

theorem modYport_yport_same (s : State) {p : Nat} (f : YPort → YPort) (hp : p < s.yard.ports.length) :
    (s.modYport p f).yport p = f (s.yport p) := nth_updAt_same _ _ _ _ hp

theorem modYport_length (s : State) (p : Nat) (f : YPort → YPort) : (s.modYport p f).yard.ports.length = s.yard.ports.length :=
  updAt_length _ _ _

section
variable {s : State} {p : Nat}

/-- With the spook controls off, what a port sends is what goes on the line. -/
theorem transmit_plain (hsp : s.spook.en = false) (w : Bool) (item : TxItem) :
    s.transmit p w item = s.modYport p (fun y => { y with sent := some item }) := by
  have h : s.spooked p w item = (s, some item) := if_pos (by simp [hsp])
  unfold State.transmit
  rw [h]

/-! ## The next item of a port -/

section
variable (ho : s.portOn p = true)
include ho

theorem linkSend_whistle {w : List Byte × Bool} {rest : List (List Byte × Bool)} (hq : (s.yport p).qw = w :: rest)
    (ht : (s.yport p).lineTill ≤ s.now) : s.linkSend p = (s.modYport p (fun y => { y with
      qw := rest, lineTill := s.now + lineNs w.1.length, onLine := none })).transmit p true (.whistle w.1 w.2) := by
  unfold State.linkSend
  dsimp only
  have hb : decide (s.now < (s.yport p).lineTill) = false := decide_eq_false (by omega)
  rw [if_neg (by simp [ho, hb]), hq, hb]
  rfl

theorem linkSend_whistle_aborts {w : List Byte × Bool} {rest : List (List Byte × Bool)} {l : Bool × List Byte}
    (hq : (s.yport p).qw = w :: rest) (ht : s.now < (s.yport p).lineTill) (hl : (s.yport p).onLine = some l) :
    s.linkSend p = ((s.abortLine p).modYport p (fun y => { y with
      qw := rest, lineTill := s.now + lineNs w.1.length, onLine := none })).transmit p true (.whistle w.1 w.2) := by
  unfold State.linkSend
  dsimp only
  have hb : decide (s.now < (s.yport p).lineTill) = true := decide_eq_true ht
  rw [if_neg (by simp [ho, hb, hl]), hq, hb]
  rfl

theorem linkSend_ack {a : Nat} {rest : List Nat} (hq : (s.yport p).qw = []) (ha : (s.yport p).qa = a :: rest)
    (ht : (s.yport p).lineTill ≤ s.now) : s.linkSend p = s.modYport p (fun y => { y with
      qa := rest, sent := some (.ack a), lineTill := s.now + 120, onLine := none }) := by
  unfold State.linkSend
  dsimp only
  have hb : decide (s.now < (s.yport p).lineTill) = false := decide_eq_false (by omega)
  rw [if_neg (by simp [ho, hb]), hq, ha, hb]
  rfl

theorem linkSend_frame (hq : (s.yport p).qw = []) (ha : (s.yport p).qa = []) (ht : (s.yport p).lineTill ≤ s.now) :
    s.linkSend p = s.nextFrame p := by
  unfold State.linkSend
  dsimp only
  have hb : decide (s.now < (s.yport p).lineTill) = false := decide_eq_false (by omega)
  rw [if_neg (by simp [ho, hb]), hq, ha, hb]
  rfl

end

theorem nextFrame_time {f : List Byte} {rest : List (List Byte)} (hq : (s.yport p).qt = f :: rest) :
    s.nextFrame p = (s.modYport p (fun y => { y with qt := rest })).sendTime p f := by
  unfold State.nextFrame
  dsimp only
  rw [hq]

theorem nextFrame_safety {f : List Byte} {rest : List (List Byte)} (hq : (s.yport p).qt = []) (hr : (s.yport p).redo = none)
    (hg : (s.yport p).again = []) (hu : (s.yport p).unack.length < 8) (hs : (s.yport p).qs = f :: rest) :
    s.nextFrame p = (s.modYport p (fun y => { y with qs := rest })).sendSeq p f := by
  unfold State.nextFrame
  dsimp only
  rw [hq, hr, hg, decide_eq_true hu, hs]

/-! ## What goes out -/

/-- The time stamp of a time frame as it leaves. -/
def State.stamp (s : State) (f : List Byte) : List Byte :=
  if byteAt f 8 = 3 then f else f.take 16 ++ toBytes 8 s.ytime ++ f.drop 24

theorem sendTime_yport (hsp : s.spook.en = false) (hp : p < s.yard.ports.length) (f : List Byte) :
    (s.sendTime p f).yport p = { s.yport p with
      lineTill := s.now + lineNs f.length, onLine := some (false, f), sent := some (.frame (sealFrame 0 false (s.stamp f))) } := by
  have hx : ∀ x : State, x.spook = s.spook → x.yard.ports = s.yard.ports → x.now = s.now →
      ((x.takeLine p false f).transmit p false (.frame (sealFrame 0 x.spook.en (s.stamp f)))).yport p = { s.yport p with
        lineTill := s.now + lineNs f.length, onLine := some (false, f), sent := some (.frame (sealFrame 0 false (s.stamp f))) } := by
    intro x hsx hpx hnx
    have hen : x.spook.en = false := by rw [hsx, hsp]
    have hlen : p < x.yard.ports.length := by rwa [hpx]
    have hyx : x.yport p = s.yport p := congrArg (fun l => nth ({} : YPort) l p) hpx
    rw [transmit_plain (s := x.takeLine p false f) hen, modYport_yport_same (x.takeLine p false f) _ ((modYport_length _ _ _).symm ▸ hlen),
      State.takeLine, modYport_yport_same _ _ hlen, hyx, hnx, hen]
  unfold State.sendTime
  dsimp only
  split
  · exact hx _ rfl rfl rfl
  · exact hx _ rfl rfl rfl

theorem sendSeq_yport (hsp : s.spook.en = false) (hp : p < s.yard.ports.length) (f : List Byte) :
    (s.sendSeq p f).yport p = { s.yport p with
      lseq := ((s.yport p).lseq + 1) % 256
      unack := (s.yport p).unack ++ [{ bytes := sealFrame (s.yport p).lseq false f, attempts := 1
                                       sentAt := s.now + lineNs (sealFrame (s.yport p).lseq false f).length }]
      lineTill := s.now + lineNs (sealFrame (s.yport p).lseq false f).length
      onLine := some (true, sealFrame (s.yport p).lseq false f)
      sent := some (.frame (sealFrame (s.yport p).lseq false f)) } := by
  unfold State.sendSeq State.sentAt
  dsimp only
  rw [hsp, transmit_plain (by exact hsp), modYport_yport_same _ _ (by rw [State.takeLine, modYport_length, modYport_length]; exact hp),
    State.takeLine, modYport_yport_same _ _ ((modYport_length _ _ _).symm ▸ hp), modYport_yport_same _ _ hp]
  rfl

theorem sendSeq_now (hsp : s.spook.en = false) (f : List Byte) : (s.sendSeq p f).now = s.now := by
  unfold State.sendSeq
  dsimp only
  rw [transmit_plain (by exact hsp)]
  rfl

/-! ## Acknowledgements -/

theorem ackSet_good (hp : p < s.yard.ports.length) (n : Byte) :
    ((s.ackSet p n (~~~ n)).yport p).unack = ackFrames n.toNat (s.yport p).unack ∧
    ((s.ackSet p n (~~~ n)).yport p).err = (s.yport p).err := by
  unfold State.ackSet
  rw [if_neg (by simp), modYport_yport_same _ _ hp]
  exact ⟨rfl, rfl⟩

theorem ackSet_bad {n c : Byte} (h : c ≠ ~~~ n) : s.ackSet p n c = s.linkDiscard p := if_pos (by simpa using h)

section
variable {u : Unack} {rest : List Unack} (hu : (s.yport p).unack = u :: rest) (hg : (s.yport p).again = [])
  (ht : u.sentAt + 12 * us ≤ s.now)
include hu hg ht

theorem ackLate_again (h4 : u.attempts < 4) : s.ackLate p = s.modYport p (fun y => { y with again := y.unack }) := by
  unfold State.ackLate
  dsimp only
  rw [hu, hg]
  dsimp only
  rw [if_pos (by simpa using ht), if_neg (by omega)]

theorem ackLate_down (h4 : 4 ≤ u.attempts) : s.ackLate p = s.portDown p := by
  unfold State.ackLate
  dsimp only
  rw [hu, hg]
  dsimp only
  rw [if_pos (by simpa using ht), if_pos h4]

end

end

/-- A LINK_FRAME_SEND of a live part. -/
theorem linkFrameSend_of {t : Nat} {p : Fin 3} {s u : State} (hl : s.live = true) (h : (s.upTo t).linkSend p = u) :
    ∃ s', exec (.linkFrameSend t p) s = .next s' ∧ After u s' :=
  act_of t s (fun s => whenLive s fun s => s.linkSend p) ((whenLive_live (s := s.upTo t) hl _).trans h)

/-- Settles O23, item by item of a port and acknowledgement by acknowledgement. -/
theorem linkLayer : Obligations.LinkLayer := by
  refine ⟨?_, ?_, ?_, ?_, ?_, ?_, ?_, ?_, ?_, ?_⟩
  · intro t p w rest s hl ho hsp hq ht
    obtain ⟨s', he, hs⟩ := linkFrameSend_of hl ((linkSend_whistle (s := s.upTo t) ho hq (le_upTo s ht)).trans (transmit_plain (by exact hsp) _ _))
    have hn : s'.now = (s.upTo t).now := hs.same (·.now)
    refine ⟨s', he, (hs.same (·.yard.ports)).trans ?_⟩
    rw [hn]
    exact updAt_updAt _ _ _ _
  · intro t p w rest l s hl ho hsp hq ht hon
    obtain ⟨s', he, hs⟩ := linkFrameSend_of hl ((linkSend_whistle_aborts (s := s.upTo t) ho hq ht hon).trans (transmit_plain (by exact hsp) _ _))
    have hn : s'.now = (s.upTo t).now := hs.same (·.now)
    refine ⟨s', he, (hs.same (·.yard.ports)).trans ?_⟩
    rw [hn]
    refine (updAt_updAt _ _ _ _).trans ((updAt_updAt _ _ _ _).trans (updAt_congr {} ?_))
    have hon' : (nth {} (s.upTo t).yard.ports p).onLine = some (true, l) := hon
    rw [hon']
  · intro t p a rest s hl ho hq ha ht
    obtain ⟨s', he, hs⟩ := linkFrameSend_of hl (linkSend_ack (s := s.upTo t) ho hq ha (le_upTo s ht))
    have hn : s'.now = (s.upTo t).now := hs.same (·.now)
    refine ⟨s', he, (hs.same (·.yard.ports)).trans ?_⟩
    rw [hn]
    rfl
  · intro t p f rest s hl ho hsp ht hq ha hf hp
    obtain ⟨s', he, hs⟩ := linkFrameSend_of hl ((linkSend_frame (s := s.upTo t) ho hq ha (le_upTo s ht)).trans (nextFrame_time hf))
    have hy := (hs.same (·.yport p)).trans (sendTime_yport (s := (s.upTo t).modYport p (fun y => { y with qt := rest })) hsp
      ((modYport_length _ _ _).symm ▸ hp) f)
    rw [modYport_yport_same _ _ (by exact hp)] at hy
    exact ⟨s', he, by rw [hy], by rw [hy]; rfl, by rw [hy]; rfl⟩
  · intro t p f rest s hl ho hsp ht hq ha hqt hr hg hu hf hp
    obtain ⟨s', he, hs⟩ := linkFrameSend_of hl ((linkSend_frame (s := s.upTo t) ho hq ha (le_upTo s ht)).trans
      (nextFrame_safety hqt hr hg hu hf))
    have hn : s'.now = (s.upTo t).now := (hs.same (·.now)).trans (sendSeq_now (by exact hsp) f)
    have hy := (hs.same (·.yport p)).trans (sendSeq_yport (s := (s.upTo t).modYport p (fun y => { y with qs := rest })) hsp
      ((modYport_length _ _ _).symm ▸ hp) f)
    rw [modYport_yport_same _ _ (by exact hp)] at hy
    refine ⟨s', he, by rw [hy], by rw [hy]; rfl, by rw [hy]; rfl, by rw [hy, hn]; rfl⟩
  · intro t p n s hl hup hp
    obtain ⟨s', he, hs⟩ := act_of t s (fun s => whenLive s fun s => if (s.yport p).up then s.ackSet p n (~~~ n) else s)
      ((whenLive_live (s := s.upTo t) hl _).trans (if_pos hup))
    obtain ⟨h1, h2⟩ := ackSet_good (s := s.upTo t) hp n
    exact ⟨s', he, (hs.same (fun s => (s.yport p).unack)).trans h1, (hs.same (fun s => (s.yport p).err)).trans h2⟩
  · intro t p n c s hl hup hc
    obtain ⟨s', he, hs⟩ := act_of t s (fun s => whenLive s fun s => if (s.yport p).up then s.ackSet p n c else s)
      ((whenLive_live (s := s.upTo t) hl _).trans ((if_pos hup).trans (ackSet_bad hc)))
    exact ⟨s', he, hs.same (·.yard.ports)⟩
  · intro t p u rest s hl hu hg ht h4
    obtain ⟨s', he, hs⟩ := act_of t s (fun s => whenLive s fun s => s.ackLate p)
      ((whenLive_live (s := s.upTo t) hl _).trans (ackLate_again (s := s.upTo t) hu hg (le_upTo s ht) h4))
    refine ⟨s', he, (hs.same (·.yard.ports)).trans (updAt_congr {} ?_)⟩
    have hu' : (nth {} (s.upTo t).yard.ports p).unack = u :: rest := hu
    rw [hu']
  · intro t p u rest s hl hu hg ht h4
    obtain ⟨s', he, hs⟩ := act_of t s (fun s => whenLive s fun s => s.ackLate p)
      ((whenLive_live (s := s.upTo t) hl _).trans (ackLate_down (s := s.upTo t) hu hg (le_upTo s ht) h4))
    have hk := of_keep (State.err_keep ((s.upTo t).modYport p (fun y => { y.drop with downs := sat8 y.downs })) .yardLink p)
      (·.yard.ports) fun _ => rfl
    exact ⟨s', he, (hs.same (·.yard.ports)).trans hk, hs.err_latched⟩
  · intro t p s hl ho
    obtain ⟨s', he, hs⟩ := act_of t s (fun s => whenLive s fun s => if (s.yport p).on then s.linkDiscard p else s)
      ((whenLive_live (s := s.upTo t) hl _).trans (if_pos ho))
    exact ⟨s', he, hs.same (·.yard.ports)⟩

end Sys2Proof.Machine
end

section
/-!
PROOF. Sequenced frames (O24): a frame with the expected LSEQ is taken, queued where it goes on, and handed to what waits for it. A
frame is queued on each port once; what its delivery does is nothing of the ports.
-/
namespace Sys2Proof.Machine

/-! ## Queues of several ports -/

/-- An update of each of some ports, each once. -/
theorem foldl_modYport {f : YPort → YPort} : ∀ {l : List Nat} (s : State) (q : Nat), l.Nodup → (∀ i ∈ l, i < s.yard.ports.length) →
    (l.foldl (fun s i => s.modYport i f) s).yport q = if q ∈ l then f (s.yport q) else s.yport q
  | [], _, _, _, _ => rfl
  | i :: l, s, q, hd, hb => by
    obtain ⟨hi, hd⟩ := List.nodup_cons.1 hd
    obtain ⟨hb0, hb⟩ := List.forall_mem_cons.1 hb
    rw [List.foldl_cons, foldl_modYport (s.modYport i f) q hd (by rwa [modYport_length])]
    by_cases hq : q = i
    · subst hq
      rw [if_neg hi, if_pos List.mem_cons_self, modYport_yport_same _ _ hb0]
    · have hne : (s.modYport i f).yport q = s.yport q := nth_updAt_other _ _ _ _ _ hq
      simp only [hne, List.mem_cons, hq, false_or]

theorem yport_up_lt {s : State} {q : Nat} (h : (s.yport q).up = true) : q < s.yard.ports.length := by
  refine Decidable.byContradiction fun hq => ?_
  have hd : ∀ (l : List YPort) (q : Nat), l.length ≤ q → nth {} l q = {} := by
    intro l
    induction l with
    | nil => exact fun _ _ => rfl
    | cons _ l ih =>
      rintro (_ | q) hlen
      · exact absurd hlen (by simp)
      · exact ih q (by simpa using hlen)
  rw [State.yport, hd _ _ (by omega)] at h
  exact Bool.false_ne_true h

theorem ports_nodup (s : State) (b : Bool) (dst : Nat) (arr : Option Nat) : (s.ports b dst arr).Nodup := by
  unfold State.ports
  dsimp only
  refine List.Pairwise.filter _ ?_
  repeat' split
  · exact List.Pairwise.filter _ (by decide)
  all_goals decide

theorem ports_lt {s : State} {b : Bool} {dst : Nat} {arr : Option Nat} {q : Nat} (h : q ∈ s.ports b dst arr) : q < s.yard.ports.length :=
  yport_up_lt (List.mem_filter.1 h).2

/-- A frame on the queue it belongs to. -/
def YPort.queued (f : LinkFrame) (y : YPort) : YPort :=
  if f.typ = typSafety then { y with qs := y.qs ++ [f.bytes] } else { y with qm := y.qm ++ [f.bytes] }

theorem queue_yport (s : State) (arr : Option Nat) (f : LinkFrame) (q : Nat) :
    (s.queue arr f).yport q = if q ∈ s.ports f.bcast f.dst arr then (s.yport q).queued f else s.yport q :=
  foldl_modYport (f := YPort.queued f) s q (ports_nodup _ _ _ _) fun _ => ports_lt

/-- Nothing but the ports changes as a frame is queued. -/
theorem queue_same {β : Type} (g : State → β) (h : ∀ (s : State) (p : Nat) (f : YPort → YPort), g (s.modYport p f) = g s)
    (s : State) (arr : Option Nat) (f : LinkFrame) : g (s.queue arr f) = g s :=
  foldl_same g _ (fun _ _ => h _ _ _) _ _

/-! ## What delivery leaves -/

/-- The state without the connections. -/
def State.offConns (s : State) : State := { s.keep with yard := { s.keep.yard with conns := [], remote := [] } }

theorem of_offConns {s u : State} (h : u.offConns = s.offConns) {β : Type} (g : State → β) (hg : ∀ x : State, g x.offConns = g x) :
    g u = g s := (hg u).symm.trans ((congrArg g h).trans (hg s))

theorem err_offConns (s : State) (src : Src) (d : Nat) : (s.err src d).offConns = s.offConns :=
  congrArg (fun x : State => { x with yard := { x.yard with conns := [], remote := [] } }) (State.err_keep s src d)

theorem connEnter_offConns (s : State) (i : Nat) (isA : Bool) (d : DState) : (s.connEnter i isA d).offConns = s.offConns := by
  have hr : ∀ (b : Bool) (x : State), (if b then x.err .yardWdog i else x).offConns = x.offConns := fun b x => by
    cases b
    · rfl
    · exact err_offConns _ _ _
  cases d
  case lost => exact hr _ _
  case quarantined => exact hr _ _
  all_goals rfl

theorem connTake_offConns (s : State) (i : Nat) (isA : Bool) (f : SFrame) : (s.connTake i isA f).offConns = s.offConns := by
  have hl : ∀ (b : Bool) (x : State), ((if b then x.connEnter i isA .live else x).yardRemotes i).offConns = x.offConns := fun b x => by
    cases b
    · rfl
    · exact connEnter_offConns x i isA .live
  unfold State.connTake
  dsimp only
  split
  · rfl
  split
  · exact err_offConns _ _ _
  · exact (hl _ _).trans rfl

theorem connDue_offConns (s : State) (i : Nat) (isA : Bool) : (s.connDue i isA).offConns = s.offConns :=
  (foldl_same State.offConns _ (fun _ _ => connTake_offConns _ _ _ _) _ _).trans rfl

theorem connPre_offConns (s : State) (i : Nat) (isA bcast : Bool) (l : List Byte) (arr : Nat) :
    (s.connPre i isA bcast l arr).offConns = s.offConns := by
  unfold State.connPre
  dsimp only
  split
  · rfl
  split
  · split
    · exact (connEnter_offConns _ _ _ _).trans ((err_offConns _ _ _).trans rfl)
    · exact (err_offConns _ _ _).trans rfl
  · rfl

/-- Channel B's checker has the frame. -/
def State.checked2 (s : State) (fr : LinkFrame) : State :=
  match s.consumeIdx (pConnid fr.payload) with
  | some i => (s.connPre i false fr.bcast fr.payload s.ytime).connDue i false
  | none => s

theorem checked2_offConns (s : State) (fr : LinkFrame) : (s.checked2 fr).offConns = s.offConns := by
  unfold State.checked2
  split
  · exact (connDue_offConns _ _ _).trans (connPre_offConns _ _ _ _ _ _)
  · rfl

theorem deliverSafety_eq (s : State) (p : Nat) (fr : LinkFrame) :
    s.deliverSafety p fr = (s.checked2 fr).fifoPush 4 (.safety (2 * p + flag fr.bcast) fr.payload (s.checked2 fr).ytime) := rfl

theorem deliverSafety_ports (s : State) (p : Nat) (fr : LinkFrame) : (s.deliverSafety p fr).yard.ports = s.yard.ports :=
  of_offConns (checked2_offConns s fr) (·.yard.ports) fun _ => rfl

theorem deliverSafety_fifos (s : State) (p : Nat) (fr : LinkFrame) :
    (s.deliverSafety p fr).fifos = (s.fifoPush 4 (.safety (2 * p + flag fr.bcast) fr.payload s.ytime)).fifos :=
  of_offConns (checked2_offConns s fr) (fun s => (s.fifoPush 4 (.safety (2 * p + flag fr.bcast) fr.payload s.ytime)).fifos) fun _ => rfl

theorem openIn_ports (s : State) (l : List Byte) : (s.openIn l).yard.ports = s.yard.ports := by
  unfold State.openIn
  split
  · dsimp only
    split <;> rfl
  · rfl

theorem State.alert_ports (s : State) (n : Nat) : (s.alert n).yard.ports = s.yard.ports := by
  unfold State.alert
  split <;> rfl

theorem drainMgmt_ports (s : State) : s.drainMgmt.yard.ports = s.yard.ports := by
  unfold State.drainMgmt
  split
  · refine foldl_same (·.yard.ports) _ (fun s d => ?_) _ _
    split
    · dsimp only
      split
      · exact State.alert_ports _ _
      · rfl
    · rfl
  · rfl

/-! ## A sequenced frame is taken -/

/-- A frame of a port has been accepted: it is to be acknowledged. `b`: YARD.STATUS[10] as it is then. -/
def State.seqTaken (s : State) (p : Nat) (fr : LinkFrame) (b : Bool) : State :=
  ({ s with yard := { s.yard with upPert := b } }).modYport p (fun y => { y with lexp := (y.lexp + 1) % 256, qa := y.qa ++ [fr.lseq] })

theorem receive_good {s : State} {p : Nat} {l : List Byte} {fr : LinkFrame} (f : State → LinkFrame → State) (hl : s.live = true)
    (ho : s.portOn p = true) (hp : parseLink l = some fr) (hr : fr.reservedSet = false) :
    ∃ b, s.receive p l f = f { s with yard := { s.yard with upPert := b } } fr := by
  unfold State.receive
  rw [if_neg (by simp [hl, ho]), hp]
  dsimp only
  rw [hr]
  by_cases h : p = 0
  · exact ⟨_, by rw [if_pos h]; rfl⟩
  · exact ⟨s.yard.upPert, by rw [if_neg h]; rfl⟩

theorem sequenced_good {s : State} {p : Nat} {fr : LinkFrame} (b : Bool) (f : State → State) (hup : (s.yport p).up = true)
    (hx : (s.yport p).lexp = fr.lseq) :
    ({ s with yard := { s.yard with upPert := b } } : State).sequenced p fr f = f (s.seqTaken p fr b) :=
  if_pos (by simpa using ⟨hup, hx⟩)

section
variable {s : State} {p : Nat} {fr : LinkFrame} {b : Bool}

theorem seqTaken_own (hp : p < s.yard.ports.length) : (s.seqTaken p fr b).yport p =
    { s.yport p with lexp := ((s.yport p).lexp + 1) % 256, qa := (s.yport p).qa ++ [fr.lseq] } := modYport_yport_same _ _ hp

theorem seqTaken_keeps {β : Type} (g : YPort → β) (h : ∀ (y : YPort) (n : Nat) (l : List Nat), g { y with lexp := n, qa := l } = g y) (q : Nat) :
    g ((s.seqTaken p fr b).yport q) = g (s.yport q) := nth_updAt_keeps _ g (fun _ => h _ _ _) _ _ _

theorem seqTaken_ports (bc : Bool) (dst : Nat) (arr : Option Nat) : (s.seqTaken p fr b).ports bc dst arr = s.ports bc dst arr := by
  have hup : ∀ q, ((s.seqTaken p fr b).yport q).up = (s.yport q).up := seqTaken_keeps YPort.up fun _ _ _ => rfl
  have hr : ∀ q seg, (s.seqTaken p fr b).routes q seg = s.routes q seg := fun q seg => by
    unfold State.routes
    rw [seqTaken_keeps YPort.route fun _ _ _ => rfl]
  unfold State.ports
  simp only [hup, hr]
  rfl

/-- The ports once an accepted frame is on its way. -/
theorem seqQueued_yport (q : Nat) : ((s.seqTaken p fr b).queue (some p) fr).yport q =
    if q ∈ s.ports fr.bcast fr.dst (some p) then ((s.seqTaken p fr b).yport q).queued fr else (s.seqTaken p fr b).yport q := by
  rw [queue_yport, seqTaken_ports]

/-- The acknowledgement of an accepted frame. -/
theorem seqQueued_acks (hp : p < s.yard.ports.length) (hx : (s.yport p).lexp = fr.lseq) :
    (((s.seqTaken p fr b).queue (some p) fr).yport p).lexp = (fr.lseq + 1) % 256 ∧
    (((s.seqTaken p fr b).queue (some p) fr).yport p).qa = (s.yport p).qa ++ [fr.lseq] := by
  have hq : ∀ y : YPort, (y.queued fr).lexp = y.lexp ∧ (y.queued fr).qa = y.qa := fun y => by
    unfold YPort.queued
    split <;> exact ⟨rfl, rfl⟩
  rw [seqQueued_yport]
  split
  · rw [(hq _).1, (hq _).2, seqTaken_own hp, hx]
    exact ⟨rfl, rfl⟩
  · rw [seqTaken_own hp, hx]
    exact ⟨rfl, rfl⟩

theorem seqQueued_safety (ht : fr.typ = typSafety) {q : Nat} (hq : q ∈ s.ports fr.bcast fr.dst (some p)) :
    (((s.seqTaken p fr b).queue (some p) fr).yport q).qs = (s.yport q).qs ++ [fr.bytes] := by
  rw [seqQueued_yport, if_pos hq, YPort.queued, if_pos ht]
  exact congrArg (· ++ _) (seqTaken_keeps YPort.qs (fun _ _ _ => rfl) q)

theorem seqQueued_mgmt (ht : fr.typ ≠ typSafety) {q : Nat} (hq : q ∈ s.ports fr.bcast fr.dst (some p)) :
    (((s.seqTaken p fr b).queue (some p) fr).yport q).qm = (s.yport q).qm ++ [fr.bytes] := by
  rw [seqQueued_yport, if_pos hq, YPort.queued, if_neg ht]
  exact congrArg (· ++ _) (seqTaken_keeps YPort.qm (fun _ _ _ => rfl) q)

/-- Nothing but the ports and YARD.STATUS[10] changes. -/
theorem seqQueued_same {β : Type} (g : State → β) (h : ∀ (s : State) (l : List YPort) (b : Bool),
    g { s with yard := { s.yard with ports := l, upPert := b } } = g s) : g ((s.seqTaken p fr b).queue (some p) fr) = g s :=
  (queue_same g (fun s p f => h s (updAt f s.yard.ports p) s.yard.upPert) _ _ _).trans (h s _ _)

end

/-! ## The three kinds of sequenced frames -/

/-- An accepted frame is on its way. -/
def State.seqQueued (s : State) (p : Nat) (fr : LinkFrame) (b : Bool) : State := (s.seqTaken p fr b).queue (some p) fr

section
variable {s : State} {p : Nat} {l : List Byte} {fr : LinkFrame}

section
variable (hl : s.live = true) (ho : s.portOn p = true) (hp : parseLink l = some fr) (hup : (s.yport p).up = true)
  (hx : (s.yport p).lexp = fr.lseq)
include hl ho hp hup hx

theorem receive_sequenced (c : LinkFrame → Prop) [DecidablePred c] (f : LinkFrame → State → State)
    (hr : fr.reservedSet = false) (hc : c fr) :
    ∃ b, s.receive p l (fun s fr => if c fr then s.sequenced p fr (f fr) else s) = f fr (s.seqTaken p fr b) := by
  obtain ⟨b, hb⟩ := receive_good (fun s fr => if c fr then s.sequenced p fr (f fr) else s) hl ho hp hr
  exact ⟨b, hb.trans ((if_pos hc).trans (sequenced_good b (f fr) hup hx))⟩

theorem safetyData_takes (ht : fr.typ = typSafety) (hk : byteAt fr.payload 0 ≠ kindOpen) : ∃ b, s.safetyData p l =
    if (s.seqQueued p fr b).forUs fr then (s.seqQueued p fr b).deliverSafety p fr else s.seqQueued p fr b :=
  receive_sequenced hl ho hp hup hx (fun fr => fr.typ = typSafety && byteAt fr.payload 0 != kindOpen)
    (fun fr s => if (s.queue (some p) fr).forUs fr then (s.queue (some p) fr).deliverSafety p fr else s.queue (some p) fr)
    (by simp [LinkFrame.reservedSet, ht, typSafety, typTime, typHello]) (by simp [ht, hk])

theorem safetyOpen_takes (ht : fr.typ = typSafety) (hk : byteAt fr.payload 0 = kindOpen) : ∃ b, s.safetyOpen p l =
    if (s.seqQueued p fr b).forUs fr then (s.seqQueued p fr b).openIn fr.payload else s.seqQueued p fr b :=
  receive_sequenced hl ho hp hup hx (fun fr => fr.typ = typSafety && byteAt fr.payload 0 == kindOpen)
    (fun fr s => if (s.queue (some p) fr).forUs fr then (s.queue (some p) fr).openIn fr.payload else s.queue (some p) fr)
    (by simp [LinkFrame.reservedSet, ht, typSafety, typTime, typHello]) (by simp [ht, hk])

theorem mgmtFrame_takes (ht : fr.typ = typMgmt) : ∃ b, s.mgmtFrame p l =
    if (s.seqQueued p fr b).forUs fr || (s.seqQueued p fr b).forCollar fr then
      ((s.seqQueued p fr b).fifoPush 6 (.mgmt fr.src fr.payload)).drainMgmt else s.seqQueued p fr b :=
  receive_sequenced hl ho hp hup hx (fun fr => fr.typ = typMgmt)
    (fun fr s => if (s.queue (some p) fr).forUs fr || (s.queue (some p) fr).forCollar fr then
      ((s.queue (some p) fr).fifoPush 6 (.mgmt fr.src fr.payload)).drainMgmt else s.queue (some p) fr)
    (by simp [LinkFrame.reservedSet, ht, typMgmt, typTime, typHello]) (by simp [ht])

end

/-- What the next holder of a frame does is nothing of the ports. -/
theorem ite_ports {b : Bool} {x y : State} (h : x.yard.ports = y.yard.ports) : (if b then x else y).yard.ports = y.yard.ports := by
  cases b
  · rfl
  · exact h

theorem yport_of {x y : State} (h : x.yard.ports = y.yard.ports) (q : Nat) : x.yport q = y.yport q :=
  congrArg (fun l => nth ({} : YPort) l q) h

/-- The OPEN of a consumer of connection `i`: the nonce waits for its echo. -/
theorem openIn_echoes {i : Nat} (hi : s.produceIdx (pConnid l) = some i) (hn : i < s.yard.conns.length) (h28 : l.length = 28)
    (h22 : byteAt l 22 = 0) (h23 : byteAt l 23 = 0) (hf : pSflags l < 4) (hd : pDst l = s.yard.node) (h0 : pSeq l ≠ 0)
    (hsrc : (s.conn i).bcast = true ∨ pSrc l = (s.conn i).peer) (hc : scrcOk (s.conn i).ctag l = true) :
    ((s.openIn l).conn i).echoes = (s.conn i).echoes ++ [(pSeq l, pSrc l)] := by
  unfold State.openIn
  rw [hi]
  dsimp only
  rw [if_pos (by simpa [h28, h22, h23, hf, hd, h0, hc] using hsrc), modConn_conn_same _ hn]

/-- The loft takes the one management frame that waits. -/
theorem drainMgmt_one {src : Nat} (hl : s.img.loft = true) (hq : (s.fifo 6).q = [.mgmt src l]) (hm : s.yard.mrecv.length < 16) :
    s.drainMgmt.yard.mrecv = s.yard.mrecv ++ [(src, l)] := by
  have ha : ∀ (x : State) (n : Nat), (x.alert n).yard.mrecv = x.yard.mrecv := fun x n => by
    unfold State.alert
    split <;> rfl
  unfold State.drainMgmt
  rw [if_pos hl, hq, List.foldl_cons, List.foldl_nil]
  dsimp only
  have hm' : ((s.fifoTake 6).mgmtView src).yard.mrecv.length < 16 := hm
  rw [if_pos hm', ha]
  rfl

theorem fifoPush_empty {n : Nat} (d : Datum) (hn : n < s.fifos.length) (hb : (s.backP n).1 = 0) (hq : (s.fifo n).q = [])
    (hh : (s.fifo n).held = []) (hd : 0 < fifoDepth n) : ((s.fifoPush n d).fifo n).q = [d] := by
  unfold State.fifoPush State.modFifo State.fifo
  dsimp only
  rw [nth_updAt_same _ _ _ _ hn]
  have hq : (nth {} s.fifos n).q = [] := hq
  have hh : (nth {} s.fifos n).held = [] := hh
  rw [if_neg (by simp [hb, hh, hq]; omega), hq]
  rfl

end

/-- Settles O24: the frame is accepted and queued whatever its kind, and its delivery changes no port. -/
theorem sequencedFrames : Obligations.SequencedFrames := by
  refine ⟨?_, ?_, ?_, ?_, ?_⟩
  · intro t p l fr s hl ho hp ht hk hup hx hlen
    obtain ⟨b, hb⟩ := safetyData_takes (s := s.upTo t) hl ho hp hup hx ht hk
    obtain ⟨s', he, hs⟩ := act_of t s (fun s => s.safetyData p l) hb
    have hy := yport_of ((hs.same (·.yard.ports)).trans (ite_ports (deliverSafety_ports _ _ _)))
    obtain ⟨hxp, hqa⟩ := seqQueued_acks (s := s.upTo t) (b := b) hlen hx
    refine ⟨s', he, by rw [hy]; exact hxp, by rw [hy]; exact hqa, fun q hq => by rw [hy]; exact seqQueued_safety (s := s.upTo t) ht hq, ?_⟩
    have hfor : ((s.upTo t).seqQueued p fr b).forUs fr = s.forUs fr := seqQueued_same (s := s.upTo t) (·.forUs fr) fun _ _ _ => rfl
    refine (hs.same (·.fifos)).trans ?_
    rw [hfor]
    split
    · exact (deliverSafety_fifos _ _ _).trans (seqQueued_same (s := s.upTo t)
        (fun s => (s.fifoPush 4 (.safety (2 * p + flag fr.bcast) fr.payload s.ytime)).fifos) fun _ _ _ => rfl)
    · exact seqQueued_same (s := s.upTo t) (·.fifos) fun _ _ _ => rfl
  · intro t p l fr s hl ho hp ht hk hup hx hlen
    obtain ⟨b, hb⟩ := safetyOpen_takes (s := s.upTo t) hl ho hp hup hx ht hk
    obtain ⟨s', he, hs⟩ := act_of t s (fun s => s.safetyOpen p l) hb
    have hy := yport_of ((hs.same (·.yard.ports)).trans (ite_ports (openIn_ports _ _)))
    obtain ⟨hxp, hqa⟩ := seqQueued_acks (s := s.upTo t) (b := b) hlen hx
    exact ⟨s', he, by rw [hy]; exact hxp, by rw [hy]; exact hqa, fun q hq => by rw [hy]; exact seqQueued_safety (s := s.upTo t) ht hq⟩
  · intro t i p l fr s hl ho hp ht hk hup hx hus hi hn h28 h22 h23 hf hd h0 hsrc hc
    obtain ⟨b, hb⟩ := safetyOpen_takes (s := s.upTo t) hl ho hp hup hx ht hk
    have hsame : ∀ {β : Type} (g : State → β), (∀ (s : State) (l : List YPort) (b : Bool),
        g { s with yard := { s.yard with ports := l, upPert := b } } = g s) → g ((s.upTo t).seqQueued p fr b) = g (s.upTo t) :=
      fun g h => seqQueued_same g h
    have hc' : ((s.upTo t).seqQueued p fr b).yard.conns = s.yard.conns := hsame (·.yard.conns) fun _ _ _ => rfl
    have hci : ((s.upTo t).seqQueued p fr b).conn i = s.conn i := congrArg (fun l => nth ({} : Conn) l i) hc'
    rw [if_pos ((hsame (·.forUs fr) fun _ _ _ => rfl).trans hus)] at hb
    obtain ⟨s', he, hs⟩ := act_of t s (fun s => s.safetyOpen p l) hb
    refine ⟨s', he, (hs.same (fun s => (s.conn i).echoes)).trans ?_⟩
    rw [openIn_echoes ((hsame (·.produceIdx (pConnid fr.payload)) fun _ _ _ => rfl).trans hi) (by rwa [hc']) h28 h22 h23 hf
      (hd.trans (hsame (·.yard.node) fun _ _ _ => rfl).symm) h0 (by rwa [hci]) (by rwa [hci]), hci]
  · intro t p l fr s hl ho hp ht hup hx hlen
    obtain ⟨b, hb⟩ := mgmtFrame_takes (s := s.upTo t) hl ho hp hup hx ht
    obtain ⟨s', he, hs⟩ := act_of t s (fun s => s.mgmtFrame p l) hb
    have hy := yport_of ((hs.same (·.yard.ports)).trans (ite_ports (drainMgmt_ports _)))
    obtain ⟨hxp, hqa⟩ := seqQueued_acks (s := s.upTo t) (b := b) hlen hx
    refine ⟨s', he, by rw [hy]; exact hxp, by rw [hy]; exact hqa,
      fun q hq => by rw [hy]; exact seqQueued_mgmt (s := s.upTo t) (by rw [ht]; decide) hq, fun hloft => ?_⟩
    have hfor : (((s.upTo t).seqQueued p fr b).forUs fr || ((s.upTo t).seqQueued p fr b).forCollar fr) =
        (s.forUs fr || s.forCollar fr) := seqQueued_same (s := s.upTo t) (fun s => s.forUs fr || s.forCollar fr) fun _ _ _ => rfl
    have hno : ((s.upTo t).seqQueued p fr b).img.loft = false :=
      (seqQueued_same (s := s.upTo t) (·.img.loft) fun _ _ _ => rfl).trans hloft
    refine (hs.same (·.fifos)).trans ?_
    rw [hfor]
    split
    · rw [State.drainMgmt, if_neg (by exact ne_true_of_eq_false hno)]
      exact seqQueued_same (s := s.upTo t) (fun s => (s.fifoPush 6 (.mgmt fr.src fr.payload)).fifos) fun _ _ _ => rfl
    · exact seqQueued_same (s := s.upTo t) (·.fifos) fun _ _ _ => rfl
  · intro t p l fr s hl ho hp ht hup hx hus hloft h7 hq hh hb6 hm
    obtain ⟨b, hb⟩ := mgmtFrame_takes (s := s.upTo t) hl ho hp hup hx ht
    have hsame : ∀ {β : Type} (g : State → β), (∀ (s : State) (l : List YPort) (b : Bool),
        g { s with yard := { s.yard with ports := l, upPert := b } } = g s) → g ((s.upTo t).seqQueued p fr b) = g (s.upTo t) :=
      fun g h => seqQueued_same g h
    have hfor : (((s.upTo t).seqQueued p fr b).forUs fr || ((s.upTo t).seqQueued p fr b).forCollar fr) = true :=
      (hsame (fun s => s.forUs fr || s.forCollar fr) fun _ _ _ => rfl).trans (Bool.or_eq_true_iff.2 hus)
    rw [if_pos hfor] at hb
    obtain ⟨s', he, hs⟩ := act_of t s (fun s => s.mgmtFrame p l) hb
    refine ⟨s', he, (hs.same (·.yard.mrecv)).trans ?_⟩
    have hmr : ((s.upTo t).seqQueued p fr b).yard.mrecv = s.yard.mrecv := hsame (·.yard.mrecv) fun _ _ _ => rfl
    have hfq := fifoPush_empty (s := (s.upTo t).seqQueued p fr b) (n := 6) (.mgmt fr.src fr.payload)
      (by rw [hsame (·.fifos) fun _ _ _ => rfl]; exact h7) ((hsame (fun s => (s.backP 6).1) fun _ _ _ => rfl).trans hb6)
      ((hsame (fun s => (s.fifo 6).q) fun _ _ _ => rfl).trans hq) ((hsame (fun s => (s.fifo 6).held) fun _ _ _ => rfl).trans hh)
      (by decide)
    refine (drainMgmt_one (s := ((s.upTo t).seqQueued p fr b).fifoPush 6 _) ((hsame (·.img.loft) fun _ _ _ => rfl).trans hloft) hfq ?_).trans ?_
    · exact hmr.symm ▸ hm
    · exact congrArg (· ++ _) hmr

end Sys2Proof.Machine
end

section
/-!
PROOF. O25 fails. The neighbours of a safety connection are named by the 16 bits of DST; the record of a connection holds its peer as a
number, and the statement bounds it nowhere.
-/
namespace Sys2Proof.Machine

/-! ## Frames of this node -/

/-- The head of a frame. -/
theorem linkBytes_head (f : LinkFrame) : ∃ rest, f.bytes = BitVec.ofNat 8 f.typ :: BitVec.ofNat 8 (flag f.bcast + flag f.pert 1) ::
    BitVec.ofNat 8 (f.dst / 256) :: BitVec.ofNat 8 f.dst :: rest := ⟨_, rfl⟩

theorem linkBytes_typ (f : LinkFrame) : byteAt f.bytes 0 = f.typ % 256 := by
  obtain ⟨rest, h⟩ := linkBytes_head f
  rw [h]
  exact BitVec.toNat_ofNat _ _

theorem linkBytes_bcast (f : LinkFrame) : bit (byteAt f.bytes 1) 0 = f.bcast := by
  have hb : ∀ a b : Bool, bit (BitVec.ofNat 8 (flag a + flag b 1)).toNat 0 = a := by decide
  obtain ⟨rest, h⟩ := linkBytes_head f
  rw [h]
  exact hb _ _

theorem linkBytes_dst (f : LinkFrame) : beAt f.bytes 2 2 = f.dst % 65536 := by
  obtain ⟨rest, h⟩ := linkBytes_head f
  rw [h]
  simp only [beAt, List.drop_succ_cons, List.drop_zero, List.take_succ_cons, List.take_zero, ofBytes, List.foldl_cons, List.foldl_nil,
    BitVec.toNat_ofNat]
  omega

/-- What is parsed of a frame's bytes has the destination of its third and fourth byte, and the broadcast flag of its second. -/
theorem parseLink_dst {l : List Byte} {f : LinkFrame} (h : parseLink l = some f) : f.dst = beAt l 2 2 ∧ f.bcast = bit (byteAt l 1) 0 := by
  unfold parseLink at h
  split at h
  · cases h
    exact ⟨rfl, rfl⟩
  · cases h

/-- The one frame that a FIFO has for the ports is queued, or is none. -/
theorem drainTx_one {s : State} {n k q : Nat} {l : List Byte} (hk : q ≠ 0) (hq : (s.fifo n).q = [.tx k q l]) :
    s.drainTx n = match parseLink l with
      | some f => (s.fifoTake n).queue none f
      | none => s.fifoTake n := by
  unfold State.drainTx
  rw [hq, List.foldl_cons, List.foldl_nil]
  exact if_neg hk

/-- A frame that this node sends to its own segment leaves on no port. -/
theorem sendOwn_own {s : State} {n : Nat} {f : LinkFrame} (hn : n < s.fifos.length) (hb : (s.backP n).1 = 0)
    (hq : (s.fifo n).q = []) (hh : (s.fifo n).held = []) (hd : 0 < fifoDepth n) (hbc : f.bcast = false)
    (hseg : segOf (f.dst % 65536) = segOf s.yard.node) : (s.sendOwn n f).yard.ports = s.yard.ports := by
  unfold State.sendOwn
  rw [drainTx_one (by decide) (fifoPush_empty _ hn hb hq hh hd)]
  split
  next g hg =>
    obtain ⟨hdst, hgb⟩ := parseLink_dst hg
    have hp : ((s.fifoPush n (.tx 0 1 f.bytes)).fifoTake n).ports g.bcast g.dst none = [] := by
      rw [hdst, hgb, linkBytes_bcast, linkBytes_dst, hbc]
      unfold State.ports
      dsimp only
      rw [if_neg (by decide), if_pos (by exact hseg)]
      rfl
    unfold State.queue
    rw [hp]
    rfl
  next => rfl

/-- An OPEN that is due takes a fresh nonce. -/
def State.opened (s : State) (i : Nat) : State :=
  s.fresh.modConn i (fun c => { c with nonce := Config.freeNat s.free % 65535 + 1, openAt := some s.now })

theorem openSend_sends {s : State} {i : Nat} (hl : s.live = true) (hc : s.yard.committed = true) (hm : (s.conn i).mode = 1)
    (hj : (s.conn i).a.ds = .joining ∨ (s.conn i).b.ds = .joining) (hd : (s.conn i).openAt = none) :
    ∃ l, s.openSend i = (s.opened i).sendOwn 5 ((s.opened i).ownFrame typSafety (s.conn i).peer false l) := by
  unfold State.openSend
  dsimp only
  rw [hd, if_pos (by simpa [hl, hc, hm] using hj)]
  exact ⟨_, rfl⟩

/-- A node whose one consume connection names the peer 0x10000, of which the frame's DST carries 0x0000: this node. Of its ports, YP0 is
up. -/
def peerTooLong : State :=
  { clk := { rs := .safe }, fifos := List.replicate 10 {}
    yard := { committed := true, ports := [{ up := true }], conns := [{ mode := 1, peer := 0x10000, a := { ds := .joining } }] } }

/-- The OPEN for that peer is a frame for this node's own segment, which leaves on no port. -/
theorem peerTooLong_queues_nothing : ((peerTooLong.upTo 0).openSend 0).yard.ports = [{ up := true }] := by
  obtain ⟨l, h⟩ := openSend_sends (s := peerTooLong.upTo 0) (i := 0) (by decide) rfl rfl (.inl rfl) rfl
  rw [h]
  exact sendOwn_own (by decide) rfl rfl rfl (by decide) rfl (show segOf (0x10000 % 65536) = segOf 0 by decide)

/-- Refutes O25 by its third clause: the ports of the peer's number are not those of the DST that the OPEN carries. -/
theorem not_connections : ¬ Obligations.Connections := by
  rintro ⟨-, -, h, -⟩
  obtain ⟨s', he, -, -, -, hq⟩ := h 0 0 peerTooLong (by decide) (by decide) rfl rfl (.inl rfl) rfl (by decide) (by decide) rfl rfl
  obtain ⟨s'', he', hs⟩ := act_after 0 peerTooLong (fun s => s.openSend 0)
  cases he.symm.trans he'
  have hp : s'.yard.ports = [{ up := true }] := (hs.same (·.yard.ports)).trans peerTooLong_queues_nothing
  have hq0 := hq 0 (by decide)
  rw [State.yport, hp] at hq0
  cases hq0

end Sys2Proof.Machine
end

section
/-!
PROOF. Hellos (O26): what a port that is down sends, and what a neighbour's hello does to it.
-/
namespace Sys2Proof.Machine

/-! ## A hello that is sent -/

theorem linkBytes_payload (f : LinkFrame) {n : Nat} (h : f.payload.length = n) : (f.bytes.drop 8).take n = f.payload := by
  have hb : f.bytes.drop 8 = f.payload ++ toBytes 4 (crcLink (toBytes 1 f.typ ++ toBytes 1 (flag f.bcast + flag f.pert 1) ++
      toBytes 2 f.dst ++ toBytes 2 f.src ++ toBytes 1 f.lseq ++ toBytes 1 f.payload.length ++ f.payload)).toNat := rfl
  rw [hb, ← h, List.take_left']
  rfl

/-- The hello of this node, for a destination. -/
def State.helloFrame (s : State) (dst : Nat) : LinkFrame :=
  s.ownFrame typHello dst false (helloPayload s.yard.node s.yard.depth s.yard.root)

section
variable {s : State} {p : Nat}

/-- A hello that is due is queued; on YP0 it is for the upstream node. -/
theorem helloSend_queues (hl : s.live = true) (ho : s.portOn p = true) (hup : (s.yport p).up = false)
    (hd : (s.yport p).helloAt.all (fun a => decide (a + 1000 * us ≤ s.now)) = true) :
    ∃ dst, (p = 0 → dst = s.yard.upnode) ∧ s.helloSend p = s.fresh.modYport p (fun y => { y with
      qh := y.qh ++ [(s.helloFrame dst).bytes], helloAt := some s.now }) := by
  refine ⟨if p = 0 then s.yard.upnode else Config.freeNat s.free % 65536, fun h => if_pos h, ?_⟩
  unfold State.helloSend
  dsimp only
  rw [hl, ho, hup]
  cases h : (s.yport p).helloAt with
  | none => exact if_pos rfl
  | some a =>
    rw [h, Option.all_some] at hd
    exact if_pos (by dsimp only; rw [hd]; rfl)

theorem helloFrame_bytes (dst : Nat) : (byteAt (s.helloFrame dst).bytes 0, ((s.helloFrame dst).bytes.drop 8).take 4) =
    (typHello, helloPayload s.yard.node s.yard.depth s.yard.root) :=
  Prod.ext (linkBytes_typ _) (linkBytes_payload (s.helloFrame dst) rfl)

/-! ## A hello that is received -/

/-- The neighbour's hello has been noted. -/
def State.greeted (s : State) (p node : Nat) (b : Bool) (u : Nat) : State :=
  { s with yard := { s.yard with upPert := b, upSeen := u, ports := updAt (fun y => { y with nbr := node }) s.yard.ports p } }

theorem greeted_yport (hp : p < s.yard.ports.length) (node : Nat) (b : Bool) (u : Nat) :
    (s.greeted p node b u).yport p = { s.yport p with nbr := node } := nth_updAt_same _ _ _ _ hp

theorem greeted_helloOk (node : Nat) (b : Bool) (u n d : Nat) : (s.greeted p node b u).helloOk p n d = s.helloOk p n d := by
  have hr : ∀ q, ((s.greeted p node b u).yport q).route = (s.yport q).route :=
    fun q => nth_updAt_keeps ({} : YPort) YPort.route (f := fun y => { y with nbr := node }) (fun _ => rfl) s.yard.ports p q
  unfold State.helloOk State.routes
  rw [hr]
  rfl

/-- What the hello of a neighbour does once it has been noted. -/
def State.greet (s : State) (p node depth : Nat) : State :=
  if (s.yport p).up then s
  else if s.helloOk p node depth then
    s.modYport p (fun y => { y with up := true, bad := false, qh := [], lseq := 0, lexp := 0 })
  else (s.modYport p (fun y => { y with bad := true })).err .yardLink p

/-- The neighbour's hello is noted. -/
def State.note (s : State) (p node : Nat) : State :=
  if p = 0 then { s.modYport p (fun y => { y with nbr := node }) with
    yard := { (s.modYport p (fun y => { y with nbr := node })).yard with upSeen := node } }
  else s.modYport p (fun y => { y with nbr := node })

theorem helloIn_eq (s : State) (p : Nat) (l : List Byte) : s.helloIn p l = s.receive p l (fun s fr =>
    if fr.typ = typHello && fr.payload.length == 4 && decide (byteAt fr.payload 3 < 2) then
      (s.note p (beAt fr.payload 0 2)).greet p (beAt fr.payload 0 2) (byteAt fr.payload 2)
    else s) := rfl

theorem note_greeted (s : State) (p node : Nat) (b : Bool) :
    ∃ u, ({ s with yard := { s.yard with upPert := b } } : State).note p node = s.greeted p node b u := by
  unfold State.note
  split
  · exact ⟨node, rfl⟩
  · exact ⟨s.yard.upSeen, rfl⟩

theorem helloIn_greets {l : List Byte} {fr : LinkFrame} (hl : s.live = true) (ho : s.portOn p = true) (hp : parseLink l = some fr)
    (ht : fr.typ = typHello) (h4 : fr.payload.length = 4) (h3 : byteAt fr.payload 3 < 2) (hup : (s.yport p).up = false)
    (hlen : p < s.yard.ports.length) : ∃ b u, s.helloIn p l =
      if s.helloOk p (beAt fr.payload 0 2) (byteAt fr.payload 2) then (s.greeted p (beAt fr.payload 0 2) b u).modYport p
        (fun y => { y with up := true, bad := false, qh := [], lseq := 0, lexp := 0 })
      else ((s.greeted p (beAt fr.payload 0 2) b u).modYport p (fun y => { y with bad := true })).err .yardLink p := by
  have hr : fr.reservedSet = false := by simp [LinkFrame.reservedSet, ht, h4, typHello, typTime]; omega
  have hg : ∀ b u, ((s.greeted p (beAt fr.payload 0 2) b u).yport p).up = false := fun b u => by rw [greeted_yport hlen]; exact hup
  obtain ⟨b, hb⟩ := receive_good (fun s fr =>
    if fr.typ = typHello && fr.payload.length == 4 && decide (byteAt fr.payload 3 < 2) then
      (s.note p (beAt fr.payload 0 2)).greet p (beAt fr.payload 0 2) (byteAt fr.payload 2)
    else s) hl ho hp hr
  obtain ⟨u, hu⟩ := note_greeted s p (beAt fr.payload 0 2) b
  refine ⟨b, u, ?_⟩
  rw [helloIn_eq, hb, if_pos (by simp [ht, h4, h3]), hu, State.greet, if_neg (by rw [hg]; decide), greeted_helloOk]

end

/-- Settles O26: a hello that is received has been noted before it is compared, which the table decides. -/
theorem hellos : Obligations.Hellos := by
  refine ⟨?_, ?_, ?_⟩
  · intro t p s hl ho hup hd hp
    have hd' : (s.yport p).helloAt.all (fun a => decide (a + 1000 * us ≤ (s.upTo t).now)) = true := by
      simp only [Option.all_eq_true, decide_eq_true_eq] at hd ⊢
      exact fun a ha => le_upTo s (hd a ha)
    obtain ⟨dst, hdst, hq⟩ := helloSend_queues (s := s.upTo t) hl ho hup hd'
    obtain ⟨s', he, hs⟩ := act_of t s (fun s => s.helloSend p) hq
    have hn : s'.now = (s.upTo t).now := hs.same (·.now)
    have hy := (hs.same (·.yport p)).trans (modYport_yport_same (State.fresh (s.upTo t)) _ hp)
    refine ⟨s', he, ?_, ?_, ?_, fun h0 => ?_⟩
    · rw [hy, hn]
    · rw [hy]
      exact List.dropLast_concat
    · rw [hy]
      dsimp only
      rw [List.getLast?_concat, Option.map_some, helloFrame_bytes]
      rfl
    · rw [hy]
      dsimp only
      rw [List.getLast?_concat, Option.map_some, linkBytes_dst, State.helloFrame, State.ownFrame, hdst (congrArg Fin.val h0)]
      rfl
  · intro t p l fr s hl ho hp ht h4 h3 hup hlen hok
    obtain ⟨b, u, hin⟩ := helloIn_greets (s := s.upTo t) hl ho hp ht h4 h3 hup hlen
    rw [if_pos (by exact hok)] at hin
    obtain ⟨s', he, hs⟩ := act_of t s (fun s => s.helloIn p l) hin
    have hy := (hs.same (·.yport p)).trans (modYport_yport_same ((s.upTo t).greeted p (beAt fr.payload 0 2) b u) _
      ((updAt_length _ _ _).symm ▸ hlen))
    rw [greeted_yport (s := s.upTo t) hlen] at hy
    exact ⟨s', he, by rw [hy], by rw [hy], by rw [hy], by rw [hy]⟩
  · intro t p l fr s hl ho hp ht h4 h3 hup hlen hok
    obtain ⟨b, u, hin⟩ := helloIn_greets (s := s.upTo t) hl ho hp ht h4 h3 hup hlen
    rw [if_neg (by exact ne_true_of_eq_false hok)] at hin
    obtain ⟨s', he, hs⟩ := act_of t s (fun s => s.helloIn p l) hin
    have hk := yport_of (of_keep (State.err_keep ((((s.upTo t).greeted p (beAt fr.payload 0 2) b u)).modYport p
      (fun y => { y with bad := true })) .yardLink p) (·.yard.ports) fun _ => rfl) p
    have hy := ((hs.same (·.yport p)).trans hk).trans (modYport_yport_same ((s.upTo t).greeted p (beAt fr.payload 0 2) b u) _
      ((updAt_length _ _ _).symm ▸ hlen))
    rw [greeted_yport (s := s.upTo t) hlen] at hy
    exact ⟨s', he, by rw [hy]; exact hup, by rw [hy], by rw [hy], hs.err_latched⟩

end Sys2Proof.Machine
end

section
/-!
PROOF. Yard time (O27): the frames of an exchange, and what the sync state does. A change of the sync state leaves the ports, the
exchange and yard time.
-/
namespace Sys2Proof.Machine

/-! ## The sync state -/

/-- The state without what a change of the sync state touches. -/
def State.offSync (s : State) : State := { s.keep with yard := { s.keep.yard with
  sync := .unlocked, goodRun := 0, badRun := 0, holdAt := 0, lastExch := 0, up := .unlocked } }

theorem of_offSync {s u : State} (h : u.offSync = s.offSync) {β : Type} (g : State → β) (hg : ∀ x : State, g x.offSync = g x) :
    g u = g s := (hg u).symm.trans ((congrArg g h).trans (hg s))

/-- The sync state has changed, before YARD_SYNC is raised. -/
def State.synced (s : State) (n : SyncState) : State :=
  { s with yard := { s.yard with sync := n, goodRun := 0, badRun := 0
                                 holdAt := if n == .holdover then s.now else s.yard.holdAt
                                 lastExch := if n == .locked then s.now else s.yard.lastExch } }

theorem setSync_eq (s : State) (n : SyncState) : s.setSync n = if s.yard.sync == n then s else
    if (n == .unlocked && s.yard.sync == .locked) || n == .syncLost then (s.synced n).err .yardSync n.code else s.synced n := rfl

/-- A change is `synced`, up to what an error may change; no change is none. -/
theorem setSync_keep (s : State) (n : SyncState) : (s.setSync n).keep = (if s.yard.sync == n then s else s.synced n).keep := by
  rw [setSync_eq]
  split
  · rfl
  · split
    · exact State.err_keep _ _ _
    · rfl

theorem synced_offSync (s : State) (n : SyncState) : (s.synced n).offSync = s.offSync := rfl

theorem offSync_of_keep {s u : State} (h : u.keep = s.keep) : u.offSync = s.offSync :=
  congrArg (fun x : State => { x with yard := { x.yard with
    sync := .unlocked, goodRun := 0, badRun := 0, holdAt := 0, lastExch := 0, up := .unlocked } }) h

theorem setSync_offSync (s : State) (n : SyncState) : (s.setSync n).offSync = s.offSync := by
  refine (offSync_of_keep (setSync_keep s n)).trans ?_
  split <;> rfl

theorem setSync_up (s : State) (n : SyncState) : (s.setSync n).yard.up = s.yard.up := by
  refine (of_keep (setSync_keep s n) (·.yard.up) fun _ => rfl).trans ?_
  split <;> rfl

theorem setSync_sync (s : State) (n : SyncState) : (s.setSync n).yard.sync = n := by
  refine (of_keep (setSync_keep s n) (·.yard.sync) fun _ => rfl).trans ?_
  split
  next h => exact eq_of_beq h
  next => rfl

/-- The exchange that leads to a change is the latest one. -/
theorem setSync_lastExch {s : State} (h : s.yard.lastExch = s.now) (n : SyncState) : (s.setSync n).yard.lastExch = s.now := by
  refine (of_keep (setSync_keep s n) (·.yard.lastExch) fun _ => rfl).trans ?_
  split
  · exact h
  · rw [State.synced]
    dsimp only
    rw [h, ite_self]

theorem upReport_offSync (s : State) (u : SyncState) : (s.upReport u).offSync = s.offSync := by
  unfold State.upReport
  dsimp only
  have hx : ∀ x : State, (if x.yard.sync == .holdover && u == .syncLost then x.setSync .syncLost else x).offSync = x.offSync := fun x => by
    split
    · exact setSync_offSync _ _
    · rfl
  refine (hx _).trans ?_
  split
  · cases u
    case locked => rfl
    all_goals exact (setSync_offSync _ _).trans rfl
  · rfl

theorem upReport_up (s : State) (u : SyncState) : (s.upReport u).yard.up = u := by
  unfold State.upReport
  dsimp only
  have hx : ∀ x : State, (if x.yard.sync == .holdover && u == .syncLost then x.setSync .syncLost else x).yard.up = x.yard.up := fun x => by
    split
    · exact setSync_up _ _
    · rfl
  refine (hx _).trans ?_
  split
  · cases u
    case locked => rfl
    all_goals exact (setSync_up _ _).trans rfl
  · rfl

/-- A LOCKED upstream node leaves an UNLOCKED one as it is. -/
theorem upReport_locked {s : State} (h : s.yard.sync = .unlocked) :
    s.upReport .locked = { s with yard := { s.yard with up := .locked } } := by
  unfold State.upReport
  dsimp only
  rw [h]
  rfl

theorem exchanged_lastExch (s : State) (o : Int) : (s.exchanged o).yard.lastExch = s.now := by
  have hs : ∀ (x : State) (c : Prop) [Decidable c] (n : SyncState), x.yard.lastExch = x.now → x.now = s.now →
      (if c then x.setSync n else x).yard.lastExch = s.now := fun x c _ n h hn => by
    split
    · exact (setSync_lastExch h n).trans hn
    · exact h.trans hn
  unfold State.exchanged
  dsimp only
  split <;> exact hs _ _ _ (by rfl) (by rfl)

theorem exchanged_offSync (s : State) (o : Int) : (s.exchanged o).offSync = s.offSync := by
  have hs : ∀ (x : State) (c : Prop) [Decidable c] (n : SyncState), (if c then x.setSync n else x).offSync = x.offSync := fun x c _ n => by
    split
    · exact setSync_offSync _ _
    · rfl
  unfold State.exchanged
  dsimp only
  split <;> exact (hs _ _ _).trans (by rfl)

/-- The eighth good offset in a row under a LOCKED upstream node locks (R301). -/
theorem exchanged_locks {s : State} {o : Int} (h : s.yard.sync = .unlocked) (hu : s.yard.up = .locked) (hg : s.yard.goodRun = 7)
    (ho : o.natAbs ≤ 100) : (s.exchanged o).yard.sync = .locked := by
  unfold State.exchanged
  dsimp only
  rw [h, hg, hu, if_pos ho]
  dsimp only
  rw [if_pos (by decide)]
  exact setSync_sync _ _

/-- The correction of yard time leaves the exchange and the sync state. -/
theorem correct_same {β : Type} (g : State → β) (hg : ∀ (s : State) (b : Nat) (a : Nat) (r : Int),
      g { s with yard := { s.yard with base := b, baseAt := a, rate := r } } = g s)
    (hr : ∀ s : State, g s.retick = g s) (hf : ∀ s : State, g s.fresh = g s) (s : State) (o : Int) : g (s.correct o) = g s := by
  unfold State.correct
  split
  · exact (hr _).trans (hg _ _ _ _)
  · split
    · rfl
    · exact (hg _ _ _ _).trans (hf _)

/-! ## The frames of an exchange -/

/-- A time frame of a given SUB is well formed. -/
structure TimeFrame (fr : LinkFrame) (sub : Nat) : Prop where
  typ : fr.typ = typTime
  len : fr.payload.length = 16
  sub : byteAt fr.payload 0 = sub
  state : byteAt fr.payload 1 < 4
  zero : byteAt fr.payload 3 = 0
  rest : zeroIn fr.payload 6 7 = true

/-- YARD.STATUS[10] has followed the frames of YP0. -/
def State.pertSeen (s : State) (b : Bool) : State := { s with yard := { s.yard with upPert := b } }

theorem timeIn_good {s : State} {p sub : Nat} {l : List Byte} {fr : LinkFrame} (f : State → List Byte → State) (hl : s.live = true)
    (ho : s.portOn p = true) (hp : parseLink l = some fr) (hup : (s.yport p).up = true) (ht : TimeFrame fr sub) :
    ∃ b, s.timeIn p l sub f = f (s.pertSeen b) fr.payload := by
  obtain ⟨h1, h2, h3, h4, h5, h6⟩ := ht
  obtain ⟨b, hb⟩ := receive_good (fun s fr =>
    if fr.typ = typTime && (s.yport p).up && fr.payload.length == 16 && byteAt fr.payload 0 == sub && decide (byteAt fr.payload 1 < 4) &&
        byteAt fr.payload 3 == 0 && zeroIn fr.payload 6 7 then f s fr.payload else s) hl ho hp
    (by simp [LinkFrame.reservedSet, h1, h2, h5, h6, typTime, typHello])
  refine ⟨b, hb.trans (if_pos ?_)⟩
  simp only [h1, h2, h3, h4, h5, h6, decide_true, beq_self_eq_true, Bool.true_and, Bool.and_true]
  exact hup

/-- The exchange that a SYNC has opened, with the DREQ that goes back. -/
def State.syncTaken (s : State) (l h : List Byte) : State :=
  (({ s with yard := { s.yard with xch := some (beAt h 4 2, beAt h 8 8, s.startGroup l, 0) } } : State)).modYport 0 (fun y => { y with
    qt := y.qt ++ [(s.ownFrame typTime s.yard.upnode false (timePayload 2 s.yard.sync.code s.yard.depth (beAt h 4 2) 0)).bytes] })

section
variable {s : State} {l : List Byte} {fr : LinkFrame}

theorem syncIn_takes (hroot : s.yard.root = false) (hl : s.live = true) (ho : s.portOn 0 = true) (hp : parseLink l = some fr)
    (hup : (s.yport 0).up = true) (ht : TimeFrame fr 1) :
    ∃ b, s.syncIn l = ((s.pertSeen b).upReport (SyncState.ofCode (byteAt fr.payload 1))).syncTaken l fr.payload := by
  obtain ⟨b, hb⟩ := timeIn_good (fun s h => (s.upReport (SyncState.ofCode (byteAt h 1))).syncTaken l h) hl ho hp hup ht
  exact ⟨b, (if_neg (by simp [hroot])).trans hb⟩

theorem exchStart_sends {p : Nat} (hl : s.live = true) (hp : p ≠ 0) (hup : (s.yport p).up = true)
    (hd : (s.yport p).exchAt.all (fun a => decide (a + 990 * us ≤ s.now)) = true) :
    s.exchStart p = s.modYport p (fun y => { y with
      xseq := ((s.yport p).xseq + 1) % 65536, exchAt := some s.now
      qt := y.qt ++ [(s.ownFrame typTime (s.yport p).nbr false
        (timePayload 1 s.yard.sync.code s.yard.depth (((s.yport p).xseq + 1) % 65536) 0)).bytes] }) := by
  have hp : (p != 0) = true := by simpa using hp
  unfold State.exchStart
  dsimp only
  refine if_pos ?_
  rw [hl, hp, hup]
  cases h : (s.yport p).exchAt with
  | none => rfl
  | some a => rw [h] at hd; exact hd

theorem dreqIn_answers {p : Nat} (hp0 : p ≠ 0) (hl : s.live = true) (ho : s.portOn p = true) (hp : parseLink l = some fr)
    (hup : (s.yport p).up = true) (ht : TimeFrame fr 2) :
    ∃ b, s.dreqIn p l = (s.pertSeen b).modYport p (fun y => { y with
      qt := y.qt ++ [(s.ownFrame typTime (s.yport p).nbr false
        (timePayload 3 s.yard.sync.code s.yard.depth (beAt fr.payload 4 2) (s.startGroup l))).bytes] }) := by
  obtain ⟨b, hb⟩ := timeIn_good _ hl ho hp hup ht
  exact ⟨b, (if_neg hp0).trans hb⟩

/-! ## The end of an exchange -/

/-- The offset and the path delay of an exchange. -/
def exchOffset (t1 t2 t3 t4 : Int) : Int := ((t2 - t1) - (t4 - t3)).tdiv 2
def exchDelay (t1 t2 t3 t4 : Int) : Int := ((t2 - t1) + (t4 - t3)).tdiv 2

/-- An exchange has completed. -/
def State.exchDone (s : State) (o d : Int) : State := { s with yard := { s.yard with xch := none, offset := o, delay := d.toNat } }

/-- The upstream node's state has been noted, as a time frame brings it. -/
def State.reported (s : State) (b : Bool) (fr : LinkFrame) : State := (s.pertSeen b).upReport (SyncState.ofCode (byteAt fr.payload 1))

/-- The exchange of a DRESP is over, before yard time is corrected. -/
def State.exchEnded (s : State) (b : Bool) (fr : LinkFrame) (o d : Int) : State := ((s.reported b fr).exchDone o d).exchanged o

theorem drespIn_completes {x t1 t2 t3 : Nat} (hroot : s.yard.root = false) (hl : s.live = true) (ho : s.portOn 0 = true)
    (hp : parseLink l = some fr) (hup : (s.yport 0).up = true) (ht : TimeFrame fr 3)
    (hx : s.yard.xch = some (x, t1, t2, t3)) (hxe : x = beAt fr.payload 4 2) (h3 : t3 ≠ 0) :
    ∃ b, s.drespIn l = (s.exchEnded b fr (exchOffset t1 t2 t3 (beAt fr.payload 8 8)) (exchDelay t1 t2 t3 (beAt fr.payload 8 8))).correct
      (exchOffset t1 t2 t3 (beAt fr.payload 8 8)) := by
  obtain ⟨b, hb⟩ := timeIn_good _ hl ho hp hup ht
  refine ⟨b, (if_neg (by simp [hroot])).trans (hb.trans ?_)⟩
  have hxr : (s.reported b fr).yard.xch = some (x, t1, t2, t3) :=
    (of_offSync (upReport_offSync (s.pertSeen b) _) (·.yard.xch) fun _ => rfl).trans hx
  have hx' : ((s.pertSeen b).upReport (SyncState.ofCode (byteAt fr.payload 1))).yard.xch = some (x, t1, t2, t3) := hxr
  dsimp only
  rw [hx']
  exact if_pos (by simp [hxe, h3])

end

section
variable (s : State) (b : Bool) (fr : LinkFrame) (o d : Int)

theorem reported_offSync : (s.reported b fr).offSync = (s.pertSeen b).offSync := upReport_offSync _ _

theorem exchEnded_offSync : (s.exchEnded b fr o d).offSync = ((s.reported b fr).exchDone o d).offSync := exchanged_offSync _ _

theorem exchEnded_now : (s.exchEnded b fr o d).now = s.now :=
  (of_offSync (exchEnded_offSync s b fr o d) (·.now) fun _ => rfl).trans (of_offSync (reported_offSync s b fr) (·.now) fun _ => rfl)

theorem exchEnded_xch : (s.exchEnded b fr o d).yard.xch = none := of_offSync (exchEnded_offSync s b fr o d) (·.yard.xch) fun _ => rfl

theorem exchEnded_offset : (s.exchEnded b fr o d).yard.offset = o := of_offSync (exchEnded_offSync s b fr o d) (·.yard.offset) fun _ => rfl

theorem exchEnded_delay : (s.exchEnded b fr o d).yard.delay = d.toNat :=
  of_offSync (exchEnded_offSync s b fr o d) (·.yard.delay) fun _ => rfl

theorem exchEnded_lastExch : (s.exchEnded b fr o d).yard.lastExch = s.now :=
  (exchanged_lastExch _ _).trans (of_offSync (reported_offSync s b fr) (·.now) fun _ => rfl)

theorem exchEnded_locks (hu : s.yard.sync = .unlocked) (hl : SyncState.ofCode (byteAt fr.payload 1) = .locked)
    (hg : s.yard.goodRun = 7) (ho : o.natAbs ≤ 100) : (s.exchEnded b fr o d).yard.sync = .locked := by
  have hrep : s.reported b fr = { s.pertSeen b with yard := { (s.pertSeen b).yard with up := .locked } } := by
    rw [State.reported, hl]
    exact upReport_locked (s := s.pertSeen b) hu
  rw [State.exchEnded, hrep]
  exact exchanged_locks (s := State.exchDone { s.pertSeen b with yard := { (s.pertSeen b).yard with up := .locked } } o d) hu rfl hg ho

end

theorem corrected_now (s : State) (o : Int) : (s.correct o).yardReady.now = s.now := by
  have hy : ∀ x : State, x.yardReady.now = x.now := fun x => by
    unfold State.yardReady State.loadEnd
    split
    · dsimp only
      split <;> rfl
    · rfl
  exact (hy _).trans (correct_same (·.now) (fun _ _ _ _ => rfl) (fun _ => rfl) (fun _ => rfl) s o)

/-- A part of the yard that neither the correction of yard time nor the end of LOAD touches. -/
theorem corrected_same {β : Type} (g : Yard → β) (hg : ∀ (y : Yard) (b a : Nat) (r : Int), g { y with base := b, baseAt := a, rate := r } = g y)
    (s : State) (o : Int) : g (s.correct o).yardReady.yard = g s.yard := by
  rw [yardReady_yard]
  exact correct_same (fun s => g s.yard) (fun s b a r => hg s.yard b a r) (fun _ => rfl) (fun _ => rfl) s o

/-! ## The loss of yard time -/

theorem all_due {o : Option Nat} {s : State} {t d : Nat} (h : o.all (fun a => decide (a + d ≤ t)) = true) :
    o.all (fun a => decide (a + d ≤ (s.upTo t).now)) = true := by
  simp only [Option.all_eq_true, decide_eq_true_eq] at h ⊢
  exact fun a ha => le_upTo s (h a ha)

theorem setSync_holdover {s : State} (h : s.yard.sync = .locked) : s.setSync .holdover = s.synced .holdover := by
  rw [setSync_eq, h]
  rfl

theorem setSync_lost {s : State} (h : s.yard.sync = .holdover) :
    s.setSync .syncLost = (s.synced .syncLost).err .yardSync SyncState.syncLost.code := by
  rw [setSync_eq, h]
  rfl

theorem holdoverNow_enters {s : State} (hl : s.live = true) (h : s.yard.sync = .locked) (hr : s.yard.root = false)
    (ht : s.yard.lastExch + 3000 * us ≤ s.now) : s.holdoverNow = s.synced .holdover :=
  (if_pos (by simp [hl, h, hr, ht])).trans (setSync_holdover h)

theorem syncLostNow_enters {s : State} (hl : s.live = true) (h : s.yard.sync = .holdover) (ht : s.yard.holdAt + 500 * ms ≤ s.now) :
    s.syncLostNow = (s.synced .syncLost).err .yardSync SyncState.syncLost.code :=
  (if_pos (by simp [hl, h, ht])).trans (setSync_lost h)

/-- Settles O27, frame by frame of an exchange; the sync state changes no other part of it. -/
theorem timeTransfer : Obligations.TimeTransfer := by
  refine ⟨?_, ?_, ?_, ?_, ?_, ?_⟩
  · intro t p s hl hp hup hd
    obtain ⟨s', he, hs⟩ := act_of t s (fun s => s.exchStart p) (exchStart_sends (s := s.upTo t) hl hp hup (all_due hd))
    have hn : s'.now = (s.upTo t).now := hs.same (·.now)
    refine ⟨s', he, (hs.same (·.yard.ports)).trans ?_⟩
    rw [hn]
    rfl
  · intro t l fr s hroot hl ho hp h1 hup h2 h3 h4 h5 h6 hlen
    obtain ⟨b, hb⟩ := syncIn_takes (s := s.upTo t) hroot hl ho hp hup ⟨h1, h2, h3, h4, h5, h6⟩
    obtain ⟨s', he, hs⟩ := act_of t s (fun s => s.syncIn l) hb
    have hoff := upReport_offSync ((s.upTo t).pertSeen b) (SyncState.ofCode (byteAt fr.payload 1))
    have hports : ((s.upTo t).reported b fr).yard.ports = s.yard.ports := of_offSync hoff (·.yard.ports) fun _ => rfl
    have hgroup : ((s.upTo t).reported b fr).startGroup l = (s.upTo t).startGroup l := of_offSync hoff (·.startGroup l) fun _ => rfl
    refine ⟨s', he, (hs.same (·.yard.xch)).trans ?_, (hs.same (·.yard.up)).trans (upReport_up _ _), ?_⟩
    · exact congrArg (fun n => some (beAt fr.payload 4 2, beAt fr.payload 8 8, n, 0)) hgroup
    · have hsync : s'.yard.sync = ((s.upTo t).reported b fr).yard.sync := hs.same (·.yard.sync)
      have hown : ∀ c : Nat, ((s.upTo t).reported b fr).ownFrame typTime ((s.upTo t).reported b fr).yard.upnode false
          (timePayload 2 c ((s.upTo t).reported b fr).yard.depth (beAt fr.payload 4 2) 0) =
          s.ownFrame typTime s.yard.upnode false (timePayload 2 c s.yard.depth (beAt fr.payload 4 2) 0) := fun c =>
        of_offSync hoff (fun s => s.ownFrame typTime s.yard.upnode false (timePayload 2 c s.yard.depth (beAt fr.payload 4 2) 0)) fun _ => rfl
      rw [hsync, ← hown]
      refine (hs.same (fun s => (s.yport 0).qt)).trans ((congrArg YPort.qt (modYport_yport_same _ _ (by
        change 0 < ((s.upTo t).reported b fr).yard.ports.length
        rwa [hports]))).trans ?_)
      exact congrArg (fun y : YPort => y.qt ++ _) (yport_of hports 0)
  · intro t p l fr s hp0 hl ho hp h1 hup h2 h3 h4 h5 h6
    obtain ⟨b, hb⟩ := dreqIn_answers (s := s.upTo t) hp0 hl ho hp hup ⟨h1, h2, h3, h4, h5, h6⟩
    obtain ⟨s', he, hs⟩ := act_of t s (fun s => s.dreqIn p l) hb
    exact ⟨s', he, hs.same (·.yard.ports)⟩
  · intro t x t1 t2 t3 l fr s hroot hl ho hp h1 hup h2 h3 h4 h5 h6 hx hxe ht3
    obtain ⟨b, hb⟩ := drespIn_completes (s := s.upTo t) hroot hl ho hp hup ⟨h1, h2, h3, h4, h5, h6⟩ hx hxe ht3
    obtain ⟨s', he, hs⟩ := act_of t s (fun s => (s.drespIn l).yardReady) (congrArg State.yardReady hb)
    have hn : s'.now = (s.upTo t).now := (hs.same (·.now)).trans ((corrected_now _ _).trans (exchEnded_now _ _ _ _ _))
    have ho' : s'.yard.offset = exchOffset t1 t2 t3 (beAt fr.payload 8 8) :=
      (hs.same (·.yard.offset)).trans ((corrected_same (·.offset) (fun _ _ _ _ => rfl) _ _).trans (exchEnded_offset _ _ _ _ _))
    refine ⟨s', he, ?_, ?_, ho', ?_, fun hu hlk hg hsm => ?_⟩
    · exact (hs.same (·.yard.xch)).trans ((corrected_same (·.xch) (fun _ _ _ _ => rfl) _ _).trans (exchEnded_xch _ _ _ _ _))
    · rw [hn]
      exact (hs.same (·.yard.lastExch)).trans ((corrected_same (·.lastExch) (fun _ _ _ _ => rfl) _ _).trans (exchEnded_lastExch _ _ _ _ _))
    · exact (hs.same (·.yard.delay)).trans ((corrected_same (·.delay) (fun _ _ _ _ => rfl) _ _).trans (exchEnded_delay _ _ _ _ _))
    · rw [ho'] at hsm
      exact (hs.same (·.yard.sync)).trans ((corrected_same (·.sync) (fun _ _ _ _ => rfl) _ _).trans
        (exchEnded_locks (s.upTo t) b fr _ _ hu hlk hg hsm))
  · intro t s hl h hr ht
    obtain ⟨s', he, hs⟩ := act_of t s State.holdoverNow (holdoverNow_enters (s := s.upTo t) hl h hr (le_upTo s ht))
    have hn : s'.now = (s.upTo t).now := hs.same (·.now)
    exact ⟨s', he, hs.same (·.yard.sync), by rw [hn]; exact hs.same (·.yard.holdAt)⟩
  · intro t s hl h ht
    obtain ⟨s', he, hs⟩ := act_of t s State.syncLostNow (syncLostNow_enters (s := s.upTo t) hl h (le_upTo s ht))
    exact ⟨s', he, (hs.same (·.yard.sync)).trans (of_keep (State.err_keep _ _ _) (·.yard.sync) fun _ => rfl), hs.err_latched⟩

end Sys2Proof.Machine
end

section
/-!
PROOF. Whistles (O28): forwarded to the ports that are up, pending until LTIME, closing the launch gates as they act.
-/
namespace Sys2Proof.Machine

/-! ## A whistle that arrives -/

/-- A whistle has been queued on every port that is up but the one it came from. -/
def State.forwarded (s : State) (p : Nat) (c : Bool) (w : List Byte × Bool) : State :=
  (if c then [0, 1, 2].filter (fun q => q != p && (s.yport q).up) else []).foldl (fun s q => s.modYport q (fun y => { y with qw := y.qw ++ [w] })) s

section
variable {s : State} {p : Nat}

theorem forwarded_same {β : Type} (g : State → β) (h : ∀ (s : State) (p : Nat) (f : YPort → YPort), g (s.modYport p f) = g s)
    (c : Bool) (w : List Byte × Bool) : g (s.forwarded p c w) = g s :=
  foldl_same g _ (fun _ _ => h _ _ _) _ _

theorem forwarded_yport (c : Bool) (w : List Byte × Bool) (q : Nat) : (s.forwarded p c w).yport q =
    if q ∈ (if c then [0, 1, 2].filter (fun q => q != p && (s.yport q).up) else []) then
      { s.yport q with qw := (s.yport q).qw ++ [w] } else s.yport q := by
  refine foldl_modYport (f := fun y => { y with qw := y.qw ++ [w] }) s q ?_ fun i hi => ?_
  · split
    · exact List.Pairwise.filter _ (by decide)
    · exact List.nodup_nil
  · split at hi
    · exact yport_up_lt (Bool.and_eq_true_iff.1 (List.mem_filter.1 hi).2).2
    · exact absurd hi (by simp)

theorem forwarded_own (c : Bool) (w : List Byte × Bool) : (s.forwarded p c w).yport p = s.yport p := by
  rw [forwarded_yport]
  refine if_neg fun h => ?_
  split at h
  · simpa using (List.mem_filter.1 h).2
  · exact absurd h (by simp)

theorem forwarded_length (c : Bool) (w : List Byte × Bool) : (s.forwarded p c w).yard.ports.length = s.yard.ports.length :=
  forwarded_same (·.yard.ports.length) (fun _ _ _ => modYport_length _ _ _) c w

theorem forwarded_discard_err (hp : p < s.yard.ports.length) (c : Bool) (w : List Byte × Bool) :
    (((s.forwarded p c w).linkDiscard p).yport p).err = sat16 (s.yport p).err := by
  rw [State.linkDiscard, modYport_yport_same _ _ (by rwa [forwarded_length]), forwarded_own]

/-- The whistles seen within the last 1,000 ms. -/
def State.lately (s : State) : List (Nat × Nat × Nat) := s.yard.seen.filter (fun e => decide (s.now < e.2.2 + 1000 * ms))

/-- The whistle has not been seen within the last 1,000 ms. -/
def State.unseen (s : State) (l : List Byte) : Bool := !(s.lately.any (fun e => e.1 == beAt l 2 2 && e.2.1 == beAt l 4 2))

/-- The copy that is forwarded. -/
def whistleCopy (l : List Byte) : List Byte := whistleBytes (byteAt l 1 + 1) (beAt l 2 2) (beAt l 4 2) (beAt l 6 8)

/-- A new whistle pends, with no other. -/
def State.pending1 (s : State) (p : Nat) (l : List Byte) : State :=
  let x := s.forwarded p (decide (16 ≤ l.length) && decide (byteAt l 1 < 24)) (whistleCopy l, false)
  { x with yard := { x.yard with
    seen := (beAt l 2 2, beAt l 4 2, x.now) :: s.lately, wcnt := sat8 x.yard.wcnt, wpend := some (beAt l 6 8, beAt l 2 2) } }

/-- A whistle that was seen before has been seen now. -/
def State.seenAgain (s : State) (l : List Byte) : State :=
  let others := s.lately.filter (fun e => !(e.1 == beAt l 2 2 && e.2.1 == beAt l 4 2))
  { s with yard := { s.yard with seen := (beAt l 2 2, beAt l 4 2, s.now) :: others } }

section
variable {l : List Byte} (hl : s.live = true) (hc : s.yard.committed = true) (hup : (s.yport p).up = true)
include hl hc hup

theorem whistleIn_new (hok : whistleOk l = true) (hn : s.unseen l = true) (hw : s.yard.wpend = none) :
    s.whistleIn p l false = if decide (beAt l 6 8 ≤ (s.pending1 p l).ytime) || (s.pending1 p l).yard.sync == .unlocked ||
        (s.pending1 p l).yard.sync == .syncLost then (s.pending1 p l).whistleAct else s.pending1 p l := by
  have hf : ∀ c w, (s.forwarded p c w).yard.wpend = none := fun c w => (forwarded_same (·.yard.wpend) (fun _ _ _ => rfl) c w).trans hw
  have hn' : (!((s.yard.seen.filter (fun e => decide (s.now < e.2.2 + 1000 * ms))).any
    (fun e => e.1 == beAt l 2 2 && e.2.1 == beAt l 4 2))) = true := hn
  unfold State.whistleIn
  rw [if_neg (by simp [hl, hc, hup])]
  dsimp only
  rw [hok, hn']
  simp only [Bool.not_false, Bool.not_true, Bool.true_and, Bool.false_eq_true, if_false]
  have hm : ((if decide (16 ≤ l.length) && decide (byteAt l 1 < 24) then [0, 1, 2].filter (fun q => q != p && (s.yport q).up) else []).foldl
      (fun s q => s.modYport q (fun y => { y with qw := y.qw ++ [(whistleCopy l, false)] })) s).yard.wpend = none := hf _ _
  unfold whistleCopy at hm
  rw [hm]
  rfl

theorem whistleIn_seen (hok : whistleOk l = true) (hn : s.unseen l = false) : s.whistleIn p l false = s.seenAgain l := by
  have hn' : (!((s.yard.seen.filter (fun e => decide (s.now < e.2.2 + 1000 * ms))).any
    (fun e => e.1 == beAt l 2 2 && e.2.1 == beAt l 4 2))) = false := hn
  unfold State.whistleIn
  rw [if_neg (by simp [hl, hc, hup])]
  dsimp only
  rw [hok, hn']
  rfl

theorem whistleIn_bad {a : Bool} (hbad : a = true ∨ whistleOk l = false) : ∃ c, s.whistleIn p l a =
    (s.forwarded p c (whistleCopy l, true)).linkDiscard p := by
  have hg : (!a && whistleOk l) = false := by
    obtain rfl | h := hbad
    · rfl
    · rw [h, Bool.and_false]
  unfold State.whistleIn
  rw [if_neg (by simp [hl, hc, hup])]
  dsimp only
  rw [hg]
  exact ⟨_, rfl⟩

end

end

/-! ## What a new whistle leaves -/

section
variable {s : State} {p : Nat} {l : List Byte}

theorem pending1_same {β : Type} (g : State → β) (h : ∀ (s : State) (q : Nat) (f : YPort → YPort), g (s.modYport q f) = g s)
    (h' : ∀ (s : State) (a : List (Nat × Nat × Nat)) (b : Nat) (c : Option (Nat × Nat)),
      g { s with yard := { s.yard with seen := a, wcnt := b, wpend := c } } = g s) : g (s.pending1 p l) = g s :=
  (h' _ _ _ _).trans (forwarded_same g h _ _)

theorem pending1_now : (s.pending1 p l).now = s.now := pending1_same (·.now) (fun _ _ _ => rfl) (fun _ _ _ _ => rfl)

theorem pending1_ytime : (s.pending1 p l).ytime = s.ytime := pending1_same State.ytime (fun _ _ _ => rfl) (fun _ _ _ _ => rfl)

theorem pending1_sync : (s.pending1 p l).yard.sync = s.yard.sync := pending1_same (·.yard.sync) (fun _ _ _ => rfl) (fun _ _ _ _ => rfl)

theorem pending1_wcnt : (s.pending1 p l).yard.wcnt = sat8 s.yard.wcnt :=
  congrArg sat8 (forwarded_same (·.yard.wcnt) (fun _ _ _ => rfl) _ _)

theorem whistleOk_length (h : whistleOk l = true) : l.length = 20 := of_decide_eq_true (Bool.and_eq_true_iff.1 h).1

theorem pending1_qw (hok : whistleOk l = true) {q : Nat}
    (hq : q ∈ (List.range 3).filter (fun q => q != p && (s.yport q).up && decide (byteAt l 1 < 24))) :
    ((s.pending1 p l).yport q).qw = (s.yport q).qw ++ [(whistleCopy l, false)] := by
  obtain ⟨hr, hc⟩ := List.mem_filter.1 hq
  obtain ⟨hu, hh⟩ := Bool.and_eq_true_iff.1 hc
  have hf : (s.pending1 p l).yport q = (s.forwarded p (decide (16 ≤ l.length) && decide (byteAt l 1 < 24)) (whistleCopy l, false)).yport q := rfl
  have h16 : 16 ≤ l.length := by rw [whistleOk_length hok]; decide
  rw [hf, forwarded_yport, hh, decide_eq_true h16, if_pos (by exact List.mem_filter.2 ⟨hr, hu⟩)]

theorem unseen_of {t : Nat} (ht : t ≤ s.now) (h : s.yard.seen.all (fun e => !(e.1 == beAt l 2 2 && e.2.1 == beAt l 4 2) ||
    decide (e.2.2 + 1000 * ms ≤ t)) = true) : s.unseen l = true := by
  unfold State.unseen State.lately
  rw [Bool.not_eq_true', List.any_eq_false]
  intro e he hm
  obtain ⟨hes, hl⟩ := List.mem_filter.1 he
  have hall := List.all_eq_true.1 h e hes
  simp only [decide_eq_true_eq, hm, Bool.not_true, Bool.false_or] at hl hall
  omega

theorem any_filter_of {α : Type} {a b : α → Bool} {l : List α} (h : l.any (fun e => a e && b e) = true) : (l.filter b).any a = true := by
  obtain ⟨e, he, hm⟩ := List.any_eq_true.1 h
  obtain ⟨hm, hl⟩ := Bool.and_eq_true_iff.1 hm
  exact List.any_eq_true.2 ⟨e, List.mem_filter.2 ⟨he, hl⟩, hm⟩

theorem not_unseen_of (h : s.yard.seen.any (fun e => e.1 == beAt l 2 2 && e.2.1 == beAt l 4 2 &&
    decide (s.now < e.2.2 + 1000 * ms)) = true) : s.unseen l = false := by
  unfold State.unseen State.lately
  rw [any_filter_of h, Bool.not_true]

end

/-! ## A whistle that acts -/

/-- The stop of a whistle has taken effect, before WHISTLE is raised. -/
def State.halted (s : State) (ltime origin : Nat) : State :=
  let x := s.mapOuts (fun n o => if s.wstopOut n then { o with p := { o.p with gate := false }, m := { o.m with gate := false } } else o)
  { x with yard := { x.yard with wpend := none, wforce := some s.now, wclear := false, worigin := origin, wltime := ltime } }

theorem halted_scope (s : State) (ltime origin : Nat) : (s.halted ltime origin).scope .whistle 0 = s.scope .whistle 0 := rfl

theorem halted_flt (s : State) (ltime origin : Nat) : (s.halted ltime origin).flt = s.flt := rfl

theorem halted_wcnt (s : State) (ltime origin : Nat) : (s.halted ltime origin).yard.wcnt = s.yard.wcnt := rfl

theorem halted_now (s : State) (ltime origin : Nat) : (s.halted ltime origin).now = s.now := rfl

section
variable {s : State} {ltime origin : Nat}

theorem whistleAct_halts (h : s.yard.wpend = some (ltime, origin)) : s.whistleAct =
    if ((s.halted ltime origin).scope .whistle 0).isEmpty then s.halted ltime origin else (s.halted ltime origin).err .whistle origin := by
  unfold State.whistleAct
  rw [h]
  rfl

theorem whistleAct_keep (h : s.yard.wpend = some (ltime, origin)) : s.whistleAct.keep = (s.halted ltime origin).keep := by
  rw [whistleAct_halts h]
  split
  · rfl
  · exact State.err_keep _ _ _

theorem halted_gates {n : Nat} (hn : n < s.sout.outs.length) (h : s.wstopOut n = true) (l : Leg) :
    (((s.halted ltime origin).out n).leg l).gate = false := by
  have ho : (s.halted ltime origin).out n =
      { s.out n with p := { (s.out n).p with gate := false }, m := { (s.out n).m with gate := false } } :=
    (State.mapOuts_out s _ n hn).trans (if_pos h)
  rw [ho]
  cases l <;> rfl

theorem whistleAct_gates (h : s.yard.wpend = some (ltime, origin)) {n : Nat} (hn : n < s.sout.outs.length) (hw : s.wstopOut n = true)
    (l : Leg) : ((s.whistleAct.out n).leg l).gate = false := by
  rw [whistleAct_halts h]
  split
  · exact halted_gates hn hw l
  · exact (err_steady _ _ _).gate n l (halted_gates hn hw l)

theorem whistleAct_latches (h : s.yard.wpend = some (ltime, origin)) (hon : s.flt.on = true) (hsc : s.scope .whistle 0 ≠ []) :
    bit s.whistleAct.flt.fstat Src.whistle.bit = true := by
  have hs : ((s.halted ltime origin).scope .whistle 0).isEmpty = false := by
    rw [halted_scope, List.isEmpty_eq_false_iff]
    exact hsc
  rw [whistleAct_halts h, hs]
  exact err_latches (s := s.halted ltime origin) (halted_flt s ltime origin ▸ hon) _ _

end

/-- Settles O28: a whistle is forwarded before anything else, and the stop it brings is the same whenever it comes. -/
theorem whistles : Obligations.Whistles := by
  refine ⟨?_, ?_, ?_, ?_, ?_, ?_⟩
  · intro t p l s hl hc hup hok hseen hw hsync hlate
    have hin := whistleIn_new (s := s.upTo t) hl hc hup hok (unseen_of (le_upTo s (Nat.le_refl _)) hseen) hw
    rw [if_neg] at hin
    · obtain ⟨s', he, hs⟩ := act_of t s (fun s => s.whistleIn p l false) hin
      have hn : s'.now = (s.upTo t).now := (hs.same (·.now)).trans pending1_now
      refine ⟨s', he, hs.same (·.yard.wpend), (hs.same (·.yard.wcnt)).trans pending1_wcnt, ?_,
        (hs.same (·.yard.wforce)).trans (pending1_same (·.yard.wforce) (fun _ _ _ => rfl) (fun _ _ _ _ => rfl)), fun q hq => ?_⟩
      · rw [hn, hs.same (·.yard.seen)]
        exact congrArg (fun n => some (beAt l 2 2, beAt l 4 2, n)) pending1_now
      · exact (hs.same (fun s => (s.yport q).qw)).trans (pending1_qw (s := s.upTo t) hok hq)
    · have hs : (s.upTo t).yard.sync = s.yard.sync := rfl
      rw [pending1_ytime, pending1_sync, decide_eq_false (by omega), hs]
      obtain h | h := hsync <;> rw [h] <;> decide
  · intro t p l s hl hc hup hok hseen hw hwhy
    have hin := whistleIn_new (s := s.upTo t) hl hc hup hok (unseen_of (le_upTo s (Nat.le_refl _)) hseen) hw
    rw [if_pos] at hin
    · obtain ⟨s', he, hs⟩ := act_of t s (fun s => s.whistleIn p l false) hin
      have hk := hs.keep.trans (whistleAct_keep (s := (s.upTo t).pending1 p l) rfl)
      have hn : s'.now = ((s.upTo t).pending1 p l).now := (of_keep hk (·.now) fun _ => rfl).trans (halted_now _ _ _)
      exact ⟨s', he, of_keep hk (·.yard.wpend) fun _ => rfl, by rw [hn]; exact of_keep hk (·.yard.wforce) fun _ => rfl,
        of_keep hk (·.yard.worigin) fun _ => rfl, of_keep hk (·.yard.wltime) fun _ => rfl,
        (of_keep hk (·.yard.wcnt) fun _ => rfl).trans ((halted_wcnt _ _ _).trans pending1_wcnt)⟩
    · have hs : (s.upTo t).yard.sync = s.yard.sync := rfl
      rw [pending1_ytime, pending1_sync, hs]
      obtain h | h | h := hwhy
      · rw [h]; simp
      · rw [h]; simp
      · rw [decide_eq_true h]; rfl
  · intro t p l s hl hc hup hok hseen
    obtain ⟨s', he, hs⟩ := act_of t s (fun s => s.whistleIn p l false)
      (whistleIn_seen (s := s.upTo t) hl hc hup hok (not_unseen_of (s := s.upTo t) hseen))
    have hn : s'.now = (s.upTo t).now := hs.same (·.now)
    refine ⟨s', he, hs.same (·.yard.ports), hs.same (·.yard.wpend), hs.same (·.yard.wcnt), hs.same (·.yard.wforce), ?_⟩
    rw [hn, hs.same (·.yard.seen)]
    rfl
  · intro t p l a s hl hc hup hp hbad
    obtain ⟨c, hin⟩ := whistleIn_bad (s := s.upTo t) hl hc hup hbad
    obtain ⟨s', he, hs⟩ := act_of t s (fun s => s.whistleIn p l a) hin
    have hsame : ∀ {β : Type} (g : Yard → β), (∀ (y : Yard) (ps : List YPort), g { y with ports := ps } = g y) →
        g ((s.upTo t).forwarded p c (whistleCopy l, true)).yard = g s.yard := fun g h =>
      forwarded_same (s := s.upTo t) (fun s => g s.yard) (fun _ _ _ => h _ _) c _
    refine ⟨s', he, (hs.same (fun s => (s.yport p).err)).trans ?_, (hs.same (·.yard.wpend)).trans (hsame (·.wpend) fun _ _ => rfl),
      (hs.same (·.yard.wcnt)).trans (hsame (·.wcnt) fun _ _ => rfl), (hs.same (·.yard.wforce)).trans (hsame (·.wforce) fun _ _ => rfl)⟩
    exact forwarded_discard_err (s := s.upTo t) hp c _
  · intro t ltime origin s hw hl hlate
    have hin : (s.upTo t).whistleDue = (s.upTo t).whistleAct := by
      unfold State.whistleDue
      rw [show (s.upTo t).yard.wpend = some (ltime, origin) from hw]
      exact if_pos (Bool.and_eq_true_iff.2 ⟨hl, decide_eq_true hlate⟩)
    obtain ⟨s', he, hs⟩ := act_of t s State.whistleDue hin
    have hk := hs.keep.trans (whistleAct_keep (s := s.upTo t) hw)
    have hn : s'.now = (s.upTo t).now := of_keep hk (·.now) fun _ => rfl
    refine ⟨s', he, of_keep hk (·.yard.wpend) fun _ => rfl, by rw [hn]; exact of_keep hk (·.yard.wforce) fun _ => rfl,
      of_keep hk (·.yard.wclear) fun _ => rfl, of_keep hk (·.yard.worigin) fun _ => rfl, of_keep hk (·.yard.wltime) fun _ => rfl,
      fun n hn hwn => ?_, fun hon hsc => hs.latched (whistleAct_latches (s := s.upTo t) hw hon hsc)⟩
    have hg := whistleAct_gates (s := s.upTo t) hw (List.mem_range.1 hn) hwn
    exact ⟨hs.steady.gate n .p (hg .p), hs.steady.gate n .m (hg .m)⟩
  · intro t a s hf ht hw
    have hin : (s.upTo t).whistleClearNow = (({ s.upTo t with
        yard := { (s.upTo t).yard with wforce := none, wclear := true } } : State)).clearLocals (fun _ _ c => c == LocalCause.whistle) := by
      unfold State.whistleClearNow
      rw [show (s.upTo t).yard.wforce = some a from hf]
      exact if_pos (Bool.and_eq_true_iff.2 ⟨decide_eq_true (le_upTo s ht), by rw [show (s.upTo t).yard.wpend = none from hw]; rfl⟩)
    obtain ⟨s', he, hs⟩ := act_of t s State.whistleClearNow hin
    exact ⟨s', he, hs.same (·.yard.wforce), hs.same (·.yard.wclear)⟩

end Sys2Proof.Machine
end

section
/-!
PROOF. The readback checks of the safe outputs (O30). What channel B and an error leave of an output is its fault, its window and its
readbacks.
-/
namespace Sys2Proof.Machine

/-! ## Outputs after a command -/

theorem nth_map {α β : Type} (f : α → β) (d : α) : ∀ (l : List α) (i : Nat), nth (f d) (l.map f) i = f (nth d l i)
  | [], _ => rfl
  | _ :: _, 0 => rfl
  | _ :: l, i + 1 => nth_map f d l i

theorem of_outs {a b : List OutSt} (h : a.map OutSt.keep = b.map OutSt.keep) {β : Type} (g : OutSt → β) (hg : ∀ o : OutSt, g o.keep = g o)
    (n : Nat) : g (nth {} a n) = g (nth {} b n) := by
  have hk : (nth ({} : OutSt) a n).keep = (nth ({} : OutSt) b n).keep := by
    have ha := nth_map OutSt.keep {} a n
    rw [h] at ha
    exact ha.symm.trans (nth_map OutSt.keep {} b n)
  rw [← hg, hk, hg]

/-- Whatever `OutSt.keep` leaves of an output is the same in states with the same `State.keep`. -/
theorem out_of_keep {s u : State} (h : u.keep = s.keep) {β : Type} (g : OutSt → β) (hg : ∀ o : OutSt, g o.keep = g o) (n : Nat) :
    g (u.out n) = g (s.out n) := of_outs (congrArg (·.sout.outs) h) g hg n

/-- Whatever `OutSt.keep` leaves of an output is as the operation left it. -/
theorem After.out {u s' : State} (h : After u s') {β : Type} (g : OutSt → β) (n : Nat)
    (hg : ∀ o : OutSt, g o.keep = g o := by intro; rfl) : g (s'.out n) = g (u.out n) := out_of_keep h.keep g hg n

theorem modOut_out_same (s : State) {n : Nat} (f : OutSt → OutSt) (hn : n < s.sout.outs.length) : (s.modOut n f).out n = f (s.out n) :=
  nth_updAt_same _ _ _ _ hn

theorem modOut_keeps {β : Type} (g : OutSt → β) (s : State) (n m : Nat) {f : OutSt → OutSt} (h : ∀ o, g (f o) = g o) :
    g ((s.modOut n f).out m) = g (s.out m) := nth_updAt_keeps _ g h _ _ _

theorem modOut_length (s : State) (n : Nat) (f : OutSt → OutSt) : (s.modOut n f).sout.outs.length = s.sout.outs.length :=
  updAt_length _ _ _

theorem err_outs_length (s : State) (src : Src) (d : Nat) : (s.err src d).sout.outs.length = s.sout.outs.length := by
  have h : ((s.err src d).sout.outs.map OutSt.keep).length = (s.sout.outs.map OutSt.keep).length :=
    congrArg (fun x : State => x.sout.outs.length) (State.err_keep s src d)
  rwa [List.length_map, List.length_map] at h

/-- The fault state of an output. -/
def OutSt.fault (o : OutSt) : Bool × Bool × Bool × Bool × Nat := (o.force, o.latch, o.rbFlt, o.ocFlt, o.ocs)

/-- An error that is raised only where it was not raised before. -/
theorem raiseOnce_keep (b : Bool) (s : State) (src : Src) (d : Nat) : (if b then s else s.err src d).keep = s.keep := by
  cases b
  · exact State.err_keep _ _ _
  · rfl

section
variable {s : State} {n : Nat} (hn : n < s.sout.outs.length)
include hn

theorem soutRb_fault : ((s.soutRb n).out n).fault = (true, (s.out n).latch, true, (s.out n).ocFlt, (s.out n).ocs) :=
  (out_of_keep (raiseOnce_keep _ _ _ _) OutSt.fault (fun _ => rfl) n).trans (congrArg OutSt.fault (modOut_out_same s _ hn))

theorem soutOc_fault : ((s.soutOc n).out n).fault =
    (true, (s.out n).latch, (s.out n).rbFlt, true, if (s.out n).ocFlt then (s.out n).ocs else sat8 (s.out n).ocs) :=
  (out_of_keep (raiseOnce_keep _ _ _ _) OutSt.fault (fun _ => rfl) n).trans (congrArg OutSt.fault (modOut_out_same s _ hn))

theorem soutShort_fault : ((s.soutShort n).out n).fault = (true, true, (s.out n).rbFlt, (s.out n).ocFlt, (s.out n).ocs) :=
  (out_of_keep (raiseOnce_keep _ _ _ _) OutSt.fault (fun _ => rfl) n).trans (congrArg OutSt.fault (modOut_out_same s _ hn))

end

theorem soutRb_latches {s : State} {n : Nat} (hon : s.flt.on = true) (h : (s.out n).rbFlt = false) :
    bit (s.soutRb n).flt.fstat Src.soutRb.bit = true := by
  have he : s.soutRb n = (s.modOut n (fun o => { o with force := true, rbFlt := true })).err .soutRb n := if_neg (by simp [h])
  rw [he]
  exact err_latches (s := s.modOut n _) hon _ _

theorem soutOc_latches {s : State} {n : Nat} (hon : s.flt.on = true) (h : (s.out n).ocFlt = false) :
    bit (s.soutOc n).flt.fstat Src.soutOc.bit = true := by
  have he : s.soutOc n = (s.modOut n (fun o => { o with
      force := true, ocFlt := true, ocs := if (s.out n).ocFlt then o.ocs else sat8 o.ocs })).err .soutOc n := if_neg (by simp [h])
  rw [he]
  exact err_latches (s := s.modOut n _) hon _ _

/-- SOUT_SHORT leaves the other errors as they are. -/
theorem soutShort_fstat (s : State) (n : Nat) {b : Nat} (h : b ≠ Src.soutShort.bit) :
    bit (s.soutShort n).flt.fstat b = bit s.flt.fstat b := by
  unfold State.soutShort
  dsimp only
  split
  · rfl
  · exact (err_steady _ _ _).fstat _ h

theorem soutRb_length (s : State) (n : Nat) : (s.soutRb n).sout.outs.length = s.sout.outs.length := by
  unfold State.soutRb
  dsimp only
  split
  · exact modOut_length _ _ _
  · exact (err_outs_length _ _ _).trans (modOut_length _ _ _)

theorem soutRb_now (s : State) (n : Nat) : (s.soutRb n).now = s.now := of_keep (raiseOnce_keep _ _ _ _) (·.now) fun _ => rfl

/-! ## The readbacks -/

theorem readback_rb (now : Nat) (v : Bool) (l : LegSt) : (l.readback now v).rb = v := by
  unfold LegSt.readback
  split
  next h => exact eq_of_beq h
  next => rfl

theorem rbChange_out (s : State) {n : Nat} (l : Leg) (v : Bool) (hn : n < s.sout.outs.length) :
    (((s.rbChange n l v).out n).leg l).rb = v ∧ (((s.rbChange n l v).out n).leg (otherLeg l)).rb = ((s.out n).leg (otherLeg l)).rb := by
  have ho : ∃ e, (s.rbChange n l v).out n = { (s.out n).modLeg l (fun g => g.readback s.now v) with episodes := e } :=
    ⟨_, modOut_out_same s _ hn⟩
  obtain ⟨e, ho⟩ := ho
  rw [ho]
  cases l <;> exact ⟨readback_rb _ _ _, rfl⟩

/-! ## The checks -/

section
variable {s : State} {n : Nat}

theorem offLate_raises {l : Leg} {a : Nat} (hc : s.checked n = true) (hl : ((s.out n).leg l).live = some a)
    (ht : a + (s.out n).offdlyNs < s.now) : s.offLate n l =
      if (s.out n).liveLate s.now (otherLeg l) then (s.soutRb n).soutShort n else s.soutRb n := by
  have hlate : (s.out n).liveLate s.now l = true := by
    unfold OutSt.liveLate
    rw [hl]
    exact decide_eq_true ht
  unfold State.offLate
  dsimp only
  rw [hc, hlate, soutRb_now]
  rfl

theorem offLate_fault {l : Leg} {a : Nat} (hn : n < s.sout.outs.length) (hc : s.checked n = true)
    (hl : ((s.out n).leg l).live = some a) (ht : a + (s.out n).offdlyNs < s.now) :
    ((s.offLate n l).out n).force = true ∧ ((s.offLate n l).out n).rbFlt = true ∧
      ((s.out n).liveLate s.now (otherLeg l) = true → ((s.offLate n l).out n).latch = true) := by
  have hrb := soutRb_fault hn
  have hsh := soutShort_fault (s := s.soutRb n) ((soutRb_length s n).symm ▸ hn)
  simp only [OutSt.fault, Prod.mk.injEq] at hrb hsh
  obtain ⟨hrf, -, hrr, -⟩ := hrb
  obtain ⟨hsf, hsl, hsr, -⟩ := hsh
  rw [offLate_raises hc hl ht]
  split
  · exact ⟨hsf, hsr.trans hrr, fun _ => hsl⟩
  next h => exact ⟨hrf, hrr, fun h' => absurd h' h⟩

theorem offLate_latches {l : Leg} {a : Nat} (hc : s.checked n = true) (hl : ((s.out n).leg l).live = some a)
    (ht : a + (s.out n).offdlyNs < s.now) (hon : s.flt.on = true) (hr : (s.out n).rbFlt = false) :
    bit (s.offLate n l).flt.fstat Src.soutRb.bit = true := by
  rw [offLate_raises hc hl ht]
  split
  · exact (soutShort_fstat _ n (by decide)).trans (soutRb_latches hon hr)
  · exact soutRb_latches hon hr

theorem ocLate_raises {l : Leg} {a : Nat} (hc : s.checked n = true) (ho : ((s.out n).leg l).oc = some a)
    (hw : (s.out n).inWindow s.now = false) (ht : Nat.max a ((s.out n).leg l).susp + (s.out n).ocfiltNs < s.now) :
    s.ocLate n l = s.soutOc n := by
  unfold State.ocLate
  dsimp only
  rw [ho]
  exact if_pos (by rw [hc, hw, decide_eq_true ht]; rfl)

/-- The window of an output has ended. -/
def State.windowOver (s : State) (n : Nat) : State := s.modOut n (fun o => { o with win := none })

theorem windowOver_checked (s : State) {n : Nat} (hn : n < s.sout.outs.length) : (s.windowOver n).checked n = s.checked n := by
  unfold State.checked State.windowOver
  rw [modOut_out_same _ _ hn]
  rfl

theorem windowEnd_ends {e : Nat} (hw : (s.out n).win = some e) (ht : e ≤ s.now) : s.windowEnd n =
    if (s.windowOver n).checked n && (((s.out n).p.pad && !(s.out n).p.rb) || ((s.out n).m.pad && !(s.out n).m.rb)) then
      (s.windowOver n).soutOc n else s.windowOver n := by
  unfold State.windowEnd
  dsimp only
  rw [hw]
  exact if_pos ht

theorem outClear_clears {a : Nat} (ho : (s.out n).off = some a) (hf : (s.out n).rbFlt = true ∨ (s.out n).ocFlt = true)
    (ht : a + 100 * ms ≤ s.now) : s.outClear n =
      ((s.modOut n (fun o => { o with rbFlt := false, ocFlt := false, force := o.latch })).awaitPulse n).clearLocals (fun _ _ c => causeOut n c) := by
  unfold State.outClear
  dsimp only
  rw [ho]
  exact if_pos (Bool.and_eq_true_iff.2 ⟨Bool.or_eq_true_iff.2 hf, decide_eq_true ht⟩)

end

/-- The clearing of an output's fault concerns the sheets beside it. -/
theorem groupClear_outs (s : State) (n : Nat) : (s.groupClear n).sout = s.sout := rfl

theorem soutOc_win (s : State) (n : Nat) : ((s.soutOc n).out n).win = (s.out n).win := by
  refine (out_of_keep (raiseOnce_keep _ _ _ _) OutSt.win (fun _ => rfl) n).trans ?_
  exact modOut_keeps OutSt.win s n n fun _ => rfl

/-- Settles O30: each check is one change of the output's fault, which an error raised with it leaves. -/
theorem outputChecks : Obligations.OutputChecks := by
  refine ⟨?_, ?_, ?_, ?_, ?_⟩
  · intro t n l v s hn
    obtain ⟨s', he, hs⟩ := act_after t s (fun s => s.rbChange n l v)
    obtain ⟨h1, h2⟩ := rbChange_out (s.upTo t) l v hn
    exact ⟨s', he, (hs.out (fun o => (o.leg l).rb) n (by cases l <;> intro <;> rfl)).trans h1,
      (hs.out (fun o => (o.leg (otherLeg l)).rb) n (by cases l <;> intro <;> rfl)).trans h2⟩
  · intro t a n l s hn hc hl ht
    obtain ⟨s', he, hs⟩ := act_after t s (fun s => s.offLate n l)
    have ht' : a + ((s.upTo t).out n).offdlyNs < (s.upTo t).now := Nat.lt_of_lt_of_le ht (le_upTo s (Nat.le_refl _))
    obtain ⟨h1, h2, h3⟩ := offLate_fault (s := s.upTo t) hn hc hl ht'
    have hnow : ((s.upTo t).offLate n l).now = (s.upTo t).now := congrArg Prod.fst (State.offLate_core (s.upTo t) n l)
    have hn' : s'.now = (s.upTo t).now := (hs.same (·.now)).trans hnow
    exact ⟨s', he, (hs.out (·.force) n).trans h1, (hs.out (·.rbFlt) n).trans h2,
      fun h => (hs.out (·.latch) n).trans (h3 (by rwa [hn'] at h)),
      fun hon hr => hs.latched (offLate_latches (s := s.upTo t) hc hl ht' hon hr)⟩
  · intro t a n l s hn hc ho hw ht
    obtain ⟨s', he, hs⟩ := act_of t s (fun s => s.ocLate n l)
      (ocLate_raises (s := s.upTo t) hc ho hw (Nat.lt_of_lt_of_le ht (le_upTo s (Nat.le_refl _))))
    have hf := soutOc_fault (s := s.upTo t) hn
    simp only [OutSt.fault, Prod.mk.injEq] at hf
    obtain ⟨h1, -, -, h4, h5⟩ := hf
    exact ⟨s', he, (hs.out (·.force) n).trans h1, (hs.out (·.ocFlt) n).trans h4, (hs.out (·.ocs) n).trans h5,
      fun hon hr => hs.latched (soutOc_latches (s := s.upTo t) hon hr)⟩
  · intro t e n s hn hw ht
    obtain ⟨s', he, hs⟩ := act_of t s (fun s => s.windowEnd n) (windowEnd_ends (s := s.upTo t) hw (le_upTo s ht))
    rw [windowOver_checked (s.upTo t) hn] at hs
    have hn' : n < ((s.upTo t).windowOver n).sout.outs.length := (modOut_length (s.upTo t) n _).symm ▸ hn
    have hwin : (((s.upTo t).windowOver n).out n).win = none := congrArg OutSt.win (modOut_out_same (s.upTo t) _ hn)
    refine ⟨s', he, (hs.out (·.win) n).trans ?_, fun hc hbad => ?_⟩
    · split
      · exact (soutOc_win _ _).trans hwin
      · exact hwin
    · have hb : ((s.upTo t).checked n && ((((s.upTo t).out n).p.pad && !((s.upTo t).out n).p.rb) ||
          (((s.upTo t).out n).m.pad && !((s.upTo t).out n).m.rb))) = true := by
        simp only [Bool.and_eq_true, Bool.or_eq_true, Bool.not_eq_true']
        exact ⟨hc, hbad⟩
      rw [if_pos hb] at hs
      have hf := soutOc_fault (s := (s.upTo t).windowOver n) hn'
      simp only [OutSt.fault, Prod.mk.injEq] at hf
      obtain ⟨h1, -, -, h4, -⟩ := hf
      exact ⟨(hs.out (·.ocFlt) n).trans h4, (hs.out (·.force) n).trans h1⟩
  · intro t a n s hn ho hf ht
    obtain ⟨s', he, hs⟩ := act_of t s (fun s => (s.outClear n).groupClear n)
      (congrArg (fun s => s.groupClear n) (outClear_clears (s := s.upTo t) ho hf (le_upTo s ht)))
    have hm := modOut_out_same (s.upTo t) (fun o => { o with rbFlt := false, ocFlt := false, force := o.latch }) hn
    exact ⟨s', he, (hs.out (·.rbFlt) n).trans (congrArg OutSt.rbFlt hm), (hs.out (·.ocFlt) n).trans (congrArg OutSt.ocFlt hm),
      (hs.out (·.force) n).trans (congrArg OutSt.force hm)⟩

end Sys2Proof.Machine
end

section
/-!
PROOF. The dark tests of the output legs (O31). No error and no settling begins a test or ends it otherwise than by a de-energise.
-/
namespace Sys2Proof.Machine

/-! ## Errors leave the test in progress -/

theorem foldl_test {α : Type} (f : State → α → State) (h : ∀ s a, (f s a).sout.test = s.sout.test) :
    ∀ (l : List α) (s : State), (l.foldl f s).sout.test = s.sout.test
  | [], _ => rfl
  | a :: l, s => (foldl_test f h l (f s a)).trans (h s a)

theorem alert_sout (s : State) (n : Nat) : (s.alert n).sout = s.sout := by
  unfold State.alert
  split <;> rfl

theorem farrStop_sout (s : State) (src : Src) : (s.farrStop src).sout = s.sout := by
  have hrest : ∀ x : State, x.hostRestore.sout = x.sout := fun x => by
    unfold State.hostRestore
    split <;> rfl
  unfold State.farrStop
  dsimp only
  split
  · split
    · exact hrest _
    · rfl
  · rfl

theorem toSafe_sout (s : State) : s.toSafe.sout = s.sout := by
  have hold : (if s.clk.held then s else ({ s with clk := { s.clk with held := true } } : State).alert 2).sout = s.sout := by
    split
    · rfl
    · exact alert_sout _ _
  unfold State.toSafe
  dsimp only
  split
  case h_4 =>
    split
    · exact hold
    · rfl
  case h_5 | h_6 | h_7 => rfl
  all_goals exact hold

theorem stop_test (s : State) : s.stop.sout.test = s.sout.test := congrArg (·.test) (toSafe_sout _)

theorem cut_test (s : State) (c x : Nat) : (s.cut c x).sout.test = s.sout.test := congrArg (·.test) (snap_same s c x).2.2.2.2.2.2.2.2.1

theorem modCom_sout (s : State) (k i : Nat) (f : InstCom → InstCom) : (s.modCom k i f).sout = s.sout := by
  unfold State.modCom State.modSheet
  split <;> rfl

theorem localReact_test (s : State) (src : Src) (d r : Nat) : (s.localReact src d r).sout.test = s.sout.test := by
  have hadd : ∀ (x : State) (e : Nat × Nat), (x.addLocal src d r e).sout.test = x.sout.test := fun x e => by
    unfold State.addLocal
    dsimp only
    split
    · exact congrArg (·.test) ((alert_sout _ _).trans (modCom_sout _ _ _ _))
    · exact congrArg (·.test) (modCom_sout _ _ _ _)
  unfold State.localReact State.cancelAffected
  refine .trans (foldl_test _ (fun _ _ => ?_) _ _) (foldl_test _ hadd _ s)
  rfl

theorem record_sout (s : State) (x d : Nat) (c : Cls) : (s.record x d c).sout = s.sout := by
  have hopen : (s.openRecord x d c).sout = s.sout := by
    have hif : ∀ (p : Bool) (f : Flt), (if p then ({ s with flt := f } : State) else ({ s with flt := f } : State).unsup).sout = s.sout :=
      fun p f => by cases p <;> rfl
    unfold State.openRecord
    exact (alert_sout _ _).trans (hif _ _)
  unfold State.record
  split
  · rfl
  · split
    · rfl
    · split
      · exact alert_sout _ _
      · exact hopen

theorem reactTo_test (s : State) (src : Src) (d : Nat) (c : Cls) : (s.reactTo src d c).sout.test = s.sout.test := by
  have hfarr : (s.farrStop src).sout.test = s.sout.test := congrArg (·.test) (farrStop_sout s src)
  cases c with
  | note => rfl
  | loc => exact localReact_test s src d _
  | stop =>
    unfold State.reactTo
    dsimp only
    split <;> exact (stop_test _).trans hfarr
  | cut =>
    unfold State.reactTo
    dsimp only
    split
    · rfl
    · exact cut_test _ _ _

theorem err_test (s : State) (src : Src) (d : Nat) : (s.err src d).sout.test = s.sout.test := by
  show (s.raise src d _).sout.test = _
  cases hon : s.flt.on with
  | false =>
    rw [State.raise_eq, hon]
    rfl
  | true =>
    rw [raise_noted hon]
    exact (reactTo_test _ _ _ _).trans (congrArg (·.test) (record_sout _ _ _ _))

theorem raiseAll_test : ∀ (l : List (Src × Nat)) (s : State), (s.raiseAll l).sout.test = s.sout.test
  | [], _ => rfl
  | e :: l, s => (raiseAll_test l _).trans (err_test s e.1 e.2)

theorem evalB_test (s : State) (tick : Bool) : (s.evalB tick).1.sout.test = s.sout.test := by
  unfold State.evalB
  split
  · exact foldl_test _ (fun _ _ => by rfl) _ _
  · rfl

theorem runB_test (s : State) (tick : Bool) : (s.runB tick).sout.test = s.sout.test := by
  unfold State.runB
  dsimp only
  split
  · exact evalB_test s tick
  · exact ((evalB_test _ false).trans (raiseAll_test _ _)).trans (evalB_test s tick)

/-! ## Settling -/

theorem holdLine_sout (s : State) (src : Src) (a : Bool) : (s.holdLine src a).sout = s.sout := by
  unfold State.holdLine State.line
  dsimp only
  split
  · rfl
  · split
    next h => cases h
    next => split <;> rfl

/-- Up to the muzzle settling leaves the test in progress. -/
theorem untilMuzzle_test (s : State) (tick : Bool) :
    (((s.refs.openings.runB tick).openings.mCommands.monitor.shortLine).muzzle).sout.test = s.sout.test := by
  have hm : ∀ x : State, x.mCommands.sout.test = x.sout.test := fun x => by
    unfold State.mCommands
    split <;> rfl
  have hmon : ∀ x : State, x.monitor.sout = x.sout := fun x => by
    unfold State.monitor
    split <;> rfl
  have hline : ∀ x : State, x.shortLine.sout = x.sout := fun x => (holdLine_sout _ _ _).trans (holdLine_sout _ _ _)
  show ((s.refs.openings.runB tick).openings.mCommands.monitor.shortLine).sout.test = _
  rw [hline, hmon, hm]
  exact runB_test _ _

/-- Whether an output is energised. -/
def State.powered (s : State) (n : Nat) : Bool := s.energised n (s.out n)

theorem padsOf_energised (s : State) (n : Nat) (o : OutSt) : s.energised n (s.padsOf n o) = s.energised n o := by
  have hset : ∀ (v : Bool) (l : LegSt), (l.setPad s.now v).cmd = l.cmd ∧ (l.setPad s.now v).gate = l.gate := fun v l => by
    unfold LegSt.setPad
    repeat' split
    all_goals exact ⟨rfl, rfl⟩
  unfold State.energised State.drive State.padsOf
  dsimp only
  simp only [hset]

theorem mapPads_powered (s : State) (n : Nat) : (s.mapOuts s.padsOf).powered n = s.powered n := by
  unfold State.powered
  by_cases hn : n < s.sout.outs.length
  · rw [s.mapOuts_out _ n hn]
    exact padsOf_energised s n _
  · have hle := Nat.not_lt.1 hn
    have h1 : (s.mapOuts s.padsOf).out n = {} := nth_beyond _ _ _ (Nat.le_trans (Nat.le_of_eq (mapIdx_length s.padsOf s.sout.outs 0)) hle)
    have h2 : s.out n = {} := nth_beyond _ _ _ hle
    rw [h1, h2]
    rfl

theorem darkAbort_none {s : State} (h : s.sout.test = none) : s.darkAbort = s := by
  unfold State.darkAbort
  rw [h]

theorem leg_energised (s : State) (n : Nat) (o : OutSt) (l : Leg) (f : LegSt → LegSt) (hc : ∀ g, (f g).cmd = g.cmd)
    (hg : ∀ g, (f g).gate = g.gate) : s.energised n (o.modLeg l f) = s.energised n o := by
  unfold State.energised State.drive
  cases l <;> simp [OutSt.modLeg, hc, hg]

/-- A test in progress stays, or its output is no longer energised. -/
theorem darkAbort_test {s : State} {d : DarkTest} (h : s.sout.test = some d) :
    s.darkAbort.sout.test = some d ∨ s.darkAbort.powered d.out = false := by
  unfold State.darkAbort
  rw [h]
  dsimp only
  split
  · exact .inl h
  next hp =>
    refine .inr ?_
    have hp := Bool.eq_false_iff.2 hp
    by_cases hn : d.out < s.sout.outs.length
    · have ho : ∀ f : LegSt → LegSt, (({ s with sout := { s.sout with test := none, testEnd := some s.now } } : State).modLeg d.out d.leg f).out d.out =
        (s.out d.out).modLeg d.leg f := fun f => nth_updAt_same _ _ _ _ hn
      unfold State.powered
      rw [ho]
      exact .trans (leg_energised s d.out _ d.leg _ (fun _ => rfl) (fun _ => rfl)) hp
    · have ho : ∀ f : LegSt → LegSt, (({ s with sout := { s.sout with test := none, testEnd := some s.now } } : State).modLeg d.out d.leg f).out d.out =
        s.out d.out := fun f => (nth_beyond _ _ _ (Nat.le_trans (Nat.le_of_eq (updAt_length _ _ _)) (Nat.not_lt.1 hn))).trans (nth_beyond _ _ _ (Nat.not_lt.1 hn)).symm
      unfold State.powered
      rw [ho]
      exact hp

/-- What comes after the pads touches neither them nor what drives them. -/
theorem afterPads_same (old s : State) : (old.watch s.closing.item1).sout = s.sout ∧
    ∀ n, (old.watch s.closing.item1).powered n = s.powered n := by
  have halert : ∀ (x : State) (n : Nat), (x.alert n).sout = x.sout ∧ ∀ m, (x.alert n).powered m = x.powered m := fun x n => by
    unfold State.alert
    split <;> exact ⟨rfl, fun _ => rfl⟩
  have hif : ∀ (x : State) (p : Bool) (n : Nat),
      (if p then x.alert n else x).sout = x.sout ∧ ∀ m, (if p then x.alert n else x).powered m = x.powered m := fun x p n => by
    split
    · exact halert x n
    · exact ⟨rfl, fun _ => rfl⟩
  have hclosing : s.closing.sout = s.sout ∧ ∀ m, s.closing.powered m = s.powered m := by
    have hclose : s.closeRecord.sout = s.sout ∧ ∀ m, s.closeRecord.powered m = s.powered m := by
      unfold State.closeRecord
      split
      · exact ⟨(halert _ _).1, fun m => (halert _ _).2 m⟩
      · exact ⟨rfl, fun _ => rfl⟩
    unfold State.closing
    repeat' split
    all_goals first
      | exact ⟨rfl, fun _ => rfl⟩
      | exact hclose
  have hitem : ∀ x : State, x.item1.sout = x.sout ∧ ∀ m, x.item1.powered m = x.powered m := fun x => by
    have hack : ∀ (c : Prop) [Decidable c] (y : State), (if c then y.discardAck else y).sout = y.sout ∧
        ∀ m, (if c then y.discardAck else y).powered m = y.powered m := fun c _ y => by
      split <;> exact ⟨rfl, fun _ => rfl⟩
    unfold State.item1
    exact hack _ _
  have hwatch : ∀ x : State, (old.watch x).sout = x.sout ∧ ∀ m, (old.watch x).powered m = x.powered m := fun x => by
    unfold State.watch
    refine ⟨?_, fun m => ?_⟩
    · exact ((((((hif _ _ 15).1.trans (hif _ _ 14).1).trans (hif _ _ 13).1).trans (hif _ _ 12).1).trans (hif _ _ 3).1).trans (hif _ _ 2).1)
    · exact ((((((hif _ _ 15).2 m).trans ((hif _ _ 14).2 m)).trans ((hif _ _ 13).2 m)).trans ((hif _ _ 12).2 m)).trans
        ((hif _ _ 3).2 m)).trans ((hif _ _ 2).2 m)
  exact ⟨((hwatch _).1.trans (hitem _).1).trans hclosing.1, fun m => (((hwatch _).2 m).trans ((hitem _).2 m)).trans (hclosing.2 m)⟩

/-- Settling begins no test. -/
theorem settle_test_none (old : State) {s : State} (h : s.sout.test = none) : (old.watch s.settle).sout.test = none := by
  have hm := (untilMuzzle_test s false).trans h
  unfold State.settle State.settleAt
  dsimp only
  rw [(afterPads_same old _).1]
  unfold State.pads
  dsimp only
  rw [darkAbort_none (by exact hm)]
  exact hm

/-- Settling ends a test only where its output is not energised. -/
theorem settle_test_some (old : State) {s : State} {d : DarkTest} (h : s.sout.test = some d) :
    (old.watch s.settle).sout.test = some d ∨ (old.watch s.settle).powered d.out = false := by
  have hm := (untilMuzzle_test s false).trans h
  unfold State.settle State.settleAt
  dsimp only
  rw [(afterPads_same old _).1, (afterPads_same old _).2]
  unfold State.pads
  dsimp only
  rw [mapPads_powered]
  exact darkAbort_test (by exact hm)

/-! ## The commands -/

theorem mapOuts_keeps {β : Type} (g : OutSt → β) (s : State) {f : Nat → OutSt → OutSt} (h : ∀ n o, g (f n o) = g o) (m : Nat) :
    g ((s.mapOuts f).out m) = g (s.out m) := by
  by_cases hm : m < s.sout.outs.length
  · rw [s.mapOuts_out f m hm, h]
  · have hle := Nat.not_lt.1 hm
    have h1 : (s.mapOuts f).out m = {} := nth_beyond _ _ _ (Nat.le_trans (Nat.le_of_eq (mapIdx_length f s.sout.outs 0)) hle)
    have h2 : s.out m = {} := nth_beyond _ _ _ hle
    rw [h1, h2]

/-- How often the tests of a leg have fallen due. -/
def OutSt.dues (l : Leg) (o : OutSt) : Nat := (o.leg l).dueCnt

theorem darkBegin_dues (l : Leg) (s : State) (n : Nat) (k : Leg) (m : Nat) :
    ((s.darkBegin n k).out m).dues l = (s.out m).dues l := by
  have hif : ∀ (c : Prop) [Decidable c] (x : State), (x.out m).dues l = (s.out m).dues l →
      ((if c then x else s).out m).dues l = (s.out m).dues l := fun c _ x h => by
    split
    · exact h
    · rfl
  exact hif _ _ (modOut_keeps (OutSt.dues l) s n m fun o => by cases l <;> cases k <;> rfl)

theorem sioTakes_dues (l : Leg) (s : State) (d : Datum) (m : Nat) : ((s.sioTakes d).out m).dues l = (s.out m).dues l := by
  cases d with
  | commands k b =>
    refine mapOuts_keeps (OutSt.dues l) s (fun n o => ?_) m
    split
    · cases l <;> rfl
    · split <;> cases l <;> rfl
  | bark =>
    unfold State.sioTakes
    dsimp only
    split <;> rfl
  | dark n => exact darkBegin_dues l s n .p m
  | _ => rfl

theorem sioTakesAll_dues (l : Leg) (m : Nat) : ∀ (q : List Datum) (s : State), ((q.foldl State.sioTakes s).out m).dues l = (s.out m).dues l
  | [], _ => rfl
  | d :: q, s => (sioTakesAll_dues l m q _).trans (sioTakes_dues l s d m)

theorem darkStartTest_dues (l : Leg) (s : State) (n : Nat) (k : Leg) (m : Nat) :
    ((s.darkStartTest n k).out m).dues l = (s.out m).dues l := by
  cases k with
  | m => exact darkBegin_dues l s n .m m
  | p =>
    unfold State.darkStartTest
    dsimp only
    split
    · exact sioTakesAll_dues l m _ _
    · rfl

theorem darkFallsDue_counts {s : State} {n d : Nat} {l : Leg} (hn : n < s.sout.outs.length) (hd : (s.out n).darkDue l = some d)
    (hc : s.checked n = true) (ht : d ≤ s.now) : ((s.darkFallsDue n l).out n).dues l = (s.out n).dues l + 1 := by
  have hmod : ∀ x : Bool, ((s.modLeg n l (fun g => { g with dueCnt := g.dueCnt + 1, deferred := g.deferred || x })).out n).dues l =
      (s.out n).dues l + 1 := fun x => by
    refine (congrArg (OutSt.dues l) (modOut_out_same s _ hn)).trans ?_
    cases l <;> rfl
  unfold State.darkFallsDue
  rw [hd]
  dsimp only
  rw [hc, decide_eq_true ht]
  exact (darkStartTest_dues l _ n l n).trans (hmod _)

/-- A test of an output's leg has begun. -/
def State.darkBegun (s : State) (n : Nat) (l : Leg) : State :=
  let zero : Option Nat := if ((s.out n).leg l).rb then none else some s.now
  let s := s.modOut n (fun o =>
    (o.modLeg l (fun g => { g with deferred := false })).modLeg (otherLeg l) (fun g => { g with susp := s.now + o.darkwNs + o.offdlyNs }))
  { s with sout := { s.sout with test := some { out := n, leg := l, start := s.now, zero := zero, first := zero } } }

/-- A deferred test starts where nothing holds it back. -/
theorem darkBegin_begins {s : State} {n : Nat} {l : Leg} (hd : ((s.out n).leg l).deferred = true)
    (hc : s.checked n = true) (he : s.energised n (s.out n) = true) (ht : s.sout.test = none)
    (ha : s.sout.testEnd.all (fun e => decide (e + ms ≤ s.now)) = true) (hw : (s.out n).inWindow s.now = false) :
    s.darkBegin n l = s.darkBegun n l := by
  unfold State.darkBegin State.darkBegun
  dsimp only
  rw [hd, hc, he, ht, hw]
  cases hx : s.sout.testEnd with
  | none => exact if_pos rfl
  | some e =>
    rw [hx, Option.all_some] at ha
    exact if_pos (by dsimp only; rw [ha]; rfl)

theorem darkBegun_susp {s : State} {n : Nat} {l : Leg} (hn : n < s.sout.outs.length) :
    (((s.darkBegun n l).out n).leg (otherLeg l)).susp = s.now + (s.out n).darkwNs + (s.out n).offdlyNs := by
  refine (congrArg (fun o : OutSt => (o.leg (otherLeg l)).susp) (modOut_out_same s _ hn)).trans ?_
  cases l <;> rfl

theorem darkVerdict_leg {s : State} {d : DarkTest} (pass : Bool) (hn : d.out < s.sout.outs.length) :
    (((s.darkVerdict d pass).out d.out).leg d.leg).pass = pass ∧
      ∀ f ∈ d.first, (((s.darkVerdict d pass).out d.out).leg d.leg).dtime = Nat.min ((f - d.start) / us) 0xFFFE := by
  have ho : ∃ x, (s.darkVerdict d pass).out d.out = (s.out d.out).modLeg d.leg (fun g => { g with pass := pass, dtime := x }) ∧
      ∀ f ∈ d.first, x = Nat.min ((f - d.start) / us) 0xFFFE :=
    ⟨_, nth_updAt_same _ _ _ _ hn, fun f hf => by rw [Option.mem_def.1 hf]⟩
  obtain ⟨x, ho, hx⟩ := ho
  rw [ho]
  cases d.leg <;> exact ⟨rfl, hx⟩

theorem darkPassed_passes {s : State} {d : DarkTest} {e : Nat} (ht : s.sout.test = some d) (hd : d.done (s.out d.out).darkwNs = some e)
    (hle : e ≤ s.now) : s.darkPassed = s.darkVerdict d true := by
  unfold State.darkPassed
  rw [ht]
  dsimp only
  rw [hd]
  exact if_pos hle

theorem darkFailed_fails {s : State} {d : DarkTest} (ht : s.sout.test = some d) (hd : d.done (s.out d.out).darkwNs = none)
    (hle : d.start + (s.out d.out).darkwNs ≤ s.now) : s.darkFailed = (s.darkVerdict d false).soutRb d.out := by
  unfold State.darkFailed
  rw [ht]
  dsimp only
  rw [hd]
  exact if_pos (by rw [decide_eq_true hle]; rfl)

theorem soutRb_test (s : State) (n : Nat) : (s.soutRb n).sout.test = s.sout.test := by
  unfold State.soutRb
  dsimp only
  split
  · rfl
  · exact err_test _ _ _

theorem soutRb_pass (s : State) (n : Nat) (l : Leg) : (((s.soutRb n).out n).leg l).pass = ((s.out n).leg l).pass := by
  refine (out_of_keep (raiseOnce_keep _ _ _ _) (fun o => (o.leg l).pass) (by cases l <;> intro <;> rfl) n).trans ?_
  exact modOut_keeps (fun o => (o.leg l).pass) s n n fun o => by cases l <;> rfl

theorem darkVerdict_rbFlt (s : State) (d : DarkTest) (pass : Bool) : ((s.darkVerdict d pass).out d.out).rbFlt = (s.out d.out).rbFlt :=
  modOut_keeps OutSt.rbFlt s d.out d.out fun o => by cases d.leg <;> rfl

/-- The P-leg's test passes through a FIFO that holds nothing else. -/
theorem darkStartTest_begins {s : State} {n : Nat} {l : Leg} (hd : ((s.out n).leg l).deferred = true)
    (hf : l = .m ∨ ((s.fifo 1).q = [] ∧ (s.fifo 1).held = [] ∧ (s.backP 1).1 = 0 ∧ 1 < s.fifos.length)) :
    ∃ x, s.darkStartTest n l = ({ s with fifos := x } : State).darkBegin n l := by
  cases l with
  | m => exact ⟨s.fifos, rfl⟩
  | p =>
    obtain hf | ⟨hq, hh, hb, hlen⟩ := hf
    · cases hf
    have hd : (s.out n).p.deferred = true := hd
    have hpush := fifoPush_empty (s := s) (n := 1) (.dark n) hlen hb hq hh (by decide)
    refine ⟨((s.fifoPush 1 (.dark n)).fifoTake 1).fifos, ?_⟩
    unfold State.darkStartTest
    dsimp only
    rw [hd, hh]
    show (s.fifoPush 1 (.dark n)).drainSio = _
    unfold State.drainSio
    rw [hpush]
    rfl

/-- Settles O31: what the commands do to the leg stays, and settling ends a test only with a de-energise. -/
theorem darkTests : Obligations.DarkTests := by
  refine ⟨?_, ?_, ?_, ?_⟩
  · intro t d n l s hn hd hc hle
    obtain ⟨s', he, hs⟩ := act_after t s (fun s => s.darkFallsDue n l)
    exact ⟨s', he, (hs.out (OutSt.dues l) n (by cases l <;> intro <;> rfl)).trans
      (darkFallsDue_counts (s := s.upTo t) hn hd hc (le_upTo s hle))⟩
  · intro t n l s hn hd hc he ht ha hw hf
    obtain ⟨x, hx⟩ := darkStartTest_begins (s := s.upTo t) hd hf
    have hapart : s.sout.testEnd.all (fun e => decide (e + ms ≤ (s.upTo t).now)) = true := by
      refine (Option.all_eq_true _ _).2 fun e hm => decide_eq_true (le_upTo s ?_)
      exact of_decide_eq_true ((Option.all_eq_true _ _).1 ha e hm)
    have hu := hx.trans (darkBegin_begins (s := { s.upTo t with fifos := x }) (l := l) hd hc he ht hapart hw)
    obtain ⟨s', hex, hs⟩ := act_of t s (fun s => s.darkStartTest n l) hu
    have hs' : s.watch (({ s.upTo t with fifos := x } : State).darkBegun n l).settle = s' := by
      rw [← hu]
      exact Host.Outcome.next.inj hex
    have hnow : s'.now = (s.upTo t).now := hs.same (·.now)
    refine ⟨s', hex, ?_, ?_⟩
    · rw [hnow]
      exact (hs.out (fun o => (o.leg (otherLeg l)).susp) n (by cases l <;> intro <;> rfl)).trans
        (darkBegun_susp (s := { s.upTo t with fifos := x }) hn)
    · rw [hnow, ← hs']
      obtain h | h := settle_test_some s (s := ({ s.upTo t with fifos := x } : State).darkBegun n l) rfl
      · exact .inl (by rw [h]; rfl)
      · exact .inr h
  · intro t e d s hn ht hd hle
    have hu := darkPassed_passes (s := s.upTo t) ht hd (le_upTo s hle)
    obtain ⟨s', hex, hs⟩ := act_of t s State.darkPassed hu
    have hs' : s.watch ((s.upTo t).darkVerdict d true).settle = s' := by
      rw [← hu]
      exact Host.Outcome.next.inj hex
    obtain ⟨hp, hdt⟩ := darkVerdict_leg (s := s.upTo t) true hn
    exact ⟨s', hex, hs' ▸ settle_test_none s rfl,
      (hs.out (fun o => (o.leg d.leg).pass) d.out (by cases d.leg <;> intro <;> rfl)).trans hp,
      fun f hf => (hs.out (fun o => (o.leg d.leg).dtime) d.out (by cases d.leg <;> intro <;> rfl)).trans (hdt f hf)⟩
  · intro t d s hn ht hd hle
    have hu := darkFailed_fails (s := s.upTo t) ht hd (le_upTo s hle)
    obtain ⟨s', hex, hs⟩ := act_of t s State.darkFailed hu
    have hs' : s.watch (((s.upTo t).darkVerdict d false).soutRb d.out).settle = s' := by
      rw [← hu]
      exact Host.Outcome.next.inj hex
    have hn' : d.out < ((s.upTo t).darkVerdict d false).sout.outs.length := (updAt_length _ _ _).symm ▸ hn
    have hfault := soutRb_fault hn'
    simp only [OutSt.fault, Prod.mk.injEq] at hfault
    obtain ⟨hforce, -, hrb, -⟩ := hfault
    have hpass := (soutRb_pass ((s.upTo t).darkVerdict d false) d.out d.leg).trans (darkVerdict_leg (s := s.upTo t) false hn).1
    exact ⟨s', hex, hs' ▸ settle_test_none s (soutRb_test _ _),
      (hs.out (fun o => (o.leg d.leg).pass) d.out (by cases d.leg <;> intro <;> rfl)).trans hpass, (hs.out (·.force) d.out).trans hforce,
      (hs.out (·.rbFlt) d.out).trans hrb,
      fun hon hr => hs.latched (soutRb_latches hon ((darkVerdict_rbFlt (s.upTo t) d false).trans hr))⟩

end Sys2Proof.Machine
end

section
/-!
PROOF. The muzzle pin, the BARK monitor and the launch unit (O32).
-/
namespace Sys2Proof.Machine

/-! ## MUZZLE_N -/

theorem line_latches {s : State} {src : Src} (hon : s.flt.on = true) (hl : bit s.flt.line src.bit = false) (d : Nat) :
    bit (s.line src true d).flt.fstat src.bit = true := by
  have he : s.line src true d = ({ s with flt := { s.flt with line := s.flt.line ||| 2 ^ src.bit } } : State).err src d :=
    if_neg (by simp [hl])
  rw [he]
  exact err_latches (by exact hon) src d

theorem muzzleLow_keep (s : State) : s.muzzleLow.keep = ({ s with sout := { s.sout with ext := true } } : State).keep := by
  unfold State.muzzleLow
  dsimp only
  split
  · exact State.line_keep _ _ _ _
  · rfl

theorem muzzleLow_latches {s : State} (hlive : s.live = true) (hon : s.flt.on = true) (hl : bit s.flt.line Src.muzzleExt.bit = false) :
    bit s.muzzleLow.flt.fstat Src.muzzleExt.bit = true := by
  have he : s.muzzleLow = (({ s with sout := { s.sout with ext := true } } : State).trigger trigExt).line .muzzleExt true 0 := if_pos hlive
  rw [he]
  exact line_latches (by exact hon) (by exact hl) 0

/-- A MUZZLE_N that is low opens the muzzle. -/
theorem After.ext_open {u s' : State} (h : After u s') (he : u.sout.ext = true) : s'.sout.ext = true ∧ s'.sout.open_ = true := by
  have hx : s'.sout.ext = true := (h.same (·.sout.ext)).trans he
  refine ⟨hx, ?_⟩
  rw [h.safe.1]
  simp [State.muzzleOpen, hx]

/-! ## BARK -/

theorem barkLook_a {s : State} (hb : s.barks = true) (ht : s.sout.barkAat + 3 * s.tcyc / 2 < s.now) :
    s.barkLook .a = ({ s with sout := { s.sout with monA := true } } : State).err .barkMon 1 :=
  if_pos (by rw [hb, decide_eq_true ht]; rfl)

theorem barkLook_b {s : State} (hb : s.barks = true) (ht : s.sout.barkBat + 3 * s.tcyc / 2 < s.now) :
    s.barkLook .b = ({ s with sout := { s.sout with monB := true } } : State).err .barkMon 2 :=
  if_pos (by rw [hb, decide_eq_true ht]; rfl)

/-- BARK_MON is latched and stops the part. -/
theorem barkMon_stops {s s' : State} {d : Nat} (h : After (s.err .barkMon d) s') (hon : s.flt.on = true) :
    bit s'.flt.fstat Src.barkMon.bit = true ∧ s'.sout.open_ = true :=
  ⟨h.latched (err_latches hon _ _), h.stopped_open (raise_stopped hon .barkMon d .stop (by decide) nofun)⟩

theorem err_field {β : Type} (g : State → β) (s : State) (src : Src) (d : Nat) (hg : ∀ x : State, g x.keep = g x := by intro; rfl) :
    g (s.err src d) = g s := of_keep (State.err_keep s src d) g hg

/-! ## The launch unit -/

/-- The gates of an output's commanded legs open, and its switch-on window starts. -/
def State.gatesOpened (s : State) (n : Nat) : State :=
  s.modOut n (fun o => { o with
    p := { o.p with gate := o.p.gate || (o.p.cmd && !s.sout.open_), conducted := o.p.pad && o.p.rb }
    m := { o.m with gate := o.m.gate || (o.m.cmd && !s.sout.open_), conducted := o.m.pad && o.m.rb }
    win := if o.used then some (s.now + o.swblankNs) else o.win })

/-- The dark tests of an output are scheduled. -/
def State.darkScheduled (s : State) (n : Nat) : State := s.modOut n (fun o => { o with sched := some (o.sched.getD s.now) })

theorem releaseOut_eq (s : State) (n : Nat) : s.releaseOut n =
    if (s.gatesOpened n).energised n ((s.gatesOpened n).out n) then (s.gatesOpened n).darkScheduled n else s.gatesOpened n := rfl

theorem releaseOut_now (s : State) (n : Nat) : (s.releaseOut n).now = s.now := congrArg Prod.fst (State.releaseOut_core s n)

theorem releaseOut_pend (s : State) (n : Nat) : (s.releaseOut n).yard.pend = s.yard.pend := by
  rw [releaseOut_eq]
  split <;> rfl

/-- What of an output a release reads and leaves. -/
def OutSt.use (o : OutSt) : Bool × Nat := (o.used, o.swblank)

theorem releaseOut_use (s : State) (m n : Nat) : ((s.releaseOut m).out n).use = (s.out n).use := by
  have hopen : ((s.gatesOpened m).out n).use = (s.out n).use := modOut_keeps OutSt.use s m n fun _ => rfl
  rw [releaseOut_eq]
  split
  · refine .trans ?_ hopen
    exact modOut_keeps OutSt.use _ m n fun _ => rfl
  · exact hopen

theorem releaseOut_length (s : State) (m : Nat) : (s.releaseOut m).sout.outs.length = s.sout.outs.length := by
  have hopen : (s.gatesOpened m).sout.outs.length = s.sout.outs.length := modOut_length _ _ _
  rw [releaseOut_eq]
  split
  · exact (modOut_length _ _ _).trans hopen
  · exact hopen

theorem releaseOut_win {s : State} {n : Nat} (hn : n < s.sout.outs.length) (hu : (s.out n).used = true) :
    ((s.releaseOut n).out n).win = some (s.now + (s.out n).swblankNs) := by
  have hopen : ((s.gatesOpened n).out n).win = some (s.now + (s.out n).swblankNs) :=
    (congrArg OutSt.win (modOut_out_same s _ hn)).trans (if_pos hu)
  rw [releaseOut_eq]
  split
  · refine .trans ?_ hopen
    exact modOut_keeps OutSt.win _ n n fun _ => rfl
  · exact hopen

theorem releaseOut_other (s : State) {m n : Nat} (h : n ≠ m) : (s.releaseOut m).out n = s.out n := by
  have hopen : (s.gatesOpened m).out n = s.out n := nth_updAt_other _ _ _ _ _ h
  rw [releaseOut_eq]
  split
  · exact (nth_updAt_other _ _ _ _ _ h).trans hopen
  · exact hopen

/-- The release of the outputs of a mask. -/
def State.releaseAll (mask : Nat) (s : State) (l : List Nat) : State := l.foldl (fun s n => if bit mask n then s.releaseOut n else s) s

/-- The window of a used output in the mask starts once, or again at the same instant. -/
theorem releaseAll_win {mask n w : Nat} (hb : bit mask n = true) : ∀ (l : List Nat) (s : State), n < s.sout.outs.length →
    (s.out n).used = true → s.now + (s.out n).swblankNs = w → n ∈ l ∨ (s.out n).win = some w →
    ((s.releaseAll mask l).out n).win = some w
  | [], s, _, _, _, h => h.elim nofun id
  | m :: l, s, hn, hu, hw, h => by
    have ih := releaseAll_win (w := w) hb l
    show (((if bit mask m then s.releaseOut m else s).releaseAll mask l).out n).win = _
    by_cases hm : n = m
    · subst hm
      rw [if_pos hb]
      obtain ⟨huse, hblank⟩ := Prod.mk.inj (releaseOut_use s n n)
      refine ih _ (releaseOut_length s n ▸ hn) (huse.trans hu) ?_ (.inr ((releaseOut_win hn hu).trans (congrArg some hw)))
      rw [releaseOut_now, ← hw]
      unfold OutSt.swblankNs
      rw [hblank]
    · have hrest : n ∈ l ∨ (s.out n).win = some w := h.imp_left fun h => (List.mem_cons.1 h).resolve_left hm
      split
      · refine ih _ (releaseOut_length s m ▸ hn) ?_ ?_ ?_
        · rwa [releaseOut_other s hm]
        · rwa [releaseOut_other s hm, releaseOut_now]
        · rwa [releaseOut_other s hm]
      · exact ih s hn hu hw hrest

theorem releaseAll_pend (mask : Nat) : ∀ (l : List Nat) (s : State), (s.releaseAll mask l).yard.pend = s.yard.pend
  | [], _ => rfl
  | m :: l, s => by
    refine (releaseAll_pend mask l _).trans ?_
    show (if bit mask m then s.releaseOut m else s).yard.pend = _
    split
    · exact releaseOut_pend s m
    · rfl

theorem releaseAll_now (mask : Nat) : ∀ (l : List Nat) (s : State), (s.releaseAll mask l).now = s.now
  | [], _ => rfl
  | m :: l, s => by
    refine (releaseAll_now mask l _).trans ?_
    show (if bit mask m then s.releaseOut m else s).now = _
    split
    · exact releaseOut_now s m
    · rfl

/-- The one pending launch whose time has come. -/
theorem launchDue_one {s : State} {l : Launch} (hp : s.yard.pend = [l]) (ht : l.time ≤ s.ytime) (hh : s.handoverFirst = false) :
    s.launchDue = s.launchOne l := by
  unfold State.launchDue
  dsimp only
  rw [hp, hh, List.filter_cons_of_pos (by simp [ht])]
  rfl

theorem cancelLaunch_one {s : State} {l : Launch} (hp : s.yard.pend = [l]) : (s.cancelLaunch l.sheet l.group).yard.pend = [] := by
  show s.yard.pend.filter _ = []
  rw [hp]
  simp

theorem launchCancel_pend {s : State} {l : Launch} {c : Nat} (hp : s.yard.pend = [l]) :
    (s.launchCancel l.sheet l.group c).yard.pend = [] := by
  unfold State.launchCancel
  refine (err_steady _ _ _).pend ?_
  exact cancelLaunch_one hp

/-- The group's outputs, by its OUTGROUP's mask. -/
def State.launchMask (s : State) (l : Launch) : Nat :=
  rOutmask (nth [] (s.sheet l.sheet).recs (nth 512 (ogRecs (s.sheet l.sheet).recs) l.group))

theorem launchOne_releases {s : State} {l : Launch} (h : s.launchBlocked l.sheet l.group = none) :
    s.launchOne l = (s.cancelLaunch l.sheet l.group).releaseAll (s.launchMask l) (List.range 16) := by
  unfold State.launchOne
  rw [h]
  rfl

theorem launchOne_cancels {s : State} {l : Launch} {c : Nat} (h : s.launchBlocked l.sheet l.group = some c) :
    s.launchOne l = s.launchCancel l.sheet l.group c := by
  unfold State.launchOne
  rw [h]

/-- Settles O32: each command's one change, and the errors it raises. -/
theorem muzzleBarkLaunch : Obligations.MuzzleBarkLaunch := by
  refine ⟨?_, ?_, ?_, ?_, ?_, ?_⟩
  · intro t width s hw
    have hrec : (s.upTo t).recognised width 50 100 = true := Bool.or_eq_true_iff.2 (.inl (decide_eq_true hw))
    obtain ⟨s', he, hs⟩ := act_of t s (fun s => if s.recognised width 50 100 then s.fresh.muzzleLow else s.fresh) (if_pos hrec)
    have hext : (s.upTo t).fresh.muzzleLow.sout.ext = true := of_keep (muzzleLow_keep (s.upTo t).fresh) (·.sout.ext) fun _ => rfl
    obtain ⟨h1, h2⟩ := hs.ext_open hext
    exact ⟨s', he, h1, h2, fun hlive hon hl => hs.latched (muzzleLow_latches (s := (s.upTo t).fresh) hlive hon hl)⟩
  · intro t s
    obtain ⟨s', he, hs⟩ := act_after t s (fun s => ({ s with sout := { s.sout with ext := false } } : State).line .muzzleExt false 0)
    exact ⟨s', he, (hs.same (·.sout.ext)).trans (of_keep (State.line_keep _ _ _ _) (·.sout.ext) fun _ => rfl)⟩
  · intro t s hb ht
    obtain ⟨s', he, hs⟩ := act_of t s (fun s => s.barkLook .a) (barkLook_a (s := s.upTo t) hb (Nat.lt_of_lt_of_le ht (le_upTo s (Nat.le_refl _))))
    exact ⟨s', he, (hs.same (·.sout.monA)).trans (err_field (·.sout.monA) _ _ _), (hs.same (·.sout.monB)).trans (err_field (·.sout.monB) _ _ _),
      fun hon => barkMon_stops hs hon⟩
  · intro t s hb ht
    obtain ⟨s', he, hs⟩ := act_of t s (fun s => s.barkLook .b) (barkLook_b (s := s.upTo t) hb (Nat.lt_of_lt_of_le ht (le_upTo s (Nat.le_refl _))))
    exact ⟨s', he, (hs.same (·.sout.monB)).trans (err_field (·.sout.monB) _ _ _), (hs.same (·.sout.monA)).trans (err_field (·.sout.monA) _ _ _),
      fun hon => barkMon_stops hs hon⟩
  · intro t l n s hn hp ht hh hbl hbit hu
    have hx := (launchDue_one (s := s.upTo t) hp ht hh).trans (launchOne_releases hbl)
    obtain ⟨s', he, hs⟩ := act_of t s State.launchDue hx
    have hpend := (releaseAll_pend ((s.upTo t).launchMask l) (List.range 16) _).trans (cancelLaunch_one (s := s.upTo t) hp)
    have hnow : s'.now = (s.upTo t).now := (hs.same (·.now)).trans (releaseAll_now _ _ _)
    refine ⟨s', he, ?_, hs.steady.pend hpend⟩
    rw [hnow]
    exact (hs.out (·.win) n).trans (releaseAll_win (s := (s.upTo t).cancelLaunch l.sheet l.group) hbit _ hn hu rfl
      (.inl (List.mem_range.2 n.isLt)))
  · intro t c l s hp ht hh hbl
    have hx := (launchDue_one (s := s.upTo t) hp ht hh).trans (launchOne_cancels hbl)
    obtain ⟨s', he, hs⟩ := act_of t s State.launchDue hx
    have hpend := launchCancel_pend (s := s.upTo t) (c := c) hp
    have hwin : s'.sout.outs.map (·.win) = s.sout.outs.map (·.win) :=
      (hs.same (fun x => x.sout.outs.map (·.win)) fun _ => List.map_map).trans
        (err_field (fun x => x.sout.outs.map (·.win)) _ _ _ fun _ => List.map_map)
    exact ⟨s', he, hs.steady.pend hpend, (hs.same (·.yard.lcancel)).trans (err_field (·.yard.lcancel) _ _ _), hwin,
      fun hon => hs.latched (err_latches (by exact hon) _ _)⟩

end Sys2Proof.Machine
end

section
/-!
PROOF. The validator copies of the input pairs (O33): a command on a pair is one step of each copy, and the faults they find.
-/
namespace Sys2Proof.Machine

/-! ## Both copies of a pair -/

theorem foldl_errs_keep (d : Nat) : ∀ (l : List Src) (s : State), (l.foldl (fun s src => s.err src d) s).keep = s.keep
  | [], _ => rfl
  | src :: l, s => (foldl_errs_keep d l _).trans (State.err_keep s src d)

/-- Errors of one source, at least one of them. -/
theorem foldl_errs_latch {src : Src} (d : Nat) : ∀ (l : List Src) (s : State), s.flt.on = true → (∀ x ∈ l, x = src) → l ≠ [] →
    bit (l.foldl (fun s src => s.err src d) s).flt.fstat src.bit = true
  | [], _, _, _, h => absurd rfl h
  | [x], s, hon, hx, _ => by
    rw [← hx x (List.mem_cons_self ..)]
    exact err_latches hon x d
  | x :: y :: l, s, hon, hx, _ =>
    foldl_errs_latch d (y :: l) (s.err x d) ((err_steady s x d).on.trans hon) (fun z hz => hx z (List.mem_cons_of_mem _ hz)) nofun

theorem fifoPush_sin (s : State) (n : Nat) (d : Datum) : (s.fifoPush n d).sin = s.sin := rfl

/-- The step of both copies, before the faults are raised. -/
def State.copied (s : State) (n : Nat) (f : InPair → PairV → CopyOut) : State :=
  let p := s.inPair n
  let s' := s.modPair n (fun q => { q with va := (f p p.va).1, vb := (f p p.vb).1 })
  if (f p p.va).1.value != p.va.value then s'.fifoPush 0 (.input n (f p p.va).1.value s.now) else s'

/-- The faults that a step of both copies finds. -/
def InPair.found (p : InPair) (f : InPair → PairV → CopyOut) : List Src := if (f p p.va).2.isEmpty then (f p p.vb).2 else (f p p.va).2

theorem copies_eq (s : State) (n : Nat) (f : InPair → PairV → CopyOut) :
    s.copies n f = ((s.inPair n).found f).foldl (fun s src => s.err src n) (s.copied n f) := rfl

theorem copied_sin (s : State) (n : Nat) (f : InPair → PairV → CopyOut) : (s.copied n f).sin =
    (s.modPair n (fun q => { q with va := (f (s.inPair n) (s.inPair n).va).1, vb := (f (s.inPair n) (s.inPair n).vb).1 })).sin := by
  unfold State.copied
  dsimp only
  split <;> rfl

theorem copied_on (s : State) (n : Nat) (f : InPair → PairV → CopyOut) : (s.copied n f).flt.on = s.flt.on := by
  unfold State.copied
  dsimp only
  split <;> rfl

theorem copies_sin (s : State) (n : Nat) (f : InPair → PairV → CopyOut) : (s.copies n f).sin = (s.copied n f).sin := by
  rw [copies_eq]
  exact of_keep (foldl_errs_keep n _ _) (·.sin) fun _ => rfl

section
variable {s : State} {n : Nat} (f : InPair → PairV → CopyOut) (hn : n < s.sin.pairs.length)
include hn

theorem copies_pair : (s.copies n f).inPair n =
    { s.inPair n with va := (f (s.inPair n) (s.inPair n).va).1, vb := (f (s.inPair n) (s.inPair n).vb).1 } := by
  unfold State.inPair
  rw [copies_sin, copied_sin]
  exact nth_updAt_same _ _ _ _ hn

theorem copies_copy (c : Bool) : ((s.copies n f).inPair n).copy c = (f (s.inPair n) ((s.inPair n).copy c)).1 := by
  rw [copies_pair f hn]
  cases c <;> rfl

end

/-- What a copy finds is raised. -/
theorem copies_latch {s : State} {n : Nat} {f : InPair → PairV → CopyOut} {src : Src} (c : Bool) (hon : s.flt.on = true)
    (hall : ∀ d : Bool, ∀ x ∈ (f (s.inPair n) ((s.inPair n).copy d)).2, x = src)
    (hc : (f (s.inPair n) ((s.inPair n).copy c)).2 ≠ []) : bit (s.copies n f).flt.fstat src.bit = true := by
  rw [copies_eq]
  refine foldl_errs_latch n _ _ ((copied_on s n f).trans hon) ?_ ?_
  · unfold InPair.found
    split
    · exact hall false
    · exact hall true
  · unfold InPair.found
    cases c with
    | true =>
      rw [if_neg (by rw [List.isEmpty_iff]; exact hc)]
      exact hc
    | false =>
      split
      · exact hc
      next h => rwa [List.isEmpty_iff] at h

theorem onPair_on {s : State} {n : Nat} (hs : s.sampling = true) (hm : (s.inPair n).mode ≠ 0) (f : State → State) : s.onPair n f = f s :=
  if_pos (by simp [hs, hm])

/-- A command on a pair in use whose pins are sampled. -/
theorem copies_after {t n : Nat} {s : State} (g : State → InPair → PairV → CopyOut) (hn : n < s.sin.pairs.length)
    (hs : s.sampling = true) (hm : (s.inPair n).mode ≠ 0) :
    ∃ s', act t s (fun s => s.onPair n (fun s => s.copies n (g s))) = .next s' ∧ After ((s.upTo t).copies n (g (s.upTo t))) s' ∧
      ∀ c, (s'.inPair n).copy c = (g (s.upTo t) (s.inPair n) ((s.inPair n).copy c)).1 := by
  obtain ⟨s', he, h⟩ := act_of t s (fun s => s.onPair n (fun s => s.copies n (g s)))
    (onPair_on (s := s.upTo t) hs hm fun s => s.copies n (g s))
  exact ⟨s', he, h, fun c => (congrArg (fun p : InPair => p.copy c) (h.same (·.inPair n))).trans
    (copies_copy (s := s.upTo t) (g (s.upTo t)) hn c)⟩

/-! ## One copy -/

/-- Neither the discrepancy check nor a fault that clears touches a channel. -/
theorem levels_ch (p : InPair) (now : Nat) (v : PairV) (k : Chan) : (v.levels p now).1.ch k = v.ch k := by
  have hclear : ∀ x : PairV, x.a = v.a → x.b = v.b → (x.tryClear p).ch k = v.ch k := fun x ha hb => by
    unfold PairV.tryClear
    dsimp only
    split <;> cases k <;> assumption
  unfold PairV.levels
  dsimp only
  split
  · cases k <;> rfl
  · exact hclear _ rfl rfl

theorem modCh_same (v : PairV) (k : Chan) (f : ChanV → ChanV) : (v.modCh k f).ch k = f (v.ch k) := by cases k <;> rfl

theorem filter_lvl (now since : Nat) (v : Bool) (c : ChanV) : (c.filter 0 now since v).lvl = some v := by
  unfold ChanV.filter
  split
  next h => exact eq_of_beq h
  next => rfl

theorem filter_cand (filt now since : Nat) (v : Bool) (c : ChanV) : (c.filter filt now since v).cand = v := by
  unfold ChanV.filter
  repeat' split
  next => rfl
  next => rfl
  next h => exact eq_of_beq (Bool.and_eq_true_iff.1 h).1
  next => rfl

theorem filtNs_zero {p : InPair} (h : p.filt = 0) : p.filtNs = 0 := by
  unfold InPair.filtNs
  rw [h, Nat.mul_assoc, Nat.zero_mul]

/-- A sample of an unfiltered, unblanked channel of a pair under test pulses. -/
theorem sample_lvl {p : InPair} (now : Nat) (k : Chan) (v : Bool) {pv : PairV} (hm : p.mode = modeTp) (hf : p.filt = 0)
    (hb : (pv.ch k).blank = none) : ((pv.sample p now k v).1.ch k).lvl = some v := by
  have hs : (pv.ch k).sample p now v = (pv.ch k).filter p.filtNs now now v := by
    unfold ChanV.sample
    rw [if_neg (by rw [hm]; decide), hb]
    rfl
  unfold PairV.sample
  rw [levels_ch, modCh_same, hs, filtNs_zero hf]
  exact filter_lvl _ _ _ _

theorem filterEnd_lvl {p : InPair} {now a : Nat} {k : Chan} {pv : PairV} (hr : (pv.ch k).run = some a) (hb : (pv.ch k).blank = none)
    (ht : p.filtNs ≤ (pv.ch k).acc + (now - a)) : ((pv.filterEnd p now k).1.ch k).lvl = some (pv.ch k).cand := by
  unfold PairV.filterEnd
  dsimp only
  rw [hr, hb]
  dsimp only
  rw [decide_eq_true ht]
  exact (congrArg ChanV.lvl (levels_ch p now _ k)).trans (congrArg ChanV.lvl (modCh_same pv k _))

theorem discEnd_fires {p : InPair} {now a : Nat} {pv : PairV} (hd : pv.disc = some a) (hf : pv.fired = false) (ht : a + p.discNs < now) :
    pv.discEnd p now = (({ pv with fired := true } : PairV).latch 1, [.sinDisc]) := by
  unfold PairV.discEnd
  rw [hd]
  dsimp only
  rw [hf, decide_eq_true ht]
  rfl

theorem discEnd_finds (p : InPair) (now : Nat) (pv : PairV) : ∀ x ∈ (pv.discEnd p now).2, x = .sinDisc := by
  unfold PairV.discEnd
  repeat' split
  next => exact fun x hx => List.mem_singleton.1 hx
  all_goals nofun

theorem tolEnd_ends {p : InPair} {now a : Nat} {k : Chan} {pv : PairV} (hl : (pv.ch k).low = some a) (ht : a + p.tolNs < now) :
    (pv.tolEnd p now k).1.ch k = { (pv.ch k).filter p.filtNs now a false with low := none, high := none } := by
  unfold PairV.tolEnd
  rw [hl]
  dsimp only
  rw [if_pos ht, levels_ch, modCh_same]

/-- CAUSE of a channel that does not toggle (R83, R90). -/
def stuckCause : Chan → Nat
  | .a => 5
  | .b => 6

theorem chkEnd_fires {p : InPair} {now a : Nat} {k : Chan} {pv : PairV} (hh : (pv.ch k).high = some a) (hz : p.ossdchk ≠ 0)
    (ht : a + p.chkNs < now) :
    pv.chkEnd p now k = ((pv.modCh k (fun c => { c with high := none })).latch (stuckCause k), [.sinStuck]) := by
  have hif : (p.ossdchk != 0 && decide (a + p.chkNs < now)) = true := by
    rw [decide_eq_true ht, Bool.and_true]
    exact bne_iff_ne.2 hz
  unfold PairV.chkEnd
  rw [hh]
  dsimp only
  rw [if_pos hif]
  cases k <;> rfl

theorem chkEnd_finds (p : InPair) (now : Nat) (k : Chan) (pv : PairV) : ∀ x ∈ (pv.chkEnd p now k).2, x = .sinStuck := by
  unfold PairV.chkEnd
  split
  · split
    · exact fun x hx => List.mem_singleton.1 hx
    · nofun
  · nofun

theorem latch_cause {v : PairV} (h : v.fault = false) (c : Nat) : (v.latch c).cause = c := by
  unfold PairV.latch
  dsimp only
  rw [h]
  rfl

theorem modCh_fault (v : PairV) (k : Chan) (f : ChanV → ChanV) : (v.modCh k f).fault = v.fault := by cases k <;> rfl

/-! ## SI_PIN_CHANGE -/

/-- The pin's level is taken. -/
def State.pinSet (s : State) (n : Nat) (k : Chan) (v : Bool) : State :=
  s.modPair n (fun p => match k with
    | .a => { p with rawA := v }
    | .b => { p with rawB := v })

section
variable {s : State} {n : Nat} (k : Chan) (v : Bool) (hn : n < s.sin.pairs.length)
include hn

theorem pinSet_raw : ((s.pinSet n k v).inPair n).raw k = v := by
  refine (congrArg (fun p : InPair => p.raw k) (nth_updAt_same _ _ _ _ hn)).trans ?_
  cases k <;> rfl

theorem pinSet_keeps {β : Type} (g : InPair → β) (h : ∀ (p : InPair) (x y : Bool), g { p with rawA := x, rawB := y } = g p) :
    g ((s.pinSet n k v).inPair n) = g (s.inPair n) := by
  refine (congrArg g (nth_updAt_same _ _ _ _ hn)).trans ?_
  cases k
  · exact h _ v (s.inPair n).rawB
  · exact h _ (s.inPair n).rawA v

theorem siChange_raw : ((s.siChange n k v).inPair n).raw k = v := by
  have hraw := pinSet_raw (s := s) k v hn
  have hlen : n < (s.pinSet n k v).sin.pairs.length := (updAt_length _ _ _).symm ▸ hn
  show (((s.pinSet n k v).onPair n _).inPair n).raw k = v
  unfold State.onPair
  split
  · rw [copies_pair _ hlen]
    cases k <;> exact hraw
  · exact hraw

theorem siChange_lvl (c : Bool) (hs : s.sampling = true) (hm : (s.inPair n).mode = modeTp) (hf : (s.inPair n).filt = 0)
    (hb : (((s.inPair n).copy c).ch k).blank = none) : ((((s.siChange n k v).inPair n).copy c).ch k).lvl = some v := by
  have hlen : n < (s.pinSet n k v).sin.pairs.length := (updAt_length _ _ _).symm ▸ hn
  have hmode : ((s.pinSet n k v).inPair n).mode = modeTp := (pinSet_keeps k v hn InPair.mode fun _ _ _ => rfl).trans hm
  have hfilt : ((s.pinSet n k v).inPair n).filt = 0 := (pinSet_keeps k v hn InPair.filt fun _ _ _ => rfl).trans hf
  have hcopy : ((s.pinSet n k v).inPair n).copy c = (s.inPair n).copy c :=
    pinSet_keeps k v hn (fun p => p.copy c) fun _ _ _ => by cases c <;> rfl
  show (((((s.pinSet n k v).onPair n _).inPair n).copy c).ch k).lvl = some v
  rw [onPair_on (by exact hs) (by rw [hmode]; decide), copies_copy _ hlen]
  exact sample_lvl _ k v hmode hfilt (by rw [hcopy]; exact hb)

end

/-- Settles O33: each copy takes its step, and what it finds is raised. -/
theorem inputValidation : Obligations.InputValidation := by
  refine ⟨?_, ?_, ?_, ?_, ?_⟩
  · intro t n k v c s hn
    obtain ⟨s', he, hs⟩ := act_after t s (fun s => s.siChange n k v)
    exact ⟨s', he, (congrArg (fun p : InPair => p.raw k) (hs.same (·.inPair n))).trans (siChange_raw (s := s.upTo t) k v hn),
      fun hsm hm hf hb => (congrArg (fun p : InPair => ((p.copy c).ch k).lvl) (hs.same (·.inPair n))).trans
        (siChange_lvl (s := s.upTo t) k v hn c hsm hm hf hb)⟩
  · intro t a n k c s hn hsm hm hr hb ht
    obtain ⟨s', he, -, hc⟩ := copies_after (t := t) (fun s p pv => pv.filterEnd p s.now k) hn hsm hm
    exact ⟨s', he, (congrArg (fun v : PairV => (v.ch k).lvl) (hc c)).trans (filterEnd_lvl hr hb ht)⟩
  · intro t a n c s hn hsm hm hd ht hf
    obtain ⟨s', he, hs, hc⟩ := copies_after (t := t) (fun s p pv => pv.discEnd p s.now) hn hsm hm
    have hfire := discEnd_fires (p := s.inPair n) hd hf (Nat.lt_of_lt_of_le ht (le_upTo s (Nat.le_refl _)))
    have hcopy : (s'.inPair n).copy c = _ := (hc c).trans (congrArg Prod.fst hfire)
    refine ⟨s', he, congrArg PairV.fault hcopy, fun h => (congrArg PairV.cause hcopy).trans (latch_cause (by exact h) 1), fun hon => ?_⟩
    refine hs.latched (copies_latch (s := s.upTo t) c hon (fun d => discEnd_finds _ _ _) ?_)
    exact fun h0 => absurd ((congrArg Prod.snd hfire).symm.trans h0) nofun
  · intro t a n k c s hn hsm hm hl ht
    obtain ⟨s', he, -, hc⟩ := copies_after (t := t) (fun s p pv => pv.tolEnd p s.now k) hn hsm hm
    have hch : ((s'.inPair n).copy c).ch k = _ := (congrArg (fun v : PairV => v.ch k) (hc c)).trans
      (tolEnd_ends (p := s.inPair n) hl (Nat.lt_of_lt_of_le ht (le_upTo s (Nat.le_refl _))))
    refine ⟨s', he, (congrArg ChanV.cand hch).trans (filter_cand _ _ _ _ _), congrArg ChanV.low hch, fun hf => ?_⟩
    refine (congrArg ChanV.lvl hch).trans ?_
    rw [filtNs_zero hf]
    exact filter_lvl _ _ _ _
  · intro t a n k c s hn hsm hm hz hh ht
    obtain ⟨s', he, hs, hc⟩ := copies_after (t := t) (fun s p pv => pv.chkEnd p s.now k) hn hsm hm
    have hfire := chkEnd_fires (p := s.inPair n) hh hz (Nat.lt_of_lt_of_le ht (le_upTo s (Nat.le_refl _)))
    have hcopy : (s'.inPair n).copy c = _ := (hc c).trans (congrArg Prod.fst hfire)
    refine ⟨s', he, congrArg PairV.fault hcopy,
      fun h => (congrArg PairV.cause hcopy).trans ((latch_cause ((modCh_fault _ _ _).trans h) _).trans (by cases k <;> rfl)), fun hon => ?_⟩
    refine hs.latched (copies_latch (s := s.upTo t) c hon (fun d => chkEnd_finds _ _ _ _) ?_)
    exact fun h0 => absurd ((congrArg Prod.snd hfire).symm.trans h0) nofun

end Sys2Proof.Machine
end

section
/-!
PROOF. O34 fails: outside mode TP the fault of a miss clears in the step that latches it.
-/
namespace Sys2Proof.Machine

/-- A part in SAFE whose one pair is of mode OSSD, reads 0 in both channels, and has a blanking window of channel A with a check sample
of 1. -/
def ossdBlanked : State :=
  { clk := { rs := .safe }
    sin := { pairs := [{
      mode := modeOssd
      va := { a := { lvl := some false, cand := false, blank := some 0, chk := some true }, b := { lvl := some false, cand := false } } }] } }

/-- Both channels read 0 and no test pulse is to be seen (R86), so the fault that the miss latches clears at once. -/
theorem ossdBlanked_clears : ((stateAfter (.blankingEnd 0 0 .a) ossdBlanked).inPair 0).va.fault = false := by decide

/-- Refutes O34 by its fourth clause: its hypothesis on the mode admits a pair of mode OSSD, whose fault needs no test pulse to clear. -/
theorem not_darkPulses : ¬ Obligations.DarkPulses := by
  rintro ⟨-, -, -, h, -⟩
  obtain ⟨s', he, hf, -⟩ := h 0 0 0 ossdBlanked (by decide) rfl (by decide) rfl (Nat.le_refl _) rfl
  have hclear : (s'.inPair 0).va.fault = false := stateAfter_of he ▸ ossdBlanked_clears
  exact absurd hf (by rw [show (s'.inPair ((0 : Fin 32) : Nat)) = s'.inPair 0 from rfl, hclear]; decide)

end Sys2Proof.Machine
end

section
/-!
PROOF. The reset pins, channel B's timers, the release to RUN and the recovery from SAFE (O35).
-/
namespace Sys2Proof.Machine

/-! ## The reset pins -/

theorem ackEdge_a (s : State) (v : Bool) : (s.ackEdge .a v).sp.ackA = v ∧ (s.ackEdge .a v).sp.ackB = s.sp.ackB := by
  have hif : ∀ (c : Prop) [Decidable c] (x y : State), x.sp.ackA = v ∧ x.sp.ackB = s.sp.ackB → y.sp.ackA = v ∧ y.sp.ackB = s.sp.ackB →
      (if c then x else y).sp.ackA = v ∧ (if c then x else y).sp.ackB = s.sp.ackB := fun c _ x y hx hy => by
    split
    · exact hx
    · exact hy
  have hset : ∀ x : State, x.sp.ackB = s.sp.ackB → ({ x with sp := x.sp.setAck x.now .a v } : State).sp.ackA = v ∧
      ({ x with sp := x.sp.setAck x.now .a v } : State).sp.ackB = s.sp.ackB := fun x hx => ⟨rfl, hx⟩
  have hbegin : (if s.ackJudge.sp.ackFirst.isNone then s.ackJudge.ackBegin else s.ackJudge).sp.ackB = s.sp.ackB := by
    split <;> rfl
  unfold State.ackEdge
  dsimp only
  split
  next h => exact ⟨eq_of_beq h, rfl⟩
  next =>
    split
    · exact hset s rfl
    · exact hif _ _ _ (hset _ hbegin) (hset _ hbegin)

theorem ackEdge_b (s : State) (v : Bool) : (s.ackEdge .b v).sp.ackB = v ∧ (s.ackEdge .b v).sp.ackA = s.sp.ackA := by
  have hif : ∀ (c : Prop) [Decidable c] (x y : State), x.sp.ackB = v ∧ x.sp.ackA = s.sp.ackA → y.sp.ackB = v ∧ y.sp.ackA = s.sp.ackA →
      (if c then x else y).sp.ackB = v ∧ (if c then x else y).sp.ackA = s.sp.ackA := fun c _ x y hx hy => by
    split
    · exact hx
    · exact hy
  have hset : ∀ x : State, x.sp.ackA = s.sp.ackA → ({ x with sp := x.sp.setAck x.now .b v } : State).sp.ackB = v ∧
      ({ x with sp := x.sp.setAck x.now .b v } : State).sp.ackA = s.sp.ackA := fun x hx => ⟨rfl, hx⟩
  have hbegin : (if s.ackJudge.sp.ackFirst.isNone then s.ackJudge.ackBegin else s.ackJudge).sp.ackA = s.sp.ackA := by
    split <;> rfl
  unfold State.ackEdge
  dsimp only
  split
  next h => exact ⟨eq_of_beq h, rfl⟩
  next =>
    split
    · exact hset s rfl
    · exact hif _ _ _ (hset _ hbegin) (hset _ hbegin)

/-- Both pins rest again: the actuation that has been judged returns. -/
theorem ackEdge_returns {s : State} {f : Nat} (hs : s.sampling = true) (ha : s.sp.ackA = false) (hb : s.sp.ackB = false)
    (hf : s.sp.ackFirst = some f) :
    s.ackEdge .b true = ({ s.ackJudge with sp := s.sp.setAck s.now .b true } : State).ackReturn := by
  have hfirst : s.ackJudge.sp.ackFirst.isNone = false := by
    show s.sp.ackFirst.isNone = false
    rw [hf]
    rfl
  have hrest : (!(s.sp.setAck s.now .b true).actA && !(s.sp.setAck s.now .b true).actB) = true := by
    show (!s.sp.ackA && !!true) = true
    rw [ha]
    rfl
  unfold State.ackEdge
  dsimp only
  rw [hb, hs, hfirst]
  exact if_pos hrest

/-- A sheet that has not discarded the actuation keeps it where it has not lasted too long. -/
theorem ackJudge_keeps {s : State} (hb : s.sh0.ackBad = false) (ho : s.ackOver s.sh0 = false) : s.ackJudge.sh0 = s.sh0 := by
  have h : (s.sh0.ackBad || (s.sp.ackFirst.isSome && s.ackOver s.sh0)) = s.sh0.ackBad := by
    rw [hb, ho, Bool.and_false]
    rfl
  unfold State.ackJudge
  dsimp only
  rw [h]

theorem ackReturn_pulses {s : State} (hl : s.sh0.loaded = true) (hv : s.sp.valid s.sh0 = true) :
    s.ackReturn.sh0 = { s.sh0 with pulseIn := true, from_ := s.sp.ackFirst.getD 0 } := by
  unfold State.ackReturn
  dsimp only
  rw [hl, hv]
  rfl

theorem ackJudge_discards {s : State} (hf : s.sp.ackFirst.isSome = true) (ho : s.ackOver s.sh0 = true) :
    s.ackJudge.sh0.ackBad = true := by
  show (s.sh0.ackBad || (s.sp.ackFirst.isSome && s.ackOver s.sh0)) = true
  rw [hf, ho, Bool.and_true, Bool.or_true]

/-! ## Channel B's timers -/

theorem timerB_strict {s : State} {i a : Nat} {f : Fn} {len : List Byte → Nat} (hb : s.chanB = true) (hl : s.sh0.loaded = true)
    (hr : rIs f (s.recAt 0 i) = true) (ha : (nth {} s.sh0.b i).since = some a) (hf : (nth {} s.sh0.b i).fired = false)
    (ht : a + len (s.recAt 0 i) < s.now) : s.timerB 0 i f true len = true := by
  unfold State.timerB
  dsimp only
  rw [hb, hl, hr, hf, ha]
  exact decide_eq_true ht

theorem timerB_reached {s : State} {i a : Nat} {f : Fn} {len : List Byte → Nat} (hb : s.chanB = true) (hl : s.sh0.loaded = true)
    (hr : rIs f (s.recAt 0 i) = true) (ha : (nth {} s.sh0.b i).since = some a) (hf : (nth {} s.sh0.b i).fired = false)
    (ht : a + len (s.recAt 0 i) ≤ s.now) : s.timerB 0 i f false len = true := by
  unfold State.timerB
  dsimp only
  rw [hb, hl, hr, hf, ha]
  exact decide_eq_true ht

theorem switchtEnd_fires {s : State} {i : Nat} (h : s.timerB 0 i .modesel true (fun r => rW r 10 * ms) = true)
    (hu : (s.com 0 i).locals.any (fun x => x.cause == LocalCause.catalogue Src.sinDisc) = false) :
    s.switchtEnd 0 i = (s.fireB i).err .sinDisc (0x8000 + instDetail 0 i) := by
  unfold State.switchtEnd
  rw [if_pos h]
  exact if_neg (by rw [hu]; decide)

/-- A command whose effect is known settles from there. -/
theorem act_settles {t : Nat} {s u : State} {f : State → State} (h : f (s.upTo t) = u) :
    ∃ s', act t s f = .next s' ∧ s' = s.watch u.settle ∧ After u s' := by
  obtain ⟨s', he, hs⟩ := act_of t s f h
  exact ⟨s', he, (Host.Outcome.next.inj he).symm.trans (congrArg (fun x : State => s.watch x.settle) h), hs⟩

/-! ## SIN_STARTUP and item 1 -/

/-- What an error's reaction leaves of the fault page. -/
theorem localReact_flt (s : State) (src : Src) (d r : Nat) : (s.localReact src d r).flt = s.flt := by
  have hfold : ∀ {α : Type} (f : State → α → State), (∀ x a, (f x a).flt = x.flt) → ∀ (l : List α) (x : State), (l.foldl f x).flt = x.flt := by
    intro α f hf l
    induction l with
    | nil => exact fun _ => rfl
    | cons a l ih => exact fun x => (ih _).trans (hf x a)
  have hadd : ∀ (x : State) (e : Nat × Nat), (x.addLocal src d r e).flt = x.flt := fun x e => by
    unfold State.addLocal
    dsimp only
    split <;> simp only [State.alert_flt, State.modCom_flt]
  unfold State.localReact State.cancelAffected
  exact (hfold _ (fun _ _ => by rfl) _ _).trans (hfold _ hadd _ s)

theorem reactTo_flt (s : State) (src : Src) (d : Nat) (c : Cls) : (s.reactTo src d c).flt = s.flt := by
  have hfarr : (s.farrStop src).flt = s.flt := by
    unfold State.farrStop State.hostRestore
    dsimp only
    repeat' split
    all_goals rfl
  have hstop : ∀ x : State, x.stop.flt = x.flt := fun x => by
    unfold State.stop State.toSafe
    dsimp only
    repeat' split
    all_goals first
      | rfl
      | exact State.alert_flt _ _
  cases c with
  | note => rfl
  | loc => exact localReact_flt s src d _
  | stop =>
    unfold State.reactTo
    dsimp only
    split <;> exact (hstop _).trans hfarr
  | cut =>
    unfold State.reactTo
    dsimp only
    split
    · rfl
    · exact (snap_same _ _ _).1

theorem record_judged (s : State) (b d : Nat) (c : Cls) : (s.record b d c).flt.line = s.flt.line ∧ (s.record b d c).flt.item1 = s.flt.item1 := by
  unfold State.record State.suppress State.openRecord State.mergeRecord State.unsup State.alert
  dsimp only
  (repeat' split) <;> exact ⟨rfl, rfl⟩

/-- An error begins item 1 anew where its class is STOP or higher, and no lasting line. -/
theorem err_judged {s : State} (h : s.flt.on = true) (src : Src) (d : Nat) : (s.err src d).flt.line = s.flt.line ∧
    (s.err src d).flt.item1 = if 2 ≤ (s.srcClass src).code then some s.now else s.flt.item1 := by
  show (s.raise src d _).flt.line = _ ∧ (s.raise src d _).flt.item1 = _
  rw [raise_noted h, reactTo_flt]
  exact record_judged _ _ _ _

theorem err_item1Now {s : State} (h : s.flt.on = true) (src : Src) (d : Nat) : (s.err src d).item1Now = s.item1Now := by
  have hmap := err_field (·.flt.map) s src d
  have hext := err_field (·.sout.ext) s src d
  have hlast := err_field (·.flt.lasting) s src d
  unfold State.item1Now State.stopActive State.srcClass State.mapEntry
  rw [(err_judged h src d).1, hmap, hext, hlast]

/-- What the sheets have of the pulses. -/
theorem err_pulses (s : State) (src : Src) (d : Nat) (a : Nat) : (s.err src d).allSheets (fun h => h.pulse && decide (a < h.from_)) =
    s.allSheets (fun h => h.pulse && decide (a < h.from_)) :=
  err_field (fun x : State => x.allSheets fun h => h.pulse && decide (a < h.from_)) s src d

/-- No actuation is fresh from an instant on at which the last ones had begun. -/
theorem allSheets_past {s : State} {a : Nat} (h0 : s.sh0.from_ ≤ a) : s.allSheets (fun h => h.pulse && decide (a < h.from_)) = false := by
  unfold State.allSheets
  dsimp only
  rw [decide_eq_false (Nat.not_lt.2 h0), Bool.and_false, Bool.and_false, Bool.false_and]

theorem freshPulse_err {s : State} (h : s.flt.on = true) (src : Src) (d : Nat) (h0 : s.sh0.from_ ≤ s.now)
    (hp : (s.err src d).freshPulse = true) : s.freshPulse = true := by
  have hitem := (err_judged h src d).2
  unfold State.freshPulse at hp ⊢
  rw [err_item1Now h] at hp
  by_cases hc : 2 ≤ (s.srcClass src).code
  · rw [hitem, if_pos hc] at hp
    dsimp only at hp
    rw [err_pulses, allSheets_past h0, Bool.and_false] at hp
    cases hp
  · rw [hitem, if_neg hc] at hp
    cases hi : s.flt.item1 with
    | none =>
      rw [hi] at hp
      exact hp
    | some a =>
      rw [hi] at hp
      dsimp only at hp ⊢
      rwa [err_pulses] at hp

/-- The same whether COLL hears the error or not. -/
theorem freshPulse_of_err {s : State} (src : Src) (d : Nat) (h0 : s.sh0.from_ ≤ s.now) (hp : (s.err src d).freshPulse = true) :
    s.freshPulse = true := by
  cases hon : s.flt.on with
  | true => exact freshPulse_err hon src d h0 hp
  | false =>
    have he : s.err src d = s := by
      show s.raise src d _ = s
      rw [State.raise_eq, hon]
      rfl
    rwa [he] at hp

/-- A cycle's end once SIN_STARTUP has been dealt with (R57). -/
def State.pulseActs (s : State) : State :=
  if s.clk.rs == .safe then (if s.freshPulse then s.recover else s)
  else if s.clk.rs == .armed && s.sp.hold && s.allSheets (·.pulse) then
    { s with clk := { s.clk with rs := .run }, sp := { s.sp with hold := false } }
  else s

theorem pulseEnd_eq (s : State) : s.pulseEnd = (if s.sheets.any (fun k => (s.sheet k).pulse) &&
    s.sheets.any (fun k => (s.sheet k).com.any (·.stPend)) then s.err .sinStartup 0 else s).pulseActs := rfl

theorem pulseActs_runs {s : State} (hr : s.clk.rs = .armed) (hh : s.sp.hold = true) (hp : s.allSheets (·.pulse) = true) :
    s.pulseActs.clk.rs = .run ∧ s.pulseActs.sp.hold = false := by
  have he : s.pulseActs = { s with clk := { s.clk with rs := .run }, sp := { s.sp with hold := false } } := by
    unfold State.pulseActs
    rw [if_neg (by rw [hr]; decide)]
    exact if_pos (by rw [hr, hh, hp]; rfl)
  rw [he]
  exact ⟨rfl, rfl⟩

/-- Only a fresh pulse leaves SAFE at a cycle's end. -/
theorem pulseActs_stays {s : State} (h : s.clk.rs = .safe ∨ s.clk.rs = .cut) (h1 : s.pulseActs.clk.rs ≠ .safe)
    (h2 : s.pulseActs.clk.rs ≠ .cut) : s.freshPulse = true := by
  unfold State.pulseActs at h1 h2
  obtain h | h := h
  · rw [if_pos (by rw [h]; rfl)] at h1
    split at h1
    next hf => exact hf
    next => exact absurd h h1
  · rw [if_neg (by rw [h]; decide), if_neg (by rw [h]; simp)] at h2
    exact absurd h h2

theorem err_safe {s : State} (h : s.clk.rs = .safe) (src : Src) (d : Nat) : (s.err src d).clk.rs = .safe ∨ (s.err src d).clk.rs = .cut := by
  obtain hr | hr | ⟨hr, -⟩ := (State.err_worse s src d).rs
  · exact .inl (hr.trans h)
  · exact .inr hr
  · exact .inl hr

/-- Settles O35: the pins and timers act before the part settles, and an error of class STOP begins item 1 anew. -/
theorem resetsAndTimers : Obligations.ResetsAndTimers := by
  refine ⟨?_, ?_, ?_, ?_, ?_, ?_, ?_, ?_, ?_, ?_⟩
  · intro t v s
    obtain ⟨s', he, hs⟩ := act_after t s (fun s => s.ackEdge .a v)
    obtain ⟨ha, hb⟩ := ackEdge_a (s.upTo t) v
    exact ⟨s', he, (hs.same (·.sp.ackA)).trans ha, (hs.same (·.sp.ackB)).trans hb⟩
  · intro t v s
    obtain ⟨s', he, hs⟩ := act_after t s (fun s => s.ackEdge .b v)
    obtain ⟨hb, ha⟩ := ackEdge_b (s.upTo t) v
    exact ⟨s', he, (hs.same (·.sp.ackB)).trans hb, (hs.same (·.sp.ackA)).trans ha⟩
  · intro t f s hsm ha hb hf hl hbad ho hv
    obtain ⟨s', he, hs⟩ := act_of t s (fun s => s.ackEdge .b true) (ackEdge_returns (s := s.upTo t) hsm ha hb hf)
    have hj := ackJudge_keeps (s := s.upTo t) hbad ho
    have hret := ackReturn_pulses (s := { (s.upTo t).ackJudge with sp := s.sp.setAck (s.upTo t).now .b true })
      ((congrArg Sheet.loaded hj).trans hl) ((congrArg _ hj).trans hv)
    exact ⟨s', he, (hs.same (·.sh0.pulseIn)).trans (congrArg Sheet.pulseIn hret),
      (hs.same (·.sh0.from_)).trans ((congrArg Sheet.from_ hret).trans (congrArg (fun x : Option Nat => x.getD 0) hf)),
      hs.same (·.sp.ackFirst)⟩
  · intro t s hf ho
    obtain ⟨s', he, hs⟩ := act_after t s State.ackJudge
    exact ⟨s', he, hs.steady.ackBad (ackJudge_discards (s := s.upTo t) hf ho), hs.same (·.sp)⟩
  · intro t a i s hb hl hr ha hf ht hu
    have hfire := timerB_strict (s := s.upTo t) (len := fun r => rW r 10 * ms) hb hl hr ha hf (Nat.lt_of_lt_of_le ht (le_upTo s (Nat.le_refl _)))
    obtain ⟨s', he, heq, hs⟩ := act_settles (f := fun s => s.switchtEnd 0 i) (switchtEnd_fires hfire hu)
    exact ⟨s', he, heq, fun hon => hs.latched (err_latches (by exact hon) _ _)⟩
  · intro t a i s hb hl hr ha hf ht
    have hfire := timerB_reached (s := s.upTo t) (len := fun r => rW r 8 * ms) hb hl hr ha hf (Nat.le_trans ht (le_upTo s (Nat.le_refl _)))
    obtain ⟨s', he, heq, -⟩ := act_settles (f := fun s => if s.timerB 0 i .delay false (fun r => rW r 8 * ms) then s.fireB i else s)
      (if_pos hfire)
    exact ⟨s', he, heq⟩
  · intro t a i s hb hl hr ha hf ht
    have hfire := timerB_reached (s := s.upTo t) (len := rDelayNs) hb hl hr ha hf (Nat.le_trans ht (le_upTo s (Nat.le_refl _)))
    obtain ⟨s', he, heq, -⟩ := act_settles (f := fun s => if s.timerB 0 i .outgroup false rDelayNs then s.fireB i else s) (if_pos hfire)
    exact ⟨s', he, heq⟩
  · intro t a i s hb hl hr ha hf ht
    have hfire := timerB_reached (s := s.upTo t) (len := fun r => rB r 15 * 100 * ms) hb hl hr ha hf (Nat.le_trans ht (le_upTo s (Nat.le_refl _)))
    obtain ⟨s', he, heq, -⟩ := act_settles
      (f := fun s => if s.timerB 0 i .mute false (fun r => rB r 15 * 100 * ms) then s.fireB i else s) (if_pos hfire)
    exact ⟨s', he, heq⟩
  · intro s hr hh hp hpend
    rw [pulseEnd_eq, hpend, Bool.and_false]
    exact pulseActs_runs hr hh hp
  · intro s hr h0 _ h1 h2
    rw [pulseEnd_eq] at h1 h2
    split at h1
    next hif =>
      rw [if_pos hif] at h2
      exact freshPulse_of_err _ _ h0 (pulseActs_stays (err_safe hr _ _) h1 h2)
    next hif =>
      rw [if_neg hif] at h2
      exact pulseActs_stays (.inl hr) h1 h2

end Sys2Proof.Machine
end

section
/-!
PROOF. O36 fails: an edge that stands as a standstill is confirmed may raise MOT_TOOTH, whose class may be CUT.
-/
namespace Sys2Proof.Machine

/-- The fault map that gives MOT_TOOTH class CUT and every other source its least class. -/
def motToothCut : List Byte :=
  setAt (List.replicate 16 0) (Src.motTooth.bit / 4) (BitVec.ofNat 8 (Cls.cut.code * 4 ^ (Src.motTooth.bit % 4)))

/-- A record of an SSTILL of wheel 0. -/
def sstillRecord : List Byte := 0x13 :: List.replicate 15 0

/-- A part in RUN with one SSTILL of wheel 0, in use, of which channel B holds a rise of TWnA that no edge of TWnB has parted from the two
before, as long a time back as confirms a standstill. -/
def stuckWheel : State :=
  { clk := { rs := .run }
    mot := { wheels := [{ used := true, b := { pend := some (0, true), stuckA := 2, ppred := some 0 } }] }
    sh0 := { loaded := true, recs := [sstillRecord], com := [{}], b := [{}] }
    flt := { on := true, map := motToothCut } }

/-- The third rise without an edge of TWnB is an anomaly (R140), which cuts the rails: the pins are sampled no more (R430), and no
standstill is confirmed. -/
theorem stuckWheel_cuts (t : Nat) (h : t = stillNs 0 sstillRecord) :
    (nth {} ((stateAfter (.standstillConfirm t 0 0) stuckWheel).sheet 0).b 0).still = false := by
  subst h
  decide

/-- Refutes O36 by its third clause: the anomaly, of class CUT, comes before the standstill in the same command. -/
theorem not_wheelEvents : ¬ Obligations.WheelEvents := by
  rintro ⟨-, -, h, -⟩
  obtain ⟨s', he, hs⟩ := h (stillNs 0 sstillRecord) 0 0 stuckWheel (by decide) (by decide) (by decide) (by decide) (by decide)
  have hn := stuckWheel_cuts _ rfl
  rw [stateAfter_of he] at hn
  exact absurd hs (Bool.eq_false_iff.1 hn)

end Sys2Proof.Machine
end

section
/-!
PROOF. O41, O42 and O46 fail. A refused write and a discarded frame raise CP_PROTO before they set their alert (R465): where its class is
CUT, the control port is off by then (R470), and the alert is not set.
-/
namespace Sys2Proof.Machine

/-- The fault map that gives CP_PROTO class CUT and every other source its least class. -/
def cpProtoCut : List Byte :=
  setAt (List.replicate 16 0) (Src.cpProto.bit / 4) (BitVec.ofNat 8 (Cls.cut.code * 4 ^ (Src.cpProto.bit % 4)))

/-- A part of FIELD in RUN, with the farrier's page selected. -/
def fieldPart : State :=
  { clk := { rs := .run }, cp := { on := true, page := 11 }, flt := { on := true, map := cpProtoCut }
    img := { fuses := [[true, true, true], [true, true, true], [true, true, true], [], []] } }

/-- A write of BUDGET, which FIELD refuses. -/
theorem fieldPart_budget : bit (stateAfter (.registerWrite 0 0x84 0) fieldPart).cp.alertSrc 11 = false := by decide

/-- A write frame without a byte. -/
theorem fieldPart_frame : bit (stateAfter (.writeFrame 0 0 [] 0) fieldPart).cp.alertSrc 10 = false := by decide

/-- A write of EN, which FIELD refuses. -/
theorem fieldPart_spook : bit (stateAfter (.spookEn 0 1) fieldPart).cp.alertSrc 11 = false := by decide

/-- Refutes O41 by its eighth clause: a write to BUDGET in FIELD, CP_PROTO being of class CUT, sets no alert. -/
theorem not_registerWrites : ¬ Obligations.RegisterWrites := by
  rintro ⟨-, -, -, -, -, -, -, h, -⟩
  obtain ⟨s', he, -, ha, -⟩ := h 0 0x84 0 fieldPart rfl (by decide) (by decide) (by decide)
  rw [← stateAfter_of he, fieldPart_budget] at ha
  cases ha

/-- Refutes O42 by its fourth clause: a write frame whose length is in error, CP_PROTO being of class CUT, sets no alert. -/
theorem not_frames : ¬ Obligations.Frames := by
  rintro ⟨-, -, -, h, -⟩
  obtain ⟨s', he, -, -, -, ha, -⟩ := h 0 0 0 [] fieldPart rfl (.inr (.inl (by decide)))
  rw [← stateAfter_of he, fieldPart_frame] at ha
  cases ha

/-- Refutes O46 by its last clause: a write of EN in FIELD, CP_PROTO being of class CUT, sets no alert. -/
theorem not_lifeCycle : ¬ Obligations.LifeCycle := by
  rintro ⟨-, -, -, -, -, -, -, -, -, h⟩
  obtain ⟨s', he, -, ha⟩ := h 0 1 fieldPart (by decide)
  have ha := ha (by decide) (by decide) rfl
  rw [← stateAfter_of he, fieldPart_spook] at ha
  cases ha

end Sys2Proof.Machine
end

section
/-!
PROOF. The mailbox commands that the loft serves (O44): the command in hand is served, and ends with its TAG and RESULT.
-/
namespace Sys2Proof.Machine

/-- The request of the command in hand leaves FIFO 7. -/
def State.requestTaken (s : State) : State := s.modFifo 7 (fun q => { q with q := [] })

/-- The command in hand is served. -/
theorem serve_inHand {s : State} {code : Nat} {m : Mbx} (h : s.inHand code m) (b : Bool) (f : Mbx → State → State) :
    s.serve code b f = f m s.requestTaken := by
  obtain ⟨hl, hm, hc, hloft, hheld⟩ := h
  unfold State.serve
  rw [whenLive_live hl, hm]
  dsimp only
  rw [hc, hloft, hheld, if_neg (by simp)]
  exact if_pos (by rw [show (s.modFifo 7 fun q => { q with q := [] }).img.loft = true from hloft]; rfl)

/-- A command in hand takes effect at its instant. -/
theorem serve_after {t code : Nat} {s : State} {m : Mbx} (h : s.inHand code m) (b : Bool) (f : Mbx → State → State) :
    ∃ s', act t s (fun s => s.serve code b f) = .next s' ∧ After (f m (s.upTo t).requestTaken) s' :=
  act_of t s (fun s => s.serve code b f) (serve_inHand (s := s.upTo t) h b f)

/-- The end of a command: its TAG and RESULT, and nothing else of what the mailbox shows. -/
theorem mbxEnd_resp {s : State} {m : Mbx} (h : s.cp.mbx = some m) (r : Nat) : (s.mbxEnd r).cp.mbx = none ∧
    (s.mbxEnd r).cp.resp = w16 (m.tag % 256 * 256 + r) := by
  unfold State.mbxEnd State.alert
  rw [h]
  dsimp only
  split <;> exact ⟨rfl, rfl⟩

theorem mbxEnd_keeps {β : Type} (g : Cp → β) (s : State) (r : Nat)
    (h : ∀ (c : Cp) (m : Option Mbx) (w : Word) (a b d : Nat), g { c with mbx := m, resp := w, alertSrc := a, alertNow := b, alertAt := d } = g c :=
      by intros; rfl) : g (s.mbxEnd r).cp = g s.cp := by
  unfold State.mbxEnd State.alert
  split
  · dsimp only
    split
    · exact h s.cp none _ s.cp.alertSrc s.cp.alertNow s.cp.alertAt
    · exact h s.cp none _ _ _ _
  · rfl

theorem mbxEnd_yard (s : State) (r : Nat) : (s.mbxEnd r).yard = s.yard := by
  unfold State.mbxEnd State.alert
  repeat' split
  all_goals rfl

/-- A command that ends leaves its RESULT to be read. -/
theorem After.ended {s s' : State} {m : Mbx} {r : Nat} (hs : After (s.mbxEnd r) s') (h : s.cp.mbx = some m) :
    s'.cp.mbx = none ∧ s'.cp.resp = w16 (m.tag % 256 * 256 + r) :=
  ⟨(hs.same (·.cp.mbx)).trans (mbxEnd_resp h r).1, (hs.same (·.cp.resp)).trans (mbxEnd_resp h r).2⟩

theorem After.done {s s' : State} {m : Mbx} (hs : After (s.mbxEnd 0) s') (h : s.cp.mbx = some m) :
    s'.cp.mbx = none ∧ s'.cp.resp = w16 (m.tag % 256 * 256) := by
  have hr := hs.ended h
  rwa [Nat.add_zero] at hr

/-- What of the control port the end of a command leaves. -/
theorem After.ended_cp {s s' : State} {r : Nat} (hs : After (s.mbxEnd r) s') {β : Type} (g : Cp → β)
    (h : ∀ (c : Cp) (m : Option Mbx) (w : Word) (a b d : Nat), g { c with mbx := m, resp := w, alertSrc := a, alertNow := b, alertAt := d } = g c :=
      by intros; rfl) (hg : ∀ x : State, g x.keep.cp = g x.cp := by intro; rfl) : g s'.cp = g s.cp :=
  (hs.same (fun x => g x.cp) hg).trans (mbxEnd_keeps g s r h)

theorem sendOwn_cp (s : State) (n : Nat) (f : LinkFrame) : (s.sendOwn n f).cp = s.cp := by
  have hqueue : ∀ (x : State) (g : LinkFrame), (x.queue none g).cp = x.cp := fun x g => queue_same (·.cp) (fun _ _ _ => rfl) x none g
  have hfold : ∀ (l : List Nat) (x : State) (g : YPort → YPort), (l.foldl (fun s p => s.modYport p g) x).cp = x.cp := fun l x g =>
    foldl_same (·.cp) _ (fun _ _ => by rfl) l x
  unfold State.sendOwn State.drainTx
  refine (foldl_same (·.cp) _ (fun x d => ?_) _ _).trans rfl
  split
  · split
    · exact hfold _ _ _
    · split
      · exact hqueue _ _
      · rfl
  · rfl

/-- The RESULT of YARD_MSEND (R476). -/
def State.msendResult (s : State) (m : Mbx) : Nat :=
  if m.arg1.toNat % 256 = 0 ∨ 128 < m.arg1.toNat % 256 then 5
  else if (s.ports (bit m.arg1.toNat 8) m.arg0.toNat none).isEmpty then 6 else 0

theorem msend_ends {s : State} {m : Mbx} (hm : s.cp.mbx = some m) (hc : s.yard.committed = true) :
    ∃ x : State, State.msend m s = x.mbxEnd (s.msendResult m) ∧ x.cp.mbx = some m := by
  unfold State.msend State.msendResult
  dsimp only
  rw [if_neg (by rw [hc]; decide)]
  by_cases hn : m.arg1.toNat % 256 = 0 ∨ 128 < m.arg1.toNat % 256
  · rw [if_pos (by simpa using hn), if_pos hn]
    exact ⟨s, rfl, hm⟩
  · rw [if_neg (by simpa using hn), if_neg hn]
    split
    · exact ⟨s, rfl, hm⟩
    · exact ⟨_, rfl, (congrArg Cp.mbx (sendOwn_cp _ _ _)).trans hm⟩

/-- A maintenance request is taken, or refused with RESULT 3. -/
theorem maintAsk_after {s s' : State} {m : Mbx} {ok enter : Bool} (hm : s.cp.mbx = some m) (hs : After (s.maintAsk ok enter) s') :
    if ok = true then s'.cp.maint = some enter ∧ s'.cp.mbx = some m
    else s'.cp.maint = s.cp.maint ∧ s'.cp.mbx = none ∧ s'.cp.resp = w16 (m.tag % 256 * 256 + 3) := by
  cases ok with
  | true => exact ⟨hs.same (·.cp.maint), (hs.same (·.cp.mbx)).trans hm⟩
  | false => exact ⟨hs.ended_cp (s := s) (·.maint), hs.ended hm⟩

/-- The oldest held management frame is handed over. -/
def State.frameTaken (s : State) (src : Nat) (l : List Byte) (rest : List (Nat × List Byte)) : State :=
  let s := (s.setArg0 src).setArg1 (l.length + flag s.yard.mlost 15)
  { s with yard := { s.yard with mrecv := rest, mlost := false }, cp := { s.cp with mbuf := l.take 128 ++ s.cp.mbuf.drop l.length } }

theorem mrecvs_takes {s : State} {src : Nat} {l : List Byte} {rest : List (Nat × List Byte)} (m : Mbx) (hc : s.yard.committed = true)
    (hr : s.yard.mrecv = (src, l) :: rest) : State.mrecvs m s = (s.frameTaken src l rest).mbxEnd 0 := by
  unfold State.mrecvs
  rw [if_neg (by rw [hc]; decide), hr]
  rfl

theorem mrecvs_empty {s : State} (m : Mbx) (hc : s.yard.committed = true) (hr : s.yard.mrecv = []) : State.mrecvs m s = s.mbxEnd 7 := by
  unfold State.mrecvs
  rw [if_neg (by rw [hc]; decide), hr]

/-- Settles O44: each command is served and ends, or hands its request over. -/
theorem mailboxCommands : Obligations.MailboxCommands := by
  refine ⟨?_, ?_, ?_, ?_, ?_, ?_, ?_⟩
  · intro t m s h
    obtain ⟨s', he, hs⟩ := serve_after (t := t) h true State.echoes
    unfold State.echoes at hs
    obtain ⟨h1, h2⟩ := hs.done (m := m) h.2.1
    exact ⟨s', he, h1, h2, (hs.ended_cp (·.mbuf)).trans rfl⟩
  · intro t m s h
    obtain ⟨s', he, hs⟩ := serve_after (t := t) h true State.tellUid
    unfold State.tellUid at hs
    obtain ⟨h1, h2⟩ := hs.done (m := m) h.2.1
    exact ⟨s', he, h1, h2, (hs.ended_cp (·.mbuf)).trans rfl⟩
  · intro t m s h
    obtain ⟨s', he, hs⟩ := serve_after (t := t) h false
      (fun _ s => s.maintAsk ((s.clk.rs == .armed && !s.clk.held) || s.clk.rs == .run) true)
    have hask := maintAsk_after (s := (s.upTo t).requestTaken) (m := m) h.2.1 hs
    refine ⟨s', he, ?_⟩
    have hiff : ((s.clk.rs == .armed && !s.clk.held) || s.clk.rs == .run) = true ↔
        (s.clk.rs = .armed ∧ s.clk.held = false) ∨ s.clk.rs = .run := by simp
    by_cases hr : (s.clk.rs = .armed ∧ s.clk.held = false) ∨ s.clk.rs = .run
    · rw [if_pos hr]
      exact (if_pos (hiff.2 hr)).mp hask
    · rw [if_neg hr]
      exact (if_neg (fun h => hr (hiff.1 h))).mp hask
  · intro t m s h
    obtain ⟨s', he, hs⟩ := serve_after (t := t) h false (fun _ s => s.maintAsk (s.clk.rs == .maint && s.seq.phase != .down) false)
    have hask := maintAsk_after (s := (s.upTo t).requestTaken) (m := m) h.2.1 hs
    refine ⟨s', he, ?_⟩
    have hiff : (s.clk.rs == .maint && s.seq.phase != .down) = true ↔ s.clk.rs = .maint ∧ s.seq.phase ≠ .down := by simp
    by_cases hr : s.clk.rs = .maint ∧ s.seq.phase ≠ .down
    · rw [if_pos hr]
      exact (if_pos (hiff.2 hr)).mp hask
    · rw [if_neg hr]
      exact (if_neg (fun h => hr (hiff.1 h))).mp hask
  · intro t m s h hc
    obtain ⟨s', he, hs⟩ := serve_after (t := t) h false State.msend
    obtain ⟨x, hx, hm⟩ := msend_ends (s := (s.upTo t).requestTaken) (m := m) h.2.1 hc
    rw [hx] at hs
    exact ⟨s', he, hs.ended hm⟩
  · intro t src l rest m s h hc hr
    obtain ⟨s', he, hs⟩ := serve_after (t := t) h false State.mrecvs
    rw [mrecvs_takes (s := (s.upTo t).requestTaken) m hc hr] at hs
    obtain ⟨h1, h2⟩ := hs.done (m := m) h.2.1
    have hy : s'.yard.mrecv = rest ∧ s'.yard.mlost = false :=
      ⟨(hs.same (·.yard.mrecv)).trans (congrArg (·.mrecv) (mbxEnd_yard _ 0)),
        (hs.same (·.yard.mlost)).trans (congrArg (·.mlost) (mbxEnd_yard _ 0))⟩
    exact ⟨s', he, hy.1, hy.2, (hs.ended_cp (·.arg0)).trans rfl,
      (hs.ended_cp (·.arg1)).trans rfl, h1, h2, (hs.ended_cp (·.mbuf)).trans rfl⟩
  · intro t m s h hc hr
    obtain ⟨s', he, hs⟩ := serve_after (t := t) h false State.mrecvs
    rw [mrecvs_empty (s := (s.upTo t).requestTaken) m hc hr] at hs
    exact ⟨s', he, hs.ended (m := m) h.2.1⟩

end Sys2Proof.Machine
end

section
/-!
PROOF. The image commands (O45): what each leaves in the images and in the MRAM.
-/
namespace Sys2Proof.Machine

/-- The end of a command touches neither the images nor the MRAM. -/
theorem mbxEnd_img (s : State) (r : Nat) : (s.mbxEnd r).img = s.img ∧ (s.mbxEnd r).mram = s.mram ∧ (s.mbxEnd r).clk = s.clk := by
  unfold State.mbxEnd State.alert
  repeat' split
  all_goals exact ⟨rfl, rfl, rfl⟩

section
variable {s s' : State} {r : Nat} (hs : After (s.mbxEnd r) s')
include hs

/-- What of the images a command that ends has left. -/
theorem After.ended_img {β : Type} (g : Img → β) (hg : ∀ x : State, g x.keep.img = g x.img := by intro; rfl) : g s'.img = g s.img :=
  (hs.same (fun x => g x.img) hg).trans (congrArg g (mbxEnd_img s r).1)

theorem After.ended_mram : s'.mram = s.mram := (hs.same (·.mram)).trans (mbxEnd_img s r).2.1

/-- No reaction leads to LOAD. -/
theorem After.ended_rs (h : s.clk.rs ≠ .load) : s'.clk.rs ≠ .load := by
  have hclk := (mbxEnd_img s r).2.2
  obtain h1 | h1 | ⟨h1, -⟩ := hs.worse.rs
  · rwa [h1, hclk]
  · rw [h1]
    nofun
  · rw [h1]
    nofun

end

/-! ## The run states -/

theorem imgState_maint {s : State} (h : s.clk.rs = .maint) : s.imgState = true := by
  unfold State.imgState
  rw [h]
  rfl

theorem imgState_outside {s : State} (h : s.clk.rs = .run ∨ s.clk.rs = .safe) : s.imgState = false := by
  unfold State.imgState
  obtain h | h := h <;> rw [h] <;> rfl

theorem inSequence_outside {s : State} (h : s.clk.rs = .run ∨ s.clk.rs = .safe) (f : Nat → State → State) : s.inSequence f = s.mbxEnd 3 := by
  unfold State.inSequence
  rw [if_pos (by rw [imgState_outside h]; rfl)]

theorem inSequence_open {s : State} {kind : Nat} (h : s.clk.rs = .maint) (hl : s.img.loft = true) (hq : s.img.seqOpen = some kind)
    (f : Nat → State → State) : s.inSequence f = f kind s := by
  unfold State.inSequence
  rw [if_neg (by rw [imgState_maint h]; decide), hq]
  exact if_neg (by simp [hl])

/-! ## Each command in its run state -/

theorem imgBegins_maint {s : State} (m : Mbx) (h : s.clk.rs = .maint) (hl : s.img.loft = true) : State.imgBegins m s =
    if m.arg0.toNat % 2 = 0 ∧ s.img.lc = 0 then s.mbxEnd 4
    else if m.arg0.toNat % 2 = 0 ∧ s.img.pending = true then s.mbxEnd 3
    else ({ s with img := { s.img with seqOpen := some (m.arg0.toNat % 2), verified := false, wblocks := 0 } } : State).mbxEnd 0 := by
  unfold State.imgBegins
  dsimp only
  rw [if_neg (by simp [imgState_maint h, hl])]
  simp only [Bool.and_eq_true, decide_eq_true_eq]

/-- The words are in the open bank, and the sequence is unverified. -/
def State.wordsTaken (s : State) (kind ofs : Nat) (l : List Byte) : State :=
  let s := s.mramWrite (bankBase kind (s.openBank kind) + ofs) l
  { s with img := { s.img with verified := false, wblocks := sat16 s.img.wblocks } }

theorem imgWrites_open {s : State} {kind : Nat} (m : Mbx) (h : s.clk.rs = .maint) (hl : s.img.loft = true) (hq : s.img.seqOpen = some kind) :
    State.imgWrites m s =
      if m.arg1.toNat % 256 = 0 ∨ 128 < m.arg1.toNat % 256 ∨ bankSize kind < m.arg0.toNat * 128 + m.arg1.toNat % 256 then s.mbxEnd 5
      else (s.wordsTaken kind (m.arg0.toNat * 128) (m.buf.take (m.arg1.toNat % 256))).mbxEnd 0 := by
  unfold State.imgWrites
  rw [inSequence_open h hl hq]
  simp only [Bool.or_eq_true, decide_eq_true_eq, or_assoc]
  rfl

/-- The bank's check has given a code. -/
def State.bankChecked (s : State) (kind : Nat) : State :=
  let code := s.imgCheck kind (s.openBank kind) none
  let s := s.showCode code
  { s with img := { s.img with verified := code == 0 } }

theorem imgVerifies_open {s : State} {kind : Nat} (m : Mbx) (h : s.clk.rs = .maint) (hl : s.img.loft = true) (hq : s.img.seqOpen = some kind) :
    State.imgVerifies m s = (s.bankChecked kind).mbxEnd (if s.imgCheck kind (s.openBank kind) none = 0 then 0 else 6) := by
  unfold State.imgVerifies
  rw [inSequence_open h hl hq]
  rfl

/-- The open bank is committed, and its sequence closed. -/
def State.bankCommitted (s : State) (kind : Nat) : State :=
  let key := keyHash (s.imageAt kind (s.openBank kind))
  let s := s.commitBank kind
  let s := { s with img := { s.img with seqOpen := none, verified := false, verr := codeWord 0 } }
  if kind = 0 then
    let s := if s.img.lc = lcDevelop then { s with img := { s.img with keyEnr := some key } } else s
    { s with img := { s.img with pending := true } }
  else s

theorem imgCommits_verified {s : State} {kind : Nat} (b : LoadObs) (m : Mbx) (h : s.clk.rs = .maint) (hl : s.img.loft = true)
    (hq : s.img.seqOpen = some kind) (hv : s.img.verified = true) : State.imgCommits b m s = (s.bankCommitted kind).mbxEnd 0 := by
  unfold State.imgCommits State.bankCommitted
  rw [if_neg (by rw [imgState_maint h]; decide), hq]
  dsimp only
  rw [if_neg (by simp [hl]), if_neg (by rw [hv]; decide)]
  split
  · refine if_pos ?_
    split <;> exact beq_iff_eq.2 h
  · rfl

theorem imgCommits_unverified {s : State} {kind : Nat} (b : LoadObs) (m : Mbx) (h : s.clk.rs = .maint) (hl : s.img.loft = true)
    (hq : s.img.seqOpen = some kind) (hv : s.img.verified = false) : State.imgCommits b m s = (s.showCode 9).mbxEnd 6 := by
  unfold State.imgCommits
  rw [if_neg (by rw [imgState_maint h]; decide), hq]
  dsimp only
  rw [if_neg (by simp [hl]), if_pos (by rw [hv]; rfl)]

theorem imgCommits_outside {s : State} (b : LoadObs) (m : Mbx) (h : s.clk.rs = .run ∨ s.clk.rs = .safe) :
    State.imgCommits b m s = s.mbxEnd 3 := by
  unfold State.imgCommits
  rw [if_pos (by rw [imgState_outside h]; rfl)]

theorem imgBegins_outside {s : State} (m : Mbx) (h : s.clk.rs = .run ∨ s.clk.rs = .safe) : State.imgBegins m s = s.mbxEnd 3 := by
  unfold State.imgBegins
  dsimp only
  rw [if_pos (by rw [imgState_outside h]; rfl)]

/-- What a commit leaves beside the record. -/
theorem bankCommitted_same (s : State) (kind : Nat) : (s.bankCommitted kind).mram = (s.commitBank kind).mram ∧
    (s.bankCommitted kind).clk = s.clk ∧ (s.bankCommitted kind).cp.mbx = s.cp.mbx ∧ (s.bankCommitted kind).img.seqOpen = none ∧
    (s.bankCommitted kind).img.pending = (s.img.pending || kind == 0) := by
  unfold State.bankCommitted
  dsimp only
  split
  next h =>
    subst h
    refine ⟨?_, ?_, ?_, ?_, ?_⟩
    · split <;> rfl
    · split <;> rfl
    · split <;> rfl
    · split <;> rfl
    · exact (Bool.or_true _).symm
  next h => exact ⟨rfl, rfl, rfl, rfl, by rw [show (kind == 0) = false from beq_eq_false_iff_ne.2 h, Bool.or_false]; rfl⟩

theorem commitRecBytes_length (kind bank gen len : Nat) (d : List Byte) : (commitRecBytes kind bank gen len d).length = 32 := by
  simp [commitRecBytes, commitOf]

/-- The slot that does not govern, and the GEN that a new record takes there. -/
def State.freeSlot (s : State) (kind : Nat) : Nat := match s.governing kind with | some e => 1 - e.1 | none => 0
def State.nextGen (s : State) (kind : Nat) : Nat := match s.governing kind with | some e => (cGen e.2 + 1) % 4294967296 | none => 1

/-- The record that commits the open bank. -/
def State.newRec (s : State) (kind : Nat) : List Byte :=
  commitRecBytes kind (s.openBank kind) (s.nextGen kind) (imgLen (s.imageAt kind (s.openBank kind))) (imgDigest (s.imageAt kind (s.openBank kind)))

theorem commitBank_rec {s : State} (kind : Nat) (h : s.mram.wf = true) :
    (s.commitBank kind).mram.readN (commitSlot kind (s.freeSlot kind)) 32 = s.newRec kind := by
  have hm : (s.commitBank kind).mram = s.mram.writeN (commitSlot kind (s.freeSlot kind)) (s.newRec kind) := rfl
  rw [hm]
  exact (Mem.writeN_frame h (commitRecBytes_length _ _ _ _ _)).1

theorem inHand_loft {s : State} {code : Nat} {m : Mbx} (h : s.inHand code m) : s.img.loft = true := h.2.2.2.1

/-- A command that is refused: RESULT, and neither images nor MRAM changed. -/
theorem After.refused {s s' : State} {m : Mbx} {r : Nat} (hs : After (s.mbxEnd r) s') (hm : s.cp.mbx = some m) :
    s'.mram = s.mram ∧ s'.img.seqOpen = s.img.seqOpen ∧ s'.img.verified = s.img.verified ∧ s'.cp.resp = w16 (m.tag % 256 * 256 + r) :=
  ⟨hs.ended_mram, hs.ended_img (·.seqOpen), hs.ended_img (·.verified), (hs.ended hm).2⟩

/-- Settles O45: each command's one effect on the images and the MRAM, which no reaction undoes. -/
theorem imageCommands : Obligations.ImageCommands := by
  refine ⟨?_, ?_, ?_, ?_, ?_, ?_, ?_, ?_, ?_, ?_⟩
  · intro t m s h hr
    obtain ⟨s', he, hs⟩ := serve_after (t := t) h true State.imgBegins
    rw [imgBegins_maint (s := (s.upTo t).requestTaken) m hr (inHand_loft (s := s) h)] at hs
    by_cases h1 : m.arg0.toNat % 2 = 0 ∧ s.img.lc = 0
    · rw [if_pos (show _ ∧ (s.upTo t).requestTaken.img.lc = 0 from h1)] at hs
      obtain ⟨hx, hres⟩ := hs.ended (m := m) h.2.1
      refine ⟨s', he, hx, ?_⟩
      rw [if_pos h1]
      exact ⟨(hs.ended_img (·.seqOpen)).trans rfl, hres⟩
    · rw [if_neg (show ¬ (_ ∧ (s.upTo t).requestTaken.img.lc = 0) from h1)] at hs
      by_cases h2 : m.arg0.toNat % 2 = 0 ∧ s.img.pending = true
      · rw [if_pos (show _ ∧ (s.upTo t).requestTaken.img.pending = true from h2)] at hs
        obtain ⟨hx, hres⟩ := hs.ended (m := m) h.2.1
        refine ⟨s', he, hx, ?_⟩
        rw [if_neg h1, if_pos h2]
        exact ⟨(hs.ended_img (·.seqOpen)).trans rfl, hres⟩
      · rw [if_neg (show ¬ (_ ∧ (s.upTo t).requestTaken.img.pending = true) from h2)] at hs
        obtain ⟨hx, hres⟩ := hs.done (m := m) h.2.1
        refine ⟨s', he, hx, ?_⟩
        rw [if_neg h1, if_neg h2]
        exact ⟨(hs.ended_img (·.seqOpen)).trans rfl, (hs.ended_img (·.verified)).trans rfl, (hs.ended_img (·.wblocks)).trans rfl, hres⟩
  · intro t kind m s h hw hr hq hn1 hn2 hlen hsz
    obtain ⟨s', he, hs⟩ := serve_after (t := t) h true State.imgWrites
    rw [imgWrites_open (s := (s.upTo t).requestTaken) m hr (inHand_loft (s := s) h) hq, if_neg (by omega)] at hs
    have hm : s'.mram = s.mram.writeN (bankBase kind (s.openBank kind) + m.arg0.toNat * 128) (m.buf.take (m.arg1.toNat % 256)) :=
      hs.ended_mram
    obtain ⟨hread, hrest⟩ := Mem.writeN_frame hw (a := bankBase kind (s.openBank kind) + m.arg0.toNat * 128)
      (l := m.buf.take (m.arg1.toNat % 256)) (n := m.arg1.toNat % 256) (by rw [List.length_take, Nat.min_eq_left hlen])
    obtain ⟨-, hres⟩ := hs.done (m := m) h.2.1
    refine ⟨s', he, (hs.ended_img (·.verified)).trans rfl, (hs.ended_img (·.wblocks)).trans rfl, hres, ?_, fun a ha => ?_⟩
    · rw [hm]
      exact hread
    · rw [hm]
      exact hrest a ha
  · intro t kind m s h hr hq hbad
    obtain ⟨s', he, hs⟩ := serve_after (t := t) h true State.imgWrites
    rw [imgWrites_open (s := (s.upTo t).requestTaken) m hr (inHand_loft (s := s) h) hq, if_pos hbad] at hs
    obtain ⟨hx, hres⟩ := hs.ended (m := m) h.2.1
    exact ⟨s', he, hs.ended_mram, (hs.ended_img (·.verified)).trans rfl, hx, hres⟩
  · intro t kind m s h hr hq
    obtain ⟨s', he, hs⟩ := serve_after (t := t) h true State.imgVerifies
    rw [imgVerifies_open (s := (s.upTo t).requestTaken) m hr (inHand_loft (s := s) h) hq] at hs
    exact ⟨s', he, (hs.ended_img (·.verified)).trans rfl, (hs.ended_img (·.verr)).trans rfl, (hs.ended_cp (·.arg0)).trans rfl,
      hs.ended_mram, (hs.ended (m := m) h.2.1).2⟩
  · intro t kind b m s h hw hr hq hv
    obtain ⟨s', he, hs⟩ := serve_after (t := t) h true (State.imgCommits b)
    rw [imgCommits_verified (s := (s.upTo t).requestTaken) b m hr (inHand_loft (s := s) h) hq hv] at hs
    obtain ⟨hmram, hclk, hmbx, hseq, hpend⟩ := bankCommitted_same (s.upTo t).requestTaken kind
    obtain ⟨-, hres⟩ := hs.done (m := m) (hmbx.trans h.2.1)
    refine ⟨s', he, (hs.ended_img (·.pending)).trans hpend, (hs.ended_img (·.seqOpen)).trans hseq, hres, hs.ended_rs ?_, ?_⟩
    · rw [hclk]
      exact fun hload => nomatch hload.symm.trans hr
    · show s'.mram.readN _ 32 = _
      rw [hs.ended_mram, hmram]
      exact commitBank_rec (s := (s.upTo t).requestTaken) kind hw
  · intro t kind b m s h hr hq hv
    obtain ⟨s', he, hs⟩ := serve_after (t := t) h true (State.imgCommits b)
    rw [imgCommits_unverified (s := (s.upTo t).requestTaken) b m hr (inHand_loft (s := s) h) hq hv] at hs
    exact ⟨s', he, hs.ended_mram, (hs.ended_cp (·.arg0)).trans rfl, (hs.ended (m := m) h.2.1).2⟩
  · intro t m s h hr
    obtain ⟨s', he, hs⟩ := serve_after (t := t) h true State.imgBegins
    rw [imgBegins_outside (s := (s.upTo t).requestTaken) m hr] at hs
    obtain ⟨hmram, hseq, -, hres⟩ := hs.refused (m := m) h.2.1
    exact ⟨s', he, hmram, hseq, hres⟩
  · intro t m s h hr
    obtain ⟨s', he, hs⟩ := serve_after (t := t) h true State.imgWrites
    unfold State.imgWrites at hs
    rw [inSequence_outside (s := (s.upTo t).requestTaken) hr] at hs
    obtain ⟨hmram, hseq, -, hres⟩ := hs.refused (m := m) h.2.1
    exact ⟨s', he, hmram, hseq, hres⟩
  · intro t m s h hr
    obtain ⟨s', he, hs⟩ := serve_after (t := t) h true State.imgVerifies
    unfold State.imgVerifies at hs
    rw [inSequence_outside (s := (s.upTo t).requestTaken) hr] at hs
    obtain ⟨hmram, -, hver, hres⟩ := hs.refused (m := m) h.2.1
    exact ⟨s', he, hmram, hver, hres⟩
  · intro t b m s h hr
    obtain ⟨s', he, hs⟩ := serve_after (t := t) h true (State.imgCommits b)
    rw [imgCommits_outside (s := (s.upTo t).requestTaken) b m hr] at hs
    obtain ⟨hmram, hseq, -, hres⟩ := hs.refused (m := m) h.2.1
    exact ⟨s', he, hmram, hseq, hres⟩

end Sys2Proof.Machine
end

section
/-!
PROOF. What the work of a cycle leaves (for O29): the instant, yard time, the cycle's number, the inputs and the clocks, while errors
may take the run state to SAFE or CUT. First errors, memory, outputs and the yard's frames.
-/
namespace Sys2Proof.Machine

/-- What a cycle's work works on: the clocks but for the run state, the instant, the cycle's number, yard time, the inputs and FIFO 0. -/
def State.works (s : State) : Clk × Nat × Nat × (Bool × Nat × Nat × Int) × Sin × Fifo :=
  (kClk s.clk, s.now, s.cp.cycle, (s.yard.runs, s.yard.base, s.yard.baseAt, s.yard.rate), s.sin, s.fifo 0)

/-- Work that leaves these, and whose errors may take the run state to SAFE or CUT. -/
structure State.Goes (s s' : State) : Prop where
  works : s'.works = s.works
  rs : s'.clk.rs = s.clk.rs ∨ s'.clk.rs = .safe ∨ s'.clk.rs = .cut

namespace State.Goes

variable {s t u : State}

theorem same (hw : t.works = s.works) (hr : t.clk.rs = s.clk.rs) : s.Goes t := ⟨hw, .inl hr⟩

theorem refl (s : State) : s.Goes s := .same rfl rfl

theorem trans (h : s.Goes t) (k : t.Goes u) : s.Goes u where
  works := k.works.trans h.works
  rs := by
    obtain hk | hk := k.rs
    · rw [hk]
      exact h.rs
    · exact .inr hk

theorem foldl {α : Type} (f : State → α → State) (h : ∀ s a, State.Goes s (f s a)) : ∀ (l : List α) (s : State), s.Goes (l.foldl f s)
  | [], s => refl s
  | a :: l, s => (h s a).trans (foldl f h l (f s a))

theorem ite (c : Prop) [Decidable c] (h : s.Goes t) (k : s.Goes u) : s.Goes (if c then t else u) := by
  split
  · exact h
  · exact k

theorem now (h : s.Goes t) : t.now = s.now := congrArg (·.2.1) h.works
theorem cycle (h : s.Goes t) : t.cp.cycle = s.cp.cycle := congrArg (·.2.2.1) h.works
theorem sin (h : s.Goes t) : t.sin = s.sin := congrArg (·.2.2.2.2.1) h.works
theorem armedOnce (h : s.Goes t) : t.clk.armedOnce = s.clk.armedOnce := congrArg (·.1.armedOnce) h.works
theorem loadStep (h : s.Goes t) : t.clk.loadStep = s.clk.loadStep := congrArg (·.1.loadStep) h.works
theorem fifo (h : s.Goes t) : t.fifo 0 = s.fifo 0 := congrArg (·.2.2.2.2.2) h.works

end State.Goes

/-- Yard time goes by what it is based on and the instant. -/
theorem ytime_of_works {s t : State} (h : t.works = s.works) : t.ytime = s.ytime := by
  have hnow : t.now = s.now := congrArg (·.2.1) h
  have hy := congrArg (·.2.2.2.1) h
  simp only [State.works, Prod.mk.injEq] at hy
  obtain ⟨h1, h2, h3, h4⟩ := hy
  unfold State.ytime
  rw [hnow, h1, h2, h3, h4]

/-! ## Errors -/

theorem raise_goes (s : State) (src : Src) (d : Nat) (c : Cls) : s.Goes (s.raise src d c) where
  works := of_keep (State.raise_keep s src d c) State.works fun _ => rfl
  rs := by
    obtain h | h | ⟨h, -⟩ := (s.raise_worse src d c).rs
    · exact .inl h
    · exact .inr (.inr h)
    · exact .inr (.inl h)

theorem err_goes (s : State) (src : Src) (d : Nat) : s.Goes (s.err src d) := raise_goes s src d _

theorem State.Goes.err {s t : State} (h : s.Goes t) (src : Src) (d : Nat) : s.Goes (t.err src d) := h.trans (err_goes t src d)

theorem State.Goes.raise {s t : State} (h : s.Goes t) (src : Src) (d : Nat) (c : Cls) : s.Goes (t.raise src d c) := h.trans (raise_goes t src d c)

theorem raiseAll_goes : ∀ (l : List (Src × Nat)) (s : State), s.Goes (s.raiseAll l)
  | [], s => .refl s
  | x :: l, s => (err_goes s x.1 x.2).trans (raiseAll_goes l _)

theorem alert_goes (s : State) (n : Nat) : s.Goes (s.alert n) := by
  unfold State.alert
  split <;> exact .same rfl rfl

theorem State.Goes.alert {s t : State} (h : s.Goes t) (n : Nat) : s.Goes (t.alert n) := h.trans (alert_goes t n)

theorem modSheet_goes (s : State) (k : Nat) (f : Sheet → Sheet) : s.Goes (s.modSheet k f) := by
  unfold State.modSheet
  split <;> exact .same rfl rfl

theorem closeRecord_goes (s : State) : s.Goes s.closeRecord := by
  unfold State.closeRecord
  split
  · refine .alert ?_ 1
    exact .same rfl rfl
  · exact .refl s

theorem recordEnd_goes (s : State) : s.Goes s.recordEnd := by
  have hresume : ∀ (b : Bool) (f : Flt), s.Goes (if b then s else { s with flt := f }) := fun b f => .ite _ (.refl s) (.same rfl rfl)
  unfold State.recordEnd
  dsimp only
  split
  · refine .trans (hresume _ _) (.ite _ (closeRecord_goes _) (.ite _ (.same rfl rfl) (.refl _)))
  · exact hresume _ _

/-! ## What the hardware observed -/

theorem cmp_goes (s : State) (g b c : Nat) : s.Goes (s.cmp g b c) := by
  unfold State.cmp
  refine .err ?_ _ _
  exact .same rfl rfl

theorem ecc_goes (s : State) (e : EccEvent) : s.Goes (s.ecc e) := by
  have hnote : ∀ d : Nat, s.Goes (({ s with pair := { s.pair with kramcnt := sat16 s.pair.kramcnt } } : State).err .kramEcc d) :=
    fun d => by
      refine .err ?_ _ _
      exact .same rfl rfl
  have hat : ∀ (a : Nat) (rom : Bool) (d : Nat) (c : Cls),
      s.Goes (({ s with pair := { s.pair with kramAdr := a, kramRom := rom } } : State).raise .kramEcc d c) :=
    fun a rom d c => by
      refine .raise ?_ _ _ _
      exact .same rfl rfl
  have hreset : ∀ (x : State) (k i : Nat), x.Goes (x.resetInst k i) := fun x k i => by
    unfold State.resetInst
    exact (modSheet_goes x k _).trans (modSheet_goes _ k _)
  unfold State.ecc
  dsimp only
  split
  · refine .ite _ (hnote _) (.trans (.raise ?_ _ _ _) (hreset _ _ _))
    exact .same rfl rfl
  · exact .ite _ (hnote _) (hat _ _ _ _)
  · exact .ite _ (hnote _) (hat _ _ _ _)
  · exact .ite _ (.ite _ (.same rfl rfl) (.same rfl rfl)) (.ite _ (err_goes _ _ _) (err_goes _ _ _))

theorem observe_goes (s : State) (o : CycleObs) : s.Goes (s.observe o) := by
  have hcmp : ∀ (x : State) (b : Bool) (g n c : Nat), x.Goes (if b then x.cmp g n c else x) := fun x b g n c =>
    .ite _ (cmp_goes x g n c) (.refl x)
  have hmis : s.Goes (match o.mismatch with
      | some d => if s.comparing then s.cmp d.1 d.2 cmpLockstep else s
      | none => s) := by
    cases o.mismatch with
    | none => exact .refl s
    | some d => exact hcmp s _ _ _ _
  unfold State.observe
  dsimp only
  refine .trans (.trans (.trans ?_ (hcmp _ _ _ _ _)) (hcmp _ _ _ _ _)) (.foldl _ ecc_goes _ _)
  split <;> rename_i h <;> rw [h] at hmis <;> exact hmis

theorem restartDue_goes (s : State) : s.Goes s.restartDue := by
  have hreload : s.Goes (if s.pair.ramReload then s.reloadRam else s) := .ite _ (.same rfl rfl) (.refl s)
  unfold State.restartDue
  refine .ite _ (.trans hreload ?_) (.refl s)
  exact .same rfl rfl

/-! ## FIFOs other than FIFO 0 -/

theorem fifo_modFifo_other (s : State) {m n : Nat} (h : n ≠ m) (f : Fifo → Fifo) : (s.modFifo m f).fifo n = s.fifo n :=
  nth_updAt_other _ _ _ _ _ h

theorem modFifo_goes (s : State) {m : Nat} (h : m ≠ 0) (f : Fifo → Fifo) : s.Goes (s.modFifo m f) := by
  refine .same ?_ rfl
  unfold State.works
  rw [fifo_modFifo_other s h.symm f]
  rfl

theorem fifoPush_goes (s : State) {m : Nat} (h : m ≠ 0) (d : Datum) : s.Goes (s.fifoPush m d) := modFifo_goes s h _

/-! ## Outputs and launches -/

theorem darkBegin_goes (s : State) (n : Nat) (l : Leg) : s.Goes (s.darkBegin n l) := .ite _ (.same rfl rfl) (.refl s)

theorem sioTakes_goes (s : State) (d : Datum) : s.Goes (s.sioTakes d) := by
  cases d with
  | commands k m => exact .same rfl rfl
  | bark => exact .ite _ (.same rfl rfl) (.refl s)
  | dark n => exact darkBegin_goes s n .p
  | _ => exact .refl s

theorem drainSio_goes (s : State) : s.Goes s.drainSio := (modFifo_goes s (by decide) _).trans (.foldl _ sioTakes_goes _ _)

theorem cancelLaunch_goes (s : State) (k g : Nat) : s.Goes (s.cancelLaunch k g) := .same rfl rfl

theorem launchCancel_goes (s : State) (k g c : Nat) : s.Goes (s.launchCancel k g c) := by
  unfold State.launchCancel
  refine .err ?_ _ _
  exact .same rfl rfl

theorem handOver_goes (s : State) (k g : Nat) : s.Goes (s.handOver k g) := .ite _ (launchCancel_goes s k g 5) (.same rfl rfl)

theorem releaseOut_goes (s : State) (n : Nat) : s.Goes (s.releaseOut n) := .ite _ (.same rfl rfl) (.same rfl rfl)

theorem launchOne_goes (s : State) (l : Launch) : s.Goes (s.launchOne l) := by
  unfold State.launchOne
  split
  · exact launchCancel_goes s _ _ _
  · exact (cancelLaunch_goes s _ _).trans (.foldl _ (fun x n => .ite _ (releaseOut_goes x n) (.refl x)) _ _)

theorem launchDue_goes (s : State) : s.Goes s.launchDue := .foldl _ launchOne_goes _ _

theorem command_goes (s : State) (k : Nat) (old : List InstSt) : s.Goes (s.command k old) := by
  unfold State.command
  exact ((State.Goes.foldl _ (fun x g => cancelLaunch_goes x k g) _ _).trans ((fifoPush_goes _ (by decide) _).trans (drainSio_goes _))).trans
    (.foldl _ (fun x g => handOver_goes x k g) _ _)

/-! ## Frames and whistles -/

theorem modYport_goes (s : State) (p : Nat) (f : YPort → YPort) : s.Goes (s.modYport p f) := .same rfl rfl

theorem drainTx_goes (s : State) {n : Nat} (h : n ≠ 0) : s.Goes (s.drainTx n) := by
  unfold State.drainTx
  refine (modFifo_goes s h _).trans (.foldl _ (fun x d => ?_) _ _)
  split
  · refine .ite _ (.foldl _ (fun y p => modYport_goes y p _) _ _) ?_
    split
    · exact .foldl _ (fun y p => modYport_goes y p _) _ _
    · exact .refl x
  · exact .refl x

theorem sendOwn_goes (s : State) {n : Nat} (h : n ≠ 0) (f : LinkFrame) : s.Goes (s.sendOwn n f) :=
  (fifoPush_goes s h _).trans (drainTx_goes _ h)

theorem whistleOut_goes (s : State) (y : Nat) : s.Goes (s.whistleOut y) := by
  unfold State.whistleOut
  refine .trans (t := { s with yard := _ }) ?_ ((fifoPush_goes _ (by decide) _).trans (drainTx_goes _ (by decide)))
  exact .same rfl rfl

theorem produce_goes (s : State) (i : Nat) : s.Goes (s.produce i) := by
  unfold State.produce
  refine .ite _ (.refl s) (.trans (t := s.modConn i _) ?_ (sendOwn_goes _ (by decide) _))
  exact .same rfl rfl

end Sys2Proof.Machine
end

section
/-!
PROOF. What the input read leaves (for O29): motion, connections, collars and the rest of the read, each as work that leaves the
instant, yard time, the cycle's number, the inputs and the clocks.
-/
namespace Sys2Proof.Machine

/-! ## Motion -/

theorem modWheel_goes (s : State) (w : Nat) (f : Wheel → Wheel) : s.Goes (s.modWheel w f) := .same rfl rfl

theorem modWheelCh_goes (s : State) (w : Nat) (isA : Bool) (f : WheelCh → WheelCh) : s.Goes (s.modWheelCh w isA f) := .same rfl rfl

theorem modMotion_goes (s : State) (w : Nat) (isA : Bool) (f : List Byte → InstSt → InstSt) : s.Goes (s.modMotion w isA f) := .same rfl rfl

theorem motDisc_goes (s : State) (w : Nat) : s.Goes (s.motDisc w) := by
  unfold State.motDisc
  refine .err ?_ _ _
  exact .same rfl rfl

theorem invalidate_goes (s : State) (w : Nat) (isA : Bool) : s.Goes (s.invalidate w isA) :=
  (modWheelCh_goes s w isA _).trans (modMotion_goes _ w isA _)

theorem anomaly_goes (s : State) (w : Nat) (isA : Bool) (a b c d : Nat) : s.Goes (s.anomaly w isA a b c d) := by
  unfold State.anomaly
  extract_lets second s₁ s₂ s₃
  have h₂ : s.Goes s₂ := (modWheelCh_goes s w isA _).trans (modMotion_goes _ w isA _)
  have h₃ : s.Goes s₃ := h₂.trans (.ite _ (modWheel_goes _ w _) (err_goes _ _ _))
  exact .ite _ (h₃.trans (invalidate_goes _ w isA)) h₃

theorem count_goes (s : State) (w : Nat) (isA up : Bool) (a : Nat) : s.Goes (s.count w isA up a) := modWheelCh_goes s w isA _

theorem reference_goes (s : State) (w : Nat) (isA up : Bool) (a : Nat) : s.Goes (s.reference w isA up a) := by
  unfold State.reference
  extract_lets x c
  split
  · refine .ite _ (.refl s) ?_
    have h : s.Goes (s.modWheelCh w isA (fun c => { c with refAt := none })) := modWheelCh_goes s w isA _
    exact h.trans (.ite _ (.ite _ (.refl _) ((modWheel_goes _ w _).trans (motDisc_goes _ w))) (modWheelCh_goes _ w isA _))
  · exact .refl s

theorem passTooth_goes (s : State) (w : Nat) (isA up : Bool) (a : Nat) : s.Goes (s.passTooth w isA up a) :=
  ((count_goes s w isA up a).trans (reference_goes _ w isA up a)).trans (modMotion_goes _ w isA _)

theorem tooth_goes (s : State) (w : Nat) (isA up : Bool) (a n : Nat) (normal : Bool) (p : Option Nat) : s.Goes (s.tooth w isA up a n normal p) := by
  unfold State.tooth
  extract_lets x c lastT turned per t mid s₁ s₂ s₃ s₄
  have h₂ : s.Goes s₂ := (modWheelCh_goes s w isA _).trans (.ite _ (passTooth_goes _ w isA up _) (.refl _))
  have h₃ : s.Goes s₃ := h₂.trans (passTooth_goes _ w isA up a)
  have h₄ : s₃.Goes s₄ := by
    refine .ite _ ?_ (.refl _)
    cases t with
    | some v => exact modMotion_goes _ w isA _
    | none => exact .refl _
  exact (h₃.trans h₄).trans (.ite _ (.refl _) (modWheelCh_goes _ w isA _))

theorem rise_goes (s : State) (w : Nat) (isA up : Bool) (a : Nat) : s.Goes (s.rise w isA up a) := by
  unfold State.rise
  split
  · exact tooth_goes s w isA up a _ _ _
  · exact anomaly_goes s w isA _ _ _ _
  · exact tooth_goes s w isA up a _ _ _
  · exact (tooth_goes s w isA up a _ _ _).trans (anomaly_goes _ w isA _ _ _ _)
  · exact ((tooth_goes s w isA up a _ _ _).trans (anomaly_goes _ w isA _ _ _ _)).trans (invalidate_goes _ w isA)

theorem stuck_goes (s : State) (w : Nat) (isA : Bool) (p : Chan) (a : Nat) : s.Goes (s.stuck w isA p a) := by
  unfold State.stuck
  exact .ite _ ((modWheelCh_goes s w isA _).trans (.ite _ (anomaly_goes _ w isA _ _ _ _) (.refl _))) (.refl s)

theorem edgeStands_goes (s : State) (w : Nat) (isA : Bool) (p : Chan) (l : Bool) (a : Nat) : s.Goes (s.edgeStands w isA p l a) := by
  unfold State.edgeStands
  exact ((modWheelCh_goes s w isA _).trans (stuck_goes _ w isA p a)).trans (.ite _ (rise_goes _ w isA _ a) (.refl _))

theorem confirmPin_goes (s : State) (w : Nat) (isA : Bool) (p : Chan) (now : Nat) : s.Goes (s.confirmPin w isA p now) := by
  unfold State.confirmPin
  extract_lets x c
  split
  · exact .ite _ (edgeStands_goes s w isA p _ _) (.refl s)
  · exact .refl s

theorem confirm_goes (s : State) (w : Nat) (isA : Bool) (now : Nat) : s.Goes (s.confirm w isA now) := by
  unfold State.confirm
  exact .ite _ ((confirmPin_goes s w isA .b now).trans (confirmPin_goes _ w isA .a now))
    ((confirmPin_goes s w isA .a now).trans (confirmPin_goes _ w isA .b now))

theorem edge_goes (s : State) (w : Nat) (isA : Bool) (p : Chan) (l : Bool) (a : Nat) : s.Goes (s.edge w isA p l a) := by
  unfold State.edge
  exact (((confirm_goes s w isA a).trans (modWheelCh_goes _ w isA _)).trans (modMotion_goes _ w isA _)).trans
    (.ite _ (anomaly_goes _ w isA _ _ _ _) (.refl _))

theorem compareCounts_goes (s : State) (w : Nat) : s.Goes (s.compareCounts w) := by
  unfold State.compareCounts
  extract_lets x d gap far near diff s₁ mark s₂
  refine .ite _ (.refl s) ?_
  have h₂ : s.Goes s₂ := (modWheel_goes s w _).trans (.ite _ ((modMotion_goes _ w true _).trans (modMotion_goes _ w false _)) (.refl _))
  exact h₂.trans (.ite _ ((modWheel_goes _ w _).trans (motDisc_goes _ w)) (.refl _))

/-- The kennel's edges leave all of it but what FIFO 0 holds. -/
theorem kennelEdges_goes (s : State) (missed : List (Fin 32)) :
    (s.modFifo 0 (fun f => { f with q := (s.fifo 0).q.filter (s.missesRead missed) })).Goes (s.kennelEdges missed) := by
  unfold State.kennelEdges
  extract_lets late s₁
  have h₁ : State.Goes _ s₁ := .foldl _ (fun x d => by
    split
    · exact edge_goes x _ _ _ _ _
    · exact .refl x) _ _
  exact h₁.trans (.foldl _ (fun x w => (confirm_goes x w true _).trans (confirm_goes _ w false _)) _ _)

/-! ## Connections -/

theorem modConn_goes (s : State) (i : Nat) (f : Conn → Conn) : s.Goes (s.modConn i f) := .same rfl rfl

theorem modConnCh_goes (s : State) (i : Nat) (isA : Bool) (f : ConnCh → ConnCh) : s.Goes (s.modConnCh i isA f) := .same rfl rfl

theorem yardRemotes_goes (s : State) (i : Nat) : s.Goes (s.yardRemotes i) := .same rfl rfl

theorem connEnter_goes (s : State) (i : Nat) (isA : Bool) (d : DState) : s.Goes (s.connEnter i isA d) := by
  have hraise : ∀ (c : Prop) [Decidable c] (x : State), x.Goes (if c then x.err .yardWdog i else x) := fun c _ x =>
    .ite _ (err_goes x _ _) (.refl x)
  unfold State.connEnter
  refine .trans ?_ (yardRemotes_goes _ i)
  cases d with
  | joining => exact modConnCh_goes s i isA _
  | lost => exact ((modConn_goes s i _).trans (modConnCh_goes _ i isA _)).trans (hraise _ _)
  | quarantined => exact ((modConn_goes s i _).trans (modConnCh_goes _ i isA _)).trans (hraise _ _)
  | _ => exact modConnCh_goes s i isA _

theorem connPre_goes (s : State) (i : Nat) (isA b : Bool) (l : List Byte) (a : Nat) : s.Goes (s.connPre i isA b l a) := by
  unfold State.connPre
  exact .ite _ (.refl s) (.ite _ ((((modConn_goes s i _).trans (modConnCh_goes _ i isA _)).err _ _).trans
    (.ite _ (connEnter_goes _ i isA _) (.refl _))) (modConnCh_goes s i isA _))

theorem connTake_goes (s : State) (i : Nat) (isA : Bool) (f : SFrame) : s.Goes (s.connTake i isA f) := by
  unfold State.connTake
  extract_lets c ch one s₁ ch₁ s₂
  have h₂ : s.Goes s₂ := (modConnCh_goes s i isA _).trans (.ite _ (connEnter_goes _ i isA _) (.refl _))
  exact .ite _ (.refl s) (.ite _ (err_goes s _ _) (h₂.trans (yardRemotes_goes _ i)))

theorem connDue_goes (s : State) (i : Nat) (isA : Bool) : s.Goes (s.connDue i isA) :=
  (modConnCh_goes s i isA _).trans (.foldl _ (fun x f => connTake_goes x i isA f) _ _)

theorem connRead_goes (s : State) (i : Nat) : s.Goes (s.connRead i) := by
  unfold State.connRead
  refine .ite _ (.refl s) ?_
  extract_lets s₁ dog s₂ c₂ s₃ c₃ view up s₄
  have hdog : ∀ (x : State) (isA : Bool), x.Goes (dog x isA) := fun x isA =>
    (modConnCh_goes x i isA _).trans (.ite _ (connEnter_goes _ i isA _) (.refl _))
  have h₂ : s.Goes s₂ := ((connDue_goes s i true).trans (hdog _ true)).trans (hdog _ false)
  have h₃ : s.Goes s₃ := h₂.trans (.ite _ (connEnter_goes _ i true _) (.refl _))
  have h₄ : s.Goes s₄ := h₃.trans (modConn_goes _ i _)
  exact h₄.trans (.ite _ (err_goes _ _ _) (.refl _))

theorem connReads_goes (s : State) : s.Goes s.connReads := by
  have htake : s.Goes s.kennelFrames := (modFifo_goes s (by decide) _).trans (.foldl _ (fun x d => by
    split
    · split
      · exact connPre_goes x _ _ _ _ _
      · exact .refl x
    · exact .refl x) _ _)
  exact htake.trans (.foldl _ connRead_goes _ _)

/-! ## Collars -/

theorem col_goes (s : State) (c : Col) : s.Goes { s with col := c } := .same rfl rfl

theorem modSlot_goes (s : State) (n : Nat) (f : Slot → Slot) : s.Goes (s.modSlot n f) := .same rfl rfl

theorem modSlotCh_goes (s : State) (n : Nat) (isA : Bool) (f : SlotCh → SlotCh) : s.Goes (s.modSlotCh n isA f) := .same rfl rfl

theorem collarRemotes_goes (s : State) (n : Nat) : s.Goes (s.collarRemotes n) := .same rfl rfl

theorem collarSpeed_goes (s : State) (n : Nat) (isA : Bool) (a b : BitVec 64) : s.Goes (s.collarSpeed n isA a b) := .same rfl rfl

theorem slotEnter_goes (s : State) (n : Nat) (isA : Bool) (d : DState) (cause : Nat) : s.Goes (s.slotEnter n isA d cause) := by
  unfold State.slotEnter
  extract_lets old col s₁ s₂ s₃ s₄
  have h₁ : s.Goes s₁ := .ite _ (col_goes s _) (.refl s)
  have h₃ : s.Goes s₃ := (h₁.trans (modSlotCh_goes _ n isA _)).trans (modSlot_goes _ n _)
  have h₄ : s.Goes s₄ := h₃.trans (.ite _ (err_goes _ _ _) (.refl _))
  exact h₄.trans (collarRemotes_goes _ n)

theorem deadline_goes (s : State) (n : Nat) (isA : Bool) : s.Goes (s.deadline n isA) := by
  unfold State.deadline
  exact .ite _ (modSlotCh_goes s n isA _) (((modSlotCh_goes s n isA _).trans (modSlot_goes _ n _)).trans
    (.ite _ (slotEnter_goes _ n isA _ _) (.refl _)))

theorem deadlines_goes (s : State) (n : Nat) (isA : Bool) (y : Nat) : s.Goes (s.deadlines n isA y) := by
  unfold State.deadlines repeatN
  exact .ite _ (.refl s) (.foldl _ (fun x _ => deadline_goes x n isA) _ _)

theorem pduSample_goes (s : State) (n : Nat) (isA : Bool) (p : List Byte) (a : Nat) : s.Goes (s.pduSample n isA p a) := by
  unfold State.pduSample
  extract_lets sl ch unsync seq raw st d ofs seqOk timeOk tick inTime ageOk da db run s₁ s₂ s₃ col s₄
  have h₂ : s.Goes s₂ := (modSlotCh_goes s n isA _).trans (.ite _ (slotEnter_goes _ n isA _ _) (.refl _))
  have h₄ : s.Goes s₄ := (h₂.trans (collarSpeed_goes _ n isA _ _)).trans (.ite _ (.same rfl rfl) (.refl _))
  exact .ite _ (err_goes s _ _) (.ite _ ((modSlotCh_goes s n isA _).err _ _) (h₄.trans (collarRemotes_goes _ n)))

theorem pduCheck_goes (s : State) (isA : Bool) (f : PortFrame) : s.Goes (s.pduCheck isA f) := by
  unfold State.pduCheck
  extract_lets n p sl ch crcAt s₁ s₂ s₃
  have h₂ : s.Goes s₂ := ((modSlot_goes s n _).trans (modSlotCh_goes _ n isA _)).err _ _
  have h₃ : s.Goes s₃ := .ite _ (slotEnter_goes s n isA _ _) (.refl s)
  exact .ite _ (.refl s) (.ite _ (err_goes s _ _) (.ite _ (h₂.trans (.ite _ (slotEnter_goes _ n isA _ _) (.refl _)))
    (h₃.trans (pduSample_goes _ n isA p _))))

theorem kennelPdus_goes (s : State) : s.Goes s.kennelPdus :=
  (modFifo_goes s (by decide) _).trans (.foldl _ (fun x d => by
    split
    · exact (deadlines_goes x _ true _).trans (pduCheck_goes _ true _)
    · exact .refl x) _ _)

theorem slotRead_goes (s : State) (n : Nat) : s.Goes (s.slotRead n) := by
  unfold State.slotRead
  refine .ite _ (.refl s) ?_
  extract_lets s₁ sl₁ s₂ sl₂ view up s₃
  have h₂ : s.Goes s₂ := (deadlines_goes s n true _).trans (.ite _ (slotEnter_goes _ n true _ _) (.refl _))
  have h₃ : s.Goes s₃ := h₂.trans (modSlot_goes _ n _)
  exact h₃.trans (.ite _ (err_goes _ _ _) (.refl _))

theorem slotReads_goes (s : State) : s.Goes s.slotReads := (kennelPdus_goes s).trans (.foldl _ slotRead_goes _ _)

theorem thirdSource_goes (s : State) : s.Goes s.thirdSource := by
  unfold State.thirdSource
  refine .trans (t := { s with col := _ }) ?_ (.foldl _ (fun x e => .foldl _ (fun y w => .ite _ (motDisc_goes y w) (.refl y)) _ _) _ _)
  exact .same rfl rfl

/-! ## The read -/

theorem clearLocals_goes (s : State) (p : Nat → Nat → LocalCause → Bool) : s.Goes (s.clearLocals p) := .same rfl rfl

theorem launchReads_goes (s : State) : s.Goes s.launchReads := clearLocals_goes s _

theorem openings_goes (s : State) : s.Goes s.openings := .same rfl rfl

theorem page_goes (s : State) (h k : Sheet) (p : SheetPage) : s.Goes { s with sh0 := h, sh1 := k, sp := p } := .same rfl rfl

theorem pair_goes (s : State) (p : Pair) : s.Goes { s with pair := p } := .same rfl rfl

theorem handoverInputs_goes (s : State) : s.Goes s.handoverInputs :=
  .ite _ ((pair_goes s _).trans (page_goes _ _ _ _)) (.ite _ (.refl s) (pair_goes s _))

theorem handoverInputs_rd (s : State) : s.handoverInputs.sp.rdAt = s.sp.rdAt ∧ s.handoverInputs.sp.rdYt = s.sp.rdYt ∧
    s.handoverInputs.sp.rdPairs = s.sp.rdPairs := by
  unfold State.handoverInputs State.soloRead
  split
  · exact ⟨rfl, rfl, rfl⟩
  · split <;> exact ⟨rfl, rfl, rfl⟩

/-- The state in which the kennel has taken its inputs, before it keeps the instant and the values of the read. -/
def State.inputsTaken (s : State) (missed : List (Fin 32)) : State :=
  (((((s.kennelEdges missed).compareCounts 0).compareCounts 1).connReads.slotReads).thirdSource).launchReads

theorem inputsTaken_goes (s : State) (missed : List (Fin 32)) :
    (s.modFifo 0 (fun f => { f with q := (s.fifo 0).q.filter (s.missesRead missed) })).Goes (s.inputsTaken missed) := by
  have hedges := ((kennelEdges_goes s missed).trans (compareCounts_goes _ 0)).trans (compareCounts_goes _ 1)
  exact (((hedges.trans (connReads_goes _)).trans (slotReads_goes _)).trans (thirdSource_goes _)).trans (launchReads_goes _)

/-- A sheet's pulse at the read. -/
def Sheet.pulsed (h : Sheet) : Sheet := { h with pulse := h.pulseIn, pulseIn := false }

/-- The state once the read's instant, its yard time and its values are kept, and the openings of the read have been made. -/
def State.keptRead (s : State) (pairs : List Bool) : State :=
  ({ s with
    sh0 := s.sh0.pulsed, sh1 := s.sh1.pulsed
    sp := { s.sp with rdPairs := pairs, rdAt := s.now, rdYt := s.ytime, rdSolo := s.pair.solo } } : State).openings

/-- The LOCALs of the read are kept with it. -/
def State.keptLocals (s : State) : State := { s with sp := { s.sp with rdLoc0 := s.sh0.holds, rdLoc1 := s.sh1.holds } }

theorem readInputs_eq (s : State) (missed : List (Fin 32)) : s.readInputs missed =
    ((s.inputsTaken missed).keptRead ((List.range 32).map (s.readPair (s.fifo 0).q (s.missesRead missed)))).keptLocals.handoverInputs := rfl

theorem keptRead_goes (s : State) (pairs : List Bool) : s.Goes (s.keptRead pairs) := page_goes _ _ _ _

theorem kept_rd (s : State) (pairs : List Bool) : (s.keptRead pairs).keptLocals.handoverInputs.sp.rdAt = s.now ∧
    (s.keptRead pairs).keptLocals.handoverInputs.sp.rdYt = s.ytime ∧ (s.keptRead pairs).keptLocals.handoverInputs.sp.rdPairs = pairs :=
  handoverInputs_rd (s.keptRead pairs).keptLocals

/-- The read keeps its instant, its yard time and the values of the pairs. -/
structure State.Reads (s s' : State) (pairs : List Bool) : Prop where
  goes : ∃ f, (s.modFifo 0 f).Goes s'
  at_ : s'.sp.rdAt = s.now
  yt : s'.sp.rdYt = s.ytime
  pairs : s'.sp.rdPairs = pairs

theorem readInputs_reads (s : State) (missed : List (Fin 32)) :
    s.Reads (s.readInputs missed) ((List.range 32).map (s.readPair (s.fifo 0).q (s.missesRead missed))) := by
  have htaken := inputsTaken_goes s missed
  have hnow : (s.inputsTaken missed).now = s.now := htaken.now
  have hyt : (s.inputsTaken missed).ytime = s.ytime := (ytime_of_works htaken.works).trans rfl
  rw [readInputs_eq]
  obtain ⟨hat, hy, hp⟩ := kept_rd (s.inputsTaken missed) ((List.range 32).map (s.readPair (s.fifo 0).q (s.missesRead missed)))
  refine ⟨⟨_, ((htaken.trans (keptRead_goes _ _)).trans (page_goes _ _ _ _)).trans (handoverInputs_goes _)⟩, hat.trans hnow, hy.trans hyt, hp⟩

end Sys2Proof.Machine
end

section
/-!
PROOF. O29: a cycle's end and the next one's start, the entry into ARMED, the capture and the command deadline (R15, R34, R175, R305,
R424).
-/
namespace Sys2Proof.Machine

/-! ## The evaluation, the comparison and the commands at a cycle's end -/

theorem showRefused_goes (s : State) (l : List Nat) : s.Goes (s.showRefused l) := by
  unfold State.showRefused
  split
  · exact pair_goes s _
  · exact .refl s

theorem evalA_goes (s : State) (k : Nat) (lost : List (Fin 512)) : s.Goes (s.evalA k lost).1 := by
  unfold State.evalA
  extract_lets e out refused old a
  split
  · refine .trans (t := s.showRefused refused) (showRefused_goes s refused) ?_
    with_reducible exact modSheet_goes _ k _
  · exact .refl s

theorem compare_goes (s : State) : s.Goes s.compare.1 := by
  unfold State.compare
  split
  · exact .refl s
  · exact page_goes s _ _ _

theorem sheetPair_goes (s : State) (h : Sheet) (p : Pair) : s.Goes { s with sh0 := h, pair := p } := .same rfl rfl

theorem handoverWindow_goes (s : State) : s.Goes s.handoverWindow := by
  unfold State.handoverWindow
  split
  · exact page_goes s _ _ _
  refine .ite _ (.refl s) ?_
  extract_lets com last pair sheet s₁ bad hodiag s₂
  have h₁ : s.Goes s₁ := sheetPair_goes s _ _
  have h₂ : s₁.Goes s₂ := by
    clear_value bad
    cases bad with
    | none => exact .refl s₁
    | some i => exact .ite _ ((pair_goes s₁ _).err _ _) (.refl s₁)
  exact (h₁.trans h₂).trans (.ite _ (launchDue_goes _) (.refl _))

theorem fab_goes (s : State) (f : Fab) : s.Goes { s with fab := f } := .same rfl rfl

theorem monitorBoundary_goes (s : State) : s.Goes s.monitorBoundary :=
  .ite _ (.refl s) ((fab_goes s _).trans (.foldl _ (fun x _ => err_goes x _ _) _ _))

theorem cycleWrite_goes (s : State) (o : CycleObs) : s.Goes (s.cycleWrite o) := by
  have heval : ∀ (c : Prop) [Decidable c] (x : State) (k : Nat) (l : List (Fin 512)), x.Goes (if c then (x, []) else x.evalA k l).1 :=
    fun c _ x k l => by
      split
      · exact .refl x
      · exact evalA_goes x k l
  unfold State.cycleWrite
  extract_lets old₀ old₁ lost s₁ fab s₂ r₀ r₁ s₃ s₄ x
  have h₂ : s.Goes s₂ := ((restartDue_goes s).trans (observe_goes _ o)).trans (fab_goes _ _)
  have hr : s₂.Goes r₁.1 := (heval _ s₂ 0 _).trans (heval _ _ 1 _)
  have h₃ : r₁.1.Goes s₃ := .ite _ ((command_goes _ 0 _).trans (command_goes _ 1 _)) (command_goes _ 0 _)
  have h₄ : s₃.Goes s₄ := .ite _ (whistleOut_goes _ _) (.refl _)
  have hx : s₄.Goes x.1 := compare_goes _
  have hall := (raiseAll_goes r₀.2 x.1).trans ((raiseAll_goes r₁.2 _).trans (raiseAll_goes x.2 _))
  exact (((((h₂.trans hr).trans h₃).trans h₄).trans hx).trans hall).trans ((handoverWindow_goes _).trans (monitorBoundary_goes _))

/-! ## The run states at a cycle's end -/

theorem armAck_works (s : State) : s.armAck.works = s.works := by
  unfold State.armAck
  dsimp only
  split <;> rfl

theorem enterArmed_works (s : State) : s.enterArmed.works = s.works := (armAck_works _).trans rfl

theorem pendTests_goes (s : State) : s.Goes s.pendTests := page_goes s _ _ _

theorem releasePoints_goes (s : State) : s.Goes s.releasePoints := page_goes s _ _ s.sp

theorem recover_works (s : State) : s.recover.works = s.works :=
  calc s.recover.works = s.closeRecord.enterArmed.pendTests.releasePoints.works := (pair_goes _ _).works
    _ = s.closeRecord.enterArmed.works := ((pendTests_goes _).trans (releasePoints_goes _)).works
    _ = s.closeRecord.works := enterArmed_works _
    _ = s.works := (closeRecord_goes s).works

theorem mbxEnd_goes (s : State) (r : Nat) : s.Goes (s.mbxEnd r) := by
  unfold State.mbxEnd
  split
  · refine .alert ?_ 8
    exact .same rfl rfl
  · exact .refl s

theorem maintResult_goes (s : State) (enter ok : Bool) : s.Goes (s.maintResult enter ok) := by
  unfold State.maintResult
  split
  · exact .ite _ (mbxEnd_goes s _) (.refl s)
  · exact .refl s

theorem enterMaint_works (s : State) : s.enterMaint.works = s.works := rfl

theorem maintEnd_works (s : State) : s.maintEnd.works = s.works := by
  have hres : ∀ (x : State) (e ok : Bool), (x.maintResult e ok).works = x.works := fun x e ok => (maintResult_goes x e ok).works
  have hcp : ({ s with cp := { s.cp with maint := none } } : State).works = s.works := rfl
  unfold State.maintEnd
  extract_lets s'
  split
  · split
    · exact ((hres _ _ _).trans (enterMaint_works _)).trans hcp
    · exact (hres _ _ _).trans hcp
  · split
    · exact ((hres _ _ _).trans (enterArmed_works _)).trans hcp
    · exact (hres _ _ _).trans hcp
  · rfl

theorem pulseEnd_works (s : State) : s.pulseEnd.works = s.works := by
  unfold State.pulseEnd
  extract_lets pulse pending s₁
  have h₁ : s₁.works = s.works := (State.Goes.ite _ (err_goes s _ _) (.refl s)).works
  split
  · split
    · exact (recover_works _).trans h₁
    · exact h₁
  · split
    · exact Eq.trans rfl h₁
    · exact h₁

theorem mot_goes (s : State) (m : Mot) : s.Goes { s with mot := m } := .same rfl rfl

theorem grantOne_goes (s : State) (k i : Nat) (isA : Bool) : s.Goes (s.grantOne k i isA) := by
  unfold State.grantOne
  extract_lets h st w
  split
  · refine .ite _ (.refl s) ?_
    extract_lets why set s₁
    have h₁ : s.Goes s₁ := modSheet_goes s k _
    exact .ite _ (h₁.trans (mot_goes _ _)) h₁
  · exact .refl s

theorem grants_goes (s : State) : s.Goes s.grants :=
  .foldl _ (fun x _ => (grantOne_goes x _ _ true).trans (grantOne_goes _ _ _ false)) _ _

theorem barkA_goes (s : State) (was : Bool) : s.Goes (s.barkA was) :=
  .ite _ ((fifoPush_goes s (by decide) _).trans (drainSio_goes _)) (.refl s)

theorem sout_goes (s : State) (o : Sout) : s.Goes { s with sout := o } := .same rfl rfl

theorem barkB_goes (s : State) : s.Goes s.barkB := .ite _ (.ite _ (sout_goes s _) (sout_goes s _)) (.refl s)

theorem barkB_sp (s : State) : s.barkB.sp = s.sp := by
  unfold State.barkB
  split
  · split <;> rfl
  · rfl

/-! ## The next cycle -/

/-- The next cycle has begun: it is counted, and the inputs were read at its instant; without data on the way, as they stand. -/
structure State.NextCycle (s u : State) : Prop where
  cycle : u.cp.cycle = (s.cp.cycle + 1) % 65536
  at_ : u.sp.rdAt = u.now
  yt : u.sp.rdYt = s.ytime
  pairs : (s.fifo 0).q = [] → (s.fifo 0).held = [] → u.sp.rdPairs = (List.range 32).map (fun n => (s.inPair n).va.value)

/-- With FIFO 0 empty the read takes every pair's present value. -/
theorem readPair_empty {s : State} (hh : (s.fifo 0).held = []) (late : Datum → Bool) (n : Nat) :
    s.readPair [] late n = (s.inPair n).va.value := by
  unfold State.readPair
  rw [hh]
  rfl

theorem readInputs_next {s x z : State} (hx : x.works = s.works)
    (hz : State.Goes { x with cp := { x.cp with cycle := (x.cp.cycle + 1) % 65536 } } z) (o : CycleObs) :
    s.NextCycle (z.readInputs o.missed).barkB := by
  obtain ⟨⟨f, hf⟩, hat, hy, hp⟩ := readInputs_reads z o.missed
  have hb := hf.trans (barkB_goes _)
  have hcyc : x.cp.cycle = s.cp.cycle := congrArg (·.2.2.1) hx
  have hq : z.fifo 0 = s.fifo 0 := hz.fifo.trans (congrArg (·.2.2.2.2.2) hx)
  have hsin : z.sin = s.sin := hz.sin.trans (congrArg (·.2.2.2.2.1) hx)
  have hyt : z.ytime = s.ytime := (ytime_of_works hz.works).trans (ytime_of_works (s := s) (t := x) hx)
  refine ⟨?_, ?_, ?_, fun h0 hh => ?_⟩
  · rw [hb.cycle, ← hcyc]
    exact hz.cycle
  · rw [barkB_sp, hat]
    exact hb.now.symm
  · rw [barkB_sp, hy, hyt]
  · rw [barkB_sp, hp, hq, h0]
    refine List.map_congr_left fun n _ => ?_
    rw [readPair_empty (hq ▸ hh)]
    unfold State.inPair
    rw [hsin]

/-- Work in a state with cycles leaves a live state, or has cut the rails. -/
theorem State.Goes.cut_of_dead {s w : State} (h : s.Goes w) (hs : s.cycles = true) (hw : ¬ w.live = true) : w.clk.rs = .cut := by
  have hoff : s.clk.rs ≠ .off := fun h => by simp [State.cycles, h] at hs
  simp only [State.live, Bool.and_eq_true, bne_iff_ne, ne_eq, Classical.not_and_iff_not_or_not, Classical.not_not] at hw
  obtain hr | hr | hr := h.rs
  · exact hw.resolve_left (hr ▸ hoff)
  · rw [hr] at hw
    simp at hw
  · exact hr

theorem produces_goes (s : State) : s.Goes ((List.range 64).foldl State.produce s) := .foldl _ produce_goes _ _

theorem cycleNext_next (s : State) (o : CycleObs) (b : Bool) : s.NextCycle (s.cycleNext o b) := by
  unfold State.cycleNext
  refine readInputs_next ?_ (barkA_goes _ b) o
  calc _ = _ := (recordEnd_goes _).works
    _ = _ := (maintEnd_works _).trans (pulseEnd_works _)
    _ = s.works := ((grants_goes s).trans (produces_goes _)).works

/-- Nothing of the next cycle depends on more than a cycle's work leaves. -/
theorem State.NextCycle.of_works {s w u : State} (h : w.NextCycle u) (hw : w.works = s.works) : s.NextCycle u := by
  have hq : w.fifo 0 = s.fifo 0 := congrArg (·.2.2.2.2.2) hw
  have hsin : w.sin = s.sin := congrArg (·.2.2.2.2.1) hw
  have hcyc : w.cp.cycle = s.cp.cycle := congrArg (·.2.2.1) hw
  refine ⟨hcyc ▸ h.cycle, h.at_, h.yt.trans (ytime_of_works hw), fun h0 hh => ?_⟩
  rw [h.pairs (hq ▸ h0) (hq ▸ hh)]
  unfold State.inPair
  rw [hsin]

theorem takeUp_next {s : State} (hs : s.cycles = true) (o : CycleObs) : (s.takeUp o).clk.rs = .cut ∨ s.NextCycle (s.takeUp o) := by
  have hw : s.Goes (s.restartDue.observe o) := (restartDue_goes s).trans (observe_goes _ o)
  unfold State.takeUp
  extract_lets com w pair x
  split
  · refine .inr (readInputs_next ?_ (.refl _) o)
    exact ((recordEnd_goes _).works.trans rfl).trans hw.works
  · rename_i hdead
    exact .inl (hw.cut_of_dead hs hdead)

theorem cycleEnd_next {s : State} (hs : s.cycles = true) (o : CycleObs) : (s.cycleEnd o).clk.rs = .cut ∨ s.NextCycle (s.cycleEnd o) := by
  have hw := cycleWrite_goes s o
  unfold State.cycleEnd
  extract_lets w
  split
  · exact takeUp_next hs o
  · split
    · exact .inr ((cycleNext_next w o _).of_works hw.works)
    · rename_i hdead
      exact .inl (hw.cut_of_dead hs hdead)

/-- A boundary in a state with cycles ends one and begins the next. -/
theorem boundary_next {s : State} (hs : s.cycles = true) (hd : s.boundaryDue = true) (o : CycleObs) :
    (s.boundary o).clk.rs = .cut ∨ s.NextCycle (s.boundary o) := by
  have hload : ¬ (s.clk.rs == .load) = true := fun h => by simp [State.cycles, eq_of_beq h] at hs
  unfold State.boundary
  rw [if_neg hload, if_pos (by rw [hs, hd]; rfl)]
  exact cycleEnd_next hs o

theorem cycleBoundary_next {s : State} (t : Nat) (o : CycleObs) (hs : s.cycles = true) (hd : (s.upTo t).boundaryDue = true) :
    ∃ s', exec (.cycleBoundary t o) s = .next s' ∧ (s'.clk.rs = .cut ∨ (s.upTo t).NextCycle s') := by
  obtain ⟨s', he, h⟩ := actAt_after true t s (fun s => s.boundary o)
  refine ⟨s', he, (boundary_next (s := s.upTo t) hs hd o).imp (fun hc => ?_) (fun hn => ?_)⟩
  · obtain hr | hr | ⟨-, hr⟩ := h.worse.rs
    · exact hr.trans hc
    · exact hr
    · simp [hc] at hr
  · have hsp : s'.sp = ((s.upTo t).boundary o).sp := h.same (·.sp) fun _ => rfl
    have hnow : s'.now = ((s.upTo t).boundary o).now := h.same (·.now) fun _ => rfl
    have hcyc : s'.cp.cycle = ((s.upTo t).boundary o).cp.cycle := h.same (·.cp.cycle) fun _ => rfl
    refine ⟨hcyc.trans hn.cycle, ?_, ?_, fun h0 hh => ?_⟩
    · rw [hsp, hnow]
      exact hn.at_
    · rw [hsp]
      exact hn.yt
    · rw [hsp]
      exact hn.pairs h0 hh

/-! ## The entry into ARMED -/

/-- The part has entered ARMED, and errors may have taken it to SAFE or CUT since. -/
def State.Armed (s : State) : Prop := s.clk.rs = .armed ∨ s.clk.rs = .safe ∨ s.clk.rs = .cut

theorem State.Armed.of_clk {s t : State} (h : s.Armed) (hc : t.clk = s.clk) : t.Armed := by
  unfold State.Armed
  rw [hc]
  exact h

theorem State.Armed.of_rs {s t : State} (h : s.Armed) (hr : t.clk.rs = s.clk.rs ∨ t.clk.rs = .safe ∨ t.clk.rs = .cut) : t.Armed := by
  unfold State.Armed
  obtain hr | hr := hr
  · rw [hr]
    exact h
  · exact .inr hr

theorem State.Armed.sin {s : State} (h : s.Armed) (i : Sin) : State.Armed { s with sin := i } := h

theorem State.Armed.sout {s : State} (h : s.Armed) (o : Sout) : State.Armed { s with sout := o } := h

theorem armed_foldl {α : Type} (f : State → α → State) (h : ∀ s a, State.Armed s → (f s a).Armed) :
    ∀ (l : List α) (s : State), s.Armed → (l.foldl f s).Armed
  | [], _, hs => hs
  | a :: l, s, hs => armed_foldl f h l _ (h s a hs)

theorem copies_armed {s : State} (h : s.Armed) (n : Nat) (f : InPair → PairV → CopyOut) : (s.copies n f).Armed := by
  rw [copies_eq]
  refine armed_foldl _ (fun x src hx => hx.of_rs (err_goes x src n).rs) _ _ (h.of_clk ?_)
  unfold State.copied
  dsimp only
  split <;> rfl

theorem armInputs_armed {s : State} (h : s.Armed) : s.armInputs.Armed := by
  unfold State.armInputs
  extract_lets ch x y
  have hx : x.Armed := h.sin _
  have hy : y.Armed := armed_foldl _ (fun z n hz => by
    unfold State.onPair
    split
    · exact copies_armed hz n _
    · exact hz) _ _ hx
  exact hy.sin _

theorem armOutputs_armed {s : State} (h : s.Armed) : s.armOutputs.Armed := h.sout _

theorem enterArmed_clk (s : State) : s.enterArmed.clk = { s.clk with rs := .armed } := by
  unfold State.enterArmed State.armAck
  dsimp only
  split <;> rfl

/-- The state that has entered ARMED, with its tests pending, before the first read. -/
def State.entered (s : State) : State := (s.enterArmed.armInputs.armOutputs).pendTests

theorem entered_armed (s : State) : s.entered.Armed := by
  have h : s.enterArmed.Armed := .inl (congrArg Clk.rs (enterArmed_clk s))
  exact (armOutputs_armed (armInputs_armed h)).of_rs (pendTests_goes _).rs

/-- The state at the first boundary's read: the cycles are counted from 0, and the entry into ARMED is kept. -/
def State.firstRead (s : State) (wheels : List Wheel) : State :=
  { s with cp := { s.cp with cycle := 0 }, clk := { s.clk with loadStep := 0, armedOnce := true, tarmed := s.stage }
           mot := { s.mot with wheels := wheels } }

/-- Every wheel's standstill is judged from here. -/
def State.wheelsFrom (s : State) : List Wheel :=
  s.mot.wheels.map (fun (w : Wheel) => { w with a := { w.a with last := s.ytime }, b := { w.b with last := s.now } })

theorem armFromLoad_eq (s : State) : s.armFromLoad = ((s.entered.firstRead s.entered.wheelsFrom).readInputs []).barkB := by
  unfold State.armFromLoad State.entered
  generalize s.enterArmed.armInputs.armOutputs.pendTests = x
  rfl

theorem armFromLoad_begins (s : State) : s.armFromLoad.clk.armedOnce = true ∧ s.armFromLoad.clk.loadStep = 0 ∧ s.armFromLoad.cp.cycle = 0 ∧
    s.armFromLoad.sp.rdAt = s.armFromLoad.now ∧ s.armFromLoad.Armed := by
  obtain ⟨⟨f, hf⟩, hat, -, -⟩ := readInputs_reads (s.entered.firstRead s.entered.wheelsFrom) []
  have hb := hf.trans (barkB_goes _)
  have harm := entered_armed s
  rw [armFromLoad_eq]
  generalize s.entered = x at *
  refine ⟨hb.armedOnce, hb.loadStep, hb.cycle, ?_, harm.of_rs ?_⟩
  · rw [barkB_sp, hat]
    exact hb.now.symm
  · exact hb.rs

theorem observe_none (s : State) {o : CycleObs} (hm : o.mismatch = none) (hf : o.soloFail = false) (hp : o.partition = false) (he : o.ecc = []) :
    s.observe o = s := by
  unfold State.observe
  rw [hm, hf, hp, he]
  rfl

theorem boundary_load {s : State} {o : CycleObs} (hl : s.clk.rs = .load) (hh : s.clk.held = false) (hst : s.clk.loadStep = 9)
    (hd : s.boundaryDue = true) (ho : s.observe o = s) : s.boundary o = s.armFromLoad := by
  unfold State.boundary
  rw [if_pos (by rw [hl]; rfl)]
  dsimp only
  rw [ho, if_pos (by simp [hl, hh, hst, hd])]

theorem cycleBoundary_load {s : State} (t : Nat) {o : CycleObs} (hl : s.clk.rs = .load) (hh : s.clk.held = false) (hst : s.clk.loadStep = 9)
    (hd : (s.upTo t).boundaryDue = true) (ho : (s.upTo t).observe o = s.upTo t) :
    ∃ s', exec (.cycleBoundary t o) s = .next s' ∧ s'.clk.armedOnce = true ∧ s'.clk.loadStep = 0 ∧ s'.cp.cycle = 0 ∧
      s'.sp.rdAt = s'.now ∧ s'.Armed := by
  obtain ⟨s', he, h⟩ := actAt_after true t s (fun s => s.boundary o)
  have hb : (s.upTo t).boundary o = (s.upTo t).armFromLoad := boundary_load hl hh hst hd ho
  simp only [hb] at h
  obtain ⟨ha, hs, hc, hr, hrs⟩ := armFromLoad_begins (s.upTo t)
  have hsp : s'.sp = (s.upTo t).armFromLoad.sp := h.same (·.sp) fun _ => rfl
  refine ⟨s', he, (h.same (·.clk.armedOnce) fun _ => rfl).trans ha, (h.same (·.clk.loadStep) fun _ => rfl).trans hs,
    (h.same (·.cp.cycle) fun _ => rfl).trans hc, ?_, hrs.of_rs ?_⟩
  · rw [hsp, hr]
    exact (h.same (·.now) fun _ => rfl).symm
  · obtain hr | hr | ⟨hr, -⟩ := h.worse.rs
    · exact .inl hr
    · exact .inr (.inr hr)
    · exact .inr (.inl hr)

/-! ## The capture -/

/-- The capture of one point: what the multiplexer shows of channel B, or the other value under an upset. -/
def State.captured (s : State) (ups : List (Fin 2 × Fin 512)) (i : Nat) (e : List Byte × InstCom × InstSt) : InstCom :=
  if rCheck e.1 then
    { e.2.1 with
      cap := (e.2.2.b0 && s.routedPoint ((s.sh0.recs.take i).filter rCheck).length) != ups.any (fun u => u.1.val == 0 && u.2.val == i)
      capOk := true }
  else e.2.1

theorem nth_mapIdx_of {α β : Type} (a : α) (b : β) (f : Nat → α → β) :
    ∀ (l : List α) (k i : Nat), i < l.length → nth b (mapIdx f l k) i = f (k + i) (nth a l i)
  | [], _, _, h => absurd h (Nat.not_lt_zero _)
  | _ :: _, _, 0, _ => rfl
  | _ :: xs, k, i + 1, h => by
    rw [Nat.add_comm i 1, ← Nat.add_assoc, Nat.add_comm 1 i]
    exact nth_mapIdx_of a b f xs (k + 1) i (Nat.lt_of_succ_lt_succ h)

theorem capture_sh0 {s : State} (ups : List (Fin 2 × Fin 512)) (hp : s.pair.split = false) (hc : s.cycles = true)
    (hok : s.sh0.com.any (·.capOk) = false) (ht : s.sp.rdAt + 12 * us ≤ s.now) :
    (s.capture ups).sh0 = { s.sh0 with com := mapIdx (s.captured ups) (List.zip s.sh0.recs (List.zip s.sh0.com s.sh0.b)) } := by
  unfold State.capture
  rw [if_neg (by simp [hp, hc, hok, Nat.not_lt.mpr ht])]
  rfl

theorem capture_com {s : State} {ups : List (Fin 2 × Fin 512)} {i : Nat} (hp : s.pair.split = false) (hc : s.cycles = true)
    (hok : s.sh0.com.any (·.capOk) = false) (ht : s.sp.rdAt + 12 * us ≤ s.now) (hr : i < s.sh0.recs.length) (hm : i < s.sh0.com.length)
    (hb : i < s.sh0.b.length) :
    (s.capture ups).com 0 i = s.captured ups i (nth [] s.sh0.recs i, nth {} s.sh0.com i, nth {} s.sh0.b i) := by
  have hz : i < (List.zip s.sh0.com s.sh0.b).length := by
    rw [List.length_zip]
    exact Nat.lt_min.2 ⟨hm, hb⟩
  have hzz : i < (List.zip s.sh0.recs (List.zip s.sh0.com s.sh0.b)).length := by
    rw [List.length_zip]
    exact Nat.lt_min.2 ⟨hr, hz⟩
  show nth {} (s.capture ups).sh0.com i = _
  rw [capture_sh0 ups hp hc hok ht, nth_mapIdx_of ([], {}, {}) _ _ _ 0 i hzz, Nat.zero_add, nth_zip _ _ _ _ i hr hz, nth_zip _ _ _ _ i hm hb]

/-! ## The command deadline -/

/-- A core's watchdog after its deadline, and the error of one that has not written. -/
def State.deadlineTaken (s : State) (k : Nat) : State :=
  let s' : State := { s with fab := { s.fab with wd := setAt s.fab.wd k (nth true s.fab.wrote k) } }
  if nth true s.fab.wrote k then s' else s'.err .fabChan 0x03FF

theorem deadlineCheck_eq {s : State} (k : Nat) (hp : s.pair.split = true) (hc : s.cycles = true) (ht : s.sp.rdAt + 20 * us ≤ s.now) :
    s.deadlineCheck k = s.deadlineTaken k := by
  unfold State.deadlineCheck
  rw [if_pos (by simp [hp, hc, ht])]
  rfl

theorem deadlineTaken_wd (s : State) (k : Nat) : (s.deadlineTaken k).fab.wd = setAt s.fab.wd k (nth true s.fab.wrote k) := by
  unfold State.deadlineTaken
  dsimp only
  split
  · rfl
  · exact of_keep (State.raise_keep _ _ _ _) (·.fab.wd) fun _ => rfl

theorem deadlineTaken_latches {s : State} {k : Nat} (hw : nth true s.fab.wrote k = false) (hon : s.flt.on = true) :
    bit (s.deadlineTaken k).flt.fstat Src.fabChan.bit = true := by
  unfold State.deadlineTaken
  extract_lets fab s'
  have hon' : s'.flt.on = true := hon
  rw [if_neg (by simp [hw])]
  exact err_latches hon' .fabChan 0x03FF

/-! ## The obligation -/

/-- Settles O29: a cycle's work leaves the cycle's number, yard time, the inputs and the clocks, so that the count and the read at its end
are those of the boundary; errors on the way can only take the part to SAFE or CUT. -/
theorem cycle : Obligations.Cycle := by
  refine ⟨fun t o s hs hd => ?_, fun t s hs hd h0 hh => ?_, fun t o s hl hh hst hd hm hf hp he => ?_,
    fun t i ups s hp hc hok ht hr hm hb hck => ?_, fun t k s hp hc ht => ?_⟩
  · obtain ⟨s', he, h⟩ := cycleBoundary_next t o hs hd
    exact ⟨s', he, h.imp_right fun h => ⟨h.cycle, h.at_, h.yt⟩⟩
  · obtain ⟨s', he, h⟩ := cycleBoundary_next t {} hs hd
    exact ⟨s', he, h.imp_right fun h => h.pairs h0 hh⟩
  · exact cycleBoundary_load t hl hh hst hd (observe_none _ hm hf hp he)
  · obtain ⟨s', he, h⟩ := act_after t s (fun s => s.capture ups)
    have hrecs : i < (((s.upTo t).capture ups).sheet 0).recs.length := by
      show i < ((s.upTo t).capture ups).sh0.recs.length
      rw [capture_sh0 (s := s.upTo t) ups hp hc hok (le_upTo s ht)]
      exact hr
    obtain ⟨hcap, hcapOk⟩ := h.steady.caps 0 i hrecs
    have hcap' : ((s.upTo t).capture ups).com 0 i = _ :=
      (capture_com (s := s.upTo t) hp hc hok (le_upTo s ht) hr hm hb).trans (if_pos hck)
    exact ⟨s', he, hcapOk.trans (congrArg InstCom.capOk hcap'), hcap.trans (congrArg InstCom.cap hcap')⟩
  · obtain ⟨s', he, h⟩ := act_after t s (fun s => s.deadlineCheck k)
    simp only [deadlineCheck_eq (s := s.upTo t) k hp hc (le_upTo s ht)] at h
    refine ⟨s', he, ?_, fun hw hon => ?_⟩
    · have hwd : s'.fab.wd = ((s.upTo t).deadlineTaken k).fab.wd := h.same (·.fab.wd) fun _ => rfl
      rw [hwd, deadlineTaken_wd, State.upTo_fab]
    · exact h.latched (deadlineTaken_latches (s := s.upTo t) hw hon)

end Sys2Proof.Machine
end
